-- ==== Sys2Proof/Word.lean ====
section
/-! DEFINITION. The words of the module's registers, and the one shape in which sparse data is held. -/

namespace Sys2Proof

/-- A register word: every register is 32 bits wide (R5). -/
abbrev Word := BitVec 32

/-- A 64-bit word: two registers, a key part, a section length. -/
abbrev DWord := BitVec 64

/-- One octet of a frame, a descriptor or a memory. -/
abbrev Byte := BitVec 8

/-- Sparse data by number: pairs of a key and a value, keys strictly rising.
A key that is not listed holds the default its owner names. -/
structure NMap (α : Type) where
  cells : List (Nat × α)
  deriving DecidableEq, Repr

/-- The four protection lanes (R19: identical silicon, no fixed role). -/
inductive LaneId
  | a | b | c | d
  deriving DecidableEq, Repr

/-- One thing for each lane. -/
structure Quad (α : Type) where
  a : α
  b : α
  c : α
  d : α
  deriving DecidableEq, Repr

end Sys2Proof
end

