-- ==== Sys2Proof/Machine/Maps.lean ====
section
/-! DEFINITION. Sparse data by number and the four lanes' data: reading and writing. -/

namespace Sys2Proof

/-- The value listed under `k` in a list of pairs. -/
def lookupCell {α : Type} : List (Nat × α) → Nat → Option α
  | [], _ => none
  | (k, v) :: t, q => if q = k then some v else lookupCell t q

/-- The list with `v` under `q`, keeping rising keys. -/
def putCell {α : Type} : List (Nat × α) → Nat → α → List (Nat × α)
  | [], q, v => [(q, v)]
  | (k, x) :: t, q, v =>
    if q < k then (q, v) :: (k, x) :: t
    else if q = k then (q, v) :: t
    else (k, x) :: putCell t q v

/-- The list without the key `q`. -/
def delCell {α : Type} (l : List (Nat × α)) (q : Nat) : List (Nat × α) := l.filter (fun c => c.1 != q)

/-- The value listed under `k`, if any. -/
def NMap.get? {α : Type} (m : NMap α) (k : Nat) : Option α := lookupCell m.cells k

/-- The value under `k`, or the default. -/
def NMap.getD {α : Type} (m : NMap α) (k : Nat) (d : α) : α := (m.get? k).getD d

/-- The data with `v` under `k`. -/
def NMap.put {α : Type} (m : NMap α) (k : Nat) (v : α) : NMap α := ⟨putCell m.cells k v⟩

/-- The data with nothing listed under `k`. -/
def NMap.del {α : Type} (m : NMap α) (k : Nat) : NMap α := ⟨delCell m.cells k⟩

/-- The data that keeps the pairs `p` accepts. -/
def NMap.keep {α : Type} (m : NMap α) (p : Nat → α → Bool) : NMap α :=
  ⟨m.cells.filter (fun c => p c.1 c.2)⟩

/-- Nothing listed. -/
def NMap.none {α : Type} : NMap α := ⟨[]⟩

/-- Data of a list of pairs; a later pair of one key stands. -/
def NMap.ofList {α : Type} (l : List (Nat × α)) : NMap α := l.foldl (fun m c => m.put c.1 c.2) NMap.none

/-- The values listed, in rising order of key. -/
def NMap.vals {α : Type} (m : NMap α) : List α := m.cells.map (·.2)

/-- Every value changed by `f`, keys kept. -/
def NMap.mapv {α β : Type} (m : NMap α) (f : Nat → α → β) : NMap β := ⟨m.cells.map (fun c => (c.1, f c.1 c.2))⟩

/-- Keys strictly rise: the one form in which equal data is equal. -/
abbrev NMap.wf {α : Type} (m : NMap α) : Prop := m.cells.Pairwise (fun x y => x.1 < y.1)

/-- The lane's number: 0 to 3 for A to D. -/
def LaneId.num : LaneId → Nat
  | .a => 0 | .b => 1 | .c => 2 | .d => 3

/-- The lane of a number, if there is one. -/
def LaneId.ofNum : Nat → Option LaneId
  | 0 => some .a | 1 => some .b | 2 => some .c | 3 => some .d | _ => none

/-- The four lanes in the order of their letters. -/
def LaneId.all : List LaneId := [.a, .b, .c, .d]

/-- The event source base of a lane (R311). -/
def LaneId.srcBase (l : LaneId) : Nat := 64 + 224 * l.num

/-- One lane's part. -/
def Quad.get {α : Type} (q : Quad α) : LaneId → α
  | .a => q.a | .b => q.b | .c => q.c | .d => q.d

/-- The data with one lane's part replaced. -/
def Quad.set {α : Type} (q : Quad α) (l : LaneId) (x : α) : Quad α :=
  match l with
  | .a => { q with a := x } | .b => { q with b := x } | .c => { q with c := x } | .d => { q with d := x }

/-- Every lane's part changed by `f`. -/
def Quad.mapv {α : Type} (q : Quad α) (f : LaneId → α → α) : Quad α :=
  ⟨f .a q.a, f .b q.b, f .c q.c, f .d q.d⟩

/-- The same for each lane. -/
def Quad.all {α : Type} (x : α) : Quad α := ⟨x, x, x, x⟩

end Sys2Proof
end

