-- ==== Sys2Proof/Machine/Bits.lean ====
section
/-! DEFINITION. Bit fields of register words, octet order, signed readings and saturating counts. -/

namespace Sys2Proof.Machine

open Sys2Proof

/-- The number in bits `[hi:lo]` of a word. -/
def bits (w : Word) (hi lo : Nat) : Nat := (w.toNat >>> lo) % 2 ^ (hi + 1 - lo)

/-- The word with bits `[hi:lo]` replaced by the low bits of `v`. -/
def putBits (w : Word) (hi lo v : Nat) : Word :=
  BitVec.ofNat 32 (w.toNat - bits w hi lo * 2 ^ lo + v % 2 ^ (hi + 1 - lo) * 2 ^ lo)

/-- Bit `i` of a word. -/
def bit (w : Word) (i : Nat) : Bool := w.getLsbD i

/-- The word with bit `i` set to `b`. -/
def putBit (w : Word) (i : Nat) (b : Bool) : Word :=
  if b then w ||| ((1#32) <<< i) else w &&& ~~~((1#32) <<< i)

/-- The word that has exactly bit `i` set. -/
def oneBit (i : Nat) : Word := (1#32) <<< i

/-- A Bool as a number. -/
def bnat (b : Bool) : Nat := if b then 1 else 0

/-- A number as a word, keeping the low 32 bits. -/
def w32 (n : Nat) : Word := BitVec.ofNat 32 n

/-- An integer as a word, in two's complement, keeping the low 32 bits. -/
def w32i (n : Int) : Word := BitVec.ofInt 32 n

/-- A count that stops at the greatest 32-bit number. -/
def satAdd32 (n k : Nat) : Nat := min (n + k) 0xFFFFFFFF

/-- A number limited to a range. -/
def clampI (lo hi x : Int) : Int := if x < lo then lo else if hi < x then hi else x

/-- The smallest whole number not below `a / b` (`b` above 0). -/
def ceilDiv (a b : Nat) : Nat := (a + b - 1) / b

/-- `n` octets of a number, least significant first (R5). -/
def leBytes : Nat → Nat → List Byte
  | 0, _ => []
  | n + 1, v => BitVec.ofNat 8 v :: leBytes n (v / 256)

/-- `n` octets of a number, most significant first (network order). -/
def beBytes (n v : Nat) : List Byte := (leBytes n v).reverse

/-- The number that octets spell, least significant first. -/
def ofLe : List Byte → Nat
  | [] => 0
  | b :: bs => b.toNat + 256 * ofLe bs

/-- The number that octets spell, most significant first. -/
def ofBe (bs : List Byte) : Nat := ofLe bs.reverse

/-- Octets `off` to `off + n − 1` of a block as a little-endian number; octets past its end read 0. -/
def leAt (bs : List Byte) (off n : Nat) : Nat := ofLe ((bs.drop off).take n)

/-- A number read as a signed number of `n` bits. -/
def signed (n v : Nat) : Int := (BitVec.ofNat n v).toInt

/-- The low `n` bits of an integer in two's complement. -/
def wrap (n : Nat) (x : Int) : Nat := (x % (2 ^ n : Nat)).toNat

/-- The numbers `i` below `n` for which `p i` holds, as a number with those bits set. -/
def bitsWhere (p : Nat → Bool) : Nat → Nat
  | 0 => 0
  | n + 1 => bitsWhere p n + (if p n then 2 ^ n else 0)

/-- Applies `f` to each number below `n` in rising order, threading a value. -/
def foldTo {α : Type} (n : Nat) (f : α → Nat → α) (x : α) : α := (List.range n).foldl f x

end Sys2Proof.Machine
end

