-- ==== Sys2Proof/Machine/RegTable.lean ====
section
/-! DEFINITION. Every register of the module by its name in the spec, with where it lies, how it is accessed and
what it resets to (the register tables of the chapters, R459, R460). -/

namespace Sys2Proof.Machine

open Sys2Proof

/-- The registers, one name for each set. -/
inductive Reg
  | LCT_TICK_NUM_LO
  | LCT_TICK_NUM_HI
  | LCT_TICK_IDX
  | LCT_TRAV_STAT
  | LCT_CLOSURE_STAT
  | LCT_CLOSURE_CNT
  | LCT_TICK_RAW
  | LCT_APPLY_NEXT_LO
  | LCT_APPLY_NEXT_HI
  | LCT_APPLY_PEND
  | LCT_APPLY_LATE
  | INT_CFG
  | INT_STAT
  | INT_UNMATCHED
  | INT_OWNDROP
  | INT_AHEAD
  | INT_FPS
  | INT_HIST_SPAN
  | INT_REKEY
  | INT_SYNCVAL
  | INT_SUB_CFG
  | INT_SUB_DMAC_LO
  | INT_SUB_DMAC_HI
  | INT_SUB_ID
  | INT_SUB_RATE
  | INT_SUB_DELAY
  | INT_SUB_CONFREV
  | INT_SUB_AUTH
  | INT_SUB_STAT
  | INT_SUB_FRAMES
  | INT_SUB_MISS
  | INT_SUB_LATE
  | INT_SUB_DUP
  | INT_SUB_AUTHFAIL
  | INT_SUB_FMTERR
  | INT_SUB_LOSTCNT
  | INT_SUB_SVID
  | CND_STAT
  | CND_ENG_MAX
  | CND_SKEW_SEL
  | CND_SKEW_VAL
  | CND_COEF_SEL
  | CND_COEF_VAL
  | CND_CH_CFG
  | CND_CH_DEC
  | CND_CH_OUT
  | CND_CH_SEL
  | CND_CH_GAIN
  | CND_CH_OFS
  | CND_CH_LAT
  | CND_CH_SPAN
  | CND_CH_STAT
  | CND_CH_PHASE
  | CND_CH_OUTS
  | CND_CH_SATCNT
  | CND_CH_RESETS
  | CND_CH_LATEBLK
  | CND_WF_CFG
  | CND_WF_THR
  | CND_WF_ARM
  | CND_WF_EVCNT
  | CND_WF_OVF
  | CND_WF_LAST_LO
  | CND_WF_LAST_HI
  | FAB_STAT
  | FAB_PIPE_MAP
  | FAB_STAGE_CNT
  | FAB_STAGE_STAT
  | FAB_SHADOW_CNT
  | FAB_SHADOW_ERR
  | FAB_ECC_CE
  | FAB_SAT_CNT
  | FAB_NAN_CNT
  | FAB_WR_LAST
  | FAB_WIN_USED
  | FAB_SLOT_SEL
  | FAB_DESC_WIN
  | FAB_STATE_WIN
  | FAB_CH_SCALE
  | FAB_CH_OFS
  | FAB_OUT_VAL
  | FAB_OUT_STAT
  | TRM_STAT
  | TRM_TL_STATE
  | TRM_TL_RDBK
  | TRM_GB_LO
  | TRM_GB_HI
  | TRM_TRG
  | TRM_FLG_LO
  | TRM_FLG_HI
  | TRM_HF_LO
  | TRM_HF_HI
  | TRM_MASKED
  | TRM_BSP_LOCK
  | TRM_TL_CFG
  | TRM_TL_RST
  | TRM_TL_CNT
  | TRM_TL_AGE
  | TRM_BSP_CFG
  | TRM_BSP_THR
  | TRM_BSP_DST
  | TRM_BSP_CNT
  | TRM_GP_CFG
  | TRM_GP_ID
  | TRM_GP_REP0
  | TRM_GP_HB
  | TRM_GP_STNUM
  | TRM_GP_SQNUM
  | TRM_GP_TXCNT
  | TRM_GP_DMAC_LO
  | TRM_GP_DMAC_HI
  | TRM_TERM_CFG
  | TRM_TERM_LIT
  | TRM_TERM_DST_TL
  | TRM_TERM_DST_GS_LO
  | TRM_TERM_DST_GS_HI
  | TRM_TERM_DST_TRG
  | TRM_TERM_DST_FLG_LO
  | TRM_TERM_DST_FLG_HI
  | TRM_TERM_HITS
  | CMD_STAT
  | CMD_CH_CFG
  | CMD_CH_UP
  | CMD_CH_DN
  | CMD_CH_HBAND
  | CMD_CH_OMIN
  | CMD_CH_OMAX
  | CMD_CH_INIT
  | CMD_CH_PSCALE
  | CMD_CH_TARGET
  | CMD_CH_OUT
  | CMD_CH_STAT
  | CMD_CH_RAMPCNT
  | CMD_CH_HELDCNT
  | CMD_PS_CFG
  | CMD_PS_ID
  | CMD_PS_DMAC_LO
  | CMD_PS_DMAC_HI
  | CMD_PS_CONFREV
  | CMD_PS_MEM
  | CMD_PS_TXCNT
  | CMD_PS_SATCNT
  | CMD_PS_SVID
  | CMD_PP_CFG
  | CMD_PP_PER
  | CMD_PP_DT
  | CMD_PP_MP
  | CMD_PP_STAT
  | CMD_PP_SUPON
  | CMD_PP_SUPOFF
  | CMD_PP_DISC
  | CMD_PP_PERCNT
  | LCT_CORE_STAT
  | LCT_PCL_CFG
  | LCT_PCL_SCHED
  | LCT_PCL_CORES
  | LCT_PCL_BUDGET
  | LCT_PCL_STAT
  | LCT_PCL_CYCLES
  | LCT_PCL_MISS
  | LCT_PCL_USEMAX
  | LCT_PCL_TRAP
  | LCT_PCL_TEPC_LO
  | LCT_PCL_TEPC_HI
  | LCT_PCL_TVAL_LO
  | LCT_PCL_TVAL_HI
  | LCT_PCL_STOPTK_LO
  | LCT_PCL_STOPTK_HI
  | LCT_PCL_OWNER
  | ILU_STAT
  | ILU_SNAP_STAT
  | ILU_SNAP_TICK_LO
  | ILU_SNAP_TICK_HI
  | ILU_ECC_CE
  | ILU_FIO_DIR
  | ILU_FIO_OWN
  | ILU_FIO_DISAG
  | ILU_PRG_CFG
  | ILU_PRG_SCHED
  | ILU_PRG_BUDGET
  | ILU_PRG_STAT
  | ILU_PRG_SCANS
  | ILU_PRG_MISS
  | ILU_PRG_USEMAX
  | ILU_FLAG
  | ILU_TMR_CFG
  | ILU_TMR_ST
  | ILU_CTR_PV
  | ILU_CTR_ST
  | ILU_GS_CFG
  | ILU_GS_DMAC_LO
  | ILU_GS_DMAC_HI
  | ILU_GS_ID
  | ILU_GS_CONFREV
  | ILU_GS_AUTH
  | ILU_GS_STAT
  | ILU_GS_STNUM
  | ILU_GS_SQNUM
  | ILU_GS_RXCNT
  | ILU_GS_DUP
  | ILU_GS_AUTHFAIL
  | ILU_GS_TALEXP
  | ILU_GS_DROP
  | ILU_GS_REF
  | ILU_PROG
  | TWN_CFG
  | TWN_PAIR_ID
  | TWN_REQUAL
  | TWN_STAT
  | TWN_PAIR_ERR
  | TWN_BSIGHT_CNT
  | TWN_BSIGHT_MISM
  | TWN_BSIGHT_MISS
  | TWN_FWD_SUBST
  | TWN_FWD_LATE
  | TWN_XCHK_DIFF
  | TWN_XCHK_MAP
  | TWN_COPY_LEFT
  | TWN_COPY_PASS
  | TWN_SWITCH_CNT
  | TWN_SWITCH_TK_LO
  | TWN_SWITCH_TK_HI
  | TWN_LINK_ERR
  | TWN_PROOF_CFG
  | TWN_PROOF_FAIL
  | SWM_STAT
  | SWM_CELL_FREE
  | SWM_OVF_USED
  | SWM_OVF_PEAK
  | SWM_RED_CFG
  | SWM_RED_NODES
  | SWM_RED_DUP
  | SWM_RED_WRONGLAN
  | SWM_HASH_SEL
  | SWM_HASH_VAL
  | SWM_FDB_SEL
  | SWM_FDB_VAL
  | SWM_DEMOTE
  | SWM_NOFWD
  | SWM_STOMP
  | SWM_IN_SKIP
  | SWM_WAKE_CODE
  | SWM_WAKE_TX
  | SWM_WAKE_STAT
  | SWM_PORT_CFG
  | SWM_PORT_STAT
  | SWM_PORT_RESID
  | SWM_PORT_RXFRM
  | SWM_PORT_TXFRM
  | SWM_PORT_RXERR
  | SWM_PORT_OVERSIZE
  | SWM_PORT_PFCRX
  | SWM_PORT_PFCTX
  | SWM_PORT_PAUSEIGN
  | SWM_PORT_LINKDN
  | SWM_PORT_RXDROP
  | SWM_Q_THR
  | SWM_Q_LIMIT
  | SWM_Q_DEPTH
  | SWM_Q_PEAK
  | SWM_Q_DROP
  | SWM_Q_MARK
  | SWM_Q_SCHED
  | DTM_CFG
  | DTM_STAT
  | DTM_RAW_LO
  | DTM_RAW_HI
  | DTM_NS_LO
  | DTM_NS_HI
  | DTM_NS_FRAC
  | DTM_RATE_CUR_LO
  | DTM_RATE_CUR_HI
  | DTM_RATE_TGT_LO
  | DTM_RATE_TGT_HI
  | DTM_OFS_LO
  | DTM_OFS_HI
  | DTM_JUMP
  | DTM_SLEW
  | DTM_STEP_LO
  | DTM_STEP_HI
  | DTM_THETA
  | DTM_GM_LO
  | DTM_GM_HI
  | DTM_UTC
  | DTM_TWIN_OFS
  | DTM_TW_ASYM
  | DTM_PPS_DLY
  | DTM_PPS_CNT
  | DTM_SWITCH_CNT
  | DTM_STEP_CNT
  | DTM_HOLD_CNT
  | DTM_BEACON_CNT
  | DTM_CONV_OLD
  | DTM_PORT_CFG
  | DTM_PORT_STAT
  | DTM_PORT_PDELAY
  | DTM_PORT_ASYM
  | DTM_PORT_RXCNT
  | DTM_PORT_TXCNT
  | DTM_PORT_ERR
  | FN_DB
  | FN_STAT
  | FN_CTRL
  | FN_ERR
  | FN_ERR_CFG
  | FN_DB_IGN
  | FN_EVT_DROP
  | FN_OUTST
  | FN_QUOTA
  | FN_RING_BASE_LO
  | FN_RING_BASE_HI
  | FN_RING_CFG
  | FN_RING_MOD
  | FN_RING_FILT
  | FN_RING_IDX
  | FN_RING_STAT
  | FN_RING_CNT
  | FN_MSIX
  | FN_PBA
  | HCX_ID
  | HCX_PCIE_STAT
  | HCX_LANE_LINK
  | HCX_CREDIT_FREE
  | HCX_FENCE_LO
  | HCX_FENCE_HI
  | HCX_FN_RESET
  | HCX_RX_NOMATCH
  | HCX_QUOTA_SEL
  | HCX_QUOTA_WIN
  | HCX_EVT_ROUTE
  | ACQ_STAT
  | ACQ_BUSY
  | ACQ_NET_CFG
  | ACQ_NET_DMAC_LO
  | ACQ_NET_DMAC_HI
  | ACQ_FB_CURSOR
  | ACQ_FB_NEXT
  | ACQ_FB_FILL
  | ACQ_FB_SAFEDROP
  | ACQ_FB_GENDROP
  | ACQ_ILT
  | ACQ_RD_CFG
  | ACQ_RD_TRG
  | ACQ_RD_TRG2
  | ACQ_RD_PRE
  | ACQ_RD_FULL
  | ACQ_RD_POST
  | ACQ_RD_CAPS
  | ACQ_RD_NOPRE
  | ACQ_RD_MARKOVF
  | ACQ_RD_MAPSKIP
  | ACQ_RD_TRUNC
  | ACQ_FB_WIN
  | HCX_ARC_STAT
  | HCX_ARC_EXT
  | HCX_ARC_FREE
  | HCX_ARC_UNCOMMIT
  | HCX_ARC_DROP
  | HCX_ARC_RECID_LO
  | HCX_ARC_RECID_HI
  | SFS_ID
  | SFS_STAT
  | SFS_SEQ
  | SFS_SEAL
  | SFS_SEAL_CRC
  | SFS_PAIRS
  | SFS_BK
  | SFS_COIL
  | SFS_HT
  | SFS_SP
  | SFS_DEMCNT
  | SFS_TESTCNT
  | SFS_UPTIME
  | SFS_ECC_CE
  | LCT_FIO_STAT
  | LCT_FIO_FRMERR
  | LCT_FIO_FLTCNT
  | HCX_PWR_STAT
  | HCX_PWR_VIN
  | HCX_PWR_VHOLD
  | HCX_PWR_CAP
  | HCX_LANE_RESET
  | HCX_WARM_RESET
  | HCX_PARK
  | HCX_SAG_CNT
  | HCX_DIP_CNT
  | HCX_FLUSH_LAST
  | HCX_START_T
  | HCX_PD_STAT
  | PWR_STAT
  | PWR_PD
  | PWR_MBIST_STAT
  | PWR_MBIST_REPAIR
  | PWR_LBIST_FAIL
  | PWR_BIST_CNT
  | PWR_BIST_MS
  | PWR_LBIST_SIG_LO
  | PWR_LBIST_SIG_HI
  | LCT_FW_STAT
  | LCT_FW_BUILD
  | LCT_FW_BANK
  | LCT_TIMG_STAT
  | LCT_FW_SUSP
  | KEY_STAT
  | KEY_CFG
  | KEY_REMASK
  | KEY_SLOT_SEL
  | KEY_SLOT_STAT
  | KEY_SLOT_CURID
  | KEY_SLOT_NEXTID
  | KEY_UNWRAP_ERR
  | KEY_MEAS
  | HCX_LC
  | HCX_FW_STAT
  | HCX_FW_BANK
  | HCX_TEMP
  | PWR_TEMP
  deriving DecidableEq, Repr

/-- The windows registers lie in: a lane's, the host complex's, the safety lane's, a function page (R459). -/
inductive Win
  | lane | hcx | sfs | fn
  deriving DecidableEq, Repr

/-- The access types of R8. -/
inductive Acc
  | ro | rw | wo | w1c | rwl | rws
  deriving DecidableEq, Repr

/-- A set's entry of the register tables: its window, the offset of the first register, two strides and counts,
the access type, the reset value, the bits a write reaches, whether it mirrors the traverse image in force, and the
bits that an image's value fills: the others are reserved and read 0 (R6). -/
structure RegInfo where
  win : Win
  off : Nat
  s1  : Nat
  n1  : Nat
  s2  : Nat
  n2  : Nat
  acc : Acc
  rst : Nat
  wm  : Nat
  cfg : Bool
  im  : Nat
  deriving DecidableEq, Repr

/-- The register tables. -/
def Reg.info : Reg → RegInfo
  | .LCT_TICK_NUM_LO => ⟨.lane, 0x100, 0x0, 1, 0x0, 1, .ro, 0x0, 0x0, false, 0x0⟩
  | .LCT_TICK_NUM_HI => ⟨.lane, 0x104, 0x0, 1, 0x0, 1, .ro, 0x0, 0x0, false, 0x0⟩
  | .LCT_TICK_IDX => ⟨.lane, 0x108, 0x0, 1, 0x0, 1, .ro, 0x0, 0x0, false, 0x0⟩
  | .LCT_TRAV_STAT => ⟨.lane, 0x10c, 0x0, 1, 0x0, 1, .ro, 0x0, 0x0, false, 0x0⟩
  | .LCT_CLOSURE_STAT => ⟨.lane, 0x110, 0x0, 1, 0x0, 1, .w1c, 0x0, 0x1fff, false, 0x0⟩
  | .LCT_CLOSURE_CNT => ⟨.lane, 0x114, 0x0, 1, 0x0, 1, .ro, 0x0, 0x0, false, 0x0⟩
  | .LCT_TICK_RAW => ⟨.lane, 0x118, 0x0, 1, 0x0, 1, .ro, 0x0, 0x0, false, 0x0⟩
  | .LCT_APPLY_NEXT_LO => ⟨.lane, 0x120, 0x0, 1, 0x0, 1, .ro, 0xffffffff, 0x0, false, 0x0⟩
  | .LCT_APPLY_NEXT_HI => ⟨.lane, 0x124, 0x0, 1, 0x0, 1, .ro, 0xffffffff, 0x0, false, 0x0⟩
  | .LCT_APPLY_PEND => ⟨.lane, 0x128, 0x0, 1, 0x0, 1, .ro, 0x0, 0x0, false, 0x0⟩
  | .LCT_APPLY_LATE => ⟨.lane, 0x12c, 0x0, 1, 0x0, 1, .ro, 0x0, 0x0, false, 0x0⟩
  | .INT_CFG => ⟨.lane, 0x10000, 0x0, 1, 0x0, 1, .ro, 0x0, 0x0, true, 0x1⟩
  | .INT_STAT => ⟨.lane, 0x10004, 0x0, 1, 0x0, 1, .ro, 0x0, 0x0, false, 0x0⟩
  | .INT_UNMATCHED => ⟨.lane, 0x10008, 0x0, 1, 0x0, 1, .ro, 0x0, 0x0, false, 0x0⟩
  | .INT_OWNDROP => ⟨.lane, 0x1000c, 0x0, 1, 0x0, 1, .ro, 0x0, 0x0, false, 0x0⟩
  | .INT_AHEAD => ⟨.lane, 0x10010, 0x0, 1, 0x0, 1, .ro, 0x0, 0x0, false, 0x0⟩
  | .INT_FPS => ⟨.lane, 0x10014, 0x0, 1, 0x0, 1, .ro, 0x0, 0x0, false, 0x0⟩
  | .INT_HIST_SPAN => ⟨.lane, 0x10018, 0x0, 1, 0x0, 1, .ro, 0x0, 0x0, false, 0x0⟩
  | .INT_REKEY => ⟨.lane, 0x1001c, 0x0, 1, 0x0, 1, .ro, 0x0, 0x0, false, 0x0⟩
  | .INT_SYNCVAL => ⟨.lane, 0x10020, 0x0, 1, 0x0, 1, .ro, 0x0, 0x0, false, 0x0⟩
  | .INT_SUB_CFG => ⟨.lane, 0x18000, 0x80, 256, 0x0, 1, .ro, 0x2040000, 0x0, true, 0xffffffe0⟩
  | .INT_SUB_DMAC_LO => ⟨.lane, 0x18004, 0x80, 256, 0x0, 1, .ro, 0x0, 0x0, true, 0xffffffff⟩
  | .INT_SUB_DMAC_HI => ⟨.lane, 0x18008, 0x80, 256, 0x0, 1, .ro, 0x0, 0x0, true, 0xffff⟩
  | .INT_SUB_ID => ⟨.lane, 0x1800c, 0x80, 256, 0x0, 1, .ro, 0x0, 0x0, true, 0xfffffff⟩
  | .INT_SUB_RATE => ⟨.lane, 0x18010, 0x80, 256, 0x0, 1, .ro, 0x0, 0x0, true, 0x7fffff⟩
  | .INT_SUB_DELAY => ⟨.lane, 0x18014, 0x80, 256, 0x0, 1, .ro, 0x0, 0x0, true, 0xfffff⟩
  | .INT_SUB_CONFREV => ⟨.lane, 0x18018, 0x80, 256, 0x0, 1, .ro, 0x0, 0x0, true, 0xffffffff⟩
  | .INT_SUB_AUTH => ⟨.lane, 0x1801c, 0x80, 256, 0x0, 1, .ro, 0x0, 0x0, true, 0xc00000ff⟩
  | .INT_SUB_STAT => ⟨.lane, 0x18020, 0x80, 256, 0x0, 1, .ro, 0x40000000, 0x0, false, 0x0⟩
  | .INT_SUB_FRAMES => ⟨.lane, 0x18024, 0x80, 256, 0x0, 1, .ro, 0x0, 0x0, false, 0x0⟩
  | .INT_SUB_MISS => ⟨.lane, 0x18028, 0x80, 256, 0x0, 1, .ro, 0x0, 0x0, false, 0x0⟩
  | .INT_SUB_LATE => ⟨.lane, 0x1802c, 0x80, 256, 0x0, 1, .ro, 0x0, 0x0, false, 0x0⟩
  | .INT_SUB_DUP => ⟨.lane, 0x18030, 0x80, 256, 0x0, 1, .ro, 0x0, 0x0, false, 0x0⟩
  | .INT_SUB_AUTHFAIL => ⟨.lane, 0x18034, 0x80, 256, 0x0, 1, .ro, 0x0, 0x0, false, 0x0⟩
  | .INT_SUB_FMTERR => ⟨.lane, 0x18038, 0x80, 256, 0x0, 1, .ro, 0x0, 0x0, false, 0x0⟩
  | .INT_SUB_LOSTCNT => ⟨.lane, 0x1803c, 0x80, 256, 0x0, 1, .ro, 0x0, 0x0, false, 0x0⟩
  | .INT_SUB_SVID => ⟨.lane, 0x18040, 0x80, 256, 0x4, 16, .ro, 0x0, 0x0, true, 0xffffffff⟩
  | .CND_STAT => ⟨.lane, 0x20000, 0x0, 1, 0x0, 1, .ro, 0x0, 0x0, false, 0x0⟩
  | .CND_ENG_MAX => ⟨.lane, 0x20004, 0x0, 1, 0x0, 1, .ro, 0x0, 0x0, true, 0x7ff⟩
  | .CND_SKEW_SEL => ⟨.lane, 0x20010, 0x0, 1, 0x0, 1, .rw, 0x0, 0x7ff, false, 0x0⟩
  | .CND_SKEW_VAL => ⟨.lane, 0x20014, 0x0, 1, 0x0, 1, .ro, 0x0, 0x0, false, 0x0⟩
  | .CND_COEF_SEL => ⟨.lane, 0x20018, 0x0, 1, 0x0, 1, .rw, 0x0, 0x1fff, false, 0x0⟩
  | .CND_COEF_VAL => ⟨.lane, 0x2001c, 0x0, 1, 0x0, 1, .ro, 0x0, 0x0, false, 0x0⟩
  | .CND_CH_CFG => ⟨.lane, 0x24000, 0x40, 68, 0x0, 1, .ro, 0x0, 0x0, true, 0xfe3fffff⟩
  | .CND_CH_DEC => ⟨.lane, 0x24004, 0x40, 68, 0x0, 1, .ro, 0x0, 0x0, true, 0xfffffe00⟩
  | .CND_CH_OUT => ⟨.lane, 0x24008, 0x40, 68, 0x0, 1, .ro, 0x0, 0x0, true, 0x1ffff⟩
  | .CND_CH_SEL => ⟨.lane, 0x2400c, 0x40, 68, 0x0, 1, .ro, 0x0, 0x0, true, 0x1fff⟩
  | .CND_CH_GAIN => ⟨.lane, 0x24010, 0x40, 68, 0x0, 1, .ro, 0x0, 0x0, true, 0xffffffff⟩
  | .CND_CH_OFS => ⟨.lane, 0x24014, 0x40, 68, 0x0, 1, .ro, 0x0, 0x0, true, 0xffffffff⟩
  | .CND_CH_LAT => ⟨.lane, 0x24018, 0x40, 68, 0x0, 1, .ro, 0x0, 0x0, true, 0xffffffff⟩
  | .CND_CH_SPAN => ⟨.lane, 0x2401c, 0x40, 68, 0x0, 1, .ro, 0x0, 0x0, false, 0x0⟩
  | .CND_CH_STAT => ⟨.lane, 0x24020, 0x40, 68, 0x0, 1, .ro, 0x6000000, 0x0, false, 0x0⟩
  | .CND_CH_PHASE => ⟨.lane, 0x24024, 0x40, 68, 0x0, 1, .ro, 0x0, 0x0, false, 0x0⟩
  | .CND_CH_OUTS => ⟨.lane, 0x24028, 0x40, 68, 0x0, 1, .ro, 0x0, 0x0, false, 0x0⟩
  | .CND_CH_SATCNT => ⟨.lane, 0x2402c, 0x40, 68, 0x0, 1, .ro, 0x0, 0x0, false, 0x0⟩
  | .CND_CH_RESETS => ⟨.lane, 0x24030, 0x40, 68, 0x0, 1, .ro, 0x0, 0x0, false, 0x0⟩
  | .CND_CH_LATEBLK => ⟨.lane, 0x24034, 0x40, 68, 0x0, 1, .ro, 0x0, 0x0, false, 0x0⟩
  | .CND_WF_CFG => ⟨.lane, 0x26000, 0x40, 4, 0x0, 1, .ro, 0x60000001, 0x0, true, 0xfe00ffff⟩
  | .CND_WF_THR => ⟨.lane, 0x26004, 0x40, 4, 0x0, 1, .ro, 0x0, 0x0, true, 0xffffffff⟩
  | .CND_WF_ARM => ⟨.lane, 0x26008, 0x40, 4, 0x0, 1, .ro, 0x0, 0x0, true, 0xffffffff⟩
  | .CND_WF_EVCNT => ⟨.lane, 0x2600c, 0x40, 4, 0x0, 1, .ro, 0x0, 0x0, false, 0x0⟩
  | .CND_WF_OVF => ⟨.lane, 0x26010, 0x40, 4, 0x0, 1, .ro, 0x0, 0x0, false, 0x0⟩
  | .CND_WF_LAST_LO => ⟨.lane, 0x26014, 0x40, 4, 0x0, 1, .ro, 0x0, 0x0, false, 0x0⟩
  | .CND_WF_LAST_HI => ⟨.lane, 0x26018, 0x40, 4, 0x0, 1, .ro, 0x0, 0x0, false, 0x0⟩
  | .FAB_STAT => ⟨.lane, 0x30000, 0x0, 1, 0x0, 1, .ro, 0x0, 0x0, false, 0x0⟩
  | .FAB_PIPE_MAP => ⟨.lane, 0x30004, 0x0, 1, 0x0, 1, .ro, 0x688, 0x0, false, 0x0⟩
  | .FAB_STAGE_CNT => ⟨.lane, 0x30010, 0x4, 4, 0x0, 1, .ro, 0x6400000, 0x0, false, 0x0⟩
  | .FAB_STAGE_STAT => ⟨.lane, 0x30020, 0x0, 1, 0x0, 1, .ro, 0x0, 0x0, false, 0x0⟩
  | .FAB_SHADOW_CNT => ⟨.lane, 0x30024, 0x0, 1, 0x0, 1, .ro, 0x0, 0x0, false, 0x0⟩
  | .FAB_SHADOW_ERR => ⟨.lane, 0x30028, 0x0, 1, 0x0, 1, .ro, 0x0, 0x0, false, 0x0⟩
  | .FAB_ECC_CE => ⟨.lane, 0x3002c, 0x0, 1, 0x0, 1, .ro, 0x0, 0x0, false, 0x0⟩
  | .FAB_SAT_CNT => ⟨.lane, 0x30030, 0x0, 1, 0x0, 1, .ro, 0x0, 0x0, false, 0x0⟩
  | .FAB_NAN_CNT => ⟨.lane, 0x30034, 0x0, 1, 0x0, 1, .ro, 0x0, 0x0, false, 0x0⟩
  | .FAB_WR_LAST => ⟨.lane, 0x30038, 0x0, 1, 0x0, 1, .ro, 0x0, 0x0, false, 0x0⟩
  | .FAB_WIN_USED => ⟨.lane, 0x3003c, 0x0, 1, 0x0, 1, .ro, 0x0, 0x0, false, 0x0⟩
  | .FAB_SLOT_SEL => ⟨.lane, 0x30040, 0x0, 1, 0x0, 1, .rw, 0x0, 0xfff, false, 0x0⟩
  | .FAB_DESC_WIN => ⟨.lane, 0x30400, 0x4, 64, 0x0, 1, .ro, 0x0, 0x0, false, 0x0⟩
  | .FAB_STATE_WIN => ⟨.lane, 0x30500, 0x4, 32, 0x0, 1, .ro, 0x0, 0x0, false, 0x0⟩
  | .FAB_CH_SCALE => ⟨.lane, 0x34000, 0x8, 2048, 0x0, 1, .ro, 0x3f800000, 0x0, true, 0xffffffff⟩
  | .FAB_CH_OFS => ⟨.lane, 0x34004, 0x8, 2048, 0x0, 1, .ro, 0x0, 0x0, true, 0xffffffff⟩
  | .FAB_OUT_VAL => ⟨.lane, 0x38000, 0x8, 4096, 0x0, 1, .ro, 0x0, 0x0, false, 0x0⟩
  | .FAB_OUT_STAT => ⟨.lane, 0x38004, 0x8, 4096, 0x0, 1, .ro, 0x0, 0x0, false, 0x0⟩
  | .TRM_STAT => ⟨.lane, 0x40000, 0x0, 1, 0x0, 1, .ro, 0x40000000, 0x0, false, 0x0⟩
  | .TRM_TL_STATE => ⟨.lane, 0x40004, 0x0, 1, 0x0, 1, .ro, 0x0, 0x0, false, 0x0⟩
  | .TRM_TL_RDBK => ⟨.lane, 0x40008, 0x0, 1, 0x0, 1, .w1c, 0x0, 0xffff, false, 0x0⟩
  | .TRM_GB_LO => ⟨.lane, 0x4000c, 0x0, 1, 0x0, 1, .ro, 0x0, 0x0, false, 0x0⟩
  | .TRM_GB_HI => ⟨.lane, 0x40010, 0x0, 1, 0x0, 1, .ro, 0x0, 0x0, false, 0x0⟩
  | .TRM_TRG => ⟨.lane, 0x40014, 0x0, 1, 0x0, 1, .ro, 0x0, 0x0, false, 0x0⟩
  | .TRM_FLG_LO => ⟨.lane, 0x40018, 0x0, 1, 0x0, 1, .ro, 0x0, 0x0, false, 0x0⟩
  | .TRM_FLG_HI => ⟨.lane, 0x4001c, 0x0, 1, 0x0, 1, .ro, 0x0, 0x0, false, 0x0⟩
  | .TRM_HF_LO => ⟨.lane, 0x40020, 0x0, 1, 0x0, 1, .ro, 0x0, 0x0, false, 0x0⟩
  | .TRM_HF_HI => ⟨.lane, 0x40024, 0x0, 1, 0x0, 1, .ro, 0x0, 0x0, false, 0x0⟩
  | .TRM_MASKED => ⟨.lane, 0x40028, 0x0, 1, 0x0, 1, .ro, 0x0, 0x0, false, 0x0⟩
  | .TRM_BSP_LOCK => ⟨.lane, 0x4002c, 0x0, 1, 0x0, 1, .rwl, 0x0, 0x1, false, 0x0⟩
  | .TRM_TL_CFG => ⟨.lane, 0x41000, 0x10, 16, 0x0, 1, .ro, 0x1, 0x0, true, 0xff00ffff⟩
  | .TRM_TL_RST => ⟨.lane, 0x41004, 0x10, 16, 0x0, 1, .ro, 0x0, 0x0, true, 0x1fff⟩
  | .TRM_TL_CNT => ⟨.lane, 0x41008, 0x10, 16, 0x0, 1, .ro, 0x0, 0x0, false, 0x0⟩
  | .TRM_TL_AGE => ⟨.lane, 0x4100c, 0x10, 16, 0x0, 1, .ro, 0x0, 0x0, false, 0x0⟩
  | .TRM_BSP_CFG => ⟨.lane, 0x42000, 0x10, 8, 0x0, 1, .ro, 0x0, 0x0, true, 0xf00007ff⟩
  | .TRM_BSP_THR => ⟨.lane, 0x42004, 0x10, 8, 0x0, 1, .ro, 0x0, 0x0, true, 0x7fffffff⟩
  | .TRM_BSP_DST => ⟨.lane, 0x42008, 0x10, 8, 0x0, 1, .ro, 0x0, 0x0, true, 0xffff⟩
  | .TRM_BSP_CNT => ⟨.lane, 0x4200c, 0x10, 8, 0x0, 1, .ro, 0x0, 0x0, false, 0x0⟩
  | .TRM_GP_CFG => ⟨.lane, 0x43000, 0x20, 4, 0x0, 1, .ro, 0x0, 0x0, true, 0xffff001f⟩
  | .TRM_GP_ID => ⟨.lane, 0x43004, 0x20, 4, 0x0, 1, .ro, 0x0, 0x0, true, 0xfffffff⟩
  | .TRM_GP_REP0 => ⟨.lane, 0x43008, 0x20, 4, 0x0, 1, .ro, 0x0, 0x0, true, 0xffff⟩
  | .TRM_GP_HB => ⟨.lane, 0x4300c, 0x20, 4, 0x0, 1, .ro, 0x0, 0x0, true, 0xfffff⟩
  | .TRM_GP_STNUM => ⟨.lane, 0x43010, 0x20, 4, 0x0, 1, .ro, 0x0, 0x0, false, 0x0⟩
  | .TRM_GP_SQNUM => ⟨.lane, 0x43014, 0x20, 4, 0x0, 1, .ro, 0x0, 0x0, false, 0x0⟩
  | .TRM_GP_TXCNT => ⟨.lane, 0x43018, 0x20, 4, 0x0, 1, .ro, 0x0, 0x0, false, 0x0⟩
  | .TRM_GP_DMAC_LO => ⟨.lane, 0x43100, 0x8, 4, 0x0, 1, .ro, 0x0, 0x0, true, 0xffffffff⟩
  | .TRM_GP_DMAC_HI => ⟨.lane, 0x43104, 0x8, 4, 0x0, 1, .ro, 0x0, 0x0, true, 0xffff⟩
  | .TRM_TERM_CFG => ⟨.lane, 0x48000, 0x40, 256, 0x0, 1, .ro, 0x0, 0x0, true, 0xc0000000⟩
  | .TRM_TERM_LIT => ⟨.lane, 0x48004, 0x40, 256, 0x4, 8, .ro, 0x0, 0x0, true, 0xffffffff⟩
  | .TRM_TERM_DST_TL => ⟨.lane, 0x48024, 0x40, 256, 0x0, 1, .ro, 0x0, 0x0, true, 0xffff⟩
  | .TRM_TERM_DST_GS_LO => ⟨.lane, 0x48028, 0x40, 256, 0x0, 1, .ro, 0x0, 0x0, true, 0xffffffff⟩
  | .TRM_TERM_DST_GS_HI => ⟨.lane, 0x4802c, 0x40, 256, 0x0, 1, .ro, 0x0, 0x0, true, 0xffffffff⟩
  | .TRM_TERM_DST_TRG => ⟨.lane, 0x48030, 0x40, 256, 0x0, 1, .ro, 0x0, 0x0, true, 0xffffffff⟩
  | .TRM_TERM_DST_FLG_LO => ⟨.lane, 0x48034, 0x40, 256, 0x0, 1, .ro, 0x0, 0x0, true, 0xffffffff⟩
  | .TRM_TERM_DST_FLG_HI => ⟨.lane, 0x48038, 0x40, 256, 0x0, 1, .ro, 0x0, 0x0, true, 0xffffffff⟩
  | .TRM_TERM_HITS => ⟨.lane, 0x4803c, 0x40, 256, 0x0, 1, .ro, 0x0, 0x0, false, 0x0⟩
  | .CMD_STAT => ⟨.lane, 0x50000, 0x0, 1, 0x0, 1, .ro, 0x0, 0x0, false, 0x0⟩
  | .CMD_CH_CFG => ⟨.lane, 0x51000, 0x40, 64, 0x0, 1, .ro, 0x0, 0x0, true, 0xf0000fff⟩
  | .CMD_CH_UP => ⟨.lane, 0x51004, 0x40, 64, 0x0, 1, .ro, 0x0, 0x0, true, 0xffffffff⟩
  | .CMD_CH_DN => ⟨.lane, 0x51008, 0x40, 64, 0x0, 1, .ro, 0x0, 0x0, true, 0xffffffff⟩
  | .CMD_CH_HBAND => ⟨.lane, 0x5100c, 0x40, 64, 0x0, 1, .ro, 0x0, 0x0, true, 0xffffffff⟩
  | .CMD_CH_OMIN => ⟨.lane, 0x51010, 0x40, 64, 0x0, 1, .ro, 0x0, 0x0, true, 0xffffffff⟩
  | .CMD_CH_OMAX => ⟨.lane, 0x51014, 0x40, 64, 0x0, 1, .ro, 0x0, 0x0, true, 0xffffffff⟩
  | .CMD_CH_INIT => ⟨.lane, 0x51018, 0x40, 64, 0x0, 1, .ro, 0x0, 0x0, true, 0xffffffff⟩
  | .CMD_CH_PSCALE => ⟨.lane, 0x5101c, 0x40, 64, 0x0, 1, .ro, 0x0, 0x0, true, 0xffffffff⟩
  | .CMD_CH_TARGET => ⟨.lane, 0x51020, 0x40, 64, 0x0, 1, .ro, 0x0, 0x0, false, 0x0⟩
  | .CMD_CH_OUT => ⟨.lane, 0x51024, 0x40, 64, 0x0, 1, .ro, 0x0, 0x0, false, 0x0⟩
  | .CMD_CH_STAT => ⟨.lane, 0x51028, 0x40, 64, 0x0, 1, .ro, 0x0, 0x0, false, 0x0⟩
  | .CMD_CH_RAMPCNT => ⟨.lane, 0x5102c, 0x40, 64, 0x0, 1, .ro, 0x0, 0x0, false, 0x0⟩
  | .CMD_CH_HELDCNT => ⟨.lane, 0x51030, 0x40, 64, 0x0, 1, .ro, 0x0, 0x0, false, 0x0⟩
  | .CMD_PS_CFG => ⟨.lane, 0x53000, 0x80, 16, 0x0, 1, .ro, 0x400, 0x0, true, 0xfffffc1f⟩
  | .CMD_PS_ID => ⟨.lane, 0x53004, 0x80, 16, 0x0, 1, .ro, 0x0, 0x0, true, 0xfffffff⟩
  | .CMD_PS_DMAC_LO => ⟨.lane, 0x53008, 0x80, 16, 0x0, 1, .ro, 0x0, 0x0, true, 0xffffffff⟩
  | .CMD_PS_DMAC_HI => ⟨.lane, 0x5300c, 0x80, 16, 0x0, 1, .ro, 0x0, 0x0, true, 0xffff⟩
  | .CMD_PS_CONFREV => ⟨.lane, 0x53010, 0x80, 16, 0x0, 1, .ro, 0x0, 0x0, true, 0xffffffff⟩
  | .CMD_PS_MEM => ⟨.lane, 0x53014, 0x80, 16, 0x4, 4, .ro, 0x0, 0x0, true, 0x3f3f3f3f⟩
  | .CMD_PS_TXCNT => ⟨.lane, 0x53024, 0x80, 16, 0x0, 1, .ro, 0x0, 0x0, false, 0x0⟩
  | .CMD_PS_SATCNT => ⟨.lane, 0x53028, 0x80, 16, 0x0, 1, .ro, 0x0, 0x0, false, 0x0⟩
  | .CMD_PS_SVID => ⟨.lane, 0x53040, 0x80, 16, 0x4, 16, .ro, 0x0, 0x0, true, 0xffffffff⟩
  | .CMD_PP_CFG => ⟨.lane, 0x54000, 0x40, 4, 0x0, 1, .ro, 0x0, 0x0, true, 0xc000003f⟩
  | .CMD_PP_PER => ⟨.lane, 0x54004, 0x40, 4, 0x0, 1, .ro, 0x0, 0x0, true, 0xffffff⟩
  | .CMD_PP_DT => ⟨.lane, 0x54008, 0x40, 4, 0x0, 1, .ro, 0x0, 0x0, true, 0x3fff⟩
  | .CMD_PP_MP => ⟨.lane, 0x5400c, 0x40, 4, 0x0, 1, .ro, 0x0, 0x0, true, 0x7fff⟩
  | .CMD_PP_STAT => ⟨.lane, 0x54010, 0x40, 4, 0x0, 1, .ro, 0x0, 0x0, false, 0x0⟩
  | .CMD_PP_SUPON => ⟨.lane, 0x54014, 0x40, 4, 0x0, 1, .ro, 0x0, 0x0, false, 0x0⟩
  | .CMD_PP_SUPOFF => ⟨.lane, 0x54018, 0x40, 4, 0x0, 1, .ro, 0x0, 0x0, false, 0x0⟩
  | .CMD_PP_DISC => ⟨.lane, 0x5401c, 0x40, 4, 0x0, 1, .ro, 0x0, 0x0, false, 0x0⟩
  | .CMD_PP_PERCNT => ⟨.lane, 0x54020, 0x40, 4, 0x0, 1, .ro, 0x0, 0x0, false, 0x0⟩
  | .LCT_CORE_STAT => ⟨.lane, 0x200, 0x4, 8, 0x0, 1, .ro, 0x0, 0x0, false, 0x0⟩
  | .LCT_PCL_CFG => ⟨.lane, 0x1000, 0x40, 16, 0x0, 1, .ro, 0x0, 0x0, false, 0x0⟩
  | .LCT_PCL_SCHED => ⟨.lane, 0x1004, 0x40, 16, 0x0, 1, .ro, 0x0, 0x0, false, 0x0⟩
  | .LCT_PCL_CORES => ⟨.lane, 0x1008, 0x40, 16, 0x0, 1, .ro, 0x0, 0x0, false, 0x0⟩
  | .LCT_PCL_BUDGET => ⟨.lane, 0x100c, 0x40, 16, 0x0, 1, .ro, 0x0, 0x0, false, 0x0⟩
  | .LCT_PCL_STAT => ⟨.lane, 0x1010, 0x40, 16, 0x0, 1, .ro, 0x0, 0x0, false, 0x0⟩
  | .LCT_PCL_CYCLES => ⟨.lane, 0x1014, 0x40, 16, 0x0, 1, .ro, 0x0, 0x0, false, 0x0⟩
  | .LCT_PCL_MISS => ⟨.lane, 0x1018, 0x40, 16, 0x0, 1, .ro, 0x0, 0x0, false, 0x0⟩
  | .LCT_PCL_USEMAX => ⟨.lane, 0x101c, 0x40, 16, 0x0, 1, .ro, 0x0, 0x0, false, 0x0⟩
  | .LCT_PCL_TRAP => ⟨.lane, 0x1020, 0x40, 16, 0x0, 1, .ro, 0x0, 0x0, false, 0x0⟩
  | .LCT_PCL_TEPC_LO => ⟨.lane, 0x1024, 0x40, 16, 0x0, 1, .ro, 0x0, 0x0, false, 0x0⟩
  | .LCT_PCL_TEPC_HI => ⟨.lane, 0x1028, 0x40, 16, 0x0, 1, .ro, 0x0, 0x0, false, 0x0⟩
  | .LCT_PCL_TVAL_LO => ⟨.lane, 0x102c, 0x40, 16, 0x0, 1, .ro, 0x0, 0x0, false, 0x0⟩
  | .LCT_PCL_TVAL_HI => ⟨.lane, 0x1030, 0x40, 16, 0x0, 1, .ro, 0x0, 0x0, false, 0x0⟩
  | .LCT_PCL_STOPTK_LO => ⟨.lane, 0x1034, 0x40, 16, 0x0, 1, .ro, 0x0, 0x0, false, 0x0⟩
  | .LCT_PCL_STOPTK_HI => ⟨.lane, 0x1038, 0x40, 16, 0x0, 1, .ro, 0x0, 0x0, false, 0x0⟩
  | .LCT_PCL_OWNER => ⟨.lane, 0x103c, 0x40, 16, 0x0, 1, .ro, 0x0, 0x0, false, 0x0⟩
  | .ILU_STAT => ⟨.lane, 0x60000, 0x0, 1, 0x0, 1, .ro, 0x0, 0x0, false, 0x0⟩
  | .ILU_SNAP_STAT => ⟨.lane, 0x60004, 0x0, 1, 0x0, 1, .ro, 0x0, 0x0, false, 0x0⟩
  | .ILU_SNAP_TICK_LO => ⟨.lane, 0x60008, 0x0, 1, 0x0, 1, .ro, 0x0, 0x0, false, 0x0⟩
  | .ILU_SNAP_TICK_HI => ⟨.lane, 0x6000c, 0x0, 1, 0x0, 1, .ro, 0x0, 0x0, false, 0x0⟩
  | .ILU_ECC_CE => ⟨.lane, 0x60010, 0x0, 1, 0x0, 1, .ro, 0x0, 0x0, false, 0x0⟩
  | .ILU_FIO_DIR => ⟨.lane, 0x60014, 0x0, 1, 0x0, 1, .ro, 0x0, 0x0, true, 0xffff00ff⟩
  | .ILU_FIO_OWN => ⟨.lane, 0x60018, 0x0, 1, 0x0, 1, .ro, 0x0, 0x0, true, 0xffff⟩
  | .ILU_FIO_DISAG => ⟨.lane, 0x6001c, 0x0, 1, 0x0, 1, .ro, 0x0, 0x0, false, 0x0⟩
  | .ILU_PRG_CFG => ⟨.lane, 0x60200, 0x20, 4, 0x0, 1, .ro, 0x0, 0x0, true, 0xffffbfff⟩
  | .ILU_PRG_SCHED => ⟨.lane, 0x60204, 0x20, 4, 0x0, 1, .ro, 0x0, 0x0, true, 0xffffffff⟩
  | .ILU_PRG_BUDGET => ⟨.lane, 0x60208, 0x20, 4, 0x0, 1, .ro, 0x0, 0x0, true, 0xfff0000⟩
  | .ILU_PRG_STAT => ⟨.lane, 0x6020c, 0x20, 4, 0x0, 1, .ro, 0x0, 0x0, false, 0x0⟩
  | .ILU_PRG_SCANS => ⟨.lane, 0x60210, 0x20, 4, 0x0, 1, .ro, 0x0, 0x0, false, 0x0⟩
  | .ILU_PRG_MISS => ⟨.lane, 0x60214, 0x20, 4, 0x0, 1, .ro, 0x0, 0x0, false, 0x0⟩
  | .ILU_PRG_USEMAX => ⟨.lane, 0x60218, 0x20, 4, 0x0, 1, .ro, 0x0, 0x0, false, 0x0⟩
  | .ILU_FLAG => ⟨.lane, 0x61000, 0x4, 256, 0x0, 1, .ro, 0x0, 0x0, false, 0x0⟩
  | .ILU_TMR_CFG => ⟨.lane, 0x62000, 0x8, 512, 0x0, 1, .ro, 0x0, 0x0, true, 0xe0ffffff⟩
  | .ILU_TMR_ST => ⟨.lane, 0x62004, 0x8, 512, 0x0, 1, .ro, 0x0, 0x0, false, 0x0⟩
  | .ILU_CTR_PV => ⟨.lane, 0x63000, 0x8, 256, 0x0, 1, .ro, 0x0, 0x0, true, 0xe000ffff⟩
  | .ILU_CTR_ST => ⟨.lane, 0x63004, 0x8, 256, 0x0, 1, .ro, 0x0, 0x0, false, 0x0⟩
  | .ILU_GS_CFG => ⟨.lane, 0x64000, 0x40, 32, 0x0, 1, .ro, 0x0, 0x0, true, 0xffe0001f⟩
  | .ILU_GS_DMAC_LO => ⟨.lane, 0x64004, 0x40, 32, 0x0, 1, .ro, 0x0, 0x0, true, 0xffffffff⟩
  | .ILU_GS_DMAC_HI => ⟨.lane, 0x64008, 0x40, 32, 0x0, 1, .ro, 0x0, 0x0, true, 0xffff⟩
  | .ILU_GS_ID => ⟨.lane, 0x6400c, 0x40, 32, 0x0, 1, .ro, 0x0, 0x0, true, 0xfffffff⟩
  | .ILU_GS_CONFREV => ⟨.lane, 0x64010, 0x40, 32, 0x0, 1, .ro, 0x0, 0x0, true, 0xffffffff⟩
  | .ILU_GS_AUTH => ⟨.lane, 0x64014, 0x40, 32, 0x0, 1, .ro, 0x0, 0x0, true, 0xc00000ff⟩
  | .ILU_GS_STAT => ⟨.lane, 0x64018, 0x40, 32, 0x0, 1, .ro, 0x0, 0x0, false, 0x0⟩
  | .ILU_GS_STNUM => ⟨.lane, 0x6401c, 0x40, 32, 0x0, 1, .ro, 0x0, 0x0, false, 0x0⟩
  | .ILU_GS_SQNUM => ⟨.lane, 0x64020, 0x40, 32, 0x0, 1, .ro, 0x0, 0x0, false, 0x0⟩
  | .ILU_GS_RXCNT => ⟨.lane, 0x64024, 0x40, 32, 0x0, 1, .ro, 0x0, 0x0, false, 0x0⟩
  | .ILU_GS_DUP => ⟨.lane, 0x64028, 0x40, 32, 0x0, 1, .ro, 0x0, 0x0, false, 0x0⟩
  | .ILU_GS_AUTHFAIL => ⟨.lane, 0x6402c, 0x40, 32, 0x0, 1, .ro, 0x0, 0x0, false, 0x0⟩
  | .ILU_GS_TALEXP => ⟨.lane, 0x64030, 0x40, 32, 0x0, 1, .ro, 0x0, 0x0, false, 0x0⟩
  | .ILU_GS_DROP => ⟨.lane, 0x64034, 0x40, 32, 0x0, 1, .ro, 0x0, 0x0, false, 0x0⟩
  | .ILU_GS_REF => ⟨.lane, 0x66000, 0x40, 32, 0x4, 16, .ro, 0x0, 0x0, true, 0xffffffff⟩
  | .ILU_PROG => ⟨.lane, 0x68000, 0x4, 8192, 0x0, 1, .ro, 0x0, 0x0, true, 0xffffffff⟩
  | .TWN_CFG => ⟨.lane, 0x90000, 0x0, 1, 0x0, 1, .ro, 0x20000000, 0x0, true, 0xff000000⟩
  | .TWN_PAIR_ID => ⟨.lane, 0x90004, 0x0, 1, 0x0, 1, .ro, 0x0, 0x0, true, 0xffffffff⟩
  | .TWN_REQUAL => ⟨.lane, 0x90008, 0x0, 1, 0x0, 1, .ro, 0x17700, 0x0, true, 0x7fffff⟩
  | .TWN_STAT => ⟨.lane, 0x9000c, 0x0, 1, 0x0, 1, .ro, 0x10000000, 0x0, false, 0x0⟩
  | .TWN_PAIR_ERR => ⟨.lane, 0x90010, 0x0, 1, 0x0, 1, .ro, 0x0, 0x0, false, 0x0⟩
  | .TWN_BSIGHT_CNT => ⟨.lane, 0x90014, 0x0, 1, 0x0, 1, .ro, 0x0, 0x0, false, 0x0⟩
  | .TWN_BSIGHT_MISM => ⟨.lane, 0x90018, 0x0, 1, 0x0, 1, .ro, 0x0, 0x0, false, 0x0⟩
  | .TWN_BSIGHT_MISS => ⟨.lane, 0x9001c, 0x0, 1, 0x0, 1, .ro, 0x0, 0x0, false, 0x0⟩
  | .TWN_FWD_SUBST => ⟨.lane, 0x90020, 0x0, 1, 0x0, 1, .ro, 0x0, 0x0, false, 0x0⟩
  | .TWN_FWD_LATE => ⟨.lane, 0x90024, 0x0, 1, 0x0, 1, .ro, 0x0, 0x0, false, 0x0⟩
  | .TWN_XCHK_DIFF => ⟨.lane, 0x90028, 0x0, 1, 0x0, 1, .ro, 0x0, 0x0, false, 0x0⟩
  | .TWN_XCHK_MAP => ⟨.lane, 0x90030, 0x4, 8, 0x0, 1, .w1c, 0x0, 0xffffffff, false, 0x0⟩
  | .TWN_COPY_LEFT => ⟨.lane, 0x90050, 0x0, 1, 0x0, 1, .ro, 0x0, 0x0, false, 0x0⟩
  | .TWN_COPY_PASS => ⟨.lane, 0x90054, 0x0, 1, 0x0, 1, .ro, 0x0, 0x0, false, 0x0⟩
  | .TWN_SWITCH_CNT => ⟨.lane, 0x90058, 0x0, 1, 0x0, 1, .ro, 0x0, 0x0, false, 0x0⟩
  | .TWN_SWITCH_TK_LO => ⟨.lane, 0x9005c, 0x0, 1, 0x0, 1, .ro, 0x0, 0x0, false, 0x0⟩
  | .TWN_SWITCH_TK_HI => ⟨.lane, 0x90060, 0x0, 1, 0x0, 1, .ro, 0x0, 0x0, false, 0x0⟩
  | .TWN_LINK_ERR => ⟨.lane, 0x90064, 0x0, 1, 0x0, 1, .ro, 0x0, 0x0, false, 0x0⟩
  | .TWN_PROOF_CFG => ⟨.lane, 0x90068, 0x0, 1, 0x0, 1, .ro, 0x0, 0x0, true, 0xffffffff⟩
  | .TWN_PROOF_FAIL => ⟨.lane, 0x9006c, 0x0, 1, 0x0, 1, .w1c, 0x0, 0xffffff, false, 0x0⟩
  | .SWM_STAT => ⟨.lane, 0x70000, 0x0, 1, 0x0, 1, .ro, 0x0, 0x0, false, 0x0⟩
  | .SWM_CELL_FREE => ⟨.lane, 0x70004, 0x0, 1, 0x0, 1, .ro, 0x8000, 0x0, false, 0x0⟩
  | .SWM_OVF_USED => ⟨.lane, 0x70008, 0x0, 1, 0x0, 1, .ro, 0x0, 0x0, false, 0x0⟩
  | .SWM_OVF_PEAK => ⟨.lane, 0x7000c, 0x0, 1, 0x0, 1, .ro, 0x0, 0x0, false, 0x0⟩
  | .SWM_RED_CFG => ⟨.lane, 0x70010, 0x0, 1, 0x0, 1, .ro, 0x0, 0x0, true, 0xe0000000⟩
  | .SWM_RED_NODES => ⟨.lane, 0x70014, 0x0, 1, 0x0, 1, .ro, 0x0, 0x0, false, 0x0⟩
  | .SWM_RED_DUP => ⟨.lane, 0x70018, 0x0, 1, 0x0, 1, .ro, 0x0, 0x0, false, 0x0⟩
  | .SWM_RED_WRONGLAN => ⟨.lane, 0x7001c, 0x0, 1, 0x0, 1, .ro, 0x0, 0x0, false, 0x0⟩
  | .SWM_HASH_SEL => ⟨.lane, 0x70020, 0x0, 1, 0x0, 1, .rw, 0x0, 0xff, false, 0x0⟩
  | .SWM_HASH_VAL => ⟨.lane, 0x70024, 0x0, 1, 0x0, 1, .ro, 0x0, 0x0, false, 0x0⟩
  | .SWM_FDB_SEL => ⟨.lane, 0x70028, 0x0, 1, 0x0, 1, .rw, 0x0, 0xfff, false, 0x0⟩
  | .SWM_FDB_VAL => ⟨.lane, 0x7002c, 0x4, 4, 0x0, 1, .ro, 0x0, 0x0, false, 0x0⟩
  | .SWM_DEMOTE => ⟨.lane, 0x70040, 0x0, 1, 0x0, 1, .ro, 0x0, 0x0, false, 0x0⟩
  | .SWM_NOFWD => ⟨.lane, 0x70044, 0x0, 1, 0x0, 1, .ro, 0x0, 0x0, false, 0x0⟩
  | .SWM_STOMP => ⟨.lane, 0x70048, 0x0, 1, 0x0, 1, .ro, 0x0, 0x0, false, 0x0⟩
  | .SWM_IN_SKIP => ⟨.lane, 0x7004c, 0x0, 1, 0x0, 1, .ro, 0x0, 0x0, false, 0x0⟩
  | .SWM_WAKE_CODE => ⟨.lane, 0x70050, 0x0, 1, 0x0, 1, .rws, 0x0, 0xfff, false, 0x0⟩
  | .SWM_WAKE_TX => ⟨.lane, 0x70054, 0x0, 1, 0x0, 1, .wo, 0x0, 0xffffffff, false, 0x0⟩
  | .SWM_WAKE_STAT => ⟨.lane, 0x70058, 0x0, 1, 0x0, 1, .ro, 0x0, 0x0, false, 0x0⟩
  | .SWM_PORT_CFG => ⟨.lane, 0x71000, 0x200, 4, 0x0, 1, .ro, 0x1, 0x0, true, 0xfcff0fff⟩
  | .SWM_PORT_STAT => ⟨.lane, 0x71004, 0x200, 4, 0x0, 1, .ro, 0x0, 0x0, false, 0x0⟩
  | .SWM_PORT_RESID => ⟨.lane, 0x71008, 0x200, 4, 0x0, 1, .ro, 0x0, 0x0, true, 0x7ff⟩
  | .SWM_PORT_RXFRM => ⟨.lane, 0x7100c, 0x200, 4, 0x0, 1, .ro, 0x0, 0x0, false, 0x0⟩
  | .SWM_PORT_TXFRM => ⟨.lane, 0x71010, 0x200, 4, 0x0, 1, .ro, 0x0, 0x0, false, 0x0⟩
  | .SWM_PORT_RXERR => ⟨.lane, 0x71014, 0x200, 4, 0x0, 1, .ro, 0x0, 0x0, false, 0x0⟩
  | .SWM_PORT_OVERSIZE => ⟨.lane, 0x71018, 0x200, 4, 0x0, 1, .ro, 0x0, 0x0, false, 0x0⟩
  | .SWM_PORT_PFCRX => ⟨.lane, 0x7101c, 0x200, 4, 0x0, 1, .ro, 0x0, 0x0, false, 0x0⟩
  | .SWM_PORT_PFCTX => ⟨.lane, 0x71020, 0x200, 4, 0x0, 1, .ro, 0x0, 0x0, false, 0x0⟩
  | .SWM_PORT_PAUSEIGN => ⟨.lane, 0x71024, 0x200, 4, 0x0, 1, .ro, 0x0, 0x0, false, 0x0⟩
  | .SWM_PORT_LINKDN => ⟨.lane, 0x71028, 0x200, 4, 0x0, 1, .ro, 0x0, 0x0, false, 0x0⟩
  | .SWM_PORT_RXDROP => ⟨.lane, 0x7102c, 0x200, 4, 0x0, 1, .ro, 0x0, 0x0, false, 0x0⟩
  | .SWM_Q_THR => ⟨.lane, 0x71100, 0x200, 4, 0x20, 8, .ro, 0x0, 0x0, true, 0xffffffff⟩
  | .SWM_Q_LIMIT => ⟨.lane, 0x71104, 0x200, 4, 0x20, 8, .ro, 0x0, 0x0, true, 0xffffff⟩
  | .SWM_Q_DEPTH => ⟨.lane, 0x71108, 0x200, 4, 0x20, 8, .ro, 0x0, 0x0, false, 0x0⟩
  | .SWM_Q_PEAK => ⟨.lane, 0x7110c, 0x200, 4, 0x20, 8, .ro, 0x0, 0x0, false, 0x0⟩
  | .SWM_Q_DROP => ⟨.lane, 0x71110, 0x200, 4, 0x20, 8, .ro, 0x0, 0x0, false, 0x0⟩
  | .SWM_Q_MARK => ⟨.lane, 0x71114, 0x200, 4, 0x20, 8, .ro, 0x0, 0x0, false, 0x0⟩
  | .SWM_Q_SCHED => ⟨.lane, 0x71118, 0x200, 4, 0x20, 8, .ro, 0x0, 0x0, true, 0xff00ffff⟩
  | .DTM_CFG => ⟨.lane, 0x80000, 0x0, 1, 0x0, 1, .ro, 0x1030, 0x0, true, 0xc0fffff0⟩
  | .DTM_STAT => ⟨.lane, 0x80004, 0x0, 1, 0x0, 1, .ro, 0x0, 0x0, false, 0x0⟩
  | .DTM_RAW_LO => ⟨.lane, 0x80008, 0x0, 1, 0x0, 1, .ro, 0x0, 0x0, false, 0x0⟩
  | .DTM_RAW_HI => ⟨.lane, 0x8000c, 0x0, 1, 0x0, 1, .ro, 0x0, 0x0, false, 0x0⟩
  | .DTM_NS_LO => ⟨.lane, 0x80010, 0x0, 1, 0x0, 1, .ro, 0x0, 0x0, false, 0x0⟩
  | .DTM_NS_HI => ⟨.lane, 0x80014, 0x0, 1, 0x0, 1, .ro, 0x0, 0x0, false, 0x0⟩
  | .DTM_NS_FRAC => ⟨.lane, 0x80018, 0x0, 1, 0x0, 1, .ro, 0x0, 0x0, false, 0x0⟩
  | .DTM_RATE_CUR_LO => ⟨.lane, 0x80020, 0x0, 1, 0x0, 1, .ro, 0x55555555, 0x0, false, 0x0⟩
  | .DTM_RATE_CUR_HI => ⟨.lane, 0x80024, 0x0, 1, 0x0, 1, .ro, 0xd555, 0x0, false, 0x0⟩
  | .DTM_RATE_TGT_LO => ⟨.lane, 0x80028, 0x0, 1, 0x0, 1, .ro, 0x55555555, 0x0, false, 0x0⟩
  | .DTM_RATE_TGT_HI => ⟨.lane, 0x8002c, 0x0, 1, 0x0, 1, .ro, 0xd555, 0x0, false, 0x0⟩
  | .DTM_OFS_LO => ⟨.lane, 0x80030, 0x0, 1, 0x0, 1, .ro, 0x0, 0x0, false, 0x0⟩
  | .DTM_OFS_HI => ⟨.lane, 0x80034, 0x0, 1, 0x0, 1, .ro, 0x0, 0x0, false, 0x0⟩
  | .DTM_JUMP => ⟨.lane, 0x80038, 0x0, 1, 0x0, 1, .ro, 0x3e8, 0x0, true, 0x3fffffff⟩
  | .DTM_SLEW => ⟨.lane, 0x8003c, 0x0, 1, 0x0, 1, .ro, 0xc80003, 0x0, true, 0x1ff000f⟩
  | .DTM_STEP_LO => ⟨.lane, 0x80040, 0x0, 1, 0x0, 1, .ro, 0x0, 0x0, false, 0x0⟩
  | .DTM_STEP_HI => ⟨.lane, 0x80044, 0x0, 1, 0x0, 1, .ro, 0x0, 0x0, false, 0x0⟩
  | .DTM_THETA => ⟨.lane, 0x80048, 0x0, 1, 0x0, 1, .ro, 0x0, 0x0, false, 0x0⟩
  | .DTM_GM_LO => ⟨.lane, 0x8004c, 0x0, 1, 0x0, 1, .ro, 0x0, 0x0, false, 0x0⟩
  | .DTM_GM_HI => ⟨.lane, 0x80050, 0x0, 1, 0x0, 1, .ro, 0x0, 0x0, false, 0x0⟩
  | .DTM_UTC => ⟨.lane, 0x80054, 0x0, 1, 0x0, 1, .ro, 0x0, 0x0, true, 0xe000ffff⟩
  | .DTM_TWIN_OFS => ⟨.lane, 0x80058, 0x0, 1, 0x0, 1, .ro, 0x0, 0x0, false, 0x0⟩
  | .DTM_TW_ASYM => ⟨.lane, 0x8005c, 0x0, 1, 0x0, 1, .ro, 0x0, 0x0, true, 0xffffffff⟩
  | .DTM_PPS_DLY => ⟨.lane, 0x80060, 0x0, 1, 0x0, 1, .ro, 0x0, 0x0, true, 0xfffff⟩
  | .DTM_PPS_CNT => ⟨.lane, 0x80064, 0x0, 1, 0x0, 1, .ro, 0x0, 0x0, false, 0x0⟩
  | .DTM_SWITCH_CNT => ⟨.lane, 0x80068, 0x0, 1, 0x0, 1, .ro, 0x0, 0x0, false, 0x0⟩
  | .DTM_STEP_CNT => ⟨.lane, 0x8006c, 0x0, 1, 0x0, 1, .ro, 0x0, 0x0, false, 0x0⟩
  | .DTM_HOLD_CNT => ⟨.lane, 0x80070, 0x0, 1, 0x0, 1, .ro, 0x0, 0x0, false, 0x0⟩
  | .DTM_BEACON_CNT => ⟨.lane, 0x80074, 0x0, 1, 0x0, 1, .ro, 0x0, 0x0, false, 0x0⟩
  | .DTM_CONV_OLD => ⟨.lane, 0x80078, 0x0, 1, 0x0, 1, .ro, 0x0, 0x0, false, 0x0⟩
  | .DTM_PORT_CFG => ⟨.lane, 0x80100, 0x20, 4, 0x0, 1, .ro, 0x0, 0x0, true, 0xefff0000⟩
  | .DTM_PORT_STAT => ⟨.lane, 0x80104, 0x20, 4, 0x0, 1, .ro, 0x10000000, 0x0, false, 0x0⟩
  | .DTM_PORT_PDELAY => ⟨.lane, 0x80108, 0x20, 4, 0x0, 1, .ro, 0x0, 0x0, false, 0x0⟩
  | .DTM_PORT_ASYM => ⟨.lane, 0x8010c, 0x20, 4, 0x0, 1, .ro, 0x0, 0x0, true, 0xffffffff⟩
  | .DTM_PORT_RXCNT => ⟨.lane, 0x80110, 0x20, 4, 0x0, 1, .ro, 0x0, 0x0, false, 0x0⟩
  | .DTM_PORT_TXCNT => ⟨.lane, 0x80114, 0x20, 4, 0x0, 1, .ro, 0x0, 0x0, false, 0x0⟩
  | .DTM_PORT_ERR => ⟨.lane, 0x80118, 0x20, 4, 0x0, 1, .ro, 0x0, 0x0, false, 0x0⟩
  | .FN_DB => ⟨.fn, 0x0, 0x8, 11, 0x0, 1, .wo, 0x0, 0xffffffff, false, 0x0⟩
  | .FN_STAT => ⟨.fn, 0x100, 0x0, 1, 0x0, 1, .ro, 0x40000000, 0x0, false, 0x0⟩
  | .FN_CTRL => ⟨.fn, 0x104, 0x0, 1, 0x0, 1, .rw, 0x0, 0xffffffff, false, 0x0⟩
  | .FN_ERR => ⟨.fn, 0x108, 0x0, 1, 0x0, 1, .ro, 0x0, 0x0, false, 0x0⟩
  | .FN_ERR_CFG => ⟨.fn, 0x10c, 0x0, 1, 0x0, 1, .ro, 0x0, 0x0, false, 0x0⟩
  | .FN_DB_IGN => ⟨.fn, 0x110, 0x0, 1, 0x0, 1, .ro, 0x0, 0x0, false, 0x0⟩
  | .FN_EVT_DROP => ⟨.fn, 0x114, 0x0, 1, 0x0, 1, .ro, 0x0, 0x0, false, 0x0⟩
  | .FN_OUTST => ⟨.fn, 0x118, 0x0, 1, 0x0, 1, .ro, 0x0, 0x0, false, 0x0⟩
  | .FN_QUOTA => ⟨.fn, 0x400, 0x4, 64, 0x0, 1, .ro, 0x0, 0x0, false, 0x0⟩
  | .FN_RING_BASE_LO => ⟨.fn, 0x200, 0x20, 11, 0x0, 1, .rw, 0x0, 0xffffffff, false, 0x0⟩
  | .FN_RING_BASE_HI => ⟨.fn, 0x204, 0x20, 11, 0x0, 1, .rw, 0x0, 0xffffffff, false, 0x0⟩
  | .FN_RING_CFG => ⟨.fn, 0x208, 0x20, 11, 0x0, 1, .rw, 0x0, 0x8f3f0000, false, 0x0⟩
  | .FN_RING_MOD => ⟨.fn, 0x20c, 0x20, 11, 0x0, 1, .rw, 0x0, 0xffffffff, false, 0x0⟩
  | .FN_RING_FILT => ⟨.fn, 0x210, 0x20, 11, 0x0, 1, .rw, 0x0, 0xf807ffff, false, 0x0⟩
  | .FN_RING_IDX => ⟨.fn, 0x214, 0x20, 11, 0x0, 1, .ro, 0x0, 0x0, false, 0x0⟩
  | .FN_RING_STAT => ⟨.fn, 0x218, 0x20, 11, 0x0, 1, .ro, 0x0, 0x0, false, 0x0⟩
  | .FN_RING_CNT => ⟨.fn, 0x21c, 0x20, 11, 0x0, 1, .ro, 0x0, 0x0, false, 0x0⟩
  | .FN_MSIX => ⟨.fn, 0x8000, 0x10, 64, 0x4, 4, .rw, 0x0, 0xffffffff, false, 0x0⟩
  | .FN_PBA => ⟨.fn, 0x9000, 0x4, 2, 0x0, 1, .ro, 0x0, 0x0, false, 0x0⟩
  | .HCX_ID => ⟨.hcx, 0x0, 0x0, 1, 0x0, 1, .ro, 0x3070000, 0x0, false, 0x0⟩
  | .HCX_PCIE_STAT => ⟨.hcx, 0x4, 0x0, 1, 0x0, 1, .ro, 0x0, 0x0, false, 0x0⟩
  | .HCX_LANE_LINK => ⟨.hcx, 0x8, 0x0, 1, 0x0, 1, .ro, 0x0, 0x0, false, 0x0⟩
  | .HCX_CREDIT_FREE => ⟨.hcx, 0xc, 0x0, 1, 0x0, 1, .ro, 0x10000, 0x0, false, 0x0⟩
  | .HCX_FENCE_LO => ⟨.hcx, 0x10, 0x0, 1, 0x0, 1, .ro, 0x0, 0x0, false, 0x0⟩
  | .HCX_FENCE_HI => ⟨.hcx, 0x14, 0x0, 1, 0x0, 1, .ro, 0x0, 0x0, false, 0x0⟩
  | .HCX_FN_RESET => ⟨.hcx, 0x18, 0x0, 1, 0x0, 1, .wo, 0x0, 0xffffffff, false, 0x0⟩
  | .HCX_RX_NOMATCH => ⟨.hcx, 0x1c, 0x0, 1, 0x0, 1, .ro, 0x0, 0x0, false, 0x0⟩
  | .HCX_QUOTA_SEL => ⟨.hcx, 0x20, 0x0, 1, 0x0, 1, .rw, 0x0, 0x3f, false, 0x0⟩
  | .HCX_QUOTA_WIN => ⟨.hcx, 0x100, 0x4, 64, 0x0, 1, .ro, 0x0, 0x0, false, 0x0⟩
  | .HCX_EVT_ROUTE => ⟨.hcx, 0x4000, 0x4, 1024, 0x0, 1, .rw, 0x0, 0xbf000001, false, 0x0⟩
  | .ACQ_STAT => ⟨.lane, 0xa0000, 0x0, 1, 0x0, 1, .ro, 0x0, 0x0, false, 0x0⟩
  | .ACQ_BUSY => ⟨.lane, 0xa0004, 0x0, 1, 0x0, 1, .ro, 0x0, 0x0, false, 0x0⟩
  | .ACQ_NET_CFG => ⟨.lane, 0xa0008, 0x0, 1, 0x0, 1, .ro, 0x0, 0x0, true, 0xfffe0fff⟩
  | .ACQ_NET_DMAC_LO => ⟨.lane, 0xa000c, 0x0, 1, 0x0, 1, .ro, 0x0, 0x0, true, 0xffffffff⟩
  | .ACQ_NET_DMAC_HI => ⟨.lane, 0xa0010, 0x0, 1, 0x0, 1, .ro, 0x0, 0x0, true, 0xffff⟩
  | .ACQ_FB_CURSOR => ⟨.lane, 0xa0020, 0x0, 1, 0x0, 1, .rw, 0x0, 0xffffffff, false, 0x0⟩
  | .ACQ_FB_NEXT => ⟨.lane, 0xa0024, 0x0, 1, 0x0, 1, .ro, 0x0, 0x0, false, 0x0⟩
  | .ACQ_FB_FILL => ⟨.lane, 0xa0028, 0x0, 1, 0x0, 1, .ro, 0x0, 0x0, false, 0x0⟩
  | .ACQ_FB_SAFEDROP => ⟨.lane, 0xa002c, 0x0, 1, 0x0, 1, .ro, 0x0, 0x0, false, 0x0⟩
  | .ACQ_FB_GENDROP => ⟨.lane, 0xa0030, 0x0, 1, 0x0, 1, .ro, 0x0, 0x0, false, 0x0⟩
  | .ACQ_ILT => ⟨.lane, 0xa0100, 0x4, 16, 0x0, 1, .ro, 0x0, 0x0, true, 0x80001fff⟩
  | .ACQ_RD_CFG => ⟨.lane, 0xa1000, 0x40, 16, 0x0, 1, .ro, 0x10000000, 0x0, true, 0xf07fffff⟩
  | .ACQ_RD_TRG => ⟨.lane, 0xa1004, 0x40, 16, 0x0, 1, .ro, 0x0, 0x0, true, 0xffffffff⟩
  | .ACQ_RD_TRG2 => ⟨.lane, 0xa1008, 0x40, 16, 0x0, 1, .ro, 0x0, 0x0, true, 0x1ffff⟩
  | .ACQ_RD_PRE => ⟨.lane, 0xa100c, 0x40, 16, 0x0, 1, .ro, 0x0, 0x0, true, 0xfffff⟩
  | .ACQ_RD_FULL => ⟨.lane, 0xa1010, 0x40, 16, 0x0, 1, .ro, 0x0, 0x0, true, 0x7fffff⟩
  | .ACQ_RD_POST => ⟨.lane, 0xa1014, 0x40, 16, 0x0, 1, .ro, 0x0, 0x0, true, 0x7fffff⟩
  | .ACQ_RD_CAPS => ⟨.lane, 0xa1018, 0x40, 16, 0x0, 1, .ro, 0x0, 0x0, false, 0x0⟩
  | .ACQ_RD_NOPRE => ⟨.lane, 0xa101c, 0x40, 16, 0x0, 1, .ro, 0x0, 0x0, false, 0x0⟩
  | .ACQ_RD_MARKOVF => ⟨.lane, 0xa1020, 0x40, 16, 0x0, 1, .ro, 0x0, 0x0, false, 0x0⟩
  | .ACQ_RD_MAPSKIP => ⟨.lane, 0xa1024, 0x40, 16, 0x0, 1, .ro, 0x0, 0x0, false, 0x0⟩
  | .ACQ_RD_TRUNC => ⟨.lane, 0xa1028, 0x40, 16, 0x0, 1, .ro, 0x0, 0x0, false, 0x0⟩
  | .ACQ_FB_WIN => ⟨.lane, 0xa2000, 0x30, 16, 0x4, 12, .ro, 0x0, 0x0, false, 0x0⟩
  | .HCX_ARC_STAT => ⟨.hcx, 0x6000, 0x0, 1, 0x0, 1, .ro, 0x0, 0x0, false, 0x0⟩
  | .HCX_ARC_EXT => ⟨.hcx, 0x6004, 0x0, 1, 0x0, 1, .ro, 0x0, 0x0, false, 0x0⟩
  | .HCX_ARC_FREE => ⟨.hcx, 0x6008, 0x0, 1, 0x0, 1, .ro, 0x0, 0x0, false, 0x0⟩
  | .HCX_ARC_UNCOMMIT => ⟨.hcx, 0x600c, 0x0, 1, 0x0, 1, .ro, 0x0, 0x0, false, 0x0⟩
  | .HCX_ARC_DROP => ⟨.hcx, 0x6010, 0x0, 1, 0x0, 1, .ro, 0x0, 0x0, false, 0x0⟩
  | .HCX_ARC_RECID_LO => ⟨.hcx, 0x6014, 0x0, 1, 0x0, 1, .ro, 0x0, 0x0, false, 0x0⟩
  | .HCX_ARC_RECID_HI => ⟨.hcx, 0x6018, 0x0, 1, 0x0, 1, .ro, 0x0, 0x0, false, 0x0⟩
  | .SFS_ID => ⟨.sfs, 0x0, 0x0, 1, 0x0, 1, .ro, 0x3000000, 0x0, false, 0x0⟩
  | .SFS_STAT => ⟨.sfs, 0x4, 0x0, 1, 0x0, 1, .ro, 0x20000000, 0x0, false, 0x0⟩
  | .SFS_SEQ => ⟨.sfs, 0x8, 0x0, 1, 0x0, 1, .ro, 0x0, 0x0, false, 0x0⟩
  | .SFS_SEAL => ⟨.sfs, 0xc, 0x0, 1, 0x0, 1, .ro, 0x0, 0x0, false, 0x0⟩
  | .SFS_SEAL_CRC => ⟨.sfs, 0x10, 0x0, 1, 0x0, 1, .ro, 0x0, 0x0, false, 0x0⟩
  | .SFS_PAIRS => ⟨.sfs, 0x14, 0x0, 1, 0x0, 1, .ro, 0x0, 0x0, false, 0x0⟩
  | .SFS_BK => ⟨.sfs, 0x18, 0x0, 1, 0x0, 1, .ro, 0x0, 0x0, false, 0x0⟩
  | .SFS_COIL => ⟨.sfs, 0x1c, 0x0, 1, 0x0, 1, .ro, 0x0, 0x0, false, 0x0⟩
  | .SFS_HT => ⟨.sfs, 0x20, 0x0, 1, 0x0, 1, .ro, 0x0, 0x0, false, 0x0⟩
  | .SFS_SP => ⟨.sfs, 0x24, 0x0, 1, 0x0, 1, .ro, 0x0, 0x0, false, 0x0⟩
  | .SFS_DEMCNT => ⟨.sfs, 0x28, 0x0, 1, 0x0, 1, .ro, 0x0, 0x0, false, 0x0⟩
  | .SFS_TESTCNT => ⟨.sfs, 0x2c, 0x0, 1, 0x0, 1, .ro, 0x0, 0x0, false, 0x0⟩
  | .SFS_UPTIME => ⟨.sfs, 0x30, 0x0, 1, 0x0, 1, .ro, 0x0, 0x0, false, 0x0⟩
  | .SFS_ECC_CE => ⟨.sfs, 0x34, 0x0, 1, 0x0, 1, .ro, 0x0, 0x0, false, 0x0⟩
  | .LCT_FIO_STAT => ⟨.lane, 0x300, 0x0, 1, 0x0, 1, .ro, 0x80000000, 0x0, false, 0x0⟩
  | .LCT_FIO_FRMERR => ⟨.lane, 0x304, 0x0, 1, 0x0, 1, .ro, 0x0, 0x0, false, 0x0⟩
  | .LCT_FIO_FLTCNT => ⟨.lane, 0x308, 0x0, 1, 0x0, 1, .ro, 0x0, 0x0, false, 0x0⟩
  | .HCX_PWR_STAT => ⟨.hcx, 0x7000, 0x0, 1, 0x0, 1, .ro, 0x38000000, 0x0, false, 0x0⟩
  | .HCX_PWR_VIN => ⟨.hcx, 0x7004, 0x0, 1, 0x0, 1, .ro, 0x0, 0x0, false, 0x0⟩
  | .HCX_PWR_VHOLD => ⟨.hcx, 0x7008, 0x0, 1, 0x0, 1, .ro, 0x0, 0x0, false, 0x0⟩
  | .HCX_PWR_CAP => ⟨.hcx, 0x700c, 0x0, 1, 0x0, 1, .ro, 0x0, 0x0, false, 0x0⟩
  | .HCX_LANE_RESET => ⟨.hcx, 0x7010, 0x0, 1, 0x0, 1, .wo, 0x0, 0xffffffff, false, 0x0⟩
  | .HCX_WARM_RESET => ⟨.hcx, 0x7014, 0x0, 1, 0x0, 1, .wo, 0x0, 0xffffffff, false, 0x0⟩
  | .HCX_PARK => ⟨.hcx, 0x7018, 0x0, 1, 0x0, 1, .wo, 0x0, 0xffffffff, false, 0x0⟩
  | .HCX_SAG_CNT => ⟨.hcx, 0x701c, 0x0, 1, 0x0, 1, .ro, 0x0, 0x0, false, 0x0⟩
  | .HCX_DIP_CNT => ⟨.hcx, 0x7020, 0x0, 1, 0x0, 1, .ro, 0x0, 0x0, false, 0x0⟩
  | .HCX_FLUSH_LAST => ⟨.hcx, 0x7024, 0x0, 1, 0x0, 1, .ro, 0x0, 0x0, false, 0x0⟩
  | .HCX_START_T => ⟨.hcx, 0x7028, 0x4, 5, 0x0, 1, .ro, 0xffff, 0x0, false, 0x0⟩
  | .HCX_PD_STAT => ⟨.hcx, 0x7040, 0x4, 3, 0x0, 1, .ro, 0x0, 0x0, false, 0x0⟩
  | .PWR_STAT => ⟨.lane, 0xc0000, 0x0, 1, 0x0, 1, .ro, 0x0, 0x0, false, 0x0⟩
  | .PWR_PD => ⟨.lane, 0xc0004, 0x0, 1, 0x0, 1, .ro, 0x0, 0x0, false, 0x0⟩
  | .PWR_MBIST_STAT => ⟨.lane, 0xc0008, 0x0, 1, 0x0, 1, .ro, 0x0, 0x0, false, 0x0⟩
  | .PWR_MBIST_REPAIR => ⟨.lane, 0xc000c, 0x0, 1, 0x0, 1, .ro, 0x0, 0x0, false, 0x0⟩
  | .PWR_LBIST_FAIL => ⟨.lane, 0xc0010, 0x0, 1, 0x0, 1, .ro, 0x0, 0x0, false, 0x0⟩
  | .PWR_BIST_CNT => ⟨.lane, 0xc0014, 0x0, 1, 0x0, 1, .rws, 0x0, 0xffffffff, false, 0x0⟩
  | .PWR_BIST_MS => ⟨.lane, 0xc0018, 0x0, 1, 0x0, 1, .ro, 0x0, 0x0, false, 0x0⟩
  | .PWR_LBIST_SIG_LO => ⟨.lane, 0xc0020, 0x8, 11, 0x0, 1, .ro, 0x0, 0x0, false, 0x0⟩
  | .PWR_LBIST_SIG_HI => ⟨.lane, 0xc0024, 0x8, 11, 0x0, 1, .ro, 0x0, 0x0, false, 0x0⟩
  | .LCT_FW_STAT => ⟨.lane, 0x400, 0x0, 1, 0x0, 1, .ro, 0x0, 0x0, false, 0x0⟩
  | .LCT_FW_BUILD => ⟨.lane, 0x404, 0x0, 1, 0x0, 1, .ro, 0x0, 0x0, false, 0x0⟩
  | .LCT_FW_BANK => ⟨.lane, 0x408, 0x4, 2, 0x0, 1, .ro, 0x0, 0x0, false, 0x0⟩
  | .LCT_TIMG_STAT => ⟨.lane, 0x410, 0x0, 1, 0x0, 1, .ro, 0x0, 0x0, false, 0x0⟩
  | .LCT_FW_SUSP => ⟨.lane, 0x414, 0x0, 1, 0x0, 1, .ro, 0x0, 0x0, false, 0x0⟩
  | .KEY_STAT => ⟨.lane, 0xb0000, 0x0, 1, 0x0, 1, .ro, 0x0, 0x0, false, 0x0⟩
  | .KEY_CFG => ⟨.lane, 0xb0004, 0x0, 1, 0x0, 1, .ro, 0xa, 0x0, true, 0x3ff⟩
  | .KEY_REMASK => ⟨.lane, 0xb0008, 0x0, 1, 0x0, 1, .ro, 0x0, 0x0, false, 0x0⟩
  | .KEY_SLOT_SEL => ⟨.lane, 0xb000c, 0x0, 1, 0x0, 1, .rw, 0x0, 0xff, false, 0x0⟩
  | .KEY_SLOT_STAT => ⟨.lane, 0xb0010, 0x0, 1, 0x0, 1, .ro, 0x0, 0x0, false, 0x0⟩
  | .KEY_SLOT_CURID => ⟨.lane, 0xb0014, 0x0, 1, 0x0, 1, .ro, 0x0, 0x0, false, 0x0⟩
  | .KEY_SLOT_NEXTID => ⟨.lane, 0xb0018, 0x0, 1, 0x0, 1, .ro, 0x0, 0x0, false, 0x0⟩
  | .KEY_UNWRAP_ERR => ⟨.lane, 0xb001c, 0x0, 1, 0x0, 1, .ro, 0x0, 0x0, false, 0x0⟩
  | .KEY_MEAS => ⟨.lane, 0xb0040, 0x4, 12, 0x0, 1, .ro, 0x0, 0x0, false, 0x0⟩
  | .HCX_LC => ⟨.hcx, 0x8000, 0x0, 1, 0x0, 1, .ro, 0x0, 0x0, false, 0x0⟩
  | .HCX_FW_STAT => ⟨.hcx, 0x8004, 0x0, 1, 0x0, 1, .ro, 0x0, 0x0, false, 0x0⟩
  | .HCX_FW_BANK => ⟨.hcx, 0x8008, 0x4, 2, 0x0, 1, .ro, 0x0, 0x0, false, 0x0⟩
  | .HCX_TEMP => ⟨.hcx, 0x7050, 0x0, 1, 0x0, 1, .ro, 0x0, 0x0, false, 0x0⟩
  | .PWR_TEMP => ⟨.lane, 0xc0080, 0x0, 1, 0x0, 1, .ro, 0x0, 0x0, false, 0x0⟩

/-- Names 0 of the list of all registers. -/
def Reg.names0 : List Reg :=
  [.LCT_TICK_NUM_LO, .LCT_TICK_NUM_HI, .LCT_TICK_IDX, .LCT_TRAV_STAT, .LCT_CLOSURE_STAT, .LCT_CLOSURE_CNT, .LCT_TICK_RAW, .LCT_APPLY_NEXT_LO, .LCT_APPLY_NEXT_HI, .LCT_APPLY_PEND, .LCT_APPLY_LATE, .INT_CFG, .INT_STAT, .INT_UNMATCHED, .INT_OWNDROP, .INT_AHEAD, .INT_FPS, .INT_HIST_SPAN, .INT_REKEY, .INT_SYNCVAL, .INT_SUB_CFG, .INT_SUB_DMAC_LO, .INT_SUB_DMAC_HI, .INT_SUB_ID, .INT_SUB_RATE, .INT_SUB_DELAY, .INT_SUB_CONFREV, .INT_SUB_AUTH, .INT_SUB_STAT, .INT_SUB_FRAMES, .INT_SUB_MISS, .INT_SUB_LATE, .INT_SUB_DUP, .INT_SUB_AUTHFAIL, .INT_SUB_FMTERR, .INT_SUB_LOSTCNT, .INT_SUB_SVID, .CND_STAT, .CND_ENG_MAX, .CND_SKEW_SEL]

/-- Names 1 of the list of all registers. -/
def Reg.names1 : List Reg :=
  [.CND_SKEW_VAL, .CND_COEF_SEL, .CND_COEF_VAL, .CND_CH_CFG, .CND_CH_DEC, .CND_CH_OUT, .CND_CH_SEL, .CND_CH_GAIN, .CND_CH_OFS, .CND_CH_LAT, .CND_CH_SPAN, .CND_CH_STAT, .CND_CH_PHASE, .CND_CH_OUTS, .CND_CH_SATCNT, .CND_CH_RESETS, .CND_CH_LATEBLK, .CND_WF_CFG, .CND_WF_THR, .CND_WF_ARM, .CND_WF_EVCNT, .CND_WF_OVF, .CND_WF_LAST_LO, .CND_WF_LAST_HI, .FAB_STAT, .FAB_PIPE_MAP, .FAB_STAGE_CNT, .FAB_STAGE_STAT, .FAB_SHADOW_CNT, .FAB_SHADOW_ERR, .FAB_ECC_CE, .FAB_SAT_CNT, .FAB_NAN_CNT, .FAB_WR_LAST, .FAB_WIN_USED, .FAB_SLOT_SEL, .FAB_DESC_WIN, .FAB_STATE_WIN, .FAB_CH_SCALE, .FAB_CH_OFS]

/-- Names 2 of the list of all registers. -/
def Reg.names2 : List Reg :=
  [.FAB_OUT_VAL, .FAB_OUT_STAT, .TRM_STAT, .TRM_TL_STATE, .TRM_TL_RDBK, .TRM_GB_LO, .TRM_GB_HI, .TRM_TRG, .TRM_FLG_LO, .TRM_FLG_HI, .TRM_HF_LO, .TRM_HF_HI, .TRM_MASKED, .TRM_BSP_LOCK, .TRM_TL_CFG, .TRM_TL_RST, .TRM_TL_CNT, .TRM_TL_AGE, .TRM_BSP_CFG, .TRM_BSP_THR, .TRM_BSP_DST, .TRM_BSP_CNT, .TRM_GP_CFG, .TRM_GP_ID, .TRM_GP_REP0, .TRM_GP_HB, .TRM_GP_STNUM, .TRM_GP_SQNUM, .TRM_GP_TXCNT, .TRM_GP_DMAC_LO, .TRM_GP_DMAC_HI, .TRM_TERM_CFG, .TRM_TERM_LIT, .TRM_TERM_DST_TL, .TRM_TERM_DST_GS_LO, .TRM_TERM_DST_GS_HI, .TRM_TERM_DST_TRG, .TRM_TERM_DST_FLG_LO, .TRM_TERM_DST_FLG_HI, .TRM_TERM_HITS]

/-- Names 3 of the list of all registers. -/
def Reg.names3 : List Reg :=
  [.CMD_STAT, .CMD_CH_CFG, .CMD_CH_UP, .CMD_CH_DN, .CMD_CH_HBAND, .CMD_CH_OMIN, .CMD_CH_OMAX, .CMD_CH_INIT, .CMD_CH_PSCALE, .CMD_CH_TARGET, .CMD_CH_OUT, .CMD_CH_STAT, .CMD_CH_RAMPCNT, .CMD_CH_HELDCNT, .CMD_PS_CFG, .CMD_PS_ID, .CMD_PS_DMAC_LO, .CMD_PS_DMAC_HI, .CMD_PS_CONFREV, .CMD_PS_MEM, .CMD_PS_TXCNT, .CMD_PS_SATCNT, .CMD_PS_SVID, .CMD_PP_CFG, .CMD_PP_PER, .CMD_PP_DT, .CMD_PP_MP, .CMD_PP_STAT, .CMD_PP_SUPON, .CMD_PP_SUPOFF, .CMD_PP_DISC, .CMD_PP_PERCNT, .LCT_CORE_STAT, .LCT_PCL_CFG, .LCT_PCL_SCHED, .LCT_PCL_CORES, .LCT_PCL_BUDGET, .LCT_PCL_STAT, .LCT_PCL_CYCLES, .LCT_PCL_MISS]

/-- Names 4 of the list of all registers. -/
def Reg.names4 : List Reg :=
  [.LCT_PCL_USEMAX, .LCT_PCL_TRAP, .LCT_PCL_TEPC_LO, .LCT_PCL_TEPC_HI, .LCT_PCL_TVAL_LO, .LCT_PCL_TVAL_HI, .LCT_PCL_STOPTK_LO, .LCT_PCL_STOPTK_HI, .LCT_PCL_OWNER, .ILU_STAT, .ILU_SNAP_STAT, .ILU_SNAP_TICK_LO, .ILU_SNAP_TICK_HI, .ILU_ECC_CE, .ILU_FIO_DIR, .ILU_FIO_OWN, .ILU_FIO_DISAG, .ILU_PRG_CFG, .ILU_PRG_SCHED, .ILU_PRG_BUDGET, .ILU_PRG_STAT, .ILU_PRG_SCANS, .ILU_PRG_MISS, .ILU_PRG_USEMAX, .ILU_FLAG, .ILU_TMR_CFG, .ILU_TMR_ST, .ILU_CTR_PV, .ILU_CTR_ST, .ILU_GS_CFG, .ILU_GS_DMAC_LO, .ILU_GS_DMAC_HI, .ILU_GS_ID, .ILU_GS_CONFREV, .ILU_GS_AUTH, .ILU_GS_STAT, .ILU_GS_STNUM, .ILU_GS_SQNUM, .ILU_GS_RXCNT, .ILU_GS_DUP]

/-- Names 5 of the list of all registers. -/
def Reg.names5 : List Reg :=
  [.ILU_GS_AUTHFAIL, .ILU_GS_TALEXP, .ILU_GS_DROP, .ILU_GS_REF, .ILU_PROG, .TWN_CFG, .TWN_PAIR_ID, .TWN_REQUAL, .TWN_STAT, .TWN_PAIR_ERR, .TWN_BSIGHT_CNT, .TWN_BSIGHT_MISM, .TWN_BSIGHT_MISS, .TWN_FWD_SUBST, .TWN_FWD_LATE, .TWN_XCHK_DIFF, .TWN_XCHK_MAP, .TWN_COPY_LEFT, .TWN_COPY_PASS, .TWN_SWITCH_CNT, .TWN_SWITCH_TK_LO, .TWN_SWITCH_TK_HI, .TWN_LINK_ERR, .TWN_PROOF_CFG, .TWN_PROOF_FAIL, .SWM_STAT, .SWM_CELL_FREE, .SWM_OVF_USED, .SWM_OVF_PEAK, .SWM_RED_CFG, .SWM_RED_NODES, .SWM_RED_DUP, .SWM_RED_WRONGLAN, .SWM_HASH_SEL, .SWM_HASH_VAL, .SWM_FDB_SEL, .SWM_FDB_VAL, .SWM_DEMOTE, .SWM_NOFWD, .SWM_STOMP]

/-- Names 6 of the list of all registers. -/
def Reg.names6 : List Reg :=
  [.SWM_IN_SKIP, .SWM_WAKE_CODE, .SWM_WAKE_TX, .SWM_WAKE_STAT, .SWM_PORT_CFG, .SWM_PORT_STAT, .SWM_PORT_RESID, .SWM_PORT_RXFRM, .SWM_PORT_TXFRM, .SWM_PORT_RXERR, .SWM_PORT_OVERSIZE, .SWM_PORT_PFCRX, .SWM_PORT_PFCTX, .SWM_PORT_PAUSEIGN, .SWM_PORT_LINKDN, .SWM_PORT_RXDROP, .SWM_Q_THR, .SWM_Q_LIMIT, .SWM_Q_DEPTH, .SWM_Q_PEAK, .SWM_Q_DROP, .SWM_Q_MARK, .SWM_Q_SCHED, .DTM_CFG, .DTM_STAT, .DTM_RAW_LO, .DTM_RAW_HI, .DTM_NS_LO, .DTM_NS_HI, .DTM_NS_FRAC, .DTM_RATE_CUR_LO, .DTM_RATE_CUR_HI, .DTM_RATE_TGT_LO, .DTM_RATE_TGT_HI, .DTM_OFS_LO, .DTM_OFS_HI, .DTM_JUMP, .DTM_SLEW, .DTM_STEP_LO, .DTM_STEP_HI]

/-- Names 7 of the list of all registers. -/
def Reg.names7 : List Reg :=
  [.DTM_THETA, .DTM_GM_LO, .DTM_GM_HI, .DTM_UTC, .DTM_TWIN_OFS, .DTM_TW_ASYM, .DTM_PPS_DLY, .DTM_PPS_CNT, .DTM_SWITCH_CNT, .DTM_STEP_CNT, .DTM_HOLD_CNT, .DTM_BEACON_CNT, .DTM_CONV_OLD, .DTM_PORT_CFG, .DTM_PORT_STAT, .DTM_PORT_PDELAY, .DTM_PORT_ASYM, .DTM_PORT_RXCNT, .DTM_PORT_TXCNT, .DTM_PORT_ERR, .FN_DB, .FN_STAT, .FN_CTRL, .FN_ERR, .FN_ERR_CFG, .FN_DB_IGN, .FN_EVT_DROP, .FN_OUTST, .FN_QUOTA, .FN_RING_BASE_LO, .FN_RING_BASE_HI, .FN_RING_CFG, .FN_RING_MOD, .FN_RING_FILT, .FN_RING_IDX, .FN_RING_STAT, .FN_RING_CNT, .FN_MSIX, .FN_PBA, .HCX_ID]

/-- Names 8 of the list of all registers. -/
def Reg.names8 : List Reg :=
  [.HCX_PCIE_STAT, .HCX_LANE_LINK, .HCX_CREDIT_FREE, .HCX_FENCE_LO, .HCX_FENCE_HI, .HCX_FN_RESET, .HCX_RX_NOMATCH, .HCX_QUOTA_SEL, .HCX_QUOTA_WIN, .HCX_EVT_ROUTE, .ACQ_STAT, .ACQ_BUSY, .ACQ_NET_CFG, .ACQ_NET_DMAC_LO, .ACQ_NET_DMAC_HI, .ACQ_FB_CURSOR, .ACQ_FB_NEXT, .ACQ_FB_FILL, .ACQ_FB_SAFEDROP, .ACQ_FB_GENDROP, .ACQ_ILT, .ACQ_RD_CFG, .ACQ_RD_TRG, .ACQ_RD_TRG2, .ACQ_RD_PRE, .ACQ_RD_FULL, .ACQ_RD_POST, .ACQ_RD_CAPS, .ACQ_RD_NOPRE, .ACQ_RD_MARKOVF, .ACQ_RD_MAPSKIP, .ACQ_RD_TRUNC, .ACQ_FB_WIN, .HCX_ARC_STAT, .HCX_ARC_EXT, .HCX_ARC_FREE, .HCX_ARC_UNCOMMIT, .HCX_ARC_DROP, .HCX_ARC_RECID_LO, .HCX_ARC_RECID_HI]

/-- Names 9 of the list of all registers. -/
def Reg.names9 : List Reg :=
  [.SFS_ID, .SFS_STAT, .SFS_SEQ, .SFS_SEAL, .SFS_SEAL_CRC, .SFS_PAIRS, .SFS_BK, .SFS_COIL, .SFS_HT, .SFS_SP, .SFS_DEMCNT, .SFS_TESTCNT, .SFS_UPTIME, .SFS_ECC_CE, .LCT_FIO_STAT, .LCT_FIO_FRMERR, .LCT_FIO_FLTCNT, .HCX_PWR_STAT, .HCX_PWR_VIN, .HCX_PWR_VHOLD, .HCX_PWR_CAP, .HCX_LANE_RESET, .HCX_WARM_RESET, .HCX_PARK, .HCX_SAG_CNT, .HCX_DIP_CNT, .HCX_FLUSH_LAST, .HCX_START_T, .HCX_PD_STAT, .PWR_STAT, .PWR_PD, .PWR_MBIST_STAT, .PWR_MBIST_REPAIR, .PWR_LBIST_FAIL, .PWR_BIST_CNT, .PWR_BIST_MS, .PWR_LBIST_SIG_LO, .PWR_LBIST_SIG_HI, .LCT_FW_STAT, .LCT_FW_BUILD]

/-- Names 10 of the list of all registers. -/
def Reg.names10 : List Reg :=
  [.LCT_FW_BANK, .LCT_TIMG_STAT, .LCT_FW_SUSP, .KEY_STAT, .KEY_CFG, .KEY_REMASK, .KEY_SLOT_SEL, .KEY_SLOT_STAT, .KEY_SLOT_CURID, .KEY_SLOT_NEXTID, .KEY_UNWRAP_ERR, .KEY_MEAS, .HCX_LC, .HCX_FW_STAT, .HCX_FW_BANK, .HCX_TEMP, .PWR_TEMP]

/-- Every register set. -/
def Reg.all : List Reg :=
  Reg.names0 ++ Reg.names1 ++ Reg.names2 ++ Reg.names3 ++ Reg.names4 ++ Reg.names5 ++ Reg.names6 ++ Reg.names7 ++ Reg.names8 ++ Reg.names9 ++ Reg.names10

/-- The value a register takes at reset: what its table states, else the value the assumption log names. -/
def Reg.reset (r : Reg) : Word := w32 r.info.rst

/-- The key of register `r` at indices `i`, `j`: different registers have different keys. -/
def Reg.key (r : Reg) (i j : Nat) : Nat := Nat.pair r.ctorIdx (Nat.pair i j)

/-- The reset value of the register with this key. -/
def resetOfKey (k : Nat) : Word := (Reg.ofNat (Nat.unpair k).1).reset

/-- The registers of one window, held sparse: an unlisted register holds its reset value. -/
structure RegFile where
  cells : NMap Word
  deriving DecidableEq, Repr

/-- Every register at its reset value. -/
def RegFile.fresh : RegFile := ⟨⟨[]⟩⟩

/-- A register's value. -/
def RegFile.get (f : RegFile) (r : Reg) (i j : Nat) : Word := (f.cells.get? (r.key i j)).getD r.reset

/-- The registers with one value replaced; a register at its reset value is not listed. -/
def RegFile.set (f : RegFile) (r : Reg) (i j : Nat) (v : Word) : RegFile :=
  if v = r.reset then ⟨f.cells.del (r.key i j)⟩ else ⟨f.cells.put (r.key i j) v⟩

/-- The canonical form: keys rise and no register is listed at its reset value. -/
abbrev RegFile.wf (f : RegFile) : Prop := f.cells.wf ∧ ∀ c ∈ f.cells.cells, c.2 ≠ resetOfKey c.1

/-- The registers with those `p` does not accept back at reset. -/
def RegFile.keep (f : RegFile) (p : Reg → Bool) : RegFile :=
  ⟨f.cells.keep (fun k _ => p (Reg.ofNat (Nat.unpair k).1))⟩

/-- The index of an offset within a set: outer index, then inner index. -/
def RegInfo.index (x : RegInfo) (off : Nat) : Option (Nat × Nat) :=
  if off < x.off then none else
  let d := off - x.off
  let i := if x.s1 = 0 then 0 else d / x.s1
  let rest := d - i * x.s1
  let j := if x.s2 = 0 then 0 else rest / x.s2
  if rest = j * x.s2 ∧ i < x.n1 ∧ j < x.n2 then some (i, j) else none

/-- The register that lies at an offset of a window, with its indices (R460, R461). -/
def regAt (win : Win) (off : Nat) : Option (Reg × Nat × Nat) :=
  Reg.all.findSome? (fun r =>
    let x := r.info
    if x.win = win then (x.index off).map (fun p => (r, p.1, p.2)) else none)

end Sys2Proof.Machine
end

