-- ==== Sys2Proof/Syntax.lean ====
section
/-! DEFINITION. The commands the module takes, one constructor for each row of the opcode table, and the operands
they carry. Frames, images and records are given by their fields; where the spec gives no layout, or a check rests on
keys or digests, the operand says how the check comes out (assumption log 3 and 4). -/

namespace Sys2Proof

open Sys2Proof.Machine


/-! ### Frames of the process network (R53 to R59, R245 to R263) -/

/-- An IEEE 802.1Q tag: the VLAN ID and the priority code point. -/
structure Tag where
  vid : Nat
  pcp : Nat
  deriving DecidableEq, Repr

/-- An IEC 62351-6 security extension: whether the payload is encrypted, the algorithm (128 or 256 for AES-GMAC, any
other number for another), the key identifier, and whether the tag verifies under the key of that identifier in the
slot the receiver names. -/
structure SecExt where
  encrypted : Bool
  alg       : Nat
  keyId     : Nat
  tagOk     : Bool
  deriving DecidableEq, Repr

/-- One ASDU of a sampled-value frame (R55): values with their IEC 61850 quality words. -/
structure Asdu where
  svId    : List Byte
  smpCnt  : Nat
  confRev : Nat
  synch   : Nat
  gm      : Option Nat
  rate    : Option Nat
  smpMod  : Option Nat
  vals    : List (Int × Nat)
  deriving DecidableEq, Repr

/-- A sampled-value frame as parsed: addresses, tag, EtherType, APPID, its Length field, its octets from APPID to the
end of the APDU and those of its security extension, the simulation bit, noASDU, the ASDUs, whether the BER encoding is
right, and the security extension. -/
structure SvFrame where
  dst    : Nat
  src    : Nat
  tag    : Option Tag
  etype  : Nat
  appId  : Nat
  length : Nat
  apdu   : Nat
  extLen : Nat
  sim    : Bool
  noAsdu : Nat
  asdus  : List Asdu
  berOk  : Bool
  ext    : Option SecExt
  deriving DecidableEq, Repr

/-- A burst frame as received (R56): addresses, tag, EtherType, and the octets from the first after the EtherType to
the last before the FCS. -/
structure BurstFrame where
  dst   : Nat
  src   : Nat
  tag   : Option Tag
  etype : Nat
  bytes : List Byte
  deriving DecidableEq, Repr


/-! ### Datum time (R272 to R292) -/

/-- The grandmaster data set an Announce carries, compared as IEEE 1588-2008 compares data sets (R279). -/
structure DataSet where
  prio1    : Nat
  cls      : Nat
  accuracy : Nat
  variance : Nat
  prio2    : Nat
  gm       : Nat
  steps    : Nat
  deriving DecidableEq, Repr

/-- What every PTP message of R279 carries: its port, domain, sequence number, the sender's port identity and the
correction in 1/65,536 ns. -/
structure PtpHead where
  port   : Nat
  domain : Nat
  seq    : Nat
  src    : Nat
  corr   : Int
  deriving DecidableEq, Repr

/-- Time properties of an Announce (R279): currentUtcOffset with its valid bit, and the leap bits. -/
structure UtcInfo where
  valid  : Bool
  leap61 : Bool
  leap59 : Bool
  offset : Int
  deriving DecidableEq, Repr

/-- The bodies of the PTP messages the lane sends or forwards. Times are in 1/65,536 ns. -/
inductive PtpBody
  | announce (ds : DataSet) (utc : UtcInfo)
  | sync (origin corr : Int) (twoStep : Bool)
  | followUp (origin corr : Int)
  | pdelayReq
  | pdelayResp (t2 : Int) (requester : Nat)
  | pdelayRespFollowUp (t3 : Int) (requester : Nat)
  deriving DecidableEq, Repr

/-- A Sync and Follow_Up of the best master at the initial set: its port, the time it gives, the sender's port identity
and its data set. -/
structure PtpFirst where
  port : Nat
  t    : Int
  src  : Nat
  ds   : DataSet
  deriving DecidableEq, Repr

/-- What the initial set of R276 finds at its sources, in their order: the twin's datum, PTP, the raw count of a 1PPS
pulse, and the host-complex clock. Times are in 1/65,536 ns at the raw count given. -/
structure InitSources where
  raw  : Nat
  twin : Option Int
  ptp  : Option PtpFirst
  pps  : Option Nat
  host : Int
  deriving DecidableEq, Repr


/-! ### Frames through the lane switch (R243 to R265) -/

/-- A GOOSE frame as parsed or as built: its members are BOOLEANs, each with its 13-bit Quality where it has one.
`t` is in datum ns, `tq` the TimeQuality octet, `tal` timeAllowedtoLive in ms. -/
structure GooseFrame where
  dst     : Nat
  src     : Nat
  tag     : Option Tag
  etype   : Nat
  appId   : Nat
  gocbRef : List Byte
  datSet  : List Byte
  goId    : List Byte
  t       : Int
  tq      : Nat
  tal     : Nat
  stNum   : Nat
  sqNum   : Nat
  confRev : Nat
  sim     : Bool
  test    : Bool
  ndsCom  : Bool
  members : List (Bool × Option Nat)
  berOk   : Bool
  ext     : Option SecExt
  deriving DecidableEq, Repr

/-- An HSR tag (true) or a PRP trailer, with its sequence number and its LAN or path, 0 A or 1 B. -/
structure RedTag where
  hsr : Bool
  seq : Nat
  lan : Nat
  deriving DecidableEq, Repr

/-- What a frame carries. A PTP message has its domainNumber and, where the lane passes it on as a transparent clock, its
sender's port identity and the datum instant at which it came in; `data` is any payload the switch only moves. -/
inductive Payload
  | sv (f : SvFrame)
  | goose (f : GooseFrame)
  | supervision (node : Nat)
  | record (bytes : List Byte)
  | ptp (m : PtpBody) (domain : Nat) (sender : Option Nat) (seq : Nat) (arrived : Option Int)
  | data (bytes : List Byte)
  deriving DecidableEq, Repr

/-- A frame at the switch: addresses, its outermost IEEE 802.1Q tag, EtherType, its length from destination address to
FCS with every tag and trailer, the ECN field where it is IPv4 or IPv6, and its redundancy tag or trailer. -/
structure Frame where
  dst   : Nat
  src   : Nat
  tag   : Option Tag
  etype : Nat
  len   : Nat
  ecn   : Option Nat
  red   : Option RedTag
  body  : Payload
  deriving DecidableEq, Repr

/-- A port declares link down at an instant; `cut` says whether a frame was leaving it (R252). -/
structure LinkDown where
  now : Int
  cut : Bool
  deriving DecidableEq, Repr

/-- A wake pattern as a detector hears it: the start burst, the bit bursts in their order, the gaps after every burst,
and the silence that closes it, in µs. -/
structure WakePattern where
  start   : Nat
  bursts  : List Nat
  gaps    : List Nat
  silence : Nat
  deriving DecidableEq, Repr

/-! ### Firmware, flash and keys (R405 to R426) -/

/-- A part that boots from its own flash: a lane, the host complex or the safety lane. -/
inductive Part
  | lane (l : LaneId)
  | host
  | safety
  deriving DecidableEq, Repr

/-- An image header of R410 with its markers. `sigOk` and `bodyOk` are whether SIG verifies and the body's SHA-384
equals DIGEST. -/
structure FwHeader where
  magic   : Nat
  kind    : Nat
  genLo   : Nat
  genHi   : Nat
  pmin    : Nat
  pmax    : Nat
  spmin   : Nat
  spmax   : Nat
  build   : Nat
  svn     : Nat
  len     : Nat
  seq     : Nat
  digest  : Nat
  sig     : Nat
  signer  : Nat
  hcrc    : Nat
  sigOk   : Bool
  bodyOk  : Bool
  eip     : Word
  commit  : Word
  confirm : Word
  att0    : Word
  att1    : Word
  att2    : Word
  retire  : Word
  deriving DecidableEq, Repr

/-- A page frame of the programming port (R449): the 256 octets of image and the CRC-32 that follows them. -/
structure ProgPage where
  octets : List Byte
  crc    : Nat
  deriving DecidableEq, Repr

/-- What the field side's next frame meets (R375): the levels sampled at the eight pins for it, and the bits that the
serial line inverts on the way, 0 for a frame that arrives as it was sent. -/
structure FieldRx where
  pins : Nat
  err  : Word
  deriving DecidableEq, Repr

/-- A key package of KEY PUT (R423): its slot and position, key identifier, algorithm (1 AES-128, 2 AES-256), the
key, whether the signature verifies under the owner root, whether it unwraps, and the NEXTIMG flag. -/
structure KeyPkg where
  slot    : Nat
  next    : Bool
  keyId   : Nat
  alg     : Nat
  key     : BitVec 256
  sigOk   : Bool
  wrapOk  : Bool
  nextImg : Bool
  deriving DecidableEq, Repr


/-! ### Conditioning (R81) -/

/-- A FIR coefficient set: 0 symmetric, 1 antisymmetric, 2 general; DELAY in 1/65,536 input periods; the taps. -/
structure FirSet where
  typ   : Nat
  delay : Nat
  taps  : List Word
  deriving DecidableEq, Repr



/-! ### Element slots (R126) -/

/-- A slot descriptor: 64 little-endian words; words past the end read 0. -/
abbrev Desc := List Word

/-- A fabric fault that a stage meets: its cause (1 shadow mismatch, 2 uncorrectable ECC error, 3 residue check), the
physical pipeline and the slot (R132). -/
structure FabFault where
  cause : Nat
  pipe  : Nat
  slot  : Nat
  deriving DecidableEq, Repr


/-! ### Parcels (R164 to R187) -/

/-- An item of an input list (R173). -/
inductive InItem
  | el (slot : Nat)
  | chain (c : Nat)
  | hist (ch : Nat)
  | ilu (j : Nat)
  | outVal (parcel o : Nat)
  | outBits (parcel : Nat)
  | wavefront (wmax : Nat)
  deriving DecidableEq, Repr

/-- A strand's settings: core, slice offset and length in ns, declared budget in cycles, entry address, stack top, and
in the core's TCM its code region, its data and stack region (first address and octets) and its input block. -/
structure StrandCfg where
  core   : Nat
  off    : Nat
  len    : Nat
  budget : Nat
  entry  : Nat
  stack  : Nat
  code   : Nat × Nat
  data   : Nat × Nat
  block  : Nat
  deriving DecidableEq, Repr

/-- A parcel image with its grant: strands, N and PHASE, HIST, input list, granted history channels and chains, owned
command channels, fallbacks (none for HOLD), critical-state and LPDDR allocations (first address and octets), declared
state, initial data by strand and address, and whether its digest and signature verify. -/
structure ParcelImg where
  strands : List StrandCfg
  n       : Nat
  phase   : Nat
  hist    : Bool
  items   : List InItem
  chans   : List Nat
  chains  : List Nat
  cmds    : List Nat
  fbVal   : NMap Word
  fbBits  : NMap Bool
  fbCmd   : NMap Word
  crit    : Nat × Nat
  lpddr   : Nat × Nat
  dstate  : Nat × Nat
  init    : List (Nat × Nat × List Byte)
  ok      : Bool
  deriving DecidableEq, Repr

/-- A strand's registers: pc, integer and floating-point registers that are not zero, fcsr; the address an LR has
reserved, and how many SC have been tried. -/
structure StrandRegs where
  pc   : Nat
  x    : NMap DWord
  f    : NMap DWord
  fcsr : Word
  resv : Option Nat
  tries : Nat
  deriving DecidableEq, Repr

/-- A VF's quota on one lane (R317). -/
structure LaneQuota where
  slot0   : Nat
  slots   : Nat
  parcels : Nat
  core    : List Nat
  chains  : Nat
  chan0   : Nat
  chans   : Nat
  deriving DecidableEq, Repr

/-- A quota record (R317). -/
structure Quota where
  lane    : Quad LaneQuota
  extents : Nat
  entries : Nat
  vectors : Nat
  deriving DecidableEq, Repr

/-- What a closure learns from outside the lane: the decisions that a standby has had from its active lane on switches of
its parcels (R322); the ILU memory errors corrected while no program executes (R206). -/
structure ClosureIn where
  told : List (Nat × Bool)
  ce   : Nat
  deriving DecidableEq, Repr

/-! ### Farusk logic (R201) -/

/-- A Farusk instruction: operand flags are 12 bits, to which PAGE adds bit 12. -/
inductive FOp
  | ld (f : Nat) | ldn (f : Nat) | andf (f : Nat) | andn (f : Nat) | orf (f : Nat) | orn (f : Nat) | xorf (f : Nat)
  | xorn (f : Nat) | st (f : Nat) | stn (f : Nat) | setf (f : Nat) | rst (f : Nat) | re (f : Nat) | fe (f : Nat)
  | ton (t : Nat) | tof (t : Nat) | tp (t : Nat)
  | ctu (c : Nat) | ctd (c : Nat) | crs (c : Nat) | cld (c : Nat)
  | faruskNop | push | popa | popo | page0 | page1 | endScan
  | jc (k : Nat) | jcn (k : Nat)
  deriving DecidableEq, Repr


/-! ### State that state transfer copies (R222) -/

namespace Machine

/-- One sample of a stream in history: its count (smpCnt, or SEQ × 1,024 + place for bursts), its instant in
1/65,536 ns, the tick whose cut-off it falls due at, the raw values and quality octets of R69, and the statuses that
hold for the whole sample. -/
structure Sample where
  cnt     : Nat
  inst    : Int
  due     : Nat
  vals    : List Int
  qual    : List Nat
  sync    : Bool
  test    : Bool
  invalid : Bool
  quest   : Bool
  knext   : Bool
  /-- The ring position it was written to. -/
  pos     : Nat
  /-- The tick whose cut-off its write met (R35). -/
  wtick   : Nat
  deriving DecidableEq, Repr

/-- The runs and states of one view of a stream (R65, R68). -/
structure View where
  miss  : Nat
  hit   : Nat
  stale : Bool
  lost  : Bool
  deriving DecidableEq, Repr

/-- An entry of the tick index of R70: what each view read at the cut-off of a tick. -/
structure TickRead where
  tick : Nat
  svc  : Option Sample
  tst  : Option Sample
  svcV : View
  tstV : View
  deriving DecidableEq, Repr

/-- What falls due and was judged at the last cut-off: the sample, or the instant at which one was expected, and
whether it is a hit in the service and in the test view. -/
structure DueItem where
  inst : Int
  smp  : Option Sample
  svc  : Bool
  tst  : Bool
  deriving DecidableEq, Repr

/-- The record of a burst frame beside its rings (R71): SEQ, the first instant in 1/65,536 ns, QUAL. -/
structure BurstRec where
  seq   : Nat
  first : Int
  qual  : Nat
  deriving DecidableEq, Repr

/-- What a subscription's stream holds beside its registers. -/
structure Stream where
  /-- The last 64 identifiers accepted, newest first (R60). -/
  seen    : List Nat
  /-- Samples in tick SRAM, latest instant first (R70, R71). -/
  hist    : List Sample
  svc     : View
  tst     : View
  /-- The next expected count and instant (R64). -/
  expect  : Option (Nat × Int)
  /-- The tick index by tick number mod 1,024. -/
  index   : NMap TickRead
  /-- What fell due at the last cut-off, in order of instant. -/
  dueNow  : List DueItem
  /-- What fell due in freeze ticks and conditioning has not consumed (R223). -/
  frozen  : List DueItem
  /-- Samples per burst frame, as last received. -/
  nsamp   : Nat
  /-- The valid KEY_ID last accepted and the greatest SEQ under it, and whether SEQ has wrapped under it (R58). -/
  key     : Option (Nat × Nat)
  wrapped : Bool
  /-- Entries into and exits from LOST not yet reported as events (R67). -/
  lostEvt : Nat
  recEvt  : Nat
  /-- The tick of the last history reset (R73). -/
  since   : Nat
  /-- Samples written to the ring since the reset. -/
  wrote   : Nat
  /-- Samples copied to LPDDR, newest first, with the tick of the copy (R72). -/
  lpddr   : List (Nat × Sample)
  /-- Burst streams: the record of each frame in the rings, newest first (R71). -/
  frames  : List BurstRec
  /-- The quality octets by channel, and the stream status, that the quality-change log last recorded (R72). -/
  lastQ   : List Nat
  lastSt  : Option Nat
  deriving DecidableEq, Repr

/-- What one consumed input sample adds to a chain's span (R78): received or a held value, arrival-timed,
synchronised, questionable. -/
structure SpanBit where
  recv  : Bool
  at_   : Bool
  sync  : Bool
  quest : Bool
  deriving DecidableEq, Repr

/-- A derived output (R93): value, status octet, tick written, represented instant in datum ns, grid tick. -/
structure DerOut where
  val    : Word
  status : Nat
  tick   : Nat
  inst   : Int
  grid   : Nat
  deriving DecidableEq, Repr

/-- A sample of a block of single-cycle settling (R87): its source, corrected instant, value and marks. -/
structure BlkSample where
  second : Bool
  inst   : Int
  v      : Int
  at_    : Bool
  sync   : Bool
  quest  : Bool
  deriving DecidableEq, Repr

/-- A conditioning chain. -/
structure Chain where
  /-- The source in use: false SRC0, true SRC1. -/
  src     : Bool
  /-- The decimation phase follows the sample count of the datum second (R80). -/
  aligned : Option Bool
  /-- The count of the next consumed sample, or the samples consumed since the reset. -/
  cnt     : Nat
  /-- FIR inputs since the reset. -/
  firCnt  : Nat
  /-- CIC integrators and combs, 96 bits (R79). -/
  integ   : List (BitVec 96)
  combs   : List (BitVec 96)
  /-- The newest valid value (R76). -/
  held    : Option Int
  /-- Valid samples consumed since the reset. -/
  valid   : Nat
  /-- The newest S_c consumed samples, newest first (R78). -/
  span    : List SpanBit
  /-- The source was LOST at the cut-off that consumed the newest sample. -/
  lost    : Bool
  /-- FIR inputs and FIR outputs, newest first: instant in 1/65,536 ns and binary64 data. -/
  firLine : List (Int × DWord)
  rsLine  : List (Int × DWord)
  /-- Outputs computed and held until tick k + LAT (R85). -/
  wait    : List DerOut
  /-- Single-cycle settling: samples not yet in an output, misses (source, instant), the last grid tick written, and
  the source of each block by its starting grid tick (R87 to R89). -/
  blk     : List BlkSample
  blkMiss : List (Bool × Int)
  blkDone : Option Nat
  blkSrc  : List (Nat × Bool)
  /-- The output ring, newest first (R93). -/
  ring    : List DerOut
  /-- The tick of the last reset. -/
  since   : Nat
  deriving DecidableEq, Repr

/-- A history sample that fell due and that a window has not yet consumed (R113): its instant, and its count where it
is present. -/
structure WinDue where
  inst : Int
  cnt  : Option Nat
  deriving DecidableEq, Repr

/-- A slot's state (R468). `acc` holds A and B (kinds 0x3 and 0x5) or θ (kind 0x4) as binary64; `cnt` the count or
the ticks of kinds 0x8, 0x9 and 0xB; `since` the ticks of kind 0x1; `stale` the samples still to be consumed after a
BLOCK (R109); `wait` the due samples not yet consumed (R113). -/
structure SlotSt where
  cPrev    : Bool
  op       : Bool
  blk      : Bool
  fresh    : Bool
  pulse    : Bool
  taValid  : Bool
  lostPrev : Nat
  puCnt    : Nat
  doCnt    : Nat
  bitPrev  : Nat
  held     : List Word
  since    : Nat
  aRe      : DWord
  aIm      : DWord
  bRe      : DWord
  bIm      : DWord
  m        : Nat
  wpos     : Nat
  used     : Nat
  lastPos  : Nat
  stale    : Nat
  cnt      : Nat
  tA       : Nat
  wait     : List WinDue
  deriving DecidableEq, Repr

/-- A trip line (R140): at trip level, the tick of its latest assertion, sealed, a host reset pending; the level it is
held at while SAFE (energised or not, R149); consecutive readback mismatches (R143). -/
structure TripLine where
  trip   : Bool
  ta     : Nat
  sealed : Bool
  pend   : Bool
  safe   : Option Bool
  mism   : Nat
  deriving DecidableEq, Repr

/-- A GOOSE publication's schedule (R147, R148): the members and test bits last sent, stNum and sqNum, the instant of
the latest change, the repeat interval and the tick of the next repeat; `force` makes the next latch a change; `want`
is 1 while a change, 2 while a repeat waits to leave in its tick. -/
structure GoosePub where
  mem    : List (Bool × Bool)
  st     : Nat
  sq     : Nat
  t      : Int
  every  : Nat
  next   : Nat
  sentAt : Nat
  begun  : Bool
  force  : Bool
  want   : Nat
  deriving DecidableEq, Repr

/-- A command channel between closures: host value, conditioned target, output, marks; `justOn` in its enabling tick
(R153). -/
structure CmdCh where
  host    : Word
  tgt     : Word
  y       : Word
  ramping : Bool
  fall    : Bool
  held    : Bool
  test    : Bool
  justOn  : Bool
  deriving DecidableEq, Repr

/-- A timer's state (R203): ET, Q, IN_PREV and T_LAST, none until the timer first executes. -/
structure TmrSt where
  et     : Nat
  q      : Bool
  inPrev : Bool
  tLast  : Option Nat
  deriving DecidableEq, Repr

/-- A counter's state (R204). -/
structure CtrSt where
  cv : Nat
  up : Bool
  dn : Bool
  deriving DecidableEq, Repr

/-- An element output (R108). -/
structure ElOut where
  val    : Word
  status : Nat
  tcnt   : Nat
  deriving DecidableEq, Repr

/-- A sample the wavefront detector holds: raw value, instant, CLIP, TEST, AT. -/
structure WfSample where
  x    : Int
  inst : Int
  clip : Bool
  test : Bool
  at_  : Bool
  deriving DecidableEq, Repr

/-- A wavefront event (R97), with the tick it entered the ring. -/
structure WfEvent where
  time  : Int
  amp   : Int
  seq   : Nat
  neg   : Bool
  clip  : Bool
  test  : Bool
  at_   : Bool
  chain : Nat
  kspan : Nat
  inst  : Int
  tick  : Nat
  deriving DecidableEq, Repr

/-- A wavefront detector (R94, R95): its sample line newest first, the previous d, samples in a row below ARM, armed,
and the events waiting for sample i + K − 1 with the samples still to come. -/
structure Wf where
  line  : List WfSample
  below : Nat
  armed : Bool
  last  : Option Int
  opens : List (Nat × WfEvent)
  deriving DecidableEq, Repr

/-- A program's machine (R200): whether a scan is in progress, its first tick, PC, ACC, PAGE and stack (top first);
the steps used in the scan and those of this tick's allotment; stall steps still to serve; the flags as it reads
them (R195), with its own writes; the timers and counters it has changed in the scan; and the tick of its first scan
since load, CLEAR or restore. -/
structure IluProg where
  scan  : Bool
  start : Nat
  pc    : Nat
  acc   : Bool
  page  : Bool
  stack : List Bool
  used  : Nat
  spent : Nat
  stall : Nat
  view  : Nat
  tmr   : NMap TmrSt
  ctr   : NMap CtrSt
  tick0 : Option Nat
  deriving DecidableEq, Repr

/-- A GOOSE subscription (R198, R199): the member bits last received and those with invalid quality; the member flags
as last latched; VALID and its deadline in 1/65,536 ns; stNum and sqNum of the last accepted frame; an expiry not yet
reported; VALID has been cleared by an expiry and the second event is owed. -/
structure GsSub where
  raw   : Nat
  bad   : Nat
  flags : Nat
  valid : Bool
  dead  : Option Int
  last  : Option (Nat × Nat)
  evt   : Nat
  owed  : Bool
  deriving DecidableEq, Repr

/-- Octets by address, none listed that is zero: an unlisted octet reads zero. -/
abbrev ByteMem := NMap Byte

/-- A strand in a cycle: its registers, whether it has begun and has written DONE, and the core cycles used. -/
structure Strand where
  regs  : StrandRegs
  begun : Bool
  done  : Bool
  used  : Nat
  deriving DecidableEq, Repr

/-- A parcel (R178, R470): its image, its memory, and its cycle. STATE, FB, INCYC and CYCTICK are in LCT_PCL_STAT. -/
structure Parcel where
  img      : Option ParcelImg
  /-- TCM by strand × 2^32 + address; LPDDR by its address. -/
  mem      : ByteMem
  /-- `mem` as the cycle in progress found it, and the strand that last wrote each shared octet in it (R177). -/
  start    : ByteMem
  wrBy     : NMap Nat
  mailCur  : ByteMem
  mailPub  : ByteMem
  critWork : ByteMem
  critDone : ByteMem
  /-- The output page's values and bits (octets 0x000 to 0x107). -/
  page     : ByteMem
  /-- Targets written in this cycle by channel. -/
  cmdWr    : NMap Word
  /-- The page as last published. -/
  last     : ByteMem
  /-- Targets as last published by channel. -/
  lastCmd  : NMap Word
  /-- Output values and bits as readers see them (R17, R185). -/
  pubVals  : NMap Word
  pubBits  : Nat
  /-- The input block of the cycle. -/
  block    : List Byte
  strands  : List Strand
  cycle    : Nat
  first    : Bool
  missed   : Bool
  restored : Bool
  histRng  : Bool
  /-- A strand has trapped or violated its grant in this tick: STOPPED from the next edge (R184). -/
  halt     : Bool
  /-- The CRC-32 of the last publication (R181). -/
  crc      : Nat
  /-- The newest wavefront event copied: the events copied so far (R173). -/
  wfSeen   : Nat
  /-- Granules of 1 KiB still to be copied to a migration target, as ranges from a first to a last one; none when not
  tracked (R320). -/
  dirty    : Option (List (Nat × Nat))
  ready    : Bool
  deriving DecidableEq, Repr

end Machine


/-! ### Recording (R324 to R333) -/

/-- A channel list entry of a record definition: kind 1 history, 2 derived, 3 burst, 4 element; its index (subscription
and burst channel as subscription × 4 + channel); HIST with HLO and HHI as binary32; MAP with PLO and PHI raw. -/
structure RecCh where
  kind  : Nat
  index : Nat
  hist  : Bool
  hlo   : Word
  hhi   : Word
  map   : Bool
  plo   : Int
  phi   : Int
  deriving DecidableEq, Repr

/-- An attach record (R343): doorbell addresses, NSID, log2 of the block size, queue entries, MDTS, usable size. -/
structure AttachRec where
  sqDb    : Nat
  cqDb    : Nat
  nsid    : Nat
  lbs     : Nat
  sqN     : Nat
  cqN     : Nat
  mdts    : Nat
  size    : Nat
  resvOk  : Bool
  deriving DecidableEq, Repr

/-- A catalogue entry of an extent that is not FREE (R338): ALLOC_SEQ, state, function, source, TRUNC, record ID, blocks
filled. -/
structure ArcEntry where
  seq   : Nat
  state : Nat
  fn    : Nat
  src   : Nat
  trunc : Bool
  recId : Nat
  fill  : Nat
  deriving DecidableEq, Repr

/-- What recovery reads beside the header (R338, R342): catalogue page slots, by page and slot, and the blocks of OPEN
extents, as octets. -/
structure ArcRead where
  pages  : List (Nat × Bool × List Byte)
  blocks : List (Nat × List (List Byte))
  deriving DecidableEq, Repr


/-! ### The traverse image -/

/-- A traverse image: the interface generation it was made for, the values of the registers that mirror it, and what
it holds that no register shows. The spec gives the image no layout (assumption log 3). -/
structure Image where
  /-- Interface generation (R406). -/
  gen     : Nat
  /-- The registers that mirror the image (R53 and the chapters' register tables). -/
  regs    : RegFile
  /-- The first history channel of each subscription. -/
  subCh0  : NMap Nat
  /-- FIR coefficient sets (R81). -/
  firs    : NMap FirSet
  /-- Skew calibrations by history channel, in ns (R90). -/
  skews   : NMap Int
  /-- Slot descriptors (R126). -/
  slots   : NMap Desc
  /-- FDB entries, four words each (R251). -/
  fdb     : NMap (List Word)
  /-- HWM, LWM and LIMIT of IN for TC3 and TC4 (R258, R259). -/
  inThr   : NMap (Nat × Nat × Nat)
  /-- gocbRef, datSet, goID and confRev of the GOOSE publications (R147). -/
  goose   : NMap (List Byte × List Byte × List Byte × Nat)
  /-- Working flags of each ILU program, as ranges from a first to a last flag (R189). -/
  iluOwn  : NMap (List (Nat × Nat))
  /-- Channel lists of the record definitions (R325). -/
  recs    : NMap (List RecCh)
  /-- Proof mask: trip lines in bits 0 to 15, field IO pins in bits 16 to 23 (R242). -/
  proof   : Nat
  deriving DecidableEq, Repr

/-- The image of a lane that has loaded none. -/
def Image.empty : Image :=
  { gen := 0, regs := .fresh, subCh0 := ⟨[]⟩, firs := ⟨[]⟩, skews := ⟨[]⟩, slots := ⟨[]⟩, fdb := ⟨[]⟩, inThr := ⟨[]⟩,
    goose := ⟨[]⟩, iluOwn := ⟨[]⟩, recs := ⟨[]⟩, proof := 0 }

/-! ### Host commands (R301 to R306, R343, R349, R417, R423) -/

/-- A saved parcel record (R323): the image and grant, CYCLE, memory, mailboxes, critical state and published outputs;
the length it says it has, and whether its digest holds. -/
structure SavedRec where
  img      : ParcelImg
  cycle    : Nat
  mem      : NMap Byte
  mailCur  : NMap Byte
  mailPub  : NMap Byte
  critDone : NMap Byte
  page     : NMap Byte
  cmd      : NMap Word
  len      : Nat
  ok       : Bool
  deriving DecidableEq, Repr

/-- A traverse image sent to a lane: whether its digest and its proof verify, and the tick in progress when staging
and checking end (R306, R45). -/
structure ImgLoad where
  img      : Image
  digestOk : Bool
  proofOk  : Bool
  ready    : Nat
  deriving DecidableEq, Repr

/-- A command of a function, by its opcode and operation. -/
inductive HostCmd
  | nop
  | loadImage (x : ImgLoad)
  | readSlot (slot : Nat)
  | writeSlot (slot : Nat) (d : Desc)
  | setQuota (vf : Nat) (q : Quota)
  | parcel (p op : Nat) (img : ParcelImg) (clear auto : Bool)
  | migrate (p op target q : Nat) (r : SavedRec) (len : Nat)
  | setTarget (ch : Nat) (v : Word)
  | forceBits (value mask : Nat)
  | hostFlags (value mask : Nat)
  | tlReset (lines : Nat)
  | iluCtrl (p op : Nat)
  | twinSwap
  | setTod (t : Int)
  | timeAccept (e : Int)
  | timeReject
  | arcAttach (r : AttachRec)
  | arcDetach
  | arcFormat (r : AttachRec)
  | arcRead (off len : Nat)
  | arcWrite (off : Nat) (bytes : List Byte)
  | arcAlloc
  | arcClose (ext : Nat)
  | arcPin (ext : Nat)
  | arcUnpin (ext : Nat)
  | arcFree (ext : Nat)
  | arcList (first room : Nat)
  | arcTrigger (defs : Nat)
  | fbRead (from_ count : Nat)
  | fbFlush
  | clearGen
  | clearSafe
  | keyPut (k : KeyPkg)
  | keyPrepare
  | keyRoll (slots : List Nat)
  | keyDrop (next : Bool) (slots : List Nat)
  | own (root : Nat) (signed : Bool)
  | keyRelease
  | enterService
  | leaveService
  | retire
  | stage (h : FwHeader) (halt : Option Nat)
  | activate
  | raiseSvn
  | fnReset (fn : Nat)
  deriving DecidableEq, Repr

/-- A command's header: the function, TAG, LANE (0 to 3 lanes A to D, 4 the host complex), APPLY, ADDR and LEN, and the
instant, in ns under R309, at which the host complex takes it. -/
structure CmdHead where
  fn    : Nat
  tag   : Nat
  lane  : Nat
  apply : Nat
  addr  : Nat
  len   : Nat
  now   : Int
  deriving DecidableEq, Repr

/-- A transmit descriptor's 64 octets as fetched, and the frame at its ADDR (R307). -/
structure TxDesc where
  bytes : List Byte
  frame : Frame
  deriving DecidableEq, Repr

/-- A posted receive descriptor's 64 octets as fetched (R308). -/
structure RxDesc where
  bytes : List Byte
  deriving DecidableEq, Repr

/-- What the buffer of a command holds: octets, or one of the objects to which the spec gives no octet layout; the slots
and the key position that an operation of KEY names; the root of OWN with whether its signature verifies. -/
inductive CmdBuf
  | none
  | octets (l : List Byte)
  | image (x : ImgLoad)
  | parcel (img : ParcelImg)
  | saved (r : SavedRec)
  | key (k : KeyPkg)
  | slots (next : Bool) (l : List Nat)
  | own (root : Nat) (signed : Bool)
  | fw (h : FwHeader) (halt : Option Nat)
  deriving DecidableEq, Repr

/-- A command descriptor's 64 octets as fetched, and what its buffer holds (R301). -/
structure CmdDesc where
  bytes : List Byte
  buf   : CmdBuf
  deriving DecidableEq, Repr

/-! ### The sightline (R215 to R242) -/

/-- A part of the state a COPY frame carries (R222). -/
inductive CopyPart
  | stream (n : Nat) (x : Machine.Stream)
  | chain (c : Nat) (x : Machine.Chain)
  | slot (n : Nat) (x : Machine.SlotSt)
  | store (i : Nat) (v : Word)
  | line (i : Nat) (x : Machine.TripLine)
  | pub (g : Nat) (x : Machine.GoosePub)
  | cmd (c : Nat) (x : Machine.CmdCh)
  | tmr (i : Nat) (x : Machine.TmrSt)
  | ctr (j : Nat) (x : Machine.CtrSt)
  | reg (r : Machine.Reg) (i j : Nat) (v : Word)
  | pclMem (p addr : Nat) (bytes : List Byte)
  | mailCur (p addr : Nat) (bytes : List Byte)
  | mailPub (p addr : Nat) (bytes : List Byte)
  | crit (p addr : Nat) (bytes : List Byte)
  | elOut (n : Nat) (x : Machine.ElOut)
  | matrix (tm gb gbT trg flg bsp : Nat)
  | wf (n : Nat) (x : Machine.Wf)
  | wfRing (l : List Machine.WfEvent) (seq : Nat)
  | prog (p : Nat) (x : Machine.IluProg)
  | goose (g : Nat) (x : Machine.GsSub)
  | iluIn (host gsLat fio : Nat)
  | pcl (p : Nat) (x : Machine.Parcel)
  deriving DecidableEq, Repr

/-- An INTAKE record (R224): the subscription, smpCnt or SEQ, the tick it belongs to and the offset of its first
instant from that tick's edge in 1/65,536 ns, the sample marks, and for each instant the values, with the quality octets. -/
structure IntakeRec where
  sub     : Nat
  cnt     : Nat
  tick    : Nat
  off     : Int
  sync    : Bool
  test    : Bool
  invalid : Bool
  quest   : Bool
  knext   : Bool
  rows    : List (List Int)
  qual    : List Nat
  deriving DecidableEq, Repr

/-- What pairing learns of the other lane (R217, R289): identity proved both ways, PAIR_ID, preferred, image digest
equal, generation in force, its grandmaster identity, and the two-way offsets measured, in ns, newest first. -/
structure PairFacts where
  identOk : Bool
  pairId  : Nat
  pref    : Bool
  imgSame : Bool
  gen     : Nat
  gm      : Nat
  offs    : List Int
  deriving DecidableEq, Repr

/-- What every sightline frame carries: its counter, and whether its tag verifies (R216). -/
structure TwinHead where
  ctr   : Nat
  tagOk : Bool
  deriving DecidableEq, Repr

/-- Frames of the sightline (R215, R46). -/
inductive TwinFrame
  | digest (tick digest rate : Nat) (subst : Bool) (stamp : Int)
  | mismatch (tick : Nat)
  | withdraw
  | pair
  | swap (tick : Nat)
  | intake (r : IntakeRec)
  | marker (tick gs fio : Nat)
  | copy (first last tick : Nat) (parts : List (Nat × CopyPart))
  | pageDig (tick : Nat) (granules : List (Nat × Nat))
  | cmd (fn tag apply : Nat) (c : HostCmd)
  | cmdAck (fn tag : Nat)
  | commit (fn tag : Nat)
  | decision (parcel at_ : Nat) (go : Bool)
  deriving DecidableEq, Repr


/-- The commands: one constructor for each row of the opcode table, in its order. -/
inductive Instr
  /-- TICK_EDGE (R35). -/
  | tickEdge (lane : LaneId)
  /-- SAMPLED_VALUE_FRAME (R55). -/
  | sampledValueFrame (lane : LaneId) (port rx : Nat) (f : SvFrame)
  /-- BURST_FRAME (R57). -/
  | burstFrame (lane : LaneId) (port rx : Nat) (f : BurstFrame)
  /-- GOOSE_FRAME (R198). -/
  | gooseFrame (lane : LaneId) (port rx : Nat) (f : GooseFrame)
  /-- SWITCH_FORWARD (R251). -/
  | switchForward (lane : LaneId) (port raw : Nat) (f : Frame) (fcsOk : Bool) (started : Nat)
  /-- PFC_REPEAT (R258). -/
  | pfcRepeat (lane : LaneId) (port cls : Nat)
  /-- PFC_RESUME (R258). -/
  | pfcResume (lane : LaneId) (port cls : Nat)
  /-- EGRESS_TRANSMIT (R256). -/
  | egressTransmit (lane : LaneId) (port tx : Nat)
  /-- PFC_FRAME (R260). -/
  | pfcFrame (lane : LaneId) (port raw : Nat) (times : List (Nat × Nat))
  /-- PAUSE_FRAME (R260). -/
  | pauseFrame (lane : LaneId) (port : Nat)
  /-- PREEMPTION_VERIFY (R257). -/
  | preemptionVerify (lane : LaneId) (port : Nat) (ok : Bool) (now : Int)
  /-- PORT_LINK_DOWN (R244). -/
  | portLinkDown (lane : LaneId) (port : Nat) (x : LinkDown)
  /-- PORT_LINK_UP (R244). -/
  | portLinkUp (lane : LaneId) (port raw : Nat) (master : Bool) (now : Int)
  /-- TRUNK_MOVE_BACK (R265). -/
  | trunkMoveBack (lane : LaneId) (entry raw : Nat)
  /-- ADDRESS_AGEING (R251). -/
  | addressAgeing (lane : LaneId) (mac vid raw : Nat)
  /-- SUPERVISION_FRAME_SEND (R262). -/
  | supervisionFrameSend (lane : LaneId) (raw : Nat)
  /-- SUPERVISION_FRAME (R262). -/
  | supervisionFrame (lane : LaneId) (port raw node : Nat)
  /-- NODE_FORGET (R262). -/
  | nodeForget (lane : LaneId) (node raw : Nat)
  /-- ENTRY_FORGET (R262). -/
  | entryForget (lane : LaneId) (src seq raw : Nat)
  /-- WAKE_PATTERN (R269). -/
  | wakePattern (lane : LaneId) (w : WakePattern)
  /-- WAKE_TX (R270). -/
  | wakeTx (lane : LaneId) (w : Word) (now : Int)
  /-- INTAKE_CUTOFF (R65). -/
  | intakeCutoff (lane : LaneId) (own : Bool)
  /-- STREAM_LOST (R65). -/
  | streamLost (lane : LaneId) (sub : Nat)
  /-- STREAM_RECOVERED (R65). -/
  | streamRecovered (lane : LaneId) (sub : Nat)
  /-- BACKSTOP_LATCH (R140). -/
  | backstopLatch (lane : LaneId)
  /-- ELEMENT_STAGE (R36). -/
  | elementStage (lane : LaneId) (stage : Nat) (fault : Option FabFault) (ce : Nat)
  /-- INPUT_BLOCK_COPY (R173). -/
  | inputBlockCopy (lane : LaneId)
  /-- TRIP_MATRIX_LATCH (R138). -/
  | tripMatrixLatch (lane : LaneId)
  /-- GOOSE_REPEAT (R148). -/
  | gooseRepeat (lane : LaneId) (pub : Nat)
  /-- SLICE_START (R168). -/
  | sliceStart (lane : LaneId) (core parcel : Nat)
  /-- SLICE_END (R168). -/
  | sliceEnd (lane : LaneId) (core parcel steps cycles : Nat)
  /-- DONE (R172). -/
  | done (lane : LaneId) (parcel strand steps cycles : Nat)
  /-- CMD_WR (R176). -/
  | cmdWr (lane : LaneId) (parcel strand channel : Nat) (value : Word) (steps : Nat)
  /-- HISTORY_APERTURE_READ (R174). -/
  | historyApertureRead (lane : LaneId) (parcel strand channel age steps : Nat)
  /-- GUARD_VIOLATION (R179). -/
  | guardViolation (lane : LaneId) (parcel strand code addr steps : Nat)
  /-- PARCEL_TRAP (R184). -/
  | parcelTrap (lane : LaneId) (parcel strand cause tval steps : Nat)
  /-- ILU_SLICE (R191). -/
  | iluSlice (lane : LaneId) (ce : List Nat)
  /-- ILU_FAULT (R208). -/
  | iluFault (lane : LaneId) (cause : Nat) (now : Int)
  /-- LD (R201). -/
  | ld (lane : LaneId) (p : Nat) (f : Nat)
  /-- LDN (R201). -/
  | ldn (lane : LaneId) (p : Nat) (f : Nat)
  /-- AND (R201). -/
  | and (lane : LaneId) (p : Nat) (f : Nat)
  /-- ANDN (R201). -/
  | andn (lane : LaneId) (p : Nat) (f : Nat)
  /-- OR (R201). -/
  | or (lane : LaneId) (p : Nat) (f : Nat)
  /-- ORN (R201). -/
  | orn (lane : LaneId) (p : Nat) (f : Nat)
  /-- XOR (R201). -/
  | xor (lane : LaneId) (p : Nat) (f : Nat)
  /-- XORN (R201). -/
  | xorn (lane : LaneId) (p : Nat) (f : Nat)
  /-- ST (R201). -/
  | st (lane : LaneId) (p : Nat) (f : Nat)
  /-- STN (R201). -/
  | stn (lane : LaneId) (p : Nat) (f : Nat)
  /-- SET (R201). -/
  | set (lane : LaneId) (p : Nat) (f : Nat)
  /-- RST (R201). -/
  | rst (lane : LaneId) (p : Nat) (f : Nat)
  /-- RE (R202). -/
  | re (lane : LaneId) (p : Nat) (f : Nat)
  /-- FE (R202). -/
  | fe (lane : LaneId) (p : Nat) (f : Nat)
  /-- TON (R203). -/
  | ton (lane : LaneId) (p : Nat) (t : Nat)
  /-- TOF (R203). -/
  | tof (lane : LaneId) (p : Nat) (t : Nat)
  /-- TP (R203). -/
  | tp (lane : LaneId) (p : Nat) (t : Nat)
  /-- CTU (R204). -/
  | ctu (lane : LaneId) (p : Nat) (c : Nat)
  /-- CTD (R204). -/
  | ctd (lane : LaneId) (p : Nat) (c : Nat)
  /-- CRS (R204). -/
  | crs (lane : LaneId) (p : Nat) (c : Nat)
  /-- CLD (R204). -/
  | cld (lane : LaneId) (p : Nat) (c : Nat)
  /-- FARUSK_NOP (R201). -/
  | faruskNop (lane : LaneId) (p : Nat)
  /-- PUSH (R201). -/
  | push (lane : LaneId) (p : Nat)
  /-- POPA (R201). -/
  | popa (lane : LaneId) (p : Nat)
  /-- POPO (R201). -/
  | popo (lane : LaneId) (p : Nat)
  /-- PAGE0 (R201). -/
  | page0 (lane : LaneId) (p : Nat)
  /-- PAGE1 (R201). -/
  | page1 (lane : LaneId) (p : Nat)
  /-- END (R201). -/
  | endScan (lane : LaneId) (p : Nat)
  /-- JC (R201). -/
  | jc (lane : LaneId) (p : Nat) (k : Nat)
  /-- JCN (R201). -/
  | jcn (lane : LaneId) (p : Nat) (k : Nat)
  /-- READBACK (R143). -/
  | readback (lane : LaneId) (levels : Nat)
  /-- FIELD_IO_EXCHANGE (R376). -/
  | fieldIoExchange (lane : LaneId)
  /-- PUBLISHED_STREAM_FRAME (R156). -/
  | publishedStreamFrame (lane : LaneId) (stream : Nat)
  /-- DIGEST_SEND (R230). -/
  | digestSend (lane : LaneId)
  /-- CLOSURE (R38). -/
  | closure (lane : LaneId) (fail : Nat) (x : ClosureIn)
  /-- LANE_FAULT_HANDLING (R469). -/
  | laneFaultHandling (lane : LaneId) (now : Int)
  /-- PERIOD_START (R158). -/
  | periodStart (lane : LaneId) (pair t0 : Nat)
  /-- TAL_EXPIRY (R199). -/
  | talExpiry (lane : LaneId) (sub : Nat)
  /-- INTAKE_RECORD (R224). -/
  | intakeRecord (lane : LaneId) (h : TwinHead) (r : IntakeRec)
  /-- CUTOFF_MARKER (R225). -/
  | cutoffMarker (lane : LaneId) (h : TwinHead) (tick gs fio : Nat)
  /-- FORWARD_SUBSTITUTION (R226). -/
  | forwardSubstitution (lane : LaneId)
  /-- DIGEST (R230). -/
  | digest (lane : LaneId) (h : TwinHead) (tick digest : Nat) (t1 t2 t3 t4 : Int) (rate : Nat) (synced hold : Bool)
  /-- BACKSIGHT_COMPARE (R231). -/
  | backsightCompare (lane : LaneId) (now : Int)
  /-- MISMATCH (R231). -/
  | mismatch (lane : LaneId) (h : TwinHead)
  /-- SELF_CHECK_COMPLETE (R231). -/
  | selfCheckComplete (lane : LaneId) (ownOk peerOk : Bool) (now : Int)
  /-- WITHDRAW (R232). -/
  | withdraw (lane : LaneId) (h : TwinHead) (now : Int)
  /-- LOSS_OF_ACTIVE (R232). -/
  | lossOfActive (lane : LaneId) (now : Int)
  /-- TAKEOVER (R233). -/
  | takeover (lane : LaneId)
  /-- PAIRING_ATTEMPT (R217). -/
  | pairingAttempt (lane : LaneId) (f : PairFacts) (now : Int)
  /-- PAIRING_COMPLETE (R219). -/
  | pairingComplete (lane : LaneId) (peerInService : Bool) (now : Int)
  /-- SIGHTLINE_LOCK_LOSS (R237). -/
  | sightlineLockLoss (lane : LaneId) (now : Int)
  /-- SIGHTLINE_LOCK (R217). -/
  | sightlineLock (lane : LaneId)
  /-- AWAIT_EXPIRY (R221). -/
  | awaitExpiry (lane : LaneId) (now : Int)
  /-- WITNESS_LOST (R237). -/
  | witnessLost (lane : LaneId) (now : Int)
  /-- COPY (R222). -/
  | copy (lane : LaneId) (h : TwinHead) (first last tick : Nat) (parts : List (Nat × CopyPart))
  /-- PAGEDIG (R222). -/
  | pagedig (lane : LaneId) (h : TwinHead) (tick : Nat) (granules : List (Nat × Bool))
  /-- FREEZE_START (R223). -/
  | freezeStart (lane : LaneId) (tick : Nat)
  /-- STATE_TRANSFER_RESTART (R220). -/
  | stateTransferRestart (lane : LaneId) (now : Int)
  /-- CMD (R46). -/
  | cmd (lane : LaneId) (h : TwinHead) (fn tag apply : Nat) (c : HostCmd)
  /-- CMD_ACK (R46). -/
  | cmdAck (lane : LaneId) (h : TwinHead) (fn tag : Nat)
  /-- CMD_COMMIT (R46). -/
  | cmdCommit (lane : LaneId) (h : TwinHead) (fn tag : Nat)
  /-- COMMIT_DEADLINE (R46). -/
  | commitDeadline (lane : LaneId)
  /-- STANDBY_COMMIT_TIMEOUT (R46). -/
  | standbyCommitTimeout (lane : LaneId)
  /-- PLANNED_SWAP (R239). -/
  | plannedSwap (lane : LaneId)
  /-- REQUALIFIED (R240). -/
  | requalified (lane : LaneId) (a : Nat)
  /-- OUTPUT_PROOF_TEST (R242). -/
  | outputProofTest (lane : LaneId) (level : Bool) (now : Int)
  /-- TWIN_OFFSET_ALARM (R290). -/
  | twinOffsetAlarm (lane : LaneId) (now : Int)
  /-- ANNOUNCE (R279). -/
  | announce (lane : LaneId) (m : PtpHead) (ds : DataSet) (utc : UtcInfo) (now : Int)
  /-- SYNC (R279). -/
  | sync (lane : LaneId) (m : PtpHead) (rx tx : Nat) (origin : Int) (twoStep : Bool)
  /-- FOLLOW_UP (R279). -/
  | followUp (lane : LaneId) (m : PtpHead) (origin : Int)
  /-- PDELAY_REQ (R279). -/
  | pdelayReq (lane : LaneId) (m : PtpHead) (rx tx : Nat)
  /-- PDELAY_RESP (R279). -/
  | pdelayResp (lane : LaneId) (m : PtpHead) (rx : Nat) (t2 : Int) (twoStep : Bool)
  /-- PDELAY_RESP_FOLLOW_UP (R279). -/
  | pdelayRespFollowUp (lane : LaneId) (m : PtpHead) (t3 : Int)
  /-- PTP_MESSAGE_IGNORED (R279). -/
  | ptpMessageIgnored (lane : LaneId) (port : Nat)
  /-- SYNC_TRANSMIT (R280). -/
  | syncTransmit (lane : LaneId) (port tx : Nat)
  /-- ANNOUNCE_TRANSMIT (R280). -/
  | announceTransmit (lane : LaneId) (port : Nat)
  /-- PDELAY_REQ_TRANSMIT (R279). -/
  | pdelayReqTransmit (lane : LaneId) (port tx : Nat)
  /-- HOLDOVER_ANNOUNCE_STOP (R280). -/
  | holdoverAnnounceStop (lane : LaneId)
  /-- PPS_PULSE (R281). -/
  | ppsPulse (lane : LaneId) (raw : Nat)
  /-- ANNOUNCE_TIMEOUT (R285). -/
  | announceTimeout (lane : LaneId) (now : Int)
  /-- QUALIFICATION_COMPLETE (R283). -/
  | qualificationComplete (lane : LaneId) (cand : Nat) (now : Int)
  /-- SWITCH_END (R285). -/
  | switchEnd (lane : LaneId) (now : Int)
  /-- STEP_DETECTED (R287). -/
  | stepDetected (lane : LaneId) (now : Int)
  /-- SLEW_END (R288). -/
  | slewEnd (lane : LaneId) (now : Int)
  /-- INITIAL_SET (R276). -/
  | initialSet (lane : LaneId) (src : InitSources)
  /-- DATUM_UNSET_EVENT (R276). -/
  | datumUnsetEvent (lane : LaneId)
  /-- DATUM_BEACON (R277). -/
  | datumBeacon (lane : LaneId)
  /-- HOST_CLOCK_BEACON (R310). -/
  | hostClockBeacon (clock : Int)
  /-- DOORBELL (R298). -/
  | doorbell (fn ring : Nat) (value : Word) (width : Nat) (now : Int)
  /-- COMMAND_FETCH (R300). -/
  | commandFetch (fn : Nat) (d : CmdDesc) (now : Int)
  /-- COMMAND_COMPLETION (R303). -/
  | commandCompletion (src : Option LaneId) (now : Int)
  /-- TRANSMIT_DESCRIPTOR (R307). -/
  | transmitDescriptor (fn ring : Nat) (d : TxDesc) (now : Int)
  /-- TRANSMIT_WRITE_BACK (R307). -/
  | transmitWriteBack (fn ring : Nat) (now : Int)
  /-- RECEIVE_DELIVERY (R308). -/
  | receiveDelivery (lane : LaneId) (d : RxDesc) (now : Int)
  /-- EVENT_PLACEMENT (R312). -/
  | eventPlacement (book : Option LaneId) (now : Int)
  /-- OVERFLOW_ENTRY (R312). -/
  | overflowEntry (fn : Nat) (now : Int)
  /-- MSIX_MESSAGE (R313). -/
  | msixMessage (fn ring : Nat) (now : Int)
  /-- MSIX_UNMASK (R313). -/
  | msixUnmask (fn vector : Nat)
  /-- RING_ENABLE (R297). -/
  | ringEnable (fn ring : Nat) (value : Word)
  /-- RING_DRAIN (R299). -/
  | ringDrain (fn ring : Nat)
  /-- DRAIN_COMPLETE (R299). -/
  | drainComplete (fn ring : Nat)
  /-- DMA_READ_ERROR (R314). -/
  | dmaReadError (fn ring idx : Nat) (now : Int)
  /-- DMA_COMPLETION_TIMEOUT (R314). -/
  | dmaCompletionTimeout (fn ring idx : Nat) (now : Int)
  /-- FUNCTION_RESET (R315). -/
  | functionReset (fn : Nat)
  /-- HCX_FN_RESET (R315). -/
  | hcxFnReset (fn : Nat)
  /-- FUNCTION_LEVEL_RESET (R315). -/
  | functionLevelReset (fn : Nat)
  /-- FUNCTION_RESET_COMPLETE (R315). -/
  | functionResetComplete (fn : Nat) (now : Int)
  /-- PCIE_LINK_DOWN (R316). -/
  | pcieLinkDown (now : Int)
  /-- HOT_RESET (R316). -/
  | hotReset
  /-- LANE_LINK_TIMEOUT (R12). -/
  | laneLinkTimeout (lane : LaneId) (now : Int)
  /-- HOST_WATCHDOG_EXPIRY (R23). -/
  | hostWatchdogExpiry (now : Int)
  /-- REGISTER_READ_LO (R7). -/
  | registerReadLo (fn addr width raw : Nat)
  /-- REGISTER_WRITE_HI (R7). -/
  | registerWriteHi (fn addr width value : Nat) (now : Int)
  /-- REGISTER_WRITE (R8). -/
  | registerWrite (fn addr width value : Nat) (now : Int)
  /-- BSP_LOCK (R146). -/
  | bspLock (lane : LaneId) (fn : Nat) (w : Word) (now : Int)
  /-- NOP (R305). -/
  | nop (h : CmdHead)
  /-- LOAD_IMAGE (R306). -/
  | loadImage (h : CmdHead) (x : ImgLoad)
  /-- READ_SLOT (R306). -/
  | readSlot (h : CmdHead) (slot : Nat)
  /-- WRITE_SLOT (R128). -/
  | writeSlot (h : CmdHead) (slot : Nat) (d : Desc)
  /-- SET_QUOTA (R318). -/
  | setQuota (h : CmdHead) (vf : Nat) (q : Quota)
  /-- PARCEL_LOAD (R470). -/
  | parcelLoad (h : CmdHead) (p : Nat) (img : ParcelImg) (auto : Bool)
  /-- PARCEL_START (R185). -/
  | parcelStart (h : CmdHead) (p : Nat)
  /-- PARCEL_STOP (R185). -/
  | parcelStop (h : CmdHead) (p : Nat)
  /-- PARCEL_RESTART (R185). -/
  | parcelRestart (h : CmdHead) (p : Nat) (clear : Bool)
  /-- PARCEL_UNLOAD (R185). -/
  | parcelUnload (h : CmdHead) (p : Nat)
  /-- PARCEL_FREEZE (R185). -/
  | parcelFreeze (h : CmdHead) (p : Nat)
  /-- PARCEL_RESUME (R185). -/
  | parcelResume (h : CmdHead) (p : Nat)
  /-- PARCEL_RELOAD (R187). -/
  | parcelReload (lane : LaneId) (confirmed : Bool)
  /-- MIGRATE_TRACK (R320). -/
  | migrateTrack (h : CmdHead) (p target q : Nat)
  /-- TRACK_READY (R320). -/
  | trackReady (lane : LaneId) (parcel left : Nat) (now : Int)
  /-- MIGRATE_SWITCH (R321). -/
  | migrateSwitch (h : CmdHead) (p target q : Nat)
  /-- MIGRATE_CANCEL (R320). -/
  | migrateCancel (h : CmdHead) (p : Nat)
  /-- MIGRATE_SAVE (R323). -/
  | migrateSave (h : CmdHead) (p : Nat)
  /-- MIGRATE_RESTORE (R323). -/
  | migrateRestore (h : CmdHead) (p target q : Nat) (r : SavedRec)
  /-- MIGRATE_RELEASE (R323). -/
  | migrateRelease (h : CmdHead) (p : Nat)
  /-- SET_TARGET (R150). -/
  | setTarget (h : CmdHead) (ch : Nat) (v : Word)
  /-- FORCE_BITS (R135). -/
  | forceBits (h : CmdHead) (value mask : Nat)
  /-- HOST_FLAGS (R196). -/
  | hostFlags (h : CmdHead) (value mask : Nat)
  /-- TL_RESET (R142). -/
  | tlReset (h : CmdHead) (lines : Nat)
  /-- ILU_STOP (R207). -/
  | iluStop (h : CmdHead) (p : Nat)
  /-- ILU_START (R207). -/
  | iluStart (h : CmdHead) (p : Nat)
  /-- ILU_CLEAR (R207). -/
  | iluClear (h : CmdHead) (p : Nat)
  /-- TWIN_SWAP (R239). -/
  | twinSwap (h : CmdHead)
  /-- SET_TOD (R310). -/
  | setTod (h : CmdHead) (t : Int)
  /-- TIME_ACCEPT (R288). -/
  | timeAccept (h : CmdHead) (e : Int)
  /-- TIME_REJECT (R288). -/
  | timeReject (h : CmdHead)
  /-- ARCHIVE_ATTACH (R342). -/
  | archiveAttach (h : CmdHead) (r : AttachRec)
  /-- ARCHIVE_DETACH (R342). -/
  | archiveDetach (h : CmdHead)
  /-- ARCHIVE_FORMAT (R342). -/
  | archiveFormat (h : CmdHead) (r : AttachRec)
  /-- ARCHIVE_READ (R343). -/
  | archiveRead (h : CmdHead) (off len : Nat)
  /-- ARCHIVE_WRITE (R343). -/
  | archiveWrite (h : CmdHead) (off : Nat) (bytes : List Byte)
  /-- ARCHIVE_ALLOC (R343). -/
  | archiveAlloc (h : CmdHead)
  /-- ARCHIVE_CLOSE (R343). -/
  | archiveClose (h : CmdHead) (ext : Nat)
  /-- ARCHIVE_PIN (R343). -/
  | archivePin (h : CmdHead) (ext : Nat)
  /-- ARCHIVE_UNPIN (R343). -/
  | archiveUnpin (h : CmdHead) (ext : Nat)
  /-- ARCHIVE_FREE (R343). -/
  | archiveFree (h : CmdHead) (ext : Nat)
  /-- ARCHIVE_LIST (R343). -/
  | archiveList (h : CmdHead) (first room : Nat)
  /-- ARCHIVE_TRIGGER (R326). -/
  | archiveTrigger (h : CmdHead) (defs : Nat)
  /-- FIELDBOOK_READ (R348). -/
  | fieldbookRead (h : CmdHead) (first count : Nat)
  /-- FIELDBOOK_FLUSH (R347). -/
  | fieldbookFlush (h : CmdHead)
  /-- CLEAR_GEN (R349). -/
  | clearGen (h : CmdHead)
  /-- CLEAR_SAFE (R349). -/
  | clearSafe (h : CmdHead)
  /-- KEY_PUT (R423). -/
  | keyPut (h : CmdHead) (k : KeyPkg)
  /-- KEY_PREPARE (R423). -/
  | keyPrepare (h : CmdHead)
  /-- KEY_ROLL (R423). -/
  | keyRoll (h : CmdHead) (slots : List Nat)
  /-- KEY_DROP (R423). -/
  | keyDrop (h : CmdHead) (next : Bool) (slots : List Nat)
  /-- OWN (R426). -/
  | own (h : CmdHead) (root : Nat) (signed : Bool)
  /-- KEY_RELEASE (R426). -/
  | keyRelease (h : CmdHead)
  /-- ENTER_SERVICE (R426). -/
  | enterService (h : CmdHead)
  /-- LEAVE_SERVICE (R426). -/
  | leaveService (h : CmdHead)
  /-- RETIRE (R426). -/
  | retire (h : CmdHead)
  /-- STAGE (R414). -/
  | stage (h : CmdHead) (hdr : FwHeader) (halt : Option Nat)
  /-- ACTIVATE (R417). -/
  | activate (h : CmdHead)
  /-- RAISE_SVN (R417). -/
  | raiseSvn (h : CmdHead)
  /-- FN_RESET (R315). -/
  | fnReset (h : CmdHead) (fn : Nat)
  /-- CAPTURE_END (R329). -/
  | captureEnd (lane : LaneId) (rd : Nat)
  /-- BUFFER_FULL (R335). -/
  | bufferFull (lane : LaneId)
  /-- RECORD_TRANSFER_FRAME (R336). -/
  | recordTransferFrame (lane : LaneId)
  /-- NVME_COMPLETION (R337). -/
  | nvmeCompletion (cid status : Nat) (data : List Byte) (now : Int)
  /-- NVME_OVERDUE (R342). -/
  | nvmeOverdue (cid : Nat) (now : Int)
  /-- CATALOGUE_COMMIT (R340). -/
  | catalogueCommit (page : Nat) (now : Int)
  /-- RECOVERY_COMPLETE (R342). -/
  | recoveryComplete (hdrOk : Bool) (e : Nat) (entries : ArcRead) (now : Int)
  /-- FIELD_BOOK_OCCURRENCE (R345). -/
  | fieldBookOccurrence (book : Option LaneId)
  /-- FIELD_BOOK_FLUSH_END (R347). -/
  | fieldBookFlushEnd (lane : LaneId)
  /-- SEAL_READ (R354). -/
  | sealRead (w : Word)
  /-- SEAL_SAMPLE (R355). -/
  | sealSample (w : Word)
  /-- INPUT_SAMPLE (R358). -/
  | inputSample (a b : Nat) (blankA blankB : Bool)
  /-- TEST_PULSE (R357). -/
  | testPulse (source a b : Nat) (off : Bool)
  /-- SAFETY_CYCLE (R359). -/
  | safetyCycle (rdbk coil0 coil1 ce : Nat)
  /-- DISCREPANCY_TIMEOUT (R360). -/
  | discrepancyTimeout (pair : Nat)
  /-- SWITCH_TEST_ROUND (R364). -/
  | switchTestRound (bad : Option Nat)
  /-- COIL_CURRENT_FAILURE (R365). -/
  | coilCurrentFailure (brake : Nat)
  /-- HOLDING_TEST_WINDOW_OPEN (R366). -/
  | holdingTestWindowOpen
  /-- HOLDING_TEST_WINDOW_CLOSE (R366). -/
  | holdingTestWindowClose
  /-- SPEED_PULSE (R366). -/
  | speedPulse (input : Nat)
  /-- DIAGNOSTIC_FAILURE (R368). -/
  | diagnosticFailure (cause : Nat)
  /-- WATCHDOG_MISS (R369). -/
  | watchdogMiss
  /-- SAFETY_START_COMPLETE (R369). -/
  | safetyStartComplete
  /-- SAFETY_SAG (R370). -/
  | safetySag
  /-- SAFETY_STATUS (R372). -/
  | safetyStatus (now : Int)
  /-- PROGRAMMING_PAGE (R449). -/
  | programmingPage (offset : Nat) (h : FwHeader) (page : ProgPage)
  /-- FIELD_IO_FRAME_TO_FIELD (R375). -/
  | fieldIoFrameToField (lane : LaneId) (err : Word)
  /-- FIELD_IO_FRAME_FROM_FIELD (R375). -/
  | fieldIoFrameFromField (lane : LaneId) (rx : FieldRx) (now : Int)
  /-- FIELD_IO_FRAME_TIMEOUT (R377). -/
  | fieldIoFrameTimeout (lane : LaneId) (toField : Bool) (now : Int)
  /-- OUTPUT_OVERLOAD (R378). -/
  | outputOverload (lane : LaneId) (pin : Nat)
  /-- OVERLOAD_RETRY (R378). -/
  | overloadRetry (lane : LaneId) (pin : Nat) (stillBad : Bool)
  /-- POWER_GOOD (R382). -/
  | powerGood (vin : Nat) (capLow : Bool)
  /-- STAGE_START (R383). -/
  | stageStart
  /-- DOMAIN_FAULT (R381). -/
  | domainFault (domain : Nat) (now : Int)
  /-- HOST_COMPLEX_READY (R384). -/
  | hostComplexReady (ok : Bool) (ms : Nat) (now : Int)
  /-- LANE_START (R385). -/
  | laneStart (lane : LaneId)
  /-- MEMORY_SELF_TEST_END (R388). -/
  | memorySelfTestEnd (lane : LaneId) (fail repair rows cols ms : Nat) (now : Int)
  /-- LOGIC_SELF_TEST_END (R389). -/
  | logicSelfTestEnd (lane : LaneId) (pipes others : List Nat) (ms : Nat) (now : Int)
  /-- GENERATION_CHECK (R407). -/
  | generationCheck (lane : LaneId) (now : Int)
  /-- LANE_ENTER_SERVICE (R385). -/
  | laneEnterService (lane : LaneId) (startMs t : Nat)
  /-- HOLD_UP_CHARGE_MEASURE (R386). -/
  | holdUpChargeMeasure (t : Nat) (now : Int)
  /-- HOLD_OK (R386). -/
  | holdOk (vhold : Nat)
  /-- HOLD_LOW_TIMEOUT (R386). -/
  | holdLowTimeout (now : Int)
  /-- SAG_DETECTED (R393). -/
  | sagDetected (vin : Nat) (now : Int)
  /-- DIP (R393). -/
  | dip
  /-- FLUSH_END (R396). -/
  | flushEnd (us : Nat)
  /-- SUPPLY_RETURN (R396). -/
  | supplyReturn (vin : Nat)
  /-- SLEEP_SUPPLY_LOSS (R382). -/
  | sleepSupplyLoss
  /-- COLD_RESET (R9). -/
  | coldReset
  /-- WARM_MODULE_RESET (R9). -/
  | warmModuleReset (w : Word) (now : Int)
  /-- LANE_RESET (R392). -/
  | laneReset (w : Word) (now : Int)
  /-- PARK_ATTENDED (R404). -/
  | parkAttended (key : Nat) (now : Int)
  /-- PARK_SLEEPING (R404). -/
  | parkSleeping (key : Nat) (now : Int)
  /-- UNPARK (R404). -/
  | unpark (key : Nat) (now : Int)
  /-- TREF_ALARM (R454). -/
  | trefAlarm (tref now : Int)
  /-- DIE_OVERTEMP (R454). -/
  | dieOvertemp (lane : LaneId) (temp now : Int)
  /-- LPDDR_SCRUB (R388). -/
  | lpddrScrub (lane : LaneId)
  /-- BOOT_SELECTION (R412). -/
  | bootSelection (part : Nat) (now : Int)
  /-- BOOT_CONFIRM (R413). -/
  | bootConfirm (part : Nat)
  /-- ERASE_SUSPEND (R415). -/
  | eraseSuspend (part : Nat)
  /-- ERASE_RESUME (R415). -/
  | eraseResume (part : Nat)
  /-- SLOT_WRITE_COMPLETE (R416). -/
  | slotWriteComplete (lane : LaneId)
  /-- DAILY_SLOT_CHECK (R416). -/
  | dailySlotCheck (lane : LaneId) (ok : Bool) (now : Int)
  /-- KEY_REMASK (R425). -/
  | keyRemask (lane : LaneId)
  /-- PFC_PAUSE_EXPIRY (R260). -/
  | pfcPauseExpiry (lane : LaneId) (port cls raw : Nat)
  /-- PCIE_LINK_UP (R293). -/
  | pcieLinkUp (speed width : Nat) (ecrc : Bool)
  /-- VF_ENABLE (R295). -/
  | vfEnable (n : Nat)
  /-- HOLD_UP_ENERGY_END (R397). -/
  | holdUpEnergyEnd (a b c d us : Nat)
  /-- GENERAL_CLASS_NOR_SAVE (R395). -/
  | generalClassNorSave
  /-- FACTORY_PROVISIONING (R426). -/
  | factoryProvisioning (now : Int)
  /-- FIELD_SUPPLY_LOW (R446). -/
  | fieldSupplyLow (lane : LaneId) (low : Bool)
  deriving DecidableEq, Repr

end Sys2Proof
end

