-- ==== Sys2Proof/Machine/Crc.lean ====
section
/-! DEFINITION. The check codes of R465 (CRC-32, CRC-64), R354 (CRC-16), R375 (CRC-8) and R269 (CRC-4), bit by bit,
and the header CRC of R410 with the CRC of a programming page (R449). -/

namespace Sys2Proof.Machine

open Sys2Proof

/-- One octet into a code of `w` bits taken most significant bit first, `k` bits still to go. -/
def crcMsbBits (w poly : Nat) (b : Byte) : Nat → Nat → Nat
  | 0, c => c
  | k + 1, c =>
    let top := (c >>> (w - 1)) % 2
    let inb := bnat (b.getLsbD k)
    let s := (c * 2) % 2 ^ w
    crcMsbBits w poly b k (if top = inb then s else s ^^^ poly)

/-- The code of octets, most significant bit first. -/
def crcMsb (w poly init : Nat) (bs : List Byte) : Nat :=
  bs.foldl (fun c b => crcMsbBits w poly b 8 c) init

/-- One octet into a reflected code, `k` bits still to go. -/
def crcLsbBits (poly : Nat) : Nat → Nat → Nat
  | 0, c => c
  | k + 1, c => crcLsbBits poly k (if c % 2 = 1 then (c / 2) ^^^ poly else c / 2)

/-- CRC-32 of IEEE 802.3: reflected, initial value and final exclusive-or all ones (R465). -/
def crc32 (bs : List Byte) : Nat :=
  (bs.foldl (fun c b => crcLsbBits 0xEDB88320 8 (c ^^^ b.toNat)) 0xFFFFFFFF) ^^^ 0xFFFFFFFF

/-- CRC-64 of the ECMA-182 polynomial, most significant bit first, initial value 0 (R465). -/
def crc64 (bs : List Byte) : Nat := crcMsb 64 0x42F0E1EBA9EA3693 0 bs

/-- CRC-16 of polynomial 0x1021, initial value 0xFFFF (R354). -/
def crc16 (bs : List Byte) : Nat := crcMsb 16 0x1021 0xFFFF bs

/-- CRC-8 of polynomial 0x2F with the initial value of its owner (R375). -/
def crc8 (init : Nat) (bs : List Byte) : Nat := crcMsb 8 0x2F init bs

/-- CRC-4 of x^4 + x + 1 over a 12-bit code, initial value 0 (R269). -/
def crc4 (code : Nat) : Nat :=
  crcMsbBits 4 3 (BitVec.ofNat 8 code) 8 (crcMsbBits 4 3 (BitVec.ofNat 8 (code / 256)) 4 0)

/-- MAGIC (R410). -/
def fwMagic : Nat := 0x56424831

/-- Octets 0x000 to 0x0B3 of an image header (R410). -/
def fwBytes (h : FwHeader) : List Byte :=
  leBytes 4 h.magic ++ leBytes 4 h.kind ++ leBytes 1 h.genLo ++ leBytes 1 h.genHi ++ leBytes 1 h.pmin ++ leBytes 1 h.pmax ++
  leBytes 4 h.build ++ leBytes 2 h.svn ++ leBytes 1 h.spmin ++ leBytes 1 h.spmax ++ leBytes 4 h.len ++ leBytes 8 h.seq ++
  leBytes 48 h.digest ++ leBytes 96 h.sig ++ leBytes 4 h.signer

/-- The header that the first page of an image holds (R410): its fields read from the octets; whether SIG verifies and
the body matches DIGEST is `h`'s. -/
def fwRead (bs : List Byte) (h : FwHeader) : FwHeader :=
  { h with magic := leAt bs 0 4, kind := leAt bs 4 4, genLo := leAt bs 8 1, genHi := leAt bs 9 1, pmin := leAt bs 10 1, pmax := leAt bs 11 1,
           build := leAt bs 12 4, svn := leAt bs 16 2, spmin := leAt bs 18 1, spmax := leAt bs 19 1, len := leAt bs 20 4, seq := leAt bs 24 8,
           digest := leAt bs 32 48, sig := leAt bs 80 96, signer := leAt bs 176 4, hcrc := leAt bs 180 4 }

/-- HCRC of a header (R410). -/
def fwCrc (h : FwHeader) : Nat := crc32 (fwBytes h)

/-- A page's CRC-32 over its 4-octet offset and its 256 octets is right (R449). -/
def pageCrcOk (p : ProgPage) (offset : Nat) : Bool :=
  p.octets.length == 256 && p.crc == crc32 (leBytes 4 offset ++ p.octets)

end Sys2Proof.Machine
end

