-- ==== Sys2Proof/Machine/State.lean ====
section
/-! DEFINITION. Everything the spec gives the module to hold, as plain data, and its value after a cold reset. -/

namespace Sys2Proof.Machine

open Sys2Proof

/-- How a step can stop. No command of this module stops with a fault: where the spec names an error, the error is
an effect on the state. The one name stands for a command whose lane, ring or index the module does not have. -/
inductive Fault
  /-- No meaning raises it. It would be safe: the model would stop where the module goes on. -/
  | noSuchPart
  deriving DecidableEq, Repr

/-- Why a command has no meaning. -/
inductive Refusal
  /-- The command's arm is not written yet; raised by Dispatch only, by mnemonic. Safe: the model stops. -/
  | notModelled (mnemonic : String)
  deriving DecidableEq, Repr

/-! ### Events (R344, R467) -/

/-- An occurrence of an event: its absolute source, code, severity, class, time in datum ns and DATA octets. -/
structure Occ where
  src  : Nat
  code : Nat
  sev  : Nat
  safe : Bool
  time : Int
  data : List Byte
  deriving DecidableEq, Repr



/-! ### The traverse (R35 to R47) -/

/-- What the traverse keeps beside its registers: the units whose done flag is set in this tick, as the bits of
LCT_CLOSURE_STAT (R38); the level and cause that hold from the next edge on (R40), 3 for the safe state; the raw count
of the last edge; the ticks at whose closures lane fault handling started a lane reset, newest first, in datum
ns; whether the lane stays in its safe state after the third of them (R469); and whether it is to be parked at its next
edge (R404). -/
structure Trav where
  done    : Nat
  toLevel : Nat
  cause   : Nat
  lastRaw : Nat
  resets  : List Int
  held    : Bool
  parkReq : Bool
  deriving DecidableEq, Repr

/-- The traverse after a reset. -/
def Trav.fresh : Trav := ⟨0, 0, 0, 0, [], false, false⟩

/-! ### Commands the host complex handed to a lane (R302, R303) -/

/-- A command's place in its completion: function, TAG, OPCODE and the apply tick used (0 where it is ignored); the
function's reset count when the command was fetched from its ring, none for a command that no ring holds; and whether
it is the standby's copy of a forwarded command, which completes nothing (R46). -/
structure CmdId where
  fn    : Nat
  tag   : Nat
  op    : Nat
  apply : Nat
  ep    : Option Nat
  quiet : Bool
  deriving DecidableEq, Repr

/-- A command that has completed and waits to be written to its completion ring: STATUS and RESULT octets. -/
structure Done where
  id     : CmdId
  status : Nat
  result : List Byte
  deriving DecidableEq, Repr

/-! ### Sample intake (R53 to R73) -/

/-- A record of the quality-change log (R72): the tick of its closure, the subscription, the channel of the stream
whose quality octet changed (none for the stream's status), and the new octet or status bits. -/
structure QRec where
  tick : Nat
  sub  : Nat
  chan : Option Nat
  val  : Nat
  deriving DecidableEq, Repr

/-- What intake holds beside its registers. -/
structure Intake where
  streams : NMap Stream
  /-- The tick of the last cut-off. -/
  cutTick : Nat
  /-- The grandmaster identity used since this tick's edge (R61); 0 until one was followed. [log 138 DESIGN CHOICE] -/
  gm      : Nat
  /-- Frames parsed in this datum second. -/
  fps     : Nat
  /-- The quality-change log of R72, newest first. -/
  qlog    : List QRec
  /-- The tick of the last lane reset: streams that hold nothing have no history before it (R73). -/
  since   : Nat
  deriving DecidableEq, Repr

/-- A view after a history reset: STALE with a miss run of zero (R73). -/
def View.fresh : View := ⟨0, 0, true, false⟩

/-- A stream after a history reset at a tick. -/
def Stream.fresh (since : Nat) : Stream :=
  { seen := [], hist := [], svc := .fresh, tst := .fresh, expect := none, index := ⟨[]⟩, dueNow := [], frozen := [],
    nsamp := 1, key := none, wrapped := false, lostEvt := 0, recEvt := 0, since := since, wrote := 0, lpddr := [],
    frames := [], lastQ := [], lastSt := none }

/-- Intake after a reset. -/
def Intake.fresh (since : Nat := 0) : Intake := ⟨⟨[]⟩, 0, 0, 0, [], since⟩


/-! ### The lane switch (R243 to R271) -/

/-- A frame in the switch's buffers: how it came in (ports 0 to 3, 4 for IN), its class, its cells, its copies still
queued and its cells on chip, the host descriptor it came from (function, ring, index), and where and
when its copies left. -/
structure Buf where
  frame   : Frame
  ingress : Nat
  cls     : Nat
  cells   : Nat
  copies  : Nat
  chip    : Nat
  host    : Option (Nat × Nat × Nat)
  sent    : Nat
  ts      : List (Nat × Nat)
  vid     : Nat
  rx      : Nat
  deriving DecidableEq, Repr

/-- A copy of a frame in an egress queue, as it will leave: its tag, redundancy part, length and ECN field; whether it
is the lane's own; how many of its cells lie in overflow; the trunk hash entry that sent it here. -/
structure QItem where
  buf   : Nat
  cells : Nat
  tag   : Option Tag
  red   : Option RedTag
  len   : Nat
  ecn   : Option Nat
  own   : Bool
  out   : Nat
  hash  : Option Nat
  deriving DecidableEq, Repr

/-- A learned address (R251): MAC, VID, port, raw count when last seen. -/
structure Learned where
  mac  : Nat
  vid  : Nat
  port : Nat
  raw  : Nat
  deriving DecidableEq, Repr

/-- A duplicate-discard entry (R262, R263): source, sequence number, the direction served (0 to 3 a port, 4 the lane
side), raw count. -/
structure Seen where
  src : Nat
  seq : Nat
  dir : Nat
  raw : Nat
  deriving DecidableEq, Repr

/-- A host transmit descriptor whose frame has left or was dropped: function, ring, index, STATUS, SENT mask and the
timestamps by port (R307). -/
structure TxDone where
  fn     : Nat
  ring   : Nat
  idx    : Nat
  status : Nat
  sent   : Nat
  ts     : List (Nat × Nat)
  deriving DecidableEq, Repr

/-- What the switch holds beside its registers. Queues are numbered port × 8 + class, port 4 being IN. -/
structure Net where
  free    : Nat
  ovf     : Nat
  bufs    : NMap Buf
  nextBuf : Nat
  queues  : NMap (List QItem)
  learned : List Learned
  seen    : List Seen
  nodes   : List (Nat × Nat)
  meters  : NMap (Nat × Nat)
  /-- Trunk hash entries away from their home port (R265). -/
  moved   : List Nat
  /-- Raw count at which a port's link last came up. -/
  upAt    : NMap Nat
  /-- Weighted round robin by port: class served and frames left in its turn (R256). -/
  wrr     : NMap (Nat × Nat)
  /-- Pauses in force by queue number: raw count and quanta (R260). -/
  pause   : NMap (Nat × Nat)
  /-- IN-sourced classes held back at HWM, as bits (R259). -/
  inOff   : Nat
  redSeq  : Nat
  supRaw  : Option Nat
  txDone  : List TxDone
  deriving DecidableEq, Repr

/-- The switch after a lane reset: every cell free (R253). -/
def Net.fresh : Net :=
  { free := 32768, ovf := 0, bufs := ⟨[]⟩, nextBuf := 0, queues := ⟨[]⟩, learned := [], seen := [], nodes := [],
    meters := ⟨[]⟩, moved := [], upAt := ⟨[]⟩, wrr := ⟨[]⟩, pause := ⟨[]⟩, inOff := 0, redSeq := 0, supRaw := none,
    txDone := [] }

/-! ### Datum (R272 to R292) -/

/-- A point of the mapping of R273: the tick, the raw count at its edge, the sum of rate × raw steps over all earlier
ticks since OFS was set (in 2^−48 ns), and the rate applied in the tick. -/
structure MapPt where
  tick : Nat
  e    : Nat
  d    : Int
  rate : Nat
  deriving DecidableEq, Repr

/-- A reference candidate of R283: ports 0 to 3 carry PTP, 4 is 1PPS. -/
structure Cand where
  heard  : Bool
  ds     : DataSet
  src    : Nat
  count  : Nat
  need   : Nat
  qual   : Bool
  lastNs : Int
  lastSync : Int
  theta  : Int
  curNs  : Option Int
  barred : Bool
  /-- An offset from it has been measured. -/
  meas   : Bool
  deriving DecidableEq, Repr

/-- A port's PTP exchanges in progress (R279): a two-step Sync awaiting its Follow_Up (sequence, receive time,
correction), the lane's own Pdelay_Req (sequence, send time), its response (receive time, t2, correction), sequence
numbers for sending, and the residence to add to the Follow_Up of a forwarded two-step Sync. `hold` counts its Announce
intervals since HOLDOVER was entered, and `stop` says that Announce and Sync have ended there (R280). -/
structure PtpPort where
  syncSeq  : Option (Nat × Int × Int)
  reqSeq   : Option (Nat × Int)
  resp     : Option (Int × Int × Int)
  txSync   : Nat
  txAnn    : Nat
  txReq    : Nat
  resid    : Option (Nat × Int)
  hold     : Nat
  stop     : Bool
  deriving DecidableEq, Repr

/-- A foreign master heard on a port (R279): its sender identity, its data set, and when it last announced, in ns. -/
structure Foreign where
  src  : Nat
  ds   : DataSet
  last : Int
  deriving DecidableEq, Repr

/-- The slew profile of an accepted step (R288): the step in ns, ticks of rise, ticks of hold at the cap, ticks run,
and the extra rate now added. -/
structure Slew where
  s    : Int
  n    : Nat
  hold : Nat
  ran  : Nat
  add  : Int
  off  : Int
  deriving DecidableEq, Repr

/-- The datum state that a sag flushes to MRAM (R292): the datum value in 1/65,536 ns, the rate target, the mapping at the
last edge, the identity of the reference, and the mean target of R284. -/
structure DatumSave where
  val    : Int
  target : Nat
  map    : Option MapPt
  gm     : Nat
  mean   : Nat
  deriving DecidableEq, Repr

/-- What datum time keeps beside its registers. -/
structure Datum where
  /-- OFS in 1/65,536 ns, in force while the datum is set. -/
  ofs     : Int
  /-- The last 1,024 mapping points, newest first (R273). -/
  maps    : List MapPt
  /-- Candidates by number. -/
  cands   : NMap Cand
  /-- Ports by number. -/
  ports   : NMap PtpPort
  /-- The candidate steered by, or being switched to. -/
  ref     : Option Nat
  /-- Consecutive measurements with |θ| at most 100 ns in a switch (R285). -/
  settle  : Nat
  /-- When the switch was committed. -/
  swNs    : Int
  /-- The last three measurements beyond JUMP with one sign, newest first, in ns (R287). -/
  beyond  : List Int
  /-- Targets written while LOCKED, with their times, newest first (R284). -/
  lockLog : List (Int × Nat)
  /-- When LOCKED was left; none while LOCKED (R284). -/
  lockEnd : Option Int
  /-- The servo's own part of the rate target, apart from a slew profile. -/
  servo   : Nat
  slew    : Option Slew
  /-- The previous valid pulse, as a datum instant, and invalid pulses in a row (R281, R285). -/
  ppsPrev : Option Int
  ppsBad  : Nat
  /-- Foreign masters heard, by port (R279). -/
  foreign : NMap (List Foreign)
  /-- The reference in use, while its port's best foreign master is another (R283). -/
  held    : Option Cand
  /-- The data set of the grandmaster last followed (R280). -/
  gmDs    : DataSet
  /-- Consecutive ticks with the twin offset beyond ±100 ns (R290). -/
  twinRun : Nat
  /-- What was flushed to MRAM (R276, R292). -/
  saved   : Option DatumSave
  /-- The counts that masters no longer a port's best need to qualify, by their identity (R283), and the masters barred
  (R288). -/
  needs   : NMap Nat
  bars    : List Nat
  /-- STATE and INIT at the last edge of tick 0 of a second, as CODE of a beacon has them (R277). -/
  secCode : Nat
  /-- The initial set of this start has been tried (R276, R385). -/
  tried   : Bool
  /-- A beacon waits for room on these functions' event rings (R277): function, instant in ns, tick, code. -/
  beacons : NMap (Nat × Nat × Nat)
  deriving DecidableEq, Repr

/-- The candidate before anything is heard. -/
def Cand.fresh : Cand := ⟨false, ⟨0, 0, 0, 0, 0, 0, 0⟩, 0, 0, 0, false, 0, 0, 0, none, false, false⟩

/-- The port with no exchange in progress. -/
def PtpPort.fresh : PtpPort := ⟨none, none, none, 0, 0, 0, none, 0, false⟩

/-- Datum time after a cold reset (R275). -/
def Datum.fresh : Datum :=
  { ofs := 0, maps := [], cands := ⟨[]⟩, ports := ⟨[]⟩, ref := none, settle := 0, swNs := 0, beyond := [], lockLog := [],
    lockEnd := none, servo := 0, slew := none, ppsPrev := none, ppsBad := 0, foreign := ⟨[]⟩, held := none,
    gmDs := Cand.fresh.ds, twinRun := 0, saved := none, needs := ⟨[]⟩,
    bars := [], secCode := 0, tried := false, beacons := ⟨[]⟩ }

/-! ### Conditioning chains and wavefront capture (R74 to R97) -/







/-- What conditioning holds beside its registers. -/
structure Cond where
  chains : NMap Chain
  wfs    : NMap Wf
  /-- The lane's wavefront ring, newest first, and its sequence number (R96). -/
  ring   : List WfEvent
  seq    : Nat
  /-- Select bits by chain as they were before the last closure (R234). -/
  before : Nat
  deriving DecidableEq, Repr

/-- A chain after a reset (R91). -/
def Chain.fresh (src : Bool) (since : Nat := 0) : Chain :=
  ⟨src, none, 0, 0, [], [], none, 0, [], false, [], [], [], [], [], none, [], [], since⟩

/-- A detector after a reset. -/
def Wf.fresh : Wf := ⟨[], 0, false, none, []⟩

/-- Conditioning after a reset. -/
def Cond.fresh : Cond := ⟨⟨[]⟩, ⟨[]⟩, [], 0, 0⟩



/-! ### Element fabric (R98 to R132) -/




/-- What the fabric holds beside its registers: descriptors in force, state memory, this tick's outputs, and the
window store by entry; then descriptors and state as they stood at the last closure (R306). The outputs as at the previous closure are FAB_OUT_VAL and FAB_OUT_STAT. -/
structure Fabric where
  desc  : NMap Desc
  slots : NMap SlotSt
  cur   : NMap ElOut
  store : NMap Word
  shownDesc  : NMap Desc
  shownSlots : NMap SlotSt
  deriving DecidableEq, Repr

/-- A slot after a reset (R129). -/
def SlotSt.reset : SlotSt :=
  { cPrev := false, op := false, blk := false, fresh := true, pulse := false, taValid := false, lostPrev := 0,
    puCnt := 0, doCnt := 0, bitPrev := 0, held := [], since := 0, aRe := 0, aIm := 0, bRe := 0, bIm := 0, m := 0,
    wpos := 0, used := 0, lastPos := 0, stale := 0, cnt := 0, tA := 0, wait := [] }

/-- The fabric after a lane reset. -/
def Fabric.fresh : Fabric := ⟨⟨[]⟩, ⟨[]⟩, ⟨[]⟩, ⟨[]⟩, ⟨[]⟩, ⟨[]⟩⟩


/-! ### Trip matrix, trip lines and backstop (R133 to R149) -/


/-- A TL_RESET whose lines are not all settled (R142): the masks still open, released, discarded, not applicable. -/
structure TlJob where
  id   : CmdId
  left : Nat
  rel  : Nat
  disc : Nat
  na   : Nat
  deriving DecidableEq, Repr


/-- What the trip matrix holds beside its registers: lines, comparator runs, this tick's backstop bits, the term
demand and destinations as last latched, and the jobs and publications. -/
structure Trip where
  lines : NMap TripLine
  runs  : NMap Nat
  bsp   : Nat
  tm    : Nat
  gb    : Nat
  gbT   : Nat
  trg   : Nat
  flg   : Nat
  jobs  : List TlJob
  pubs  : NMap GoosePub
  /-- Publications are stopped (R149). -/
  stop  : Bool
  deriving DecidableEq, Repr

/-- A released line. -/
def TripLine.fresh : TripLine := ⟨false, 0, false, false, none, 0⟩

/-- A publication that has sent nothing since the lane reset. -/
def GoosePub.fresh : GoosePub := ⟨[], 0, 0, 0, 0, 0, 0, false, false, 0⟩

/-- The trip matrix after a reset. -/
def Trip.fresh : Trip := ⟨⟨[]⟩, ⟨[]⟩, 0, 0, 0, 0, 0, 0, [], ⟨[]⟩, true⟩


/-! ### Command channels and pulse pairs (R150 to R163) -/

/-- A source's value for a command channel: the value, or none where the previous target stays; HELD and TEST. -/
structure CmdSrc where
  v    : Option Word
  held : Bool
  test : Bool
  deriving DecidableEq, Repr


/-- A scheduled edge of a gate line: its instant in steps of 1/1.2 GHz since the PTP epoch, H or L, the level. -/
structure GateEdge where
  at_ : Nat
  h   : Bool
  on  : Bool
  deriving DecidableEq, Repr

/-- A pulse pair: line levels, carry, h_prev, the earliest step its next period may start at, and edges to come. -/
structure Pulse where
  h     : Bool
  l     : Bool
  carry : Int
  hPrev : Bool
  run   : Bool
  start : Nat
  edges : List GateEdge
  deriving DecidableEq, Repr

/-- What a parcel gives the channels that name it: its values are its fallback's or held ones, the fallback by channel,
and the values it last published by channel. -/
structure CmdPcl where
  fb   : Bool
  fall : NMap Word
  last : NMap Word
  deriving DecidableEq, Repr

/-- What command outputs hold beside their registers: channels, pairs, the streams served in this tick, and what
parcels and element outputs gave before the last closure (R234). -/
structure Cmds where
  chans  : NMap CmdCh
  pulses : NMap Pulse
  served : Nat
  befPcl : NMap CmdPcl
  befEl  : NMap ElOut
  deriving DecidableEq, Repr

/-- A pulse pair that is off. -/
def Pulse.off : Pulse := ⟨false, false, 0, false, false, 0, []⟩

/-- Command outputs after a reset. -/
def Cmds.fresh : Cmds := ⟨⟨[]⟩, ⟨[]⟩, 0, ⟨[]⟩, ⟨[]⟩⟩

/-! ### Firmware, flash and keys (R405 to R426) -/

/-- A stored key (R425): identifier, algorithm, two copies of its two shares, and which copy is in use. -/
structure KeyCell where
  id  : Nat
  alg : Nat
  s1  : BitVec 256
  s2  : BitVec 256
  t1  : BitVec 256
  t2  : BitVec 256
  alt : Bool
  deriving DecidableEq, Repr

/-- A key slot: the current and the next key (R421). -/
structure KeySlot where
  cur  : Option KeyCell
  next : Option KeyCell
  deriving DecidableEq, Repr

/-- A wrapped key record in MRAM: the measurement it is wrapped for, slot, position, identifier, algorithm, key. -/
structure KeyRec where
  meas : Nat
  slot : Nat
  next : Bool
  id   : Nat
  alg  : Nat
  key  : BitVec 256
  deriving DecidableEq, Repr

/-- A key store (R421): its slots, wrapped records, the classes it holds, the owner root, the service nonce, and
whether ROOT is still fused in. -/
structure KeyStore where
  slots : NMap KeySlot
  recs  : List KeyRec
  test  : Bool
  prov  : Bool
  owner : Option Nat
  nonce : Option (BitVec 256)
  root  : Bool
  deriving DecidableEq, Repr

/-- A STAGE in progress (R414): who asked, the bank, the step reached, the header to be written, whether an erase is
running and whether it is suspended. -/
structure StageJob where
  id      : CmdId
  bank    : Nat
  step    : Nat
  hdr     : FwHeader
  erasing : Bool
  susp    : Bool
  deriving DecidableEq, Repr

/-- A traverse-image slot (R416): its header's SEQ and markers, the image, and whether its digest still matches. -/
structure ImgSlot where
  seq     : Nat
  eip     : Bool
  commit  : Bool
  applied : Bool
  img     : Image
  ok      : Bool
  deriving DecidableEq, Repr

/-- A part's flash: two banks, which of them was staged and passed step 6 of R414, the running bank and its header,
the fused minimum SVN, a STAGE in progress, whether the controller may suspend an erase, and (lanes) the two image
slots. -/
structure Flash where
  bank0   : FwHeader
  bank1   : FwHeader
  staged  : Option Nat
  run     : Option Nat
  running : FwHeader
  fuseSvn : Nat
  job     : Option StageJob
  slot0   : ImgSlot
  slot1   : ImgSlot
  deriving DecidableEq, Repr

/-- An erased marker. -/
def markErased : Word := 0xFFFFFFFF#32

/-- A programmed marker. -/
def markSet : Word := 0#32

/-- A header that holds a factory image: generation 7 for the host complex and the lanes, 3 for the safety lane,
confirmed in bank 0 with SEQ 1. -/
def fwFactory (kind gen seq : Nat) (good : Bool) : FwHeader :=
  let h : FwHeader :=
  { magic := if good then fwMagic else 0xFFFFFFFF, kind := kind, genLo := gen, genHi := gen, pmin := 7, pmax := 7, spmin := 3, spmax := 3, build := 0, svn := 0,
    len := 0, seq := seq, digest := 0, sig := 0, signer := 0, hcrc := 0, sigOk := good, bodyOk := good, eip := markErased,
    commit := if good then markSet else markErased, confirm := if good then markSet else markErased,
    att0 := markErased, att1 := markErased, att2 := markErased, retire := markErased }
  { h with hcrc := fwCrc h }

/-- An empty image slot. -/
def ImgSlot.empty : ImgSlot := ⟨0, false, false, false, .empty, true⟩

/-- Flash as delivered: one confirmed image in bank 0, nothing in bank 1, no traverse image. -/
def Flash.fresh (kind gen : Nat) : Flash :=
  { bank0 := fwFactory kind gen 1 true, bank1 := fwFactory kind gen 0 false, staged := none, run := none,
    running := fwFactory kind gen 1 true, fuseSvn := 0, job := none, slot0 := .empty, slot1 := .empty }

/-- A key store in BLANK: factory test keys only (R421, R426). -/
def KeyStore.fresh : KeyStore := ⟨⟨[]⟩, [], true, false, none, none, true⟩



/-! ### Parcels (R164 to R187) -/



/-- A region a strand may reach: first address, octets, and whether it may be read, written and executed. -/
structure Region where
  base : Nat
  len  : Nat
  r    : Bool
  w    : Bool
  x    : Bool
  deriving DecidableEq, Repr

/-- What a core runs in the slice in progress: parcel, strand, and the PMP regions the monitor loaded (R179). -/
structure OnCore where
  p   : Nat
  s   : Nat
  pmp : List Region
  deriving DecidableEq, Repr


/-- An unloaded parcel. -/
def Parcel.fresh : Parcel :=
  { img := none, mem := ⟨[]⟩, start := ⟨[]⟩, wrBy := ⟨[]⟩, mailCur := ⟨[]⟩, mailPub := ⟨[]⟩, critWork := ⟨[]⟩, critDone := ⟨[]⟩, page := ⟨[]⟩,
    cmdWr := ⟨[]⟩, last := ⟨[]⟩, lastCmd := ⟨[]⟩, pubVals := ⟨[]⟩, pubBits := 0, block := [], strands := [], cycle := 0,
    first := false, missed := false, restored := false, histRng := false, halt := false, crc := 0, wfSeen := 0,
    dirty := none, ready := false }

/-- A strand's registers before its first cycle. -/
def strandZero : StrandRegs := ⟨0, ⟨[]⟩, ⟨[]⟩, 0, none, 0⟩

/-! ### Interlock logic unit (R188 to R214) -/




/-- A snapshot buffer in MRAM (R211): tick number, CRC-32 of the program memory image, validity mask, flags, timers,
counters, and the CRC-32 over the whole buffer. -/
structure IluSnap where
  tick  : Nat
  prog  : Nat
  mask  : Nat
  flags : Nat
  tmr   : NMap TmrSt
  ctr   : NMap CtrSt
  crc   : Nat
  deriving DecidableEq, Repr


/-- What the ILU holds beside its registers: program machines, timers and counters of the last completed scans, host
flags HF64 to HF127, subscriptions; the latches of the tick, namely flags 128 to 671 at the cut-off, flags 0 to 8 and
HOLDOVER at the edge; the snapshot buffers and which one was committed last; whether a sag has stopped the unit; and the
program memory in MRAM, as the words that are not zero (R211). -/
structure Ilu where
  progs : NMap IluProg
  tmr   : NMap TmrSt
  ctr   : NMap CtrSt
  host  : Nat
  gs    : NMap GsSub
  gsLat : Nat
  fio   : Nat
  hold  : Bool
  b0    : Option IluSnap
  b1    : Option IluSnap
  newer : Bool
  sag   : Bool
  prog  : List (Nat × Word)
  deriving DecidableEq, Repr

/-- A program's machine outside a scan. -/
def IluProg.fresh : IluProg := ⟨false, 0, 0, false, false, [], 0, 0, 0, 0, ⟨[]⟩, ⟨[]⟩, none⟩

/-- A subscription that has accepted nothing. -/
def GsSub.fresh : GsSub := ⟨0, 0, 0, false, none, none, 0, false⟩

/-- The ILU after a cold reset, with both buffers empty. -/
def Ilu.fresh : Ilu := ⟨⟨[]⟩, ⟨[]⟩, ⟨[]⟩, 0, ⟨[]⟩, 0, 0, false, none, none, false, false, []⟩

/-! ### Field IO (R374 to R378) -/

/-- A lane's field IO group. Lane side: SEQ of the next frame to send, bad frames, good frames and good frames with FLT
clear in a row, the input image forced to zero, and the newest good PIN. Field side: SEQ expected, bad and good frames in a row, the levels applied,
FSAFE of the last good frame, FSAFE held, outputs off in overload, field supply low, SEQ of the last good frame. -/
structure Fio where
  txSeq  : Nat
  rxBad  : Nat
  rxGood : Nat
  rxClear : Nat
  zeroed : Bool
  pin    : Nat
  fSeq   : Option Nat
  fBad   : Nat
  fGood  : Nat
  fOut   : Nat
  fSafe  : Nat
  fHeld  : Bool
  fOver  : Nat
  fLow   : Bool
  fLast  : Nat
  /-- The input image taken in the last exchange: PIN with the common fault bit in bit 8 (R376). -/
  image  : Nat
  /-- The output image written in the last exchange. -/
  out    : Nat
  /-- Field side: the last sample of each pin, and the levels that two samples in a row have agreed on (R375). -/
  sample : Nat
  level  : Nat
  deriving DecidableEq, Repr

/-- Field IO after a lane reset: outputs at level 0, the common fault bit set (LCT_FIO_STAT). -/
def Fio.fresh : Fio := ⟨0, 0, 0, 0, false, 0, none, 0, 0, 0, 0, false, 0, false, 3, 0, 0, 0, 0⟩


/-! ### Commands pending on a lane (R44 to R48) -/

/-- A command that waits for its apply tick: received from the twin; forwarded and not yet acknowledged, acknowledged,
or committed (R46). -/
structure Pend where
  id     : CmdId
  cmd    : HostCmd
  fwd    : Bool
  needs  : Bool
  acked  : Bool
  commit : Bool
  deriving DecidableEq, Repr


/-! ### Twin operation (R215 to R242) -/

/-- What twin operation keeps beside its registers. -/
structure Twin where
  /-- Frame counters: the last accepted by class, and the next to send (R216). -/
  rxCtr   : NMap Nat
  txCtr   : Nat
  /-- Cells of TW's own buffer in use (R247). -/
  cells   : Nat
  /-- The first freeze tick F (R223). -/
  freeze  : Option Nat
  /-- The tick in progress is a realignment tick (R234). -/
  realign : Bool
  /-- The tick of a realignment to come. -/
  realAt  : Option Nat
  /-- The tick in which loss of the active lane was declared (R232). -/
  loss    : Option Nat
  /-- The tick of a planned swap under way (R239). -/
  turn    : Option Nat
  /-- The first edge from which active-only outputs are driven (R221, R237). -/
  driveAt : Option Nat
  /-- A role to be taken at the next edge (R219). -/
  roleNext : Option Bool
  /-- The state before PAIRING. -/
  before  : Nat
  /-- The tick at which the lane last entered service, and at which state transfer last started a first pass. -/
  svcAt   : Nat
  copyAt  : Nat
  /-- Granules still dirty, as ranges from a first to a last one (R222). -/
  dirty   : List (Nat × Nat)
  /-- What the pass in progress has still to send, and the first granule of the last COPY frame received (R222). -/
  pass    : List (Nat × Nat)
  copyPos : Option Nat
  /-- Granules that have arrived, or have been sent, and wait for a closure: first and last granule, the tick they were
  read in, content by granule. -/
  arrived : List (Nat × Nat × Nat × List (Nat × CopyPart))
  /-- The last tick in which the active lane wrote a granule, by its page digests. -/
  written : NMap Nat
  /-- The lane runs its traverse on the forwarded set (R222, R224). -/
  follow  : Bool
  /-- Forwarded records of ticks after the next cut-off (R224). -/
  fwd     : List IntakeRec
  /-- The lane's own accepted intake while it follows the forwarded set, and the tick of its own last cut-off. -/
  own     : NMap Stream
  ownCut  : Nat
  /-- The CUTOFF marker last received: tick, flags 128 to 671, field input image and fault bit. -/
  marker  : Option (Nat × Nat × Nat)
  /-- The tick last run on the lane's own set (R226). -/
  subst   : Option Nat
  /-- The lane's own digest and the twin's, each with its tick; the twin's digests missing in a row. -/
  mine    : Option (Nat × Nat)
  peer    : Option (Nat × Nat)
  missed  : Nat
  /-- A divergence self-check runs (R231). -/
  check   : Bool
  /-- The output of the last proof test, and its tick (R242). -/
  proofIx : Option Nat
  proofAt : Nat
  deriving DecidableEq, Repr

/-- Twin operation after a lane reset. -/
def Twin.fresh : Twin :=
  { rxCtr := ⟨[]⟩, txCtr := 0, cells := 0, freeze := none, realign := false, realAt := none, loss := none, turn := none, driveAt := none, roleNext := none,
    before := 0, follow := false, fwd := [], svcAt := 0, copyAt := 0, dirty := [], pass := [], copyPos := none, arrived := [], written := ⟨[]⟩, own := ⟨[]⟩, ownCut := 0,
    marker := none, subst := none, mine := none, peer := none, missed := 0, check := false, proofIx := none, proofAt := 0 }


/-! ### Field book (R344 to R347) -/

/-- A field book entry: ENUM, absolute source, severity, class, code, REPEAT, USEQ, FIRST, LAST, DATA. -/
structure FbEntry where
  enum  : Nat
  src   : Nat
  sev   : Nat
  safe  : Bool
  code  : Nat
  rep   : Nat
  useq  : Nat
  first : Int
  last  : Int
  data  : List Byte
  deriving DecidableEq, Repr

/-- A field book: entries of the safety and of the general class, oldest first, and the next ENUM. -/
structure Book where
  safe : List FbEntry
  gen  : List FbEntry
  next : Nat
  deriving DecidableEq, Repr

/-- An empty book. -/
def Book.empty : Book := ⟨[], [], 0⟩

/-! ### Acquisition (R324 to R336) -/

/-- One channel of a capture: full-rate samples, newest first, as instant in 1/65,536 ns, value and status; reduced
entries, newest first, as minimum, maximum, count and OR of statuses; the interval in progress; histogram bins with
UNDER in bin 1,024 and OVER in bin 1,025; persistence map cells; every stored sample synchronised; some
arrival-timed; rate, skew, SCALE and OFS as the capture began. -/
structure CapCh where
  full : List (Int × Word × Nat)
  red  : List (Word × Word × Nat × Nat)
  acc  : Option (Word × Word × Nat × Nat)
  bins : NMap Nat
  map  : NMap Nat
  sync : Bool
  at_  : Bool
  rate : Nat
  skew : Int
  gain : Word
  ofs  : Word
  deriving DecidableEq, Repr

/-- A capture in progress or complete: definition, trigger tick, first and last tick, trigger list (tick, TRG lines,
ILU triggers with the host trigger in bit 16), TRUNC, the last tick read, channels, wavefront events, and what the
header keeps of tick t: ROLE, SYNCED, DTM_STAT, grandmaster. -/
structure Capture where
  d      : Nat
  t      : Nat
  first  : Nat
  last   : Nat
  trigs  : List (Nat × Nat × Nat)
  trunc  : Bool
  read   : Nat
  ended  : Bool
  list   : List RecCh
  chans  : List CapCh
  events : List WfEvent
  /-- Wavefront events that wait to be mapped, with their channel's place in the list (R332). -/
  todo   : List (Nat × WfEvent)
  role   : Bool
  synced : Bool
  dtm    : Word
  gm     : Nat
  /-- ARCH, NET and the number of closures for which an ended capture still waits for wavefront events of its span. -/
  arch   : Bool
  net    : Bool
  wait   : Nat
  deriving DecidableEq, Repr

/-- A record in the output buffer: the definition, record ID, its octets, whether it is to be handed to the host
complex, and the octets sent on the network (none where NET is clear). -/
structure OutRec where
  d     : Nat
  id    : Nat
  bytes : List Byte
  host  : Bool
  net   : Option Nat
  deriving DecidableEq, Repr

/-- What the acquisition engine holds beside its registers: captures; the ring of ACQ slots' outputs by slot, newest
first, as tick, value and status; trigger lines and ILU triggers at the last latch and closure; ILU triggers that fall
in the next tick; host triggers by tick; wavefront events copied so far; the output buffer. -/
structure Acq where
  caps : List Capture
  ring : NMap (List (Nat × Word × Nat))
  trg  : Nat
  ilt  : Nat
  next : Nat
  host : List (Nat × Nat)
  wf   : Nat
  out  : List OutRec
  deriving DecidableEq, Repr

/-- Acquisition after a lane reset. -/
def Acq.fresh : Acq := ⟨[], ⟨[]⟩, 0, 0, 0, [], 0, []⟩



/-! ### What leaves the module -/

/-- What a command sends out of the part it acts on. -/
inductive Emit
  | frame (port : Nat) (f : Frame)
  | stomped (port : Nat) (f : Frame)
  | pfc (port cls quanta : Nat)
  | wake (port code : Nat)
  | gate (pair : Nat) (edges : List GateEdge)
  | twin (ctr : Nat) (f : TwinFrame)
  | proof (output : Nat) (level : Bool) (start ptw : Nat)
  deriving DecidableEq, Repr

/-! ### A protection lane -/

/-- A protection lane: its registers, and what each unit holds beside them. -/
structure Lane where
  /-- The lane window's registers. -/
  regs    : RegFile
  /-- `_HI` values latched by a read of `_LO`, by the key of the `_HI` register (R7). -/
  latch   : NMap Word
  /-- `_LO` values staged by a write, by the key of the `_LO` register (R7). -/
  staged  : NMap Word
  /-- The first of the lane's four port MAC addresses (R243). -/
  mac     : Nat
  /-- The image in force and the one before it (R306). -/
  img     : Image
  imgPrev : Image
  trav    : Trav
  intake  : Intake
  datum   : Datum
  cond    : Cond
  fabric  : Fabric
  trip    : Trip
  twin    : Twin
  cmds    : Cmds
  pcl     : NMap Parcel
  /-- Parcel images to be loaded again after a reset, with AUTOSTART (R187); critical state in MRAM by parcel (R178). -/
  copies  : NMap (ParcelImg × Bool)
  critMram : NMap (ParcelImg × ByteMem)
  /-- The lane has been reset and its parcels are not yet loaded again; the reset was a cold one (R187). -/
  reload  : Option Bool
  /-- What runs on each core whose slice is in progress. -/
  cores   : NMap OnCore
  ilu     : Ilu
  fio     : Fio
  net     : Net
  acq     : Acq
  /-- The field book, and its copy in MRAM (R347). -/
  book    : Book
  saved   : Option Book
  /-- Flushes to MRAM whose header is not yet written: the book as it stood, and the command that asked (R347). -/
  flush   : List (Book × Option CmdId)
  keys    : KeyStore
  flash   : Flash
  /-- The host GEN that the last admitted start recorded in MRAM (R407). -/
  hostGen : Option Nat
  /-- Events raised and not yet entered in the field book. -/
  occ     : List Occ
  /-- Occurrences entered in the book that wait to be placed on event rings, with their REPEAT (R312). -/
  placed  : List (Occ × Nat)
  /-- Commands that wait for their apply ticks, in the order of R47. -/
  pend    : List Pend
  /-- Commands completed on the lane and not yet written to their rings. -/
  fin     : List Done
  /-- What the last command on the lane sent out. -/
  sent    : List Emit
  /-- Free values taken so far (the model's own counter). -/
  free    : Nat
  deriving DecidableEq, Repr

/-- The lane after a cold reset, before it starts. -/
def Lane.fresh (mac : Nat) : Lane :=
  { regs := .fresh, latch := ⟨[]⟩, staged := ⟨[]⟩, mac := mac, img := .empty, imgPrev := .empty,
    trav := .fresh, intake := .fresh, datum := .fresh, cond := .fresh, fabric := .fresh, trip := .fresh, twin := .fresh, cmds := .fresh, pcl := ⟨[]⟩, copies := ⟨[]⟩, critMram := ⟨[]⟩,
    reload := none, cores := ⟨[]⟩, ilu := .fresh, fio := .fresh,
    net := .fresh, acq := .fresh, book := .empty, saved := none, flush := [], keys := .fresh,
    flash := .fresh 2 7, hostGen := none, occ := [], placed := [], pend := [], fin := [], sent := [], free := 0 }


/-! ### The host complex (R293 to R323, R337 to R343) -/

/-- What the host complex sends to the host: a write to a function's memory, of octets or of a received frame; an MSI-X message of a vector, with its
address and data; the value of a register read; an NVMe command in an entry of the submission queue in BAR2, with its
identifier, opcode (0 Flush, 1 Write, 2 Read), NSID, first logical block, blocks less 1, FUA and data; a peer-to-peer
write of a doorbell. -/
inductive HostEmit
  | write (fn addr : Nat) (bytes : List Byte)
  | frame (fn addr : Nat) (f : Frame)
  | msg (fn vector addr data : Nat)
  | value (w : Word)
  | nvme (entry cid op nsid slba nlb : Nat) (fua : Bool) (bytes : List Byte)
  | peer (addr value : Nat)
  deriving DecidableEq, Repr

/-- A function (R296 to R315). FN_STAT, FN_RING_IDX, FN_RING_STAT, FN_OUTST and FN_PBA in its page hold the ring
states, indices, descriptors in flight and credits. -/
structure Fn where
  regs   : RegFile
  /-- `_HI` values latched by a read and `_LO` values staged by a write (R7). -/
  latch  : NMap Word
  staged : NMap Word
  /-- Function resets so far: completions of an earlier count are dropped (R315). -/
  epoch  : Nat
  /-- By ring, entries written since its last message and when the first of them was written, in ns (R313). -/
  owed   : NMap (Nat × Int)
  /-- Events dropped since the last overflow entry (R312). -/
  lost   : Nat
  /-- Vectors whose mask bit is clear. -/
  unmask : Nat
  /-- Transmit descriptors fetched and not written back, by ring, oldest first: index; refused; the lane whose
  switch it went to (R307). -/
  tx     : NMap (List (Nat × Bool × LaneId))
  /-- A beacon of the host-complex clock waits: its instant and code (R310, R312). -/
  beacon : Option (Int × Nat)
  deriving DecidableEq, Repr

/-- A function after its reset. -/
def Fn.fresh : Fn := ⟨.fresh, ⟨[]⟩, ⟨[]⟩, 0, ⟨[]⟩, 0, 0, ⟨[]⟩, none⟩

/-- An accepted SET_QUOTA: the VF, the lane its command waits on and its TAG, its record, the apply tick, the lanes that
have still to take their items, and whether the module items have been taken (R318). -/
structure QuotaNext where
  vf    : Nat
  lane  : LaneId
  tag   : Nat
  q     : Quota
  apply : Nat
  left  : List LaneId
  done  : Bool
  deriving DecidableEq, Repr

/-- A migration in progress (R320, R321): who asked, source and target, the tick from which it tracks, whether the
first pass is over and READY was raised, and a SWITCH: its command, F, the decision at the closure of F − 1,
whether the source has been FROZEN at F, has been unloaded, and the target runs. -/
structure Mig where
  fn    : Nat
  src   : LaneId
  p     : Nat
  dst   : LaneId
  q     : Nat
  from_ : Nat
  first : Bool
  ready : Bool
  switch : Option CmdId
  at_   : Nat
  go    : Option Bool
  froze : Bool
  out   : Bool
  ran   : Bool
  deriving DecidableEq, Repr

/-! #### The archive (R337 to R343) -/

/-- Why an NVMe command was submitted: data of a record; the flush that ends a record; a catalogue page; data of a
function's command; a read of recovery. -/
inductive ArcWhy
  | data (recId : Nat)
  | flush (recId : Nat)
  | page (n : Nat)
  | host (job : Nat)
  | recover
  deriving DecidableEq, Repr

/-- An NVMe command: opcode, byte offset, length, FUA, data, and why. -/
structure NvmeCmd where
  op    : Nat
  off   : Nat
  len   : Nat
  fua   : Bool
  bytes : List Byte
  why   : ArcWhy
  deriving DecidableEq, Repr

/-- A record in staging (R340): its ID, its source lane, TRUNC, its octets, the extents it has, and the NVMe commands
still to complete. -/
structure ArcRec where
  id    : Nat
  src   : Nat
  trunc : Bool
  bytes : List Byte
  exts  : List Nat
  left  : Nat
  deriving DecidableEq, Repr

/-- A function's archive command in progress: its identity, the NVMe commands still to complete, and the buffer that
takes what is read. -/
structure ArcJob where
  id   : CmdId
  left : Nat
  addr : Nat
  base : Nat
  deriving DecidableEq, Repr

/-- What the archive holds beside its registers: the queue set, with the tail of the submission queue and the head of the
completion queue in BAR2; the cached catalogue (extents that are not FREE); pages not committed, and those of them that go
in one commit; each page's newest write sequence and the slot that holds it; the next ALLOC_SEQ; records in staging, those
not yet submitted first; NVMe commands waiting, waiting for their retry, and submitted, with whether one is its own retry;
functions' commands in progress; the ATTACH that waits for recovery. -/
structure Archive where
  attach  : Option AttachRec
  sqTail  : Nat
  cqHead  : Nat
  cat     : NMap ArcEntry
  dirty   : List Nat
  tied    : List (List Nat)
  pageSeq : NMap (Nat × Bool)
  nextSeq : Nat
  staged  : List ArcRec
  writing : List ArcRec
  todo    : List NvmeCmd
  retry   : List NvmeCmd
  out     : NMap (NvmeCmd × Bool)
  nextCid : Nat
  jobs    : NMap ArcJob
  nextJob : Nat
  recover : Option CmdId
  deriving DecidableEq, Repr

/-- A detached archive with nothing staged. -/
def Archive.fresh : Archive :=
  { attach := none, sqTail := 0, cqHead := 0, cat := ⟨[]⟩, dirty := [], tied := [], pageSeq := ⟨[]⟩, nextSeq := 1, staged := [],
    writing := [], todo := [], retry := [], out := ⟨[]⟩, nextCid := 0, jobs := ⟨[]⟩, nextJob := 0, recover := none }

/-- The host complex. -/
structure Hcx where
  /-- HCX and SFS registers. -/
  regs    : RegFile
  latch   : NMap Word
  staged  : NMap Word
  fns     : NMap Fn
  /-- Virtual functions that exist (R295). -/
  vfs     : Nat
  quotas  : NMap Quota
  quotaNext : List QuotaNext
  /-- The host-complex clock at its last setting, and what set it: 0 a lane datum, 1 SET_TOD, 2 nothing (R310). -/
  clock   : Int
  clockSrc : Nat
  /-- The time of day of SET_TOD since the last cold reset (R276). -/
  tod     : Option Int
  done    : List Done
  /-- Host-complex and safety-lane occurrences, with the lane whose datum gave their times (R309): not yet booked, and
  booked and not yet placed, with REPEAT. -/
  occ     : List (Occ × Nat)
  placed  : List (Occ × Nat × Nat)
  book    : Book
  /-- The book log in NOR: the safety class entry by entry, the general class as last saved (R395). -/
  nor     : Book
  arc     : Archive
  keys    : KeyStore
  flash   : Flash
  migs    : List Mig
  sent    : List HostEmit
  deriving DecidableEq, Repr

/-- The host complex after a cold reset. -/
def Hcx.fresh : Hcx :=
  { regs := .fresh, latch := ⟨[]⟩, staged := ⟨[]⟩, fns := ⟨[]⟩, vfs := 0, quotas := ⟨[]⟩, quotaNext := [], clock := 0,
    clockSrc := 2, tod := none, done := [], occ := [], placed := [], book := .empty, nor := .empty,
    arc := .fresh, keys := .fresh, flash := .fresh 1 7, migs := [], sent := [] }

/-! ### The safety lane (R351 to R373) -/

/-- An input pair (R356 to R361): for contacts a and b the last sample, the samples in a row that differ from the
filtered level, and the filtered level (true closed, reading high); the discrepancy timer in ms; the latched fault and
whether it is a pulse fault; the step reached in clearing it (1 both in demand, 2 one has left) and the ms since one
left; in demand in the last cycle. -/
structure Pair where
  sa    : Bool
  sb    : Bool
  ra    : Nat
  rb    : Nat
  a     : Bool
  b     : Bool
  timer : Option Nat
  fault : Bool
  pulse : Bool
  step  : Nat
  left  : Nat
  dem   : Bool
  deriving DecidableEq, Repr

/-- The holding test (R366): none, waiting for its window, window open with the ms for which it has been. -/
inductive HtPhase
  | idle
  | waiting
  | window (ms : Nat)
  deriving DecidableEq, Repr

/-- The safety lane. Its state is 0 START, 1 RUN, 2 SAFE. -/
structure Safety where
  st      : Nat
  cause   : Nat
  /-- The sequencer's hold in START while the module is parked (R404). -/
  held    : Bool
  /-- A sag has opened the brake switches (R370): domains go off once its event is sent. -/
  sag     : Bool
  /-- SEAL as read at power-up, none before (R354). -/
  seals   : Option Word
  pairs   : NMap Pair
  /-- Switches commanded closed and read back closed: bit 3 HS1, 2 LS1, 1 HS0, 0 LS0; readbacks in a row that differ. -/
  cmd     : Nat
  rdbk    : Nat
  diff    : NMap Nat
  /-- ms since the brakes were last applied or released. -/
  since   : Nat
  coil0   : Nat
  coil1   : Nat
  badCoil0 : Nat
  badCoil1 : Nat
  /-- A reset has been accepted since the brakes were last applied (R363). -/
  resetOk : Bool
  /-- ms for which the reset pair has been held in demand, and whether another pair was in demand meanwhile. -/
  press   : Option Nat
  spoiled : Bool
  /-- ms since the release or the last switch-test round (R364). -/
  testMs  : Nat
  ht      : HtPhase
  htfail  : Bool
  result  : Nat
  win     : Nat
  sp0     : Nat
  sp1     : Nat
  demCnt  : Nat
  testCnt : Nat
  uptime  : Nat
  eccCe   : Nat
  /-- Events not yet received by the host complex: source, code, DATA (R373). -/
  events  : List (Nat × Nat × List Byte)
  /-- A transfer on the programming port: the next offset, the header received, and what PST last showed: a page
  accepted, or refused (R449). -/
  page    : Nat
  hdr     : Option FwHeader
  pstOk   : Option Bool
  flash   : Flash
  deriving DecidableEq, Repr

/-- An input pair before its first sample: open contacts. -/
def Pair.fresh : Pair := ⟨false, false, 0, 0, false, false, none, false, false, 0, 0, false⟩

/-- The safety lane after a cold reset: START, brakes applied. -/
def Safety.fresh : Safety :=
  { st := 0, cause := 0, held := false, sag := false, seals := none, pairs := ⟨[]⟩, cmd := 0, rdbk := 0, diff := ⟨[]⟩, since := 0,
    coil0 := 0, coil1 := 0, badCoil0 := 0, badCoil1 := 0, resetOk := false, press := none, spoiled := false, testMs := 0,
    ht := .idle, htfail := false, result := 0, win := 0, sp0 := 0, sp1 := 0, demCnt := 0, testCnt := 0, uptime := 0,
    eccCe := 0, events := [], page := 0, hdr := none, pstOk := none, flash := .fresh 3 3 }

/-! ### Power (R380 to R404) -/

/-- The power states of R382. -/
inductive MState
  | off
  | starting
  | service
  | holdUp
  | parked
  | sleeping
  deriving DecidableEq, Repr

/-- What the always-on sequencer holds beside the module power registers: the power state; the lane stages still to
run, in order; the lanes whose flush a hold-up waits for; whether supply returned in the hold-up; the datum instant, in
ns, at which the last sag was detected; the whole °C last reported for TREF, above +75; the host complex is ready; and
the start that runs is part of a cold or warm module reset (R9). -/
structure Power where
  mstate : MState
  queue  : List LaneId
  flush  : List LaneId
  ret    : Bool
  sagAt  : Int
  hot    : Option Int
  hcxUp  : Bool
  reset  : Bool
  /-- Always-on domains that a fault has switched off, as bits of PD_AON0 to PD_AON3 (R381). -/
  aonOff : Nat
  deriving DecidableEq, Repr

/-- The sequencer as it is set for a start: every lane stage to run. -/
def Power.fresh : Power := ⟨.starting, [.a, .b, .c, .d], [], false, 0, none, false, true, 0⟩

/-! ### The module -/

/-- The module. -/
structure State where
  lanes   : Quad Lane
  host    : Hcx
  safety  : Safety
  power   : Power
  /-- Commands that wait, first in, first out. -/
  pending : List Instr
  deriving DecidableEq, Repr

/-- The module right after a cold reset. -/
def State.reset : State :=
  { lanes := ⟨.fresh 0x020000000000, .fresh 0x020000000004, .fresh 0x020000000008, .fresh 0x02000000000C⟩,
    host := .fresh, safety := .fresh, power := .fresh, pending := [] }

end Sys2Proof.Machine
end

