-- ==== Sys2Proof/Machine/Mem.lean ====
section
/-! DEFINITION. Octet memories in their canonical form: addresses rise and no listed octet is zero; an unlisted octet
reads zero (R178). -/

namespace Sys2Proof.Machine

open Sys2Proof

/-- Reads one octet. -/
def memGet (m : ByteMem) (a : Nat) : Byte := m.getD a 0#8

/-- Writes one octet; a zero is not listed. -/
def memPut (m : ByteMem) (a : Nat) (b : Byte) : ByteMem := if b = 0#8 then m.del a else m.put a b

/-- Writes octets from an address on. -/
def memWrite : ByteMem → Nat → List Byte → ByteMem
  | m, _, [] => m
  | m, a, b :: t => memWrite (memPut m a b) (a + 1) t

/-- Reads `n` octets from an address on. -/
def memRead (m : ByteMem) (a n : Nat) : List Byte := (List.range n).map (fun i => memGet m (a + i))

/-- The number that four octets spell. -/
def memWord (m : ByteMem) (a : Nat) : Word := w32 (ofLe (memRead m a 4))

/-- The memory without an interval. -/
def memClear (m : ByteMem) (a n : Nat) : ByteMem := m.keep (fun k _ => decide (k < a ∨ a + n ≤ k))

/-- The canonical form. -/
abbrev memWf (m : ByteMem) : Prop := m.wf ∧ ∀ c ∈ m.cells, c.2 ≠ 0#8

end Sys2Proof.Machine
end

