-- ==== Sys2Proof/Config.lean ====
section
/-! DEFINITION. The free values: what the spec leaves open and each implementation settles. None has a body, so
nothing can be proved of their values. -/

namespace Sys2Proof.Config

open Sys2Proof

/-- The rate target the firmware servo writes after a measurement (R274, R284: the spec gives no servo gains).
[log 11 DESIGN CHOICE, log 78 DESIGN CHOICE, log 88 DESIGN CHOICE] -/
opaque servoTarget : Nat → DWord

/-- The coefficients of the fixed resampler sets, binary32 by set, phase and tap (R83: the spec gives their kinds and
bands, not their values). [log 11 DESIGN CHOICE, log 49 DESIGN CHOICE] -/
opaque resamplerTap : Nat → Nat → Nat → Word

/-- The real part of e^(−j2πi/W) as the fabric computes it, binary64, by W and i (R117: any value within one unit
in the last place of binary32; `coefficient` holds it to that). [log 11 DESIGN CHOICE, log 58 DESIGN CHOICE] -/
opaque twiddleRe : Nat → Nat → DWord

/-- The imaginary part of e^(−j2πi/W), binary64, by W and i (R117). [log 11 DESIGN CHOICE, log 58 DESIGN CHOICE] -/
opaque twiddleIm : Nat → Nat → DWord

/-- The phase of a number in radians, binary64, by its real and imaginary parts, which are not both 0 (R117: any value
within one unit in the last place; `phaseOf` holds it to that). [log 11 DESIGN CHOICE, log 58 DESIGN CHOICE] -/
opaque phase64 : DWord → DWord → DWord

/-- The benchmark of a partition of the logic self-test, LB0 to LB10, in the lane boot ROM (R389 gives no values).
[log 11 DESIGN CHOICE] -/
opaque benchmark : Nat → DWord

/-- The AER uncorrectable and correctable status that an error logs, by the draw (R293 has AER by the PCI Express
standard). [log 11 DESIGN CHOICE] -/
opaque aerStatus : Nat → DWord

/-- The masks that a key engine draws from its TRNG, in the order in which it draws them (R425).
[log 11 DESIGN CHOICE] -/
opaque keyMask : Nat → BitVec 256

/-- The service nonces that the host complex draws, in their order (R426). [log 11 DESIGN CHOICE] -/
opaque serviceNonce : Nat → BitVec 256

/-- The XPORT public key of a lane, by lane number, measurement, owner root and service nonce, as two 384-bit
coordinates (R422: a derived key depends on ROOT, which no one reads). [log 11 DESIGN CHOICE] -/
opaque xportKey : Nat → Nat → Nat → Nat → BitVec 768

/-- AES-GMAC: the tag by key length in bits, key, initialisation vector and authenticated data (R58). The standard
defines it; nothing here rests on a value of it. [log 141 DESIGN CHOICE] -/
opaque gmac : Nat → BitVec 256 → BitVec 96 → List Byte → BitVec 128

/-- The initialisation vector of a record transfer frame's tag, by source MAC, record ID and segment offset (R336 names the
key and no vector). [log 11 DESIGN CHOICE, log 107 DEDUCED] -/
opaque recordIv : Nat → Nat → Nat → BitVec 96

/-- A store-conditional that holds its reservation fails all the same, by the strand's count of them (R180: parcel
software does not depend on its outcome). [log 149 PRESUMED] -/
opaque scFails : Nat → Bool

/-- mtval shows the instruction of an illegal-instruction trap and the address of a breakpoint, or is 0.
[log 149 PRESUMED] -/
opaque trapShows : Bool

/-- What a read of an output-page field that parcels only write, or of an octet of the page that holds no field, gives,
by address (R175 does not say). [log 150 DESIGN CHOICE] -/
opaque pageRead : Nat → Byte

/-- The granules written in a tick with their 64-bit digests, in the order in which the lane takes them (R222 gives the
stores no layout). [log 11 DESIGN CHOICE] -/
opaque granulesWritten : Nat → List (Nat × Nat)

/-- What lies in a granule of the stores, as kinds of state with two indices each; `Lane.partOf` numbers the kinds (R222
gives the stores no layout). [log 11 DESIGN CHOICE] -/
opaque granuleItems : Nat → List (Nat × Nat × Nat)

/-- How many granules more a copy sends in a tick than the 20 that R222 grants a COPY pass, or the 18 that R320 grants a
migration, by the number of the draw. [log 11 DESIGN CHOICE] -/
opaque copySpare : Nat → Nat

/-- The 4,096 octets of an archive header, by E (R338 gives the header no layout).
[log 11 DESIGN CHOICE, log 108 DESIGN CHOICE] -/
opaque arcHeader : Nat → List Byte

/-- The octets of a saved parcel record's section of image and grant, by the draw (R323 gives the
section no layout). [log 11 DESIGN CHOICE, log 104 DESIGN CHOICE] -/
opaque imageOctets : Nat → List Byte

/-- SHA-384 (R323 names it; FIPS 180-4 defines it, and nothing here rests on a value of it). [log 11 DESIGN CHOICE] -/
opaque sha384 : List Byte → BitVec 384

end Sys2Proof.Config
end

