-- ==== Sys2Proof/Machine/Float.lean ====
section
/-! DEFINITION. IEEE 754 binary32 and binary64 by exact arithmetic and one rounding to nearest, ties to even
(R79, R104), with the saturation of R105. -/

namespace Sys2Proof.Machine

open Sys2Proof

/-- An exact number: `(−1)^neg × m × 2^e`. A zero keeps its sign. -/
structure Dy where
  neg : Bool
  m   : Nat
  e   : Int
  deriving DecidableEq, Repr

/-- The exact number 0 with a plus sign. -/
def Dy.zero : Dy := ⟨false, 0, 0⟩

/-- The exact number of an integer. -/
def Dy.ofInt (n : Int) : Dy := ⟨decide (n < 0), n.natAbs, 0⟩

/-- The signed mantissa. -/
def Dy.sm (x : Dy) : Int := if x.neg then -(x.m : Int) else x.m

/-- Exact negation. -/
def Dy.flip (x : Dy) : Dy := { x with neg := !x.neg }

/-- Exact magnitude. -/
def Dy.abs (x : Dy) : Dy := { x with neg := false }

/-- Exact product. -/
def Dy.mul (x y : Dy) : Dy := ⟨x.neg != y.neg, x.m * y.m, x.e + y.e⟩

/-- Exact sum. A sum that is zero is +0 unless both terms are −0. -/
def Dy.add (x y : Dy) : Dy :=
  let e := min x.e y.e
  let s := x.sm * 2 ^ (x.e - e).toNat + y.sm * 2 ^ (y.e - e).toNat
  if s = 0 then ⟨x.neg && y.neg && x.m == 0 && y.m == 0, 0, 0⟩ else ⟨decide (s < 0), s.natAbs, e⟩

/-- Exact difference. -/
def Dy.sub (x y : Dy) : Dy := x.add y.flip

/-- The nearest whole number, ties to even. -/
def Dy.nearEven (x : Dy) : Int :=
  let n : Nat :=
    if 0 ≤ x.e then x.m * 2 ^ x.e.toNat
    else
      let d := 2 ^ (-x.e).toNat
      let q := x.m / d
      let r := x.m % d
      if d < 2 * r || (2 * r == d && q % 2 == 1) then q + 1 else q
  if x.neg then -(n : Int) else n

/-- Exact order, `x < y`; zeros of both signs are equal. -/
def Dy.lt (x y : Dy) : Bool :=
  let e := min x.e y.e
  decide (x.sm * 2 ^ (x.e - e).toNat < y.sm * 2 ^ (y.e - e).toNat)

/-- Exact order, `x ≤ y`. -/
def Dy.le (x y : Dy) : Bool := !(y.lt x)

/-- The quotient, exact or with an odd last bit below every bit that rounding looks at (`y` not 0). -/
def Dy.div (x y : Dy) : Dy :=
  let k := 130 + y.m.log2
  let n := x.m * 2 ^ k
  let q := n / y.m
  ⟨x.neg != y.neg, if x.m = 0 then 0 else 2 * q + bnat (n % y.m != 0), x.e - y.e - k - 1⟩

/-- One bit of an integer square root: the candidate is kept when its square does not pass `n`. -/
def sqrtBits (n : Nat) : Nat → Nat → Nat
  | 0, r => r
  | k + 1, r => let t := r + 2 ^ k; sqrtBits n k (if t * t ≤ n then t else r)

/-- The greatest whole number whose square is at most `n`. -/
def natSqrt (n : Nat) : Nat := sqrtBits n (n.log2 / 2 + 1) 0

/-- The square root of the magnitude, exact or with an odd last bit below every bit that rounding looks at. -/
def Dy.sqrt (x : Dy) : Dy :=
  let odd := x.e % 2 = 1
  let m := if odd then 2 * x.m else x.m
  let e := if odd then x.e - 1 else x.e
  let n := m * 2 ^ 260
  let r := natSqrt n
  ⟨false, if m = 0 then 0 else 2 * r + bnat (r * r != n), e / 2 - 130 - 1⟩

/-- The greatest whole number not above the exact number. -/
def Dy.floor (x : Dy) : Int :=
  if 0 ≤ x.e then x.sm * 2 ^ x.e.toNat else x.sm.fdiv (2 ^ (-x.e).toNat)

/-- A binary interchange format: bits of precision and bits of the exponent. -/
structure Fmt where
  prec : Nat
  expo : Nat
  deriving DecidableEq, Repr

/-- binary32. -/
def f32 : Fmt := ⟨24, 8⟩

/-- binary64. -/
def f64 : Fmt := ⟨53, 11⟩

/-- The encoding of plus infinity. -/
def Fmt.infBits (f : Fmt) : Nat := (2 ^ f.expo - 1) * 2 ^ (f.prec - 1)

/-- The sign bit's weight. -/
def Fmt.signBit (f : Fmt) : Nat := 2 ^ (f.prec + f.expo - 1)

/-- The exponent of the least subnormal. -/
def Fmt.minExp (f : Fmt) : Int := 3 - (2 ^ (f.expo - 1) : Nat) - (f.prec : Nat)

/-- The magnitude's encoding after one rounding to nearest, ties to even; infinity when it overflows. -/
def Fmt.roundMag (f : Fmt) (m : Nat) (e : Int) : Nat :=
  if m = 0 then 0 else
  let n : Int := m.log2 + 1
  let q := max (e + n - f.prec) f.minExp
  let r :=
    if q ≤ e then m * 2 ^ (e - q).toNat
    else
      let d := (q - e).toNat
      let h := m / 2 ^ d
      let rest := m % 2 ^ d
      let half := 2 ^ (d - 1)
      if half < rest || (rest == half && h % 2 == 1) then h + 1 else h
  let enc :=
    if r < 2 ^ (f.prec - 1) then r
    else (q - f.minExp + 1).toNat * 2 ^ (f.prec - 1) + (r - 2 ^ (f.prec - 1))
  if f.infBits ≤ enc then f.infBits else enc

/-- The encoding of an exact number after one rounding. -/
def Fmt.round (f : Fmt) (x : Dy) : Nat :=
  f.roundMag x.m x.e + (if x.neg then f.signBit else 0)

/-- The exact number of a finite encoding (infinities and NaNs are told apart before). -/
def Fmt.value (f : Fmt) (w : Nat) : Dy :=
  let frac := w % 2 ^ (f.prec - 1)
  let ex := w / 2 ^ (f.prec - 1) % 2 ^ f.expo
  ⟨decide (f.signBit ≤ w), if ex = 0 then frac else frac + 2 ^ (f.prec - 1),
   if ex = 0 then f.minExp else f.minExp + (ex : Nat) - 1⟩

/-- The encoding is a NaN. -/
def Fmt.isNaN (f : Fmt) (w : Nat) : Bool := f.infBits < w % f.signBit

/-- The encoding is an infinity. -/
def Fmt.isInf (f : Fmt) (w : Nat) : Bool := w % f.signBit == f.infBits

/-- MAX of R105, the largest finite binary32. -/
def maxBits : Nat := 0x7F7FFFFF

/-- MAX as an exact number. -/
def maxDy : Dy := f32.value maxBits

/-- The exact value of a binary32 word. -/
def val32 (w : Word) : Dy := f32.value w.toNat

/-- One rounding to binary32 with the saturation of R105: the word and whether it saturated. -/
def sat32 (x : Dy) : Word × Bool :=
  let m := f32.roundMag x.m x.e
  if f32.infBits ≤ m then (w32 (maxBits + (if x.neg then f32.signBit else 0)), true)
  else (w32 (m + (if x.neg then f32.signBit else 0)), false)

/-- One rounding to binary64, as an exact number again. -/
def rnd64 (x : Dy) : Dy := f64.value (f64.round x)

/-- A binary64 accumulator after an operation: beyond MAX in magnitude it is ±MAX with SAT (R105). -/
def acc64 (x : Dy) : Dy × Bool :=
  let y := rnd64 x
  if maxDy.lt y.abs then ({ maxDy with neg := y.neg }, true) else (y, false)

/-- The binary32 value 0.0. -/
def zero32 : Word := 0#32

/-- The binary32 value 1.0. -/
def one32 : Word := 0x3F800000#32

/-- Binary64 data of an exact number. [log 48 DEDUCED] -/
def data64 (x : Dy) : DWord := BitVec.ofNat 64 (f64.round x)

/-- The exact number of binary64 data. -/
def val64 (w : DWord) : Dy := f64.value w.toNat

/-- An integer rounded once to binary32 (R79). -/
def int32 (n : Int) : Word := (sat32 (Dy.ofInt n)).1

/-- A rational `n / d` rounded once to binary64, as an exact number (`d` above 0). -/
def ratio64 (n : Int) (d : Nat) : Dy := rnd64 ((Dy.ofInt n).div (Dy.ofInt d))

end Sys2Proof.Machine
end

