-- ==== Sys2Proof/Machine/RvFloat.lean ====
section
/-! DEFINITION. Floating-point operations of the application cores: binary32 and binary64 with the five rounding modes
and the five flags of the RISC-V F and D extensions (R164, R165). -/

namespace Sys2Proof.Machine

open Sys2Proof

/-- A result's encoding and the flags it sets: bit 0 NX, 1 UF, 2 OF, 3 DZ, 4 NV. -/
structure FpRes where
  w     : Nat
  flags : Nat
  deriving DecidableEq, Repr

/-- The canonical NaN. -/
def Fmt.qnan (f : Fmt) : Nat := f.infBits + 2 ^ (f.prec - 2)

/-- The encoding is a signaling NaN. -/
def Fmt.isSnan (f : Fmt) (w : Nat) : Bool := f.isNaN w && !w.testBit (f.prec - 2)

/-- The sign of an encoding. -/
def Fmt.neg (f : Fmt) (w : Nat) : Bool := w.testBit (f.prec + f.expo - 1)

/-- The encoding is a zero. -/
def Fmt.isZero (f : Fmt) (w : Nat) : Bool := w % f.signBit == 0

/-- A signed encoding from a magnitude. -/
def Fmt.signed (f : Fmt) (neg : Bool) (m : Nat) : Nat := m + (if neg then f.signBit else 0)

/-- Whether a rounding mode adds one to the magnitude kept, given the bits that do not fit: 0 to nearest, ties to even;
1 toward zero; 2 down; 3 up; 4 to nearest, ties away. -/
def roundsUp (rm : Nat) (neg odd : Bool) (rest half : Nat) : Bool :=
  match rm with
  | 0 => decide (half < rest) || (rest == half && odd)
  | 1 => false
  | 2 => neg && decide (0 < rest)
  | 3 => !neg && decide (0 < rest)
  | _ => decide (half ≤ rest)

/-- A magnitude `m × 2^e` cut to a whole multiple of `2^q`: the multiple and whether anything was lost. -/
def cutTo (rm : Nat) (neg : Bool) (m : Nat) (e q : Int) : Nat × Bool :=
  if q ≤ e then (m * 2 ^ (e - q).toNat, false)
  else
    let d := (q - e).toNat
    let h := m / 2 ^ d
    let rest := m % 2 ^ d
    (if roundsUp rm neg (h % 2 == 1) rest (2 ^ (d - 1)) then h + 1 else h, rest != 0)

/-- One rounding under a mode, with its flags. A result is tiny when it would be below the least normal number were the
exponent not bounded. -/
def Fmt.roundRm (f : Fmt) (rm : Nat) (x : Dy) : FpRes :=
  if x.m = 0 then ⟨f.signed x.neg 0, 0⟩ else
  let n : Int := x.m.log2 + 1
  let q := max (x.e + n - f.prec) f.minExp
  let r := cutTo rm x.neg x.m x.e q
  let enc := if r.1 < 2 ^ (f.prec - 1) then r.1
             else (q - f.minExp + 1).toNat * 2 ^ (f.prec - 1) + (r.1 - 2 ^ (f.prec - 1))
  if f.infBits ≤ enc then
    let big := rm = 1 ∨ (rm = 2 ∧ x.neg = false) ∨ (rm = 3 ∧ x.neg = true)
    ⟨f.signed x.neg (if big then f.infBits - 1 else f.infBits), 5⟩
  else
    let free := cutTo rm x.neg x.m x.e (x.e + n - f.prec)
    let tiny := decide (x.e + n - f.prec < f.minExp) && !(x.e + n - f.prec + 1 == f.minExp && free.1 == 2 ^ f.prec)
    ⟨f.signed x.neg enc, (if r.2 then 1 else 0) + (if r.2 && tiny then 2 else 0)⟩

/-- A NaN operand: the canonical NaN, NV where one of them is signaling. -/
def Fmt.nanOf (f : Fmt) (ops : List Nat) : FpRes := ⟨f.qnan, if ops.any f.isSnan then 16 else 0⟩

/-- An invalid operation. -/
def Fmt.invalid (f : Fmt) : FpRes := ⟨f.qnan, 16⟩

/-- An exact sum rounded; a zero that two numbers cancel to is −0 only when rounding down. -/
def Fmt.sumRm (f : Fmt) (rm : Nat) (x y : Dy) : FpRes :=
  let s := x.add y
  if s.m = 0 then ⟨f.signed (if x.neg == y.neg then x.neg else rm == 2) 0, 0⟩ else f.roundRm rm s

/-- Addition. -/
def Fmt.addRm (f : Fmt) (rm a b : Nat) : FpRes :=
  if f.isNaN a || f.isNaN b then f.nanOf [a, b]
  else if f.isInf a then (if f.isInf b && f.neg a != f.neg b then f.invalid else ⟨a, 0⟩)
  else if f.isInf b then ⟨b, 0⟩
  else f.sumRm rm (f.value a) (f.value b)

/-- An encoding with its sign changed. -/
def Fmt.flip (f : Fmt) (w : Nat) : Nat := if f.neg w then w - f.signBit else w + f.signBit

/-- Multiplication. -/
def Fmt.mulRm (f : Fmt) (rm a b : Nat) : FpRes :=
  let s := f.neg a != f.neg b
  if f.isNaN a || f.isNaN b then f.nanOf [a, b]
  else if f.isInf a || f.isInf b then (if f.isZero a || f.isZero b then f.invalid else ⟨f.signed s f.infBits, 0⟩)
  else f.roundRm rm ((f.value a).mul (f.value b))

/-- Division. -/
def Fmt.divRm (f : Fmt) (rm a b : Nat) : FpRes :=
  let s := f.neg a != f.neg b
  if f.isNaN a || f.isNaN b then f.nanOf [a, b]
  else if f.isInf a then (if f.isInf b then f.invalid else ⟨f.signed s f.infBits, 0⟩)
  else if f.isInf b then ⟨f.signed s 0, 0⟩
  else if f.isZero b then (if f.isZero a then f.invalid else ⟨f.signed s f.infBits, 8⟩)
  else f.roundRm rm ((f.value a).div (f.value b))

/-- Square root. -/
def Fmt.sqrtRm (f : Fmt) (rm a : Nat) : FpRes :=
  if f.isNaN a then f.nanOf [a]
  else if f.isZero a then ⟨a, 0⟩
  else if f.neg a then f.invalid
  else if f.isInf a then ⟨a, 0⟩
  else f.roundRm rm (f.value a).sqrt

/-- Fused multiply-add, `a × b + c` with one rounding. -/
def Fmt.fmaRm (f : Fmt) (rm a b c : Nat) : FpRes :=
  let s := f.neg a != f.neg b
  let bad := (f.isInf a && f.isZero b) || (f.isZero a && f.isInf b)
  if bad then f.invalid
  else if f.isNaN a || f.isNaN b || f.isNaN c then f.nanOf [a, b, c]
  else if f.isInf a || f.isInf b then (if f.isInf c && f.neg c != s then f.invalid else ⟨f.signed s f.infBits, 0⟩)
  else if f.isInf c then ⟨c, 0⟩
  else f.sumRm rm ((f.value a).mul (f.value b)) (f.value c)

/-- The lesser of two numbers, or the greater; −0 lies below +0, and a NaN gives the other operand. -/
def Fmt.minMax (f : Fmt) (greater : Bool) (a b : Nat) : FpRes :=
  let fl := if f.isSnan a || f.isSnan b then 16 else 0
  let key := fun (w : Nat) => if f.neg w then -((w % f.signBit : Nat) : Int) - 1 else ((w : Nat) : Int)
  if f.isNaN a && f.isNaN b then ⟨f.qnan, fl⟩
  else if f.isNaN a then ⟨b, fl⟩
  else if f.isNaN b then ⟨a, fl⟩
  else ⟨if decide (key a < key b) != greater then a else b, fl⟩

/-- Order of two encodings that are not NaN. -/
def Fmt.below (f : Fmt) (orEq : Bool) (a b : Nat) : Bool :=
  let v := fun (w : Nat) => if f.neg w then -((w % f.signBit : Nat) : Int) else ((w : Nat) : Int)
  if orEq then decide (v a ≤ v b) else decide (v a < v b)

/-- A comparison: 2 FEQ, 1 FLT, 0 FLE. -/
def Fmt.cmp (f : Fmt) (op a b : Nat) : FpRes :=
  if f.isNaN a || f.isNaN b then ⟨0, if op != 2 || f.isSnan a || f.isSnan b then 16 else 0⟩
  else match op with
    | 2 => ⟨if f.below true a b && f.below true b a then 1 else 0, 0⟩
    | 1 => ⟨if f.below false a b then 1 else 0, 0⟩
    | _ => ⟨if f.below true a b then 1 else 0, 0⟩

/-- The class of an encoding as one bit of ten. -/
def Fmt.classOf (f : Fmt) (w : Nat) : Nat :=
  let m := w % f.signBit
  if f.isNaN w then (if f.isSnan w then 2 ^ 8 else 2 ^ 9)
  else if f.neg w then
    (if m = f.infBits then 1 else if 2 ^ (f.prec - 1) ≤ m then 2 else if m = 0 then 8 else 4)
  else (if m = f.infBits then 128 else if 2 ^ (f.prec - 1) ≤ m then 64 else if m = 0 then 16 else 32)

/-- Conversion to an integer from `lo` to `hi`: out of range and NaN give the nearer bound with NV. -/
def Fmt.toIntRm (f : Fmt) (rm a : Nat) (lo hi : Int) : Int × Nat :=
  if f.isNaN a then (hi, 16)
  else if f.isInf a then (if f.neg a then lo else hi, 16)
  else
    let x := f.value a
    let r := cutTo rm x.neg x.m x.e 0
    let n : Int := if x.neg then -(r.1 : Int) else r.1
    if n < lo then (lo, 16) else if hi < n then (hi, 16) else (n, if r.2 then 1 else 0)

/-- Conversion of a number from one format to another. -/
def Fmt.convert (f g : Fmt) (rm a : Nat) : FpRes :=
  if f.isNaN a then ⟨g.qnan, if f.isSnan a then 16 else 0⟩
  else if f.isInf a then ⟨g.signed (f.neg a) g.infBits, 0⟩
  else g.roundRm rm (f.value a)

/-- Sign injection: 0 the sign of `b`, 1 its opposite, 2 the signs combined. -/
def Fmt.inject (f : Fmt) (op a b : Nat) : Nat :=
  let s := match op with
    | 0 => f.neg b
    | 1 => !f.neg b
    | _ => f.neg a != f.neg b
  f.signed s (a % f.signBit)

end Sys2Proof.Machine
end

