-- ==== Sys2Proof/Machine/Riscv.lean ====
section
/-! DEFINITION. What one instruction of an application core asks for: RV64IMAFDC with Zicsr, Zifencei, Zba and Zbb in
user mode, as the RISC-V specifications that R164 names give them (R164, R165). -/

namespace Sys2Proof

open Sys2Proof.Machine

/-! ### Registers -/

/-- Integer register `i`; x0 is 0. -/
def StrandRegs.xr (r : StrandRegs) (i : Nat) : DWord := if i = 0 then 0 else r.x.getD i 0

/-- Writes an integer register; x0 discards it. -/
def StrandRegs.setX (r : StrandRegs) (i : Nat) (v : DWord) : StrandRegs :=
  if i = 0 then r else { r with x := if v = 0 then r.x.del i else r.x.put i v }

/-- Floating-point register `i` as 64 bits. -/
def StrandRegs.fr (r : StrandRegs) (i : Nat) : DWord := r.f.getD i 0

/-- Writes a floating-point register. -/
def StrandRegs.setFr (r : StrandRegs) (i : Nat) (v : DWord) : StrandRegs :=
  { r with f := if v = 0 then r.f.del i else r.f.put i v }

/-- A floating-point operand of a format: a binary32 that is not boxed reads as the canonical NaN. -/
def StrandRegs.fp (r : StrandRegs) (dbl : Bool) (i : Nat) : Nat :=
  let w := (r.fr i).toNat
  if dbl then w else if w / 2 ^ 32 = 0xFFFFFFFF then w % 2 ^ 32 else f32.qnan

/-- Writes a floating-point result of a format, boxed when it is a binary32. -/
def StrandRegs.setFp (r : StrandRegs) (dbl : Bool) (i v : Nat) : StrandRegs :=
  r.setFr i (BitVec.ofNat 64 (if dbl then v else 0xFFFFFFFF00000000 + v))

/-- Flags raised by an operation. -/
def StrandRegs.raises (r : StrandRegs) (flags : Nat) : StrandRegs := { r with fcsr := r.fcsr ||| w32 (flags % 32) }

/-- The pc moved on. -/
def StrandRegs.goto (r : StrandRegs) (pc : Nat) : StrandRegs := { r with pc := pc % 2 ^ 64 }

end Sys2Proof

namespace Sys2Proof.Machine

open Sys2Proof

/-- What an instruction asks for: new registers; a load whose value goes to them; a store; a read-modify-write that
hands back what it read; a store-conditional; or a trap by cause and value. -/
inductive CoreAct
  | regs (r : StrandRegs)
  | load (a n : Nat) (put : Nat → StrandRegs)
  | store (a n v : Nat) (r : StrandRegs)
  | amo (a n : Nat) (op : Nat → Nat) (put : Nat → StrandRegs)
  | cond (a n v : Nat) (done failed : StrandRegs)
  | trap (cause tval : Nat)

/-! ### Immediates and fields -/

/-- Sign extension of the low `n` bits of a number to 64 bits. -/
def sx (n v : Nat) : DWord := BitVec.ofInt 64 (Machine.signed n v)

/-- The low 32 bits of a value, sign-extended. -/
def sx32 (v : DWord) : DWord := sx 32 (v.toNat % 2 ^ 32)

/-- The I immediate. -/
def immI (w : Word) : DWord := sx 12 (bits w 31 20)

/-- The S immediate. -/
def immS (w : Word) : DWord := sx 12 (bits w 31 25 * 32 + bits w 11 7)

/-- The B immediate. -/
def immB (w : Word) : DWord := sx 13 (bits w 31 31 * 4096 + bits w 7 7 * 2048 + bits w 30 25 * 32 + bits w 11 8 * 2)

/-- The U immediate. -/
def immU (w : Word) : DWord := sx 32 (bits w 31 12 * 4096)

/-- The J immediate. -/
def immJ (w : Word) : DWord := sx 21 (bits w 31 31 * 2 ^ 20 + bits w 19 12 * 4096 + bits w 20 20 * 2048 + bits w 30 21 * 2)

/-- mtval of an illegal instruction or a breakpoint: shown, or 0 (the RISC-V specification leaves both open). -/
def shownTval (v : Nat) : Nat := if Config.trapShows then v else 0

/-- An illegal instruction: cause 2. -/
def illegal (w : Word) : CoreAct := .trap 2 (shownTval w.toNat)

/-! ### Integer operations -/

/-- The high 64 bits of a product of two integers. -/
def mulHigh (a b : Int) : DWord := BitVec.ofInt 64 ((a * b) / (2 ^ 64 : Nat))

/-- Signed division; a divisor of 0 gives all ones, and the overflow wraps. -/
def divS (a b : Int) : Int := if b = 0 then -1 else a.tdiv b

/-- Signed remainder; a divisor of 0 gives the dividend. -/
def remS (a b : Int) : Int := if b = 0 then a else a.tmod b

/-- Trailing zeros of the low `n` bits. -/
def ctzN (n v : Nat) : Nat := ((List.range n).find? (fun i => v.testBit i)).getD n

/-- Leading zeros of the low `n` bits. -/
def clzN (n v : Nat) : Nat := ((List.range n).find? (fun i => v.testBit (n - 1 - i))).getD n

/-- Set bits of the low `n` bits. -/
def popN (n v : Nat) : Nat := ((List.range n).filter (fun i => v.testBit i)).length

/-- Every octet that is not 0 becomes 0xFF. -/
def orcB (v : Nat) : Nat := ofLe ((leBytes 8 v).map (fun b => if b = 0#8 then 0#8 else 0xFF#8))

/-- Rotation left of an `n`-bit number. -/
def rotl (n v k : Nat) : Nat := let k := k % n; (v * 2 ^ k) % 2 ^ n + v % 2 ^ n / 2 ^ (n - k)

/-- OP: register-register operations by funct7 and funct3. -/
def opReg (f7 f3 : Nat) (a b : DWord) : Option DWord :=
  let sh := b.toNat % 64
  let ofN := fun (n : Nat) => BitVec.ofNat 64 n
  match f7, f3 with
  | 0x00, 0 => some (a + b)
  | 0x20, 0 => some (a - b)
  | 0x00, 1 => some (a <<< sh)
  | 0x00, 2 => some (if a.slt b then 1 else 0)
  | 0x00, 3 => some (if a.ult b then 1 else 0)
  | 0x00, 4 => some (a ^^^ b)
  | 0x00, 5 => some (a >>> sh)
  | 0x20, 5 => some (a.sshiftRight sh)
  | 0x00, 6 => some (a ||| b)
  | 0x00, 7 => some (a &&& b)
  | 0x01, 0 => some (a * b)
  | 0x01, 1 => some (mulHigh a.toInt b.toInt)
  | 0x01, 2 => some (mulHigh a.toInt b.toNat)
  | 0x01, 3 => some (mulHigh a.toNat b.toNat)
  | 0x01, 4 => some (BitVec.ofInt 64 (divS a.toInt b.toInt))
  | 0x01, 5 => some (if b = 0 then BitVec.ofInt 64 (-1) else ofN (a.toNat / b.toNat))
  | 0x01, 6 => some (BitVec.ofInt 64 (remS a.toInt b.toInt))
  | 0x01, 7 => some (if b = 0 then a else ofN (a.toNat % b.toNat))
  | 0x10, 2 => some (a + a + b)
  | 0x10, 4 => some ((a <<< 2) + b)
  | 0x10, 6 => some ((a <<< 3) + b)
  | 0x20, 4 => some (~~~(a ^^^ b))
  | 0x20, 6 => some (a ||| ~~~b)
  | 0x20, 7 => some (a &&& ~~~b)
  | 0x05, 4 => some (if a.slt b then a else b)
  | 0x05, 5 => some (if a.ult b then a else b)
  | 0x05, 6 => some (if a.slt b then b else a)
  | 0x05, 7 => some (if a.ult b then b else a)
  | 0x30, 1 => some (ofN (rotl 64 a.toNat sh))
  | 0x30, 5 => some (ofN (rotl 64 a.toNat (64 - sh)))
  | _, _ => none

/-- OP-32: operations on the low 32 bits, sign-extended; ADD.UW and the shifted adds keep 64. `rs2` is the field. -/
def opReg32 (f7 f3 rs2 : Nat) (a b : DWord) : Option DWord :=
  let x := a.toNat % 2 ^ 32
  let y := b.toNat % 2 ^ 32
  let sh := b.toNat % 32
  let xi := Machine.signed 32 x
  let yi := Machine.signed 32 y
  let s := fun (n : Nat) => sx 32 (n % 2 ^ 32)
  let z := BitVec.ofNat 64 x
  match f7, f3 with
  | 0x00, 0 => some (s (x + y))
  | 0x20, 0 => some (s (x + 2 ^ 32 - y))
  | 0x00, 1 => some (s (x * 2 ^ sh))
  | 0x00, 5 => some (s (x / 2 ^ sh))
  | 0x20, 5 => some (BitVec.ofInt 64 (xi / (2 ^ sh : Nat)))
  | 0x01, 0 => some (s (x * y))
  | 0x01, 4 => some (sx32 (BitVec.ofInt 64 (divS xi yi)))
  | 0x01, 5 => some (if y = 0 then BitVec.ofInt 64 (-1) else s (x / y))
  | 0x01, 6 => some (sx32 (BitVec.ofInt 64 (remS xi yi)))
  | 0x01, 7 => some (if y = 0 then s x else s (x % y))
  | 0x04, 0 => some (z + b)
  | 0x04, 4 => if rs2 = 0 then some (BitVec.ofNat 64 (x % 65536)) else none
  | 0x10, 2 => some ((z <<< 1) + b)
  | 0x10, 4 => some ((z <<< 2) + b)
  | 0x10, 6 => some ((z <<< 3) + b)
  | 0x30, 1 => some (s (rotl 32 x sh))
  | 0x30, 5 => some (s (rotl 32 x (32 - sh)))
  | _, _ => none

/-- OP-IMM. -/
def opImm (w : Word) (a : DWord) : Option DWord :=
  let f3 := bits w 14 12
  let i := immI w
  let sh := bits w 25 20
  let f6 := bits w 31 26
  let f12 := bits w 31 20
  let n := a.toNat
  match f3 with
  | 0 => some (a + i)
  | 2 => some (if a.slt i then 1 else 0)
  | 3 => some (if a.ult i then 1 else 0)
  | 4 => some (a ^^^ i)
  | 6 => some (a ||| i)
  | 7 => some (a &&& i)
  | 1 =>
    if f6 = 0 then some (a <<< sh)
    else match f12 with
      | 0x600 => some (BitVec.ofNat 64 (clzN 64 n))
      | 0x601 => some (BitVec.ofNat 64 (ctzN 64 n))
      | 0x602 => some (BitVec.ofNat 64 (popN 64 n))
      | 0x604 => some (sx 8 (n % 256))
      | 0x605 => some (sx 16 (n % 65536))
      | _ => none
  | _ =>
    if f6 = 0 then some (a >>> sh)
    else if f6 = 0x10 then some (a.sshiftRight sh)
    else if f6 = 0x18 then some (BitVec.ofNat 64 (rotl 64 n (64 - sh)))
    else if f12 = 0x287 then some (BitVec.ofNat 64 (orcB n))
    else if f12 = 0x6B8 then some (BitVec.ofNat 64 (ofBe (leBytes 8 n)))
    else none

/-- OP-IMM-32. -/
def opImm32 (w : Word) (a : DWord) : Option DWord :=
  let f3 := bits w 14 12
  let f7 := bits w 31 25
  let sh := bits w 24 20
  let x := a.toNat % 2 ^ 32
  match f3 with
  | 0 => some (sx32 (a + immI w))
  | 1 =>
    if f7 = 0 then some (sx 32 (x * 2 ^ sh % 2 ^ 32))
    else if bits w 31 26 = 2 then some ((BitVec.ofNat 64 x) <<< bits w 25 20)
    else match bits w 31 20 with
      | 0x600 => some (BitVec.ofNat 64 (clzN 32 x))
      | 0x601 => some (BitVec.ofNat 64 (ctzN 32 x))
      | 0x602 => some (BitVec.ofNat 64 (popN 32 x))
      | _ => none
  | 5 =>
    if f7 = 0 then some (sx 32 (x / 2 ^ sh))
    else if f7 = 0x20 then some (BitVec.ofInt 64 (Machine.signed 32 x / (2 ^ sh : Nat)))
    else if f7 = 0x30 then some (sx 32 (rotl 32 x (32 - sh)))
    else none
  | _ => none

/-- A branch is taken, by funct3. -/
def taken (f3 : Nat) (a b : DWord) : Option Bool :=
  match f3 with
  | 0 => some (a == b)
  | 1 => some (a != b)
  | 4 => some (a.slt b)
  | 5 => some (!a.slt b)
  | 6 => some (a.ult b)
  | 7 => some (!a.ult b)
  | _ => none

/-- The value an AMO stores, on `n` octets. -/
def amoOp (f5 n : Nat) (old v : Nat) : Option Nat :=
  let m := 2 ^ (8 * n)
  let lt := fun (a b : Nat) => decide (Machine.signed (8 * n) a < Machine.signed (8 * n) b)
  match f5 with
  | 0x01 => some v
  | 0x00 => some ((old + v) % m)
  | 0x04 => some (old ^^^ v)
  | 0x0C => some (old &&& v)
  | 0x08 => some (old ||| v)
  | 0x10 => some (if lt old v then old else v)
  | 0x14 => some (if lt old v then v else old)
  | 0x18 => some (min old v)
  | 0x1C => some (max old v)
  | _ => none

/-- A loaded number of `n` octets as a register value. -/
def loaded (n : Nat) (sext : Bool) (v : Nat) : DWord := if sext then sx (8 * n) v else BitVec.ofNat 64 v

/-- Loads, stores and AMOs at an address that is not a multiple of their size trap (R164). -/
def aligned (a n cause : Nat) (x : CoreAct) : CoreAct := if a % n = 0 then x else .trap cause a

/-! ### CSRs (R165) -/

/-- The value of a CSR a parcel may access: fflags, frm, fcsr. -/
def csrRead (r : StrandRegs) : Nat → Option Nat
  | 1 => some (bits r.fcsr 4 0)
  | 2 => some (bits r.fcsr 7 5)
  | 3 => some (bits r.fcsr 7 0)
  | _ => none

/-- A write to one of them. -/
def csrWrite (r : StrandRegs) (c v : Nat) : StrandRegs :=
  { r with fcsr := match c with
    | 1 => putBits r.fcsr 4 0 v
    | 2 => putBits r.fcsr 7 5 v
    | _ => w32 (v % 256) }

/-- A CSR instruction. -/
def csrOp (w : Word) (r next : StrandRegs) : CoreAct :=
  let f3 := bits w 14 12
  let rs := bits w 19 15
  let v := if f3 < 4 then (r.xr rs).toNat else rs
  match csrRead r (bits w 31 20) with
  | none => illegal w
  | some old =>
    let t := next.setX (bits w 11 7) (BitVec.ofNat 64 old)
    match f3 % 4 with
    | 1 => .regs (csrWrite t (bits w 31 20) v)
    | 2 => .regs (if rs = 0 then t else csrWrite t (bits w 31 20) (old ||| v))
    | 3 => .regs (if rs = 0 then t else csrWrite t (bits w 31 20) (old &&& (0xFF - v % 256)))
    | _ => illegal w

/-! ### Floating point -/

/-- The rounding mode of an instruction: its field, or frm where the field is 7; none where it is reserved. -/
def rmOf (w : Word) (r : StrandRegs) : Option Nat :=
  let m := if bits w 14 12 = 7 then bits r.fcsr 7 5 else bits w 14 12
  if 4 < m then none else some m

/-- A floating-point result put in its register, with its flags. -/
def fpDone (next : StrandRegs) (dbl : Bool) (rd : Nat) (x : FpRes) : CoreAct := .regs ((next.setFp dbl rd x.w).raises x.flags)

/-- Bounds of the integers of FCVT by rs2: W, WU, L, LU. -/
def cvtRange : Nat → Int × Int
  | 0 => (-(2 ^ 31 : Nat), (2 ^ 31 - 1 : Nat))
  | 1 => (0, (2 ^ 32 - 1 : Nat))
  | 2 => (-(2 ^ 63 : Nat), (2 ^ 63 - 1 : Nat))
  | _ => (0, (2 ^ 64 - 1 : Nat))

/-- An integer register as FCVT reads it, by rs2. -/
def cvtSource (v : DWord) : Nat → Int
  | 0 => Machine.signed 32 (v.toNat % 2 ^ 32)
  | 1 => (v.toNat % 2 ^ 32 : Nat)
  | 2 => v.toInt
  | _ => v.toNat

/-- OP-FP. [log 149 PRESUMED] -/
def opFp (w : Word) (r next : StrandRegs) : CoreAct :=
  let dbl := bits w 26 25 == 1
  let f := if dbl then f64 else f32
  let rd := bits w 11 7
  let s2 := bits w 24 20
  let f3 := bits w 14 12
  let a := r.fp dbl (bits w 19 15)
  let b := r.fp dbl s2
  let x1 := r.xr (bits w 19 15)
  let withRm := fun (k : Nat → CoreAct) => match rmOf w r with
    | none => illegal w
    | some m => k m
  if 1 < bits w 26 25 then illegal w else
  match bits w 31 27 with
  | 0x00 => withRm (fun m => fpDone next dbl rd (f.addRm m a b))
  | 0x01 => withRm (fun m => fpDone next dbl rd (f.addRm m a (if f.isNaN b then b else f.flip b)))
  | 0x02 => withRm (fun m => fpDone next dbl rd (f.mulRm m a b))
  | 0x03 => withRm (fun m => fpDone next dbl rd (f.divRm m a b))
  | 0x0B => if s2 != 0 then illegal w else withRm (fun m => fpDone next dbl rd (f.sqrtRm m a))
  | 0x04 => if 2 < f3 then illegal w else fpDone next dbl rd ⟨f.inject f3 a b, 0⟩
  | 0x05 => if 1 < f3 then illegal w else fpDone next dbl rd (f.minMax (f3 == 1) a b)
  | 0x08 =>
    if (dbl && s2 != 0) || (!dbl && s2 != 1) then illegal w
    else withRm (fun m => fpDone next dbl rd ((if dbl then f32 else f64).convert f m (r.fp (!dbl) (bits w 19 15))))
  | 0x14 =>
    if 2 < f3 then illegal w else
    let c := f.cmp f3 a b
    .regs ((next.setX rd (BitVec.ofNat 64 c.w)).raises c.flags)
  | 0x18 =>
    if 3 < s2 then illegal w else withRm (fun m =>
      let q := f.toIntRm m a (cvtRange s2).1 (cvtRange s2).2
      let v := BitVec.ofInt 64 q.1
      .regs ((next.setX rd (if s2 < 2 then sx32 v else v)).raises q.2))
  | 0x1A =>
    if 3 < s2 then illegal w else withRm (fun m => fpDone next dbl rd (f.roundRm m (Dy.ofInt (cvtSource x1 s2))))
  | 0x1C =>
    if s2 != 0 then illegal w
    else if f3 = 0 then
      let v := (r.fr (bits w 19 15)).toNat
      .regs (next.setX rd (if dbl then BitVec.ofNat 64 v else sx 32 (v % 2 ^ 32)))
    else if f3 = 1 then .regs (next.setX rd (BitVec.ofNat 64 (f.classOf a)))
    else illegal w
  | 0x1E => if s2 != 0 || f3 != 0 then illegal w else fpDone next dbl rd ⟨if dbl then x1.toNat else x1.toNat % 2 ^ 32, 0⟩
  | _ => illegal w

/-- The fused multiply-adds: 0 MADD, 1 MSUB, 2 NMSUB, 3 NMADD. -/
def opFma (w : Word) (k : Nat) (r next : StrandRegs) : CoreAct :=
  let dbl := bits w 26 25 == 1
  let f := if dbl then f64 else f32
  let fl := fun (c : Bool) (v : Nat) => if c && !f.isNaN v then f.flip v else v
  if 1 < bits w 26 25 then illegal w else
  match rmOf w r with
  | none => illegal w
  | some m =>
    fpDone next dbl (bits w 11 7) (f.fmaRm m (fl (decide (2 ≤ k)) (r.fp dbl (bits w 19 15))) (r.fp dbl (bits w 24 20))
      (fl (k == 1 || k == 3) (r.fp dbl (bits w 31 27))))

/-! ### One 32-bit instruction -/

/-- AMO, LR and SC. -/
def opAmo (w : Word) (r next : StrandRegs) : CoreAct :=
  let n := if bits w 14 12 = 2 then 4 else 8
  let a := (r.xr (bits w 19 15)).toNat
  let v := (r.xr (bits w 24 20)).toNat % 2 ^ (8 * n)
  let rd := bits w 11 7
  let f5 := bits w 31 27
  if bits w 14 12 != 2 && bits w 14 12 != 3 then illegal w
  else if f5 = 2 then
    if bits w 24 20 != 0 then illegal w
    else aligned a n 4 (.load a n (fun x => { next.setX rd (loaded n true x) with resv := some a }))
  else if f5 = 3 then
    let t := { next with resv := none, tries := next.tries + 1 }
    let hit := r.resv == some a && !Config.scFails r.tries
    aligned a n 6 (if hit then .cond a n v (t.setX rd 0) (t.setX rd 1) else .regs (t.setX rd 1))
  else if (amoOp f5 n 0 0).isNone then illegal w
  else aligned a n 6 (.amo a n (fun old => (amoOp f5 n old v).getD 0) (fun old => next.setX rd (loaded n true old)))

/-- What a 32-bit instruction asks for; `len` is its length in octets, 2 where it was compressed. [log 149 PRESUMED] -/
def execRv (w : Word) (len : Nat) (r : StrandRegs) : CoreAct :=
  let next := r.goto (r.pc + len)
  let rd := bits w 11 7
  let f3 := bits w 14 12
  let a := r.xr (bits w 19 15)
  let b := r.xr (bits w 24 20)
  let put := fun (v : Option DWord) => match v with
    | some v => CoreAct.regs (next.setX rd v)
    | none => illegal w
  match bits w 6 0 with
  | 0x37 => put (some (immU w))
  | 0x17 => put (some (BitVec.ofNat 64 r.pc + immU w))
  | 0x6F => .regs ((r.setX rd (BitVec.ofNat 64 next.pc)).goto (BitVec.ofNat 64 r.pc + immJ w).toNat)
  | 0x67 =>
    if f3 != 0 then illegal w
    else let t := (a + immI w).toNat; .regs ((r.setX rd (BitVec.ofNat 64 next.pc)).goto (t - t % 2))
  | 0x63 =>
    match taken f3 a b with
    | none => illegal w
    | some t => .regs (if t then r.goto (BitVec.ofNat 64 r.pc + immB w).toNat else next)
  | 0x03 =>
    if f3 = 7 then illegal w
    else
      let n := 2 ^ (f3 % 4)
      let x := (a + immI w).toNat
      aligned x n 4 (.load x n (fun v => next.setX rd (loaded n (decide (f3 < 4)) v)))
  | 0x23 =>
    if 3 < f3 then illegal w
    else let n := 2 ^ f3; let x := (a + immS w).toNat; aligned x n 6 (.store x n (b.toNat % 2 ^ (8 * n)) next)
  | 0x13 => put (opImm w a)
  | 0x1B => put (opImm32 w a)
  | 0x33 => put (opReg (bits w 31 25) f3 a b)
  | 0x3B => put (opReg32 (bits w 31 25) f3 (bits w 24 20) a b)
  | 0x0F => if f3 ≤ 1 then .regs next else illegal w
  | 0x73 =>
    if f3 != 0 then (if f3 = 4 then illegal w else csrOp w r next)
    else if w = 0x00000073#32 then .trap 8 0
    else if w = 0x00100073#32 then .trap 3 (shownTval r.pc)
    else illegal w
  | 0x07 =>
    if f3 != 2 && f3 != 3 then illegal w
    else
      let n := 2 ^ f3
      let x := (a + immI w).toNat
      aligned x n 4 (.load x n (fun v => next.setFp (f3 == 3) rd v))
  | 0x27 =>
    if f3 != 2 && f3 != 3 then illegal w
    else
      let n := 2 ^ f3
      let x := (a + immS w).toNat
      aligned x n 6 (.store x n ((r.fr (bits w 24 20)).toNat % 2 ^ (8 * n)) next)
  | 0x2F => opAmo w r next
  | 0x43 => opFma w 0 r next
  | 0x47 => opFma w 1 r next
  | 0x4B => opFma w 2 r next
  | 0x4F => opFma w 3 r next
  | 0x53 => opFp w r next
  | _ => illegal w

/-! ### Compressed instructions -/

/-- An I-type word. -/
def encI (imm rs1 f3 rd op : Nat) : Word := w32 (imm % 4096 * 2 ^ 20 + rs1 * 2 ^ 15 + f3 * 2 ^ 12 + rd * 2 ^ 7 + op)

/-- An S-type word. -/
def encS (imm rs2 rs1 f3 op : Nat) : Word :=
  w32 (imm % 4096 / 32 * 2 ^ 25 + rs2 * 2 ^ 20 + rs1 * 2 ^ 15 + f3 * 2 ^ 12 + imm % 32 * 2 ^ 7 + op)

/-- An R-type word. -/
def encR (f7 rs2 rs1 f3 rd op : Nat) : Word :=
  w32 (f7 * 2 ^ 25 + rs2 * 2 ^ 20 + rs1 * 2 ^ 15 + f3 * 2 ^ 12 + rd * 2 ^ 7 + op)

/-- A B-type word. -/
def encB (imm rs1 f3 : Nat) : Word :=
  w32 (imm / 4096 % 2 * 2 ^ 31 + imm / 32 % 64 * 2 ^ 25 + rs1 * 2 ^ 15 + f3 * 2 ^ 12 + imm / 2 % 16 * 2 ^ 8 +
    imm / 2048 % 2 * 2 ^ 7 + 0x63)

/-- A J-type word. -/
def encJ (imm rd : Nat) : Word :=
  w32 (imm / 2 ^ 20 % 2 * 2 ^ 31 + imm / 2 % 1024 * 2 ^ 21 + imm / 2048 % 2 * 2 ^ 20 + imm / 4096 % 256 * 2 ^ 12 + rd * 2 ^ 7 + 0x6F)

/-- The 32-bit instruction that a compressed one stands for, if it is defined. -/
def expandC (c : Word) : Option Word :=
  let f := fun (hi lo : Nat) => bits c hi lo
  let rd := f 11 7
  let r2 := f 6 2
  let p1 := 8 + f 9 7
  let p2 := 8 + f 4 2
  let i6 := f 12 12 * 32 + f 6 2
  let s6 := wrap 12 (Machine.signed 6 i6)
  let lwOff := f 5 5 * 64 + f 12 10 * 8 + f 6 6 * 4
  let ldOff := f 6 5 * 64 + f 12 10 * 8
  match f 1 0, f 15 13 with
  | 0, 0 =>
    let imm := f 10 7 * 64 + f 12 11 * 16 + f 5 5 * 8 + f 6 6 * 4
    if imm = 0 then none else some (encI imm 2 0 p2 0x13)
  | 0, 1 => some (encI ldOff p1 3 p2 0x07)
  | 0, 2 => some (encI lwOff p1 2 p2 0x03)
  | 0, 3 => some (encI ldOff p1 3 p2 0x03)
  | 0, 5 => some (encS ldOff p2 p1 3 0x27)
  | 0, 6 => some (encS lwOff p2 p1 2 0x23)
  | 0, 7 => some (encS ldOff p2 p1 3 0x23)
  | 1, 0 => some (encI s6 rd 0 rd 0x13)
  | 1, 1 => if rd = 0 then none else some (encI s6 rd 0 rd 0x1B)
  | 1, 2 => some (encI s6 0 0 rd 0x13)
  | 1, 3 =>
    if rd = 2 then
      let imm := wrap 12 (Machine.signed 10 (f 12 12 * 512 + f 4 3 * 128 + f 5 5 * 64 + f 2 2 * 32 + f 6 6 * 16))
      if imm = 0 then none else some (encI imm 2 0 2 0x13)
    else if i6 = 0 then none
    else some (w32 (wrap 20 (Machine.signed 6 i6) * 4096 + rd * 2 ^ 7 + 0x37))
  | 1, 4 =>
    match f 11 10 with
    | 0 => some (encI i6 p1 5 p1 0x13)
    | 1 => some (encI (0x400 + i6) p1 5 p1 0x13)
    | 2 => some (encI s6 p1 7 p1 0x13)
    | _ =>
      match f 12 12, f 6 5 with
      | 0, 0 => some (encR 0x20 p2 p1 0 p1 0x33)
      | 0, 1 => some (encR 0 p2 p1 4 p1 0x33)
      | 0, 2 => some (encR 0 p2 p1 6 p1 0x33)
      | 0, _ => some (encR 0 p2 p1 7 p1 0x33)
      | _, 0 => some (encR 0x20 p2 p1 0 p1 0x3B)
      | _, 1 => some (encR 0 p2 p1 0 p1 0x3B)
      | _, _ => none
  | 1, 5 =>
    some (encJ (wrap 21 (Machine.signed 12 (f 12 12 * 2048 + f 8 8 * 1024 + f 10 9 * 256 + f 6 6 * 128 + f 7 7 * 64 + f 2 2 * 32 +
      f 11 11 * 16 + f 5 3 * 2))) 0)
  | 1, 6 => some (encB (wrap 13 (Machine.signed 9 (f 12 12 * 256 + f 6 5 * 64 + f 2 2 * 32 + f 11 10 * 8 + f 4 3 * 2))) p1 0)
  | 1, _ => some (encB (wrap 13 (Machine.signed 9 (f 12 12 * 256 + f 6 5 * 64 + f 2 2 * 32 + f 11 10 * 8 + f 4 3 * 2))) p1 1)
  | 2, 0 => some (encI i6 rd 1 rd 0x13)
  | 2, 1 => some (encI (f 4 2 * 64 + f 12 12 * 32 + f 6 5 * 8) 2 3 rd 0x07)
  | 2, 2 => if rd = 0 then none else some (encI (f 3 2 * 64 + f 12 12 * 32 + f 6 4 * 4) 2 2 rd 0x03)
  | 2, 3 => if rd = 0 then none else some (encI (f 4 2 * 64 + f 12 12 * 32 + f 6 5 * 8) 2 3 rd 0x03)
  | 2, 4 =>
    if f 12 12 = 0 then
      (if r2 = 0 then (if rd = 0 then none else some (encI 0 rd 0 0 0x67)) else some (encR 0 r2 0 0 rd 0x33))
    else if r2 = 0 then (if rd = 0 then some 0x00100073#32 else some (encI 0 rd 0 1 0x67))
    else some (encR 0 r2 rd 0 rd 0x33)
  | 2, 5 => some (encS (f 9 7 * 64 + f 12 10 * 8) r2 2 3 0x27)
  | 2, 6 => some (encS (f 8 7 * 64 + f 12 9 * 4) r2 2 2 0x23)
  | 2, _ => some (encS (f 9 7 * 64 + f 12 10 * 8) r2 2 3 0x23)
  | _, _ => none

/-- What the instruction whose first 16 bits are `lo` and next 16 `hi` asks for. [log 149 PRESUMED] -/
def coreAct (lo hi : Nat) (r : StrandRegs) : CoreAct :=
  if lo % 4 = 3 then execRv (w32 (lo % 65536 + hi % 65536 * 65536)) 4 r
  else match expandC (w32 (lo % 65536)) with
    | some w => (match execRv w 2 r with
      | .trap 2 _ => illegal (w32 (lo % 65536))
      | x => x)
    | none => illegal (w32 (lo % 65536))

end Sys2Proof.Machine
end

