-- ==== Sys2Proof/Machine/Events.lean ====
section
/-! DEFINITION. Severity and class of each event code (R344, R373, R467). -/

namespace Sys2Proof.Machine

open Sys2Proof

/-- Severity and whether the class is safety, of a lane-relative source's code (R467). -/
def laneEvent (src code : Nat) : Nat × Bool :=
  let ev := code % 256
  if src = 0 then
    match ev with
    | 1 => (6, true) | 2 => (7, true) | 3 => (6, true) | 4 => (7, true)
    | 5 => (4, false) | 6 => (2, false) | 7 => (3, false) | _ => (5, false)
  else if src = 1 then
    match ev with
    | 1 => (4, false) | 2 => (5, false) | 3 => (6, false) | _ => (4, false)
  else if src = 2 ∨ src = 3 then (3, false)
  else if src = 4 then (7, true)
  else if src = 5 then (3, false)
  else if src = 7 then (if ev = 1 then (7, true) else (5, false))
  else if src = 8 then (if ev = 2 then (3, false) else (4, false))
  else if src = 9 then
    match ev with
    | 1 => (7, true) | 2 => (7, true) | 3 => (6, true) | 4 => (6, true) | 5 => (6, true)
    | 6 => (4, false) | 7 => (4, false) | 8 => (3, false) | 9 => (6, false) | _ => (7, true)
  else if src = 11 then (3, false)
  else if src = 12 then
    match ev with
    | 1 => (3, true) | 5 => (6, true) | 2 => (7, true) | 3 => (3, false) | _ => (7, true)
  else if src < 32 then
    match ev with
    | 1 => (4, false) | 2 => (6, false) | 3 => (6, false) | 4 => (5, false) | _ => (2, false)
  else if src < 36 then (4, false)
  else if src < 52 then
    match ev with
    | 1 => (6, true) | 2 => (5, true) | 3 => (5, true) | 4 => (7, true) | _ => (6, true)
  else if src < 60 then (if ev = 1 then (6, true) else (3, true))
  else if src < 64 then (3, false)
  else if src < 128 then (if ev = 1 then (5, false) else (3, false))
  else if src < 192 then (if ev = 1 then (6, true) else (4, true))
  else (if ev = 1 then (5, false) else (3, false))

/-- Severity and whether the class is safety, of a host-complex or safety-lane source's code (R373, R467). -/
def hostEvent (src code : Nat) : Nat × Bool :=
  match src with
  | 0 => (2, false)
  | 1 => (if code = 1 then 6 else 3, false)
  | 2 => (if code = 1 then 7 else 6, true)
  | 3 => (if code = 1 then 5 else 4, false)
  | 4 => (if code = 1 then 5 else 3, false)
  | 5 => (4, false)
  | 6 => (5, false)
  | 7 => if code = 1 then (7, true) else if code ≤ 3 then (6, true) else (code, false)
  | 8 => (if code = 1 then 5 else 2, false)
  | 960 =>
    match code with
    | 1 => (2, true) | 2 => (7, true) | 3 => (3, true) | 4 => (3, true) | 7 => (5, true) | _ => (2, true)
  | 961 => (if code = 1 then 2 else 7, true)
  | 962 => (if code = 1 then 7 else 4, true)
  | 971 => (if code = 1 then 1 else 7, true)
  | 972 => (if code = 1 then 1 else 7, true)
  | 973 => (4, true)
  | _ => (if code = 3 ∨ code = 4 then 6 else 3, true)

end Sys2Proof.Machine
end

