-- ==== Sys2Proof/Machine/Ops.lean ====
section
/-! DEFINITION. The named operations over the lanes' registers, events and outputs. -/

namespace Sys2Proof.Machine

open Sys2Proof

/-! ### Registers of a lane -/

/-- A lane register's value. -/
def Lane.reg (L : Lane) (r : Reg) (i : Nat := 0) (j : Nat := 0) : Word := L.regs.get r i j

/-- The lane with a register replaced. -/
def Lane.setReg (L : Lane) (r : Reg) (v : Word) (i : Nat := 0) (j : Nat := 0) : Lane :=
  { L with regs := L.regs.set r i j v }

/-- A field of a lane register. -/
def Lane.fld (L : Lane) (r : Reg) (hi lo : Nat) (i : Nat := 0) (j : Nat := 0) : Nat := bits (L.reg r i j) hi lo

/-- A one-bit field of a lane register. -/
def Lane.flag (L : Lane) (r : Reg) (b : Nat) (i : Nat := 0) (j : Nat := 0) : Bool := bit (L.reg r i j) b

/-- The lane with a field of a register replaced. -/
def Lane.setFld (L : Lane) (r : Reg) (hi lo v : Nat) (i : Nat := 0) (j : Nat := 0) : Lane :=
  L.setReg r (putBits (L.reg r i j) hi lo v) i j

/-- The lane with one bit of a register replaced. -/
def Lane.setFlag (L : Lane) (r : Reg) (b : Nat) (v : Bool) (i : Nat := 0) (j : Nat := 0) : Lane :=
  L.setReg r (putBit (L.reg r i j) b v) i j

/-- A counter register that wraps, plus `k`. -/
def Lane.bump (L : Lane) (r : Reg) (i : Nat := 0) (k : Nat := 1) : Lane :=
  L.setReg r (L.reg r i + w32 k) i

/-- A counter register that saturates, plus `k`. -/
def Lane.bumpSat (L : Lane) (r : Reg) (i : Nat := 0) (k : Nat := 1) : Lane :=
  L.setReg r (w32 (satAdd32 (L.reg r i).toNat k)) i

/-- The number in a `_LO`, `_HI` pair. -/
def Lane.num64 (L : Lane) (lo hi : Reg) (i : Nat := 0) : Nat := (L.reg hi i).toNat * 2 ^ 32 + (L.reg lo i).toNat

/-- The lane with a number in a `_LO`, `_HI` pair. -/
def Lane.setNum64 (L : Lane) (lo hi : Reg) (v : Nat) (i : Nat := 0) : Lane :=
  (L.setReg lo (w32 v) i).setReg hi (w32 (v / 2 ^ 32)) i

/-! ### The tick and the level (R27 to R34, R40) -/

/-- The number of the tick in progress. -/
def Lane.tick (L : Lane) : Nat := L.num64 .LCT_TICK_NUM_LO .LCT_TICK_NUM_HI

/-- The datum ns of the edge of a tick number: E(s, k) of R27. -/
def edgeNs (n : Nat) : Nat := n / 96000 * 1000000000 + (n % 96000 * 31250 + 2) / 3

/-- The tick number whose interval holds a datum instant in ns. -/
def tickOf (ns : Nat) : Nat := ns / 1000000000 * 96000 + min 95999 (ns % 1000000000 * 3 / 31250)

/-- An instant in 1/65,536 ns as whole ns, rounded down. -/
def nsOf (x : Int) : Int := x / 65536

/-- The lane's level: 0, 1, 2, or 3 in its safe state (LCT_TRAV_STAT.LEVEL). -/
def Lane.level (L : Lane) : Nat := L.fld .LCT_TRAV_STAT 27 26

/-- The traverse runs at the standby offset (R34). -/
def Lane.standby (L : Lane) : Bool := L.flag .LCT_TRAV_STAT 31

/-- The reference edge of the traverse in progress, in datum ns: T, or T_s at the standby offset (R34). -/
def Lane.refEdge (L : Lane) : Nat := edgeNs L.tick + (if L.standby then 1500 else 0)

/-- The lane is in service (PWR_STAT.PHASE, R385). -/
def Lane.inService (L : Lane) : Bool := L.fld .PWR_STAT 31 28 == 8

/-- The PHY and MAC domain of a port is on (R271, R380). -/
def Lane.portKept (L : Lane) (port : Nat) : Bool := L.flag .PWR_PD (4 + port)

/-- The lane drives active-only outputs (TWN_STAT.ROLE, R220), from the edge that R221 or R237 gives. -/
def Lane.drives (L : Lane) : Bool := L.flag .TWN_STAT 28 && L.twin.driveAt.isNone

/-- The state of the lane pair (TWN_STAT.PSTATE, R220). -/
def Lane.pstate (L : Lane) : Nat := L.fld .TWN_STAT 31 29

/-- The tick is a freeze tick (R223): F or F + 1. [log 71 DEDUCED] -/
def Lane.frozen (L : Lane) : Bool := L.twin.freeze.any (fun f => decide (f ≤ L.tick ∧ L.tick ≤ f + 1))

/-! ### Keys (R59, R424) -/

/-- A key, from the pair of shares in use. -/
def KeyCell.key (c : KeyCell) : BitVec 256 := if c.alt then c.t1 ^^^ c.t2 else c.s1 ^^^ c.s2

/-- A key slot of the lane. -/
def Lane.keySlot (L : Lane) (slot : Nat) : KeySlot := L.keys.slots.getD slot ⟨none, none⟩

/-- Whether a key identifier names the slot's current key (false) or its next key (true); none if neither. -/
def Lane.keyMatch (L : Lane) (slot id : Nat) : Option Bool :=
  let k := L.keySlot slot
  if k.cur.any (fun c => c.id == id) then some false
  else if k.next.any (fun c => c.id == id) then some true else none

/-! ### Events and outputs -/

/-- Raises an event of a lane-relative source: it waits to be entered in the field book (R344, R467). -/
def Lane.raise (L : Lane) (src code : Nat) (time : Int) (data : List Byte := []) : Lane :=
  let info := laneEvent src code
  { L with occ := L.occ ++ [⟨src, code, info.1, info.2, time, data⟩] }

/-- Sends something out of the lane. -/
def Lane.emit (L : Lane) (e : Emit) : Lane := { L with sent := L.sent ++ [e] }

/-- The cells of TW's buffer that a sightline frame takes: 1 KiB a granule, 12 + 5v octets an INTAKE record of v values,
128 octets the marker, 8 octets a digest of a granule, and one cell any other frame (R222, R224, R247).
[log 152 DESIGN CHOICE] -/
def twinCells : TwinFrame → Nat
  | .copy a b _ _ => (b + 1 - a) * 8
  | .intake r => (12 + 5 * (r.rows.map (·.length)).sum + 127) / 128
  | .pageDig _ l => (l.length * 8 + 127) / 128
  | _ => 1

/-- Sends a frame on the sightline with the next counter (R216, R247). [log 79 DESIGN CHOICE, log 152 DESIGN CHOICE] -/
def Lane.emitTwin (L : Lane) (f : TwinFrame) : Lane :=
  { L.emit (.twin L.twin.txCtr f) with
    twin := { L.twin with txCtr := L.twin.txCtr + 1, cells := L.twin.cells + twinCells f } }

/-- In a tick the channel carries 246 of TW's cells away, at 3.03 octets per ns (R215, R247). [log 152 DESIGN CHOICE] -/
def Lane.drainTwin (L : Lane) : Lane := { L with twin := { L.twin with cells := L.twin.cells - 246 } }

/-- WITHDRAW is sent by a lane that leaves its role (R220, R232). [log 34 DEDUCED] -/
def Lane.sendWithdraw (L : Lane) (cause : Nat) (now : Int) : Lane :=
  if !L.flag .TWN_CFG 31 || L.pstate = 6 then L
  else
    let L := if L.flag .TWN_STAT 27 then L.emitTwin .withdraw else L
    L.raise 9 0x02 now (leBytes 1 cause)

/-- The lane goes to a level at the next edge, or stays on its way to a higher one; a lane in a pair sends WITHDRAW at
once (R40, R220). -/
def Lane.dropTo (L : Lane) (lvl cause : Nat) (now : Int) : Lane :=
  if L.trav.toLevel < lvl ∧ L.level < lvl then
    let L := if L.trav.toLevel < 2 ∧ L.level < 2 then L.sendWithdraw cause now else L
    { L with trav := { L.trav with toLevel := lvl, cause := cause } }
  else L

/-- A unit's done flag, by its bit in LCT_CLOSURE_STAT (R38). [log 25 DEDUCED] -/
def Lane.markDone (L : Lane) (b : Nat) : Lane :=
  { L with trav := { L.trav with done := if L.trav.done.testBit b then L.trav.done else L.trav.done + 2 ^ b } }

/-- A command completes on the lane; the standby's copy of a forwarded command completes nothing (R46). -/
def Lane.finish (L : Lane) (id : CmdId) (status : Nat) (result : List Byte := []) : Lane :=
  if id.quiet then L else { L with fin := L.fin ++ [⟨id, status, result⟩] }

/-- The next free value's number, which no other lane and no earlier draw has. [log 11 DESIGN CHOICE] -/
def Lane.fresh1 (L : Lane) : Nat × Lane := (Nat.pair L.mac L.free, { L with free := L.free + 1 })

/-- The burst EtherType in force: 0x88B5, or 0x88B6 when INT_CFG.BURST_ET is set (R56). -/
def Lane.burstEtype (L : Lane) : Nat := if L.flag .INT_CFG 0 then 0x88B6 else 0x88B5

/-! ### The module -/

/-- One lane's command: the lane forgets what it last sent, then changes. -/
def State.onLane (s : State) (l : LaneId) (f : Lane → Lane) : State :=
  { s with lanes := s.lanes.set l (f { s.lanes.get l with sent := [] }) }

/-- A meaning that changes one lane only. -/
def onLane (l : LaneId) (f : Lane → Lane) (s : State) : Host.Outcome State Fault Refusal := .next (s.onLane l f)

end Sys2Proof.Machine
end

