-- ==== Sys2Proof/Machine/Time.lean ====
section
/-! DEFINITION. The datum: converting raw counts, placing tick edges, and the rate (R30, R273, R274). -/

namespace Sys2Proof.Machine

open Sys2Proof

/-- The nominal RATE, in 2^−48 ns of datum per raw step (R273). -/
def rateNominal : Nat := 0x0000D55555555555

/-- The greatest distance of a rate target from nominal, 950 ppm (R274). -/
def rateLimit : Nat := rateNominal * 950 / 1000000

/-- The most the applied rate moves at one edge (R274). -/
def rateStep : Nat := 4886

/-- A rate target as the hardware takes it: within ±950 ppm of nominal (R274). [log 88 DESIGN CHOICE] -/
def clampRate (r : Int) : Nat := (clampI (rateNominal - rateLimit) (rateNominal + rateLimit) r).toNat

/-- The applied rate after one edge on the way to the target (R274). [log 88 DESIGN CHOICE] -/
def rateToward (cur tgt : Nat) : Nat :=
  if cur < tgt then min tgt (cur + rateStep) else max tgt (cur - rateStep)

/-- The applied rate, DTM_RATE_CUR. -/
def Lane.rateCur (L : Lane) : Nat := L.num64 .DTM_RATE_CUR_LO .DTM_RATE_CUR_HI

/-- The rate target, DTM_RATE_TGT. -/
def Lane.rateTgt (L : Lane) : Nat := L.num64 .DTM_RATE_TGT_LO .DTM_RATE_TGT_HI

/-- Raw steps from one raw count to another, negative when the second is the later: the count is of 64 bits and wraps
(R272). -/
def rawDiff (a b : Nat) : Int :=
  let d : Nat := (a + (2 ^ 64 - b % 2 ^ 64)) % 2 ^ 64
  if d < 2 ^ 63 then (d : Int) else (d : Int) - 2 ^ 64

/-- Raw steps since an earlier raw count; none when it is the later. -/
def rawSince (a b : Nat) : Nat := (rawDiff a b).toNat

/-- The datum at a raw count, in 2^−48 ns, from one point of the mapping (R273). -/
def Datum.at48 (D : Datum) (p : MapPt) (raw : Nat) : Int :=
  D.ofs * 2 ^ 32 + p.d + (p.rate : Int) * rawDiff raw p.e

/-- The mapping point of the tick that holds a raw count, among those kept. -/
def Datum.pointOf (D : Datum) (raw : Nat) : Option MapPt := D.maps.find? (fun p => decide (0 ≤ rawDiff raw p.e))

/-- The datum at a raw count, in 1/65,536 ns, if the count lies in the kept span (R273). -/
def Lane.datumAt (L : Lane) (raw : Nat) : Option Int :=
  (L.datum.pointOf raw).map (fun p => (L.datum.at48 p raw).fdiv (2 ^ 32))

/-- A raw timestamp's datum instant in 1/65,536 ns; one that is too old converts to 0 and is counted (R273).
[log 13 DEDUCED] -/
def Lane.convert (L : Lane) (raw : Nat) : Int × Lane :=
  match L.datumAt raw with
  | some t => (t, L)
  | none => (0, L.bump .DTM_CONV_OLD)

/-- The first raw count at which the datum is at or after an instant in ns (R30). -/
def Datum.rawOf (D : Datum) (p : MapPt) (ns : Nat) : Nat :=
  let need : Int := (ns : Int) * 2 ^ 48 - (D.ofs * 2 ^ 32 + p.d)
  if need ≤ 0 then p.e else (p.e + ceilDiv need.toNat p.rate) % 2 ^ 64

/-- The identity of the grandmaster followed, or last followed (DTM_GM). -/
def Lane.gmId (L : Lane) : Nat := L.num64 .DTM_GM_LO .DTM_GM_HI

/-- The datum state of R284. -/
def Lane.dstate (L : Lane) : Nat := L.fld .DTM_STAT 31 29

/-- SYNCED (R284). -/
def Lane.synced (L : Lane) : Bool := L.flag .DTM_STAT 24

end Sys2Proof.Machine
end

