-- ==== Sys2Proof/Machine/Intake.lean ====
section
/-! DEFINITION. Sample intake: matching, checks, authentication, duplicates, instants and history of sampled-value and
burst frames (R53 to R73). -/

namespace Sys2Proof.Machine

open Sys2Proof

/-! ### Subscriptions (R53) -/

/-- The stream of a subscription. -/
def Lane.stream (L : Lane) (n : Nat) : Stream := L.intake.streams.getD n (.fresh L.intake.since)

/-- The lane with a subscription's stream replaced. -/
def Lane.setStream (L : Lane) (n : Nat) (x : Stream) : Lane :=
  { L with intake := { L.intake with streams := L.intake.streams.put n x } }

/-- Subscription `n` is enabled. -/
def Lane.subEn (L : Lane) (n : Nat) : Bool := L.flag .INT_SUB_CFG 31 n

/-- Subscription `n` is a burst subscription. -/
def Lane.subBurst (L : Lane) (n : Nat) : Bool := L.fld .INT_SUB_CFG 30 29 n == 1

/-- The subscription's rate in samples per second, at least 1 in a checked image. -/
def Lane.subRate (L : Lane) (n : Nat) : Nat := max 1 (L.fld .INT_SUB_RATE 22 0 n)

/-- noASDU of a sampled-value subscription. -/
def Lane.subAsdu (L : Lane) (n : Nat) : Nat := L.fld .INT_SUB_CFG 17 15 n + 1

/-- Values of one sample: NVAL + 1, or NCH for bursts. -/
def Lane.subVals (L : Lane) (n : Nat) : Nat :=
  if L.subBurst n then L.fld .INT_SUB_CONFREV 3 0 n else L.fld .INT_SUB_CFG 14 10 n + 1

/-- The first history channel of a subscription. -/
def Lane.subCh0 (L : Lane) (n : Nat) : Nat := L.img.subCh0.getD n 0

/-- The svID or SOURCE octets of a subscription. -/
def Lane.subSvId (L : Lane) (n : Nat) : List Byte :=
  (List.range 16).flatMap (fun j => leBytes 4 (L.reg .INT_SUB_SVID n j).toNat)

/-- Octets padded with zeros to a length. -/
def padTo (k : Nat) (bs : List Byte) : List Byte := bs ++ List.replicate (k - bs.length) 0#8

/-- An identifier equals the subscription's, octet for octet and in length. -/
def Lane.svIdEq (L : Lane) (n : Nat) (id : List Byte) : Bool :=
  decide (1 ≤ id.length ∧ id.length ≤ 64) && padTo 64 id == L.subSvId n && id.getLast? != some 0#8

/-- The destination MAC of a subscription. -/
def Lane.subDmac (L : Lane) (n : Nat) : Nat :=
  L.fld .INT_SUB_DMAC_HI 15 0 n * 2 ^ 32 + (L.reg .INT_SUB_DMAC_LO n).toNat

/-- The port, address, VLAN and APPID conditions of R53 for a subscription: a tagged frame by its VLAN ID, an untagged
one where UNTAGGED is set. [log 139 DEDUCED] -/
def Lane.subKey (L : Lane) (n port dst : Nat) (tag : Option Tag) (appId : Nat) : Bool :=
  L.subEn n && L.flag .INT_SUB_CFG (6 + port) n && dst == L.subDmac n &&
  (match tag with
   | none => L.flag .INT_SUB_CFG 5 n
   | some t => t.vid == L.fld .INT_SUB_ID 27 16 n) &&
  appId == L.fld .INT_SUB_ID 15 0 n

/-- The subscription a sampled-value frame matches, the lowest where more than one does (R53).
[log 140 DESIGN CHOICE] -/
def Lane.matchSv (L : Lane) (port : Nat) (f : SvFrame) : Option Nat :=
  (List.range 256).find? (fun n =>
    L.subKey n port f.dst f.tag f.appId && !L.subBurst n && f.etype == 0x88BA && f.asdus.all (fun a => L.svIdEq n a.svId))

/-! ### The burst frame's octets (R56) -/

/-- The number in `n` octets of a burst frame from octet `i` on, big-endian; octets past its end read 0. -/
def burstNum (f : BurstFrame) (i n : Nat) : Nat :=
  (List.range n).foldl (fun a j => a * 256 + ((f.bytes.drop (i + j)).headD 0#8).toNat) 0

/-- VER. -/
def burstVer (f : BurstFrame) : Nat := burstNum f 0 1 / 16

/-- FLG[3] AUTH. -/
def burstAuthed (f : BurstFrame) : Bool := (burstNum f 0 1).testBit 3

/-- FLG[2] SYNC. -/
def burstSync (f : BurstFrame) : Bool := (burstNum f 0 1).testBit 2

/-- FLG[1] TEST. -/
def burstTest (f : BurstFrame) : Bool := (burstNum f 0 1).testBit 1

/-- PACK. -/
def burstPack (f : BurstFrame) : Nat := burstNum f 1 1

/-- STREAM_ID. -/
def burstStream (f : BurstFrame) : Nat := burstNum f 2 2

/-- SOURCE, eight octets. -/
def burstSource (f : BurstFrame) : List Byte := (f.bytes.drop 4).take 8

/-- SEQ. -/
def burstSeq (f : BurstFrame) : Nat := burstNum f 12 4

/-- The instant of TS_SEC, TS_NS and TS_FRAC, in 1/65,536 ns. -/
def burstStamp (f : BurstFrame) : Nat := (burstNum f 16 6 * 1000000000 + burstNum f 22 4) * 65536 + burstNum f 26 2

/-- RATE. -/
def burstRate (f : BurstFrame) : Nat := burstNum f 28 4

/-- NSAMP. -/
def burstNsamp (f : BurstFrame) : Nat := burstNum f 32 2

/-- NCH. -/
def burstNch (f : BurstFrame) : Nat := burstNum f 34 1 % 16

/-- QUAL. -/
def burstQual (f : BurstFrame) : Nat := burstNum f 35 1

/-- GMID. -/
def burstGm (f : BurstFrame) : Nat := burstNum f 36 8

/-- The octets that `total` samples take: 16-bit, 12-bit packed, 24-bit. -/
def burstSampleOctets (f : BurstFrame) (total : Nat) : Nat :=
  if burstPack f = 1 then 2 * total else if burstPack f = 2 then ceilDiv (3 * total) 2 else 3 * total

/-- Sample `i` of a burst frame, sign-extended (R56, R57). -/
def burstSample (f : BurstFrame) (i : Nat) : Int :=
  if burstPack f = 1 then (BitVec.ofNat 16 (burstNum f (44 + 2 * i) 2)).toInt
  else if burstPack f = 2 then
    let pair := burstNum f (44 + i / 2 * 3) 3
    (BitVec.ofNat 12 (if i % 2 = 0 then pair / 4096 else pair)).toInt
  else (BitVec.ofNat 24 (burstNum f (44 + 3 * i) 3)).toInt

/-- The samples of a burst frame, instant by instant, each with one value per channel. -/
def burstSamples (f : BurstFrame) : List (List Int) :=
  (List.range (burstNsamp f)).map (fun t => (List.range (burstNch f)).map (fun c => burstSample f (t * burstNch f + c)))

/-- The first octet after the samples, where KEY_ID stands. -/
def burstKeyAt (f : BurstFrame) : Nat := 44 + burstSampleOctets f (burstNsamp f * burstNch f)

/-- KEY_ID. -/
def burstKeyId (f : BurstFrame) : Nat := burstNum f (burstKeyAt f) 4

/-- The initialisation vector of R58: source MAC, STREAM_ID, SEQ. -/
def burstIv (f : BurstFrame) : BitVec 96 := BitVec.ofNat 96 ((f.src * 2 ^ 16 + burstStream f) * 2 ^ 32 + burstSeq f)

/-- The authenticated data of R58: from header octet 0 to the last octet of KEY_ID. -/
def burstAad (f : BurstFrame) : List Byte := f.bytes.take (burstKeyAt f + 4)

/-- The key that a KEY_ID names in a slot: the current key or the next one. -/
def Lane.keyNamed (L : Lane) (slot id : Nat) : Option KeyCell :=
  let k := L.keySlot slot
  (k.cur.filter (fun c => c.id == id)).or (k.next.filter (fun c => c.id == id))

/-- What a burst frame's tag shows to subscription `n` (R58). AES-GMAC is a function of which only the arguments are
modelled. [log 141 DESIGN CHOICE] -/
def Lane.burstExt (L : Lane) (n : Nat) (f : BurstFrame) : Option SecExt :=
  if !burstAuthed f then none else
  let alg := if L.fld .INT_SUB_AUTH 31 30 n = 1 then 128 else 256
  let ok := match L.keyNamed (L.fld .INT_SUB_AUTH 7 0 n) (burstKeyId f) with
    | none => false
    | some c => Config.gmac alg c.key (burstIv f) (burstAad f) == BitVec.ofNat 128 (burstNum f (burstKeyAt f + 4) 16)
  some ⟨false, alg, burstKeyId f, ok⟩

/-- The subscription a burst frame matches, the lowest where more than one does (R53). [log 140 DESIGN CHOICE] -/
def Lane.matchBurst (L : Lane) (port : Nat) (f : BurstFrame) : Option Nat :=
  (List.range 256).find? (fun n =>
    L.subKey n port f.dst f.tag (burstStream f) && L.subBurst n && f.etype == L.burstEtype &&
      padTo 64 (burstSource f) == L.subSvId n)

/-- The lane's own port addresses (R54, R243). [log 9 DESIGN CHOICE] -/
def Lane.isOwnMac (L : Lane) (m : Nat) : Bool := decide (L.mac ≤ m ∧ m < L.mac + 4)

/-! ### Format checks (R55, R57) -/

/-- The Length field of a sampled-value frame is right (R55). -/
def svLengthOk (f : SvFrame) : Bool := f.length == f.apdu + (if f.ext.isSome then f.extLen else 0)

/-- The drop code of a sampled-value frame, if a check fails (R55): where several do, the BER encoding's, then the
first in rising order of code. [log 142 DESIGN CHOICE] -/
def Lane.svDrop (L : Lane) (n : Nat) (f : SvFrame) : Option Nat :=
  let mode := L.fld .INT_SUB_AUTH 31 30 n
  if !f.berOk then some 0x9
  else if !svLengthOk f then some 0x1
  else if f.sim && !L.flag .INT_SUB_CFG 28 n then some 0x2
  else if f.noAsdu != L.subAsdu n || f.asdus.length != f.noAsdu then some 0x3
  else if f.asdus.any (fun a => L.subRate n ≤ a.smpCnt) then some 0x4
  else if f.asdus.any (fun a => a.confRev != (L.reg .INT_SUB_CONFREV n).toNat) then some 0x5
  else if f.asdus.any (fun a => a.rate.any (· != L.subRate n)) then some 0x6
  else if f.asdus.any (fun a => a.smpMod.any (· != 1)) then some 0x7
  else if f.asdus.any (fun a => a.vals.length != L.subVals n) then some 0x8
  else match f.ext with
    | none => none
    | some x =>
      if x.encrypted then some 0xA
      else if mode != 0 && x.alg != 128 && x.alg != 256 then some 0xB else none

/-- The most samples a burst frame holds in its packing (R57). -/
def packLimit (pack : Nat) : Nat := if pack = 1 then 704 else if pack = 2 then 944 else 472

/-- The drop code of a burst frame, if a check fails (R57); where several do, 0xC goes before 0xD, 0x6 and 0xE.
[log 142 DESIGN CHOICE] -/
def Lane.burstDrop (L : Lane) (n : Nat) (f : BurstFrame) : Option Nat :=
  let total := burstNsamp f * burstNch f
  if burstVer f != 1 then some 0xC
  else if burstPack f != L.fld .INT_SUB_CONFREV 15 8 n || burstNch f != L.fld .INT_SUB_CONFREV 3 0 n then some 0xD
  else if 6144000 < burstRate f * burstNch f || burstRate f != L.subRate n then some 0x6
  else if total = 0 || packLimit (burstPack f) < total || (burstPack f == 2 && total % 2 == 1) ||
    decide (f.bytes.length < burstKeyAt f + (if burstAuthed f then 20 else 0)) then some 0xE
  else none

/-- Counts a format drop with its reason (R55). -/
def Lane.fmtErr (L : Lane) (n code : Nat) : Lane :=
  (L.setFld .INT_SUB_FMTERR 27 0 (L.fld .INT_SUB_FMTERR 27 0 n + 1) n).setFld .INT_SUB_FMTERR 31 28 code n

/-! ### Authentication (R58, R59) -/

/-- How a frame's tag is judged: accepted, under the next key or not; or it fails.
[log 4 DESIGN CHOICE, log 47 DEDUCED] -/
def Lane.authKey (L : Lane) (mode slot : Nat) (ext : Option SecExt) : Option Bool :=
  if mode = 0 then some false else
  match ext with
  | none => none
  | some x =>
    if x.alg != (if mode = 1 then 128 else 256) || !x.tagOk then none else L.keyMatch slot x.keyId

/-! ### Instants and due ticks (R61 to R64) -/

/-- The instant of count `c` at rate `f` in second `S`, in ns (R62). -/
def countNs (S : Int) (c f : Nat) : Int := S * 1000000000 + ceilDiv (c * 1000000000) f

/-- The instant of a synchronised sample, chosen from its arrival in 1/65,536 ns (R62): in 1/65,536 ns. -/
def syncInst (ta : Int) (c f : Nat) : Int :=
  let s0 := ta / (65536 * 1000000000)
  let half : Int := 65536 * 500000000
  let pick := [s0 - 1, s0, s0 + 1].find? (fun S =>
    let t := countNs S c f * 65536
    decide (ta - half < t ∧ t ≤ ta + half))
  countNs (pick.getD s0) c f * 65536

/-- The due offset of R64 in ticks. -/
def Lane.dueOffset (L : Lane) (n nsamp : Nat) : Nat :=
  L.fld .INT_SUB_CFG 23 18 n + 1 + ceilDiv ((nsamp - 1) * 96000) (L.subRate n)

/-- The tick at whose cut-off a sample of an instant falls due (R64). -/
def Lane.dueTick (L : Lane) (n nsamp : Nat) (inst : Int) : Nat :=
  tickOf (nsOf inst).toNat + L.dueOffset n nsamp

/-! ### Quality (R68, R69) -/

/-- The stored quality octet of a 32-bit IEC 61850 quality (R69), which numbers its bits validity 0 and 1, overflow 2,
outOfRange 3, badReference 4, oscillatory 5, failure 6, oldData 7, inconsistent 8, inaccurate 9, source 10, test 11,
operatorBlocked 12, derived 13. -/
def qualOctet (q : Nat) : Nat :=
  let b := fun i => bnat (q.testBit i)
  let any := fun (l : List Nat) => bnat (l.any (fun i => q.testBit i))
  q % 4 + 4 * b 11 + 8 * b 12 + 16 * b 10 + 32 * b 13 + 64 * any [2, 3] + 128 * any [4, 5, 6, 7, 8, 9]

/-- Validity of a quality octet: 0 good, 1 invalid, 2 reserved, 3 questionable. -/
def validity (o : Nat) : Nat := o % 4

/-- The quality octet of a burst frame (R69); QUAL[0] stands where both it and QUAL[1] are set.
[log 143 DESIGN CHOICE] -/
def burstOctet (qual : Nat) (test : Bool) : Nat :=
  (if qual.testBit 0 then 1 else if qual.testBit 1 then 3 else 0) + 4 * bnat test + 64 * bnat (qual.testBit 2)

/-! ### History (R60, R66, R70, R71) -/

/-- The depth of a stream's rings (R70, R71). -/
def Lane.histDepth (L : Lane) (n : Nat) : Nat :=
  if L.subBurst n then 65536 else ceilDiv (L.subRate n * 1024) 96000 + 8

/-- A sample into history, by its instant, latest first (R66). -/
def placeSample (s : Sample) : List Sample → List Sample
  | [] => [s]
  | x :: t => if x.inst ≤ s.inst then s :: x :: t else x :: placeSample s t

/-- The count after `cnt`, and the period to it, in a stream (R64). [log 45 DEDUCED] -/
def Lane.nextCount (L : Lane) (n cnt nsamp : Nat) : Nat :=
  if L.subBurst n then
    (if cnt % 1024 + 1 < nsamp then cnt + 1 else (cnt / 1024 + 1) % 2 ^ 32 * 1024)
  else (cnt + 1) % L.subRate n

/-- The instant that follows another by one period (R64): the grid of R62 for synchronised sampled values. -/
def Lane.nextInst (L : Lane) (n : Nat) (s : Sample) : Int :=
  let f := L.subRate n
  if s.sync && !L.subBurst n then
    let S := (s.inst / 65536) / 1000000000
    if s.cnt + 1 < f then countNs S (s.cnt + 1) f * 65536 else countNs (S + 1) 0 f * 65536
  else s.inst + 65536000000000 / f

/-- Writes one accepted sample to history, or counts it late (R66). The rings hold the samples last written, so the one
at the new sample's position leaves (R70). `nsamp` is n of R64. -/
def Lane.writeSample (L : Lane) (n nsamp : Nat) (s : Sample) : Lane :=
  if s.due ≤ L.intake.cutTick && L.intake.cutTick != 0 then L.bump .INT_SUB_LATE n
  else
    let x := L.stream n
    let s := { s with pos := x.wrote % max 1 (L.histDepth n), wtick := max L.tick (L.intake.cutTick + 1) }
    let hist := placeSample s (x.hist.filter (fun h => h.pos != s.pos))
    let ex := match x.expect with
      | none => some (L.nextCount n s.cnt nsamp, L.nextInst n s)
      | some e => some e
    L.setStream n { x with hist := hist, expect := ex, wrote := x.wrote + 1 }

/-- Marks an identifier as seen; the window holds the last 64 (R60). -/
def Lane.markSeen (L : Lane) (n id : Nat) : Lane :=
  let x := L.stream n
  L.setStream n { x with seen := (id :: x.seen).take 64 }

/-- One ASDU past authentication: a duplicate is counted, another is placed in history. The second result tells
whether it was accepted at the duplicate step. `i` is its place in the frame. -/
def Lane.takeAsdu (L : Lane) (n : Nat) (f : SvFrame) (knext : Bool) (ta : Int) (i : Nat) (a : Asdu) : Lane × Bool :=
  if (L.stream n).seen.contains a.smpCnt then (L.bump .INT_SUB_DUP n, false)
  else
    let L := L.markSeen n a.smpCnt
    let r := L.subRate n
    let sync := (a.synch == 1 || a.synch == 2) && a.gm == some L.intake.gm
    let inst :=
      if sync then syncInst ta a.smpCnt r
      else ta - (L.fld .INT_SUB_DELAY 19 0 n : Int) * 65536
        - ((f.noAsdu - 1 - i : Nat) : Int) * (ceilDiv 1000000000 r : Nat) * 65536
    let ahead := sync && decide (ta + 20000 * 65536 < inst)
    let L := if ahead then L.bump .INT_AHEAD else L
    let qs := a.vals.map (fun v => qualOctet v.2)
    let bad := qs.any (fun o => validity o == 1 || validity o == 2)
    let s : Sample :=
      { cnt := a.smpCnt, inst := inst, due := L.dueTick n f.noAsdu inst, vals := a.vals.map (·.1), qual := qs,
        sync := sync, test := f.sim || qs.any (fun o => o.testBit 2),
        invalid := bad || ahead || (!sync && L.flag .INT_SUB_CFG 27 n),
        quest := qs.any (fun o => validity o == 3), knext := knext, pos := 0, wtick := 0 }
    (L.writeSample n f.noAsdu s, true)

/-- The ASDUs of a frame in their order; the second result tells whether any was accepted. -/
def Lane.takeAsdus (L : Lane) (n : Nat) (f : SvFrame) (knext : Bool) (ta : Int) : Nat → List Asdu → Lane × Bool
  | _, [] => (L, false)
  | i, a :: t =>
    let p := L.takeAsdu n f knext ta i a
    let q := p.1.takeAsdus n f knext ta (i + 1) t
    (q.1, p.2 || q.2)

/-- The ASDUs whose smpSynch is none of 0, 1 and 2 are counted, each being treated as 0 (R55). [log 144 DEDUCED] -/
def Lane.countSynch (L : Lane) (f : SvFrame) : Lane :=
  f.asdus.foldl (fun (L : Lane) a => if 2 < a.synch then L.bump .INT_SYNCVAL else L) L

/-- A frame reaches a port's intake parser: the lane is in service and the port is one it keeps (R246, R271). -/
def Lane.intakeOpen (L : Lane) (port : Nat) : Bool := L.inService && L.portKept port

/-- Steps 1 to 6 of intake for a sampled-value frame received on a port at a raw count (R53 to R66). [log 47 DEDUCED] -/
def Lane.takeSv (L : Lane) (port rx : Nat) (f : SvFrame) : Lane :=
  if !L.intakeOpen port then L else
  let L := { L with intake := { L.intake with fps := L.intake.fps + 1 } }
  if L.isOwnMac f.src then L.bump .INT_OWNDROP else
  match L.matchSv port f with
  | none => L.bump .INT_UNMATCHED
  | some n =>
    match L.svDrop n f with
    | some c => L.fmtErr n c
    | none =>
      let L := L.countSynch f
      match L.authKey (L.fld .INT_SUB_AUTH 31 30 n) (L.fld .INT_SUB_AUTH 7 0 n) f.ext with
      | none => L.bump .INT_SUB_AUTHFAIL n
      | some knext =>
        let c := L.convert rx
        let r := c.2.takeAsdus n f knext c.1 0 f.asdus
        if r.2 then r.1.bump .INT_SUB_FRAMES n else r.1

/-- The burst samples of a frame, instant by instant (R56, R63). None is tested against the arrival: INT_AHEAD is R62's,
of sampled-value samples. [log 45 DEDUCED, log 166 DEDUCED] -/
def Lane.takeInstants (L : Lane) (n : Nat) (f : BurstFrame) (knext sync : Bool) (first : Int) :
    Nat → List (List Int) → Lane
  | _, [] => L
  | i, v :: t =>
    let inst := first + ((i : Int) * 65536000000000) / max 1 (burstRate f)
    let o := burstOctet (burstQual f) (burstTest f)
    let k := burstNsamp f
    let s : Sample :=
      { cnt := burstSeq f * 1024 + i, inst := inst, due := L.dueTick n k inst, vals := v, qual := v.map (fun _ => o),
        sync := sync, test := burstTest f,
        invalid := validity o == 1 || (!sync && L.flag .INT_SUB_CFG 27 n), quest := validity o == 3, knext := knext, pos := 0, wtick := 0 }
    (L.writeSample n k s).takeInstants n f knext sync first (i + 1) t

/-- SEQ has wrapped under the key last used, or the key is barred since such a wrap (R58). [log 45 DEDUCED] -/
def Stream.rekeyed (x : Stream) (keyId seq : Nat) : Bool :=
  match x.key with
  | none => false
  | some (k, last) => k == keyId && (x.wrapped || (seq < last && (seq + 2 ^ 32 - last) % 2 ^ 32 < 2 ^ 31))

/-- The stream's key record after an authenticated frame under a valid KEY_ID (R58). -/
def Stream.keyed (x : Stream) (keyId seq : Nat) : Stream :=
  match x.key with
  | some (k, last) =>
    if k = keyId then { x with key := some (k, max last seq) } else { x with key := some (keyId, seq), wrapped := false }
  | none => { x with key := some (keyId, seq), wrapped := false }

/-- A burst frame that passed its checks and authentication (R58, R60, R63). A frame without a tag, or whose KEY_ID
names no key of the slot, leaves the record of keys as it is. [log 47 DEDUCED] -/
def Lane.acceptBurst (L : Lane) (n rx : Nat) (f : BurstFrame) (knext : Bool) : Lane :=
  let keyId := burstKeyId f
  if burstAuthed f && (L.stream n).rekeyed keyId (burstSeq f) then
    (L.setStream n { L.stream n with wrapped := true }).bump .INT_REKEY
  else if (L.stream n).seen.contains (burstSeq f) then L.bump .INT_SUB_DUP n
  else
    let L := L.markSeen n (burstSeq f)
    let x := { L.stream n with nsamp := burstNsamp f }
    let x := if burstAuthed f && (L.keyNamed (L.fld .INT_SUB_AUTH 7 0 n) keyId).isSome then x.keyed keyId (burstSeq f) else x
    let c := L.convert rx
    let sync := burstSync f && burstGm f == L.intake.gm
    let last := c.1 - (L.fld .INT_SUB_DELAY 19 0 n : Int) * 65536
    let first : Int :=
      if sync then burstStamp f else last - (((burstNsamp f - 1 : Nat) : Int) * 65536000000000) / max 1 (burstRate f)
    let x := { x with frames := (⟨burstSeq f, first, burstQual f⟩ :: x.frames).take 65536 }
    ((c.2.setStream n x).takeInstants n f knext sync first 0 (burstSamples f)).bump .INT_SUB_FRAMES n

/-- Intake of a burst frame received on a port at a raw count (R53 to R66). -/
def Lane.takeBurst (L : Lane) (port rx : Nat) (f : BurstFrame) : Lane :=
  if !L.intakeOpen port then L else
  let L := { L with intake := { L.intake with fps := L.intake.fps + 1 } }
  if L.isOwnMac f.src then L.bump .INT_OWNDROP else
  match L.matchBurst port f with
  | none => L.bump .INT_UNMATCHED
  | some n =>
    match L.burstDrop n f with
    | some c => L.fmtErr n c
    | none =>
      match L.authKey (L.fld .INT_SUB_AUTH 31 30 n) (L.fld .INT_SUB_AUTH 7 0 n) (L.burstExt n f) with
      | none => L.bump .INT_SUB_AUTHFAIL n
      | some knext => L.acceptBurst n rx f knext

/-! ### The cut-off (R65) -/

/-- The sample a view reads: the present valid one with the latest instant, test samples only in the test view. -/
def Stream.newest (x : Stream) (test : Bool) : Option Sample :=
  x.hist.find? (fun s => !s.invalid && (test || !s.test))

/-- One judgement of a view (R65): a hit or a miss, with N of the subscription. -/
def View.judge (v : View) (N : Nat) (hit : Bool) : View :=
  if hit then
    { miss := 0, hit := v.hit + 1, stale := false, lost := v.lost && decide (v.hit + 1 < N) }
  else if N ≤ v.miss + 1 then { miss := v.miss + 1, hit := 0, stale := true, lost := true }
  else { v with miss := v.miss + 1, hit := 0, stale := true }

/-- The item of a present sample that falls due. -/
def dueOf (s : Sample) : DueItem :=
  { inst := s.inst, smp := some s, svc := !s.invalid && !s.test, tst := !s.invalid }

/-- The instant that follows an expected one by one period: the grid of R62 while the newest sample is a synchronised
sampled value (R64). [log 145 DEDUCED] -/
def Lane.nextExpected (L : Lane) (n : Nat) (x : Stream) (e : Nat × Int) : Nat × Int :=
  let f := L.subRate n
  let grid := !L.subBurst n && x.hist.head?.any (·.sync)
  let S := e.2 / 65536 / 1000000000
  (L.nextCount n e.1 x.nsamp,
   if !grid then e.2 + 65536000000000 / f
   else if e.1 + 1 < f then countNs S (e.1 + 1) f * 65536 else countNs (S + 1) 0 f * 65536)

/-- The accepted sample that stands for an expected one (R64): that of its count, or the first one at its instant or
later, where it lies nearer than half a period. [log 145 DEDUCED] -/
def Lane.standsFor (L : Lane) (n : Nat) (x : Stream) (e : Nat × Int) : Option Sample :=
  let half : Int := 32768000000000 / (L.subRate n : Nat)
  (x.hist.find? (fun s => s.cnt == e.1 && decide (e.2 - 65536 * 500000000 < s.inst))).or
    ((x.hist.filter (fun s => decide (e.2 - half ≤ s.inst))).getLast?.filter (fun s => decide (s.inst < e.2 + half)))

/-- Expected samples that are absent at the cut-off of tick `k`, from the next expected one on (R64, R65), with the
next expectation, which follows from the accepted samples. `fuel` bounds the run. [log 145 DEDUCED] -/
def Lane.absent (L : Lane) (n k : Nat) (x : Stream) : Nat → Nat × Int → List DueItem × (Nat × Int)
  | 0, e => ([], e)
  | fuel + 1, e =>
    if k < L.dueTick n (if L.subBurst n then x.nsamp else L.subAsdu n) e.2 then ([], e)
    else
      match L.standsFor n x e with
      | some s =>
        if k < s.due then ([], e) else L.absent n k x fuel (L.nextCount n s.cnt x.nsamp, L.nextInst n s)
      | none =>
        let r := L.absent n k x fuel (L.nextExpected n x e)
        (⟨e.2, none, false, false⟩ :: r.1, r.2)

/-- Items in rising order of instant. -/
def placeDue (d : DueItem) : List DueItem → List DueItem
  | [] => [d]
  | x :: t => if d.inst < x.inst then d :: x :: t else x :: placeDue d t

/-- The most items judged at one cut-off: no stream has more samples than its rings hold. -/
def Lane.dueFuel (L : Lane) (n : Nat) : Nat := L.subRate n / 96000 + 80

/-- Everything of a stream that falls due at the cut-off of tick `k`, in order of instant, and the next expectation. An
expected sample that is absent at its cut-off is a miss; one delayed past it is judged again, at its own.
[log 146 DESIGN CHOICE] -/
def Lane.dueItems (L : Lane) (n k : Nat) (x : Stream) : List DueItem × Option (Nat × Int) :=
  let present := (x.hist.filter (fun s => s.due == k)).map dueOf
  match x.expect with
  | none => (present.foldl (fun l d => placeDue d l) [], none)
  | some e =>
    let r := L.absent n k x (L.dueFuel n) e
    ((present ++ r.1).foldl (fun l d => placeDue d l) [], some r.2)

/-- The summary of a view's runs and the newest sample in INT_SUB_STAT (service view, at the last cut-off).
[log 44 DEDUCED] -/
def Lane.showStream (L : Lane) (n : Nat) (x : Stream) : Lane :=
  let s := x.newest false
  let t := x.newest true
  let run := min 127 (if x.svc.lost then x.svc.hit else x.svc.miss)
  let w := (0#32 : Word)
  let w := putBit w 31 x.svc.lost
  let w := putBit w 30 x.svc.stale
  let w := putBit w 29 (s.any (·.sync))
  let w := putBit w 28 (s.any (fun z => !z.sync))
  let w := putBit w 27 (s.any (·.quest))
  let w := putBit w 26 (t.any (·.test))
  let w := putBit w 25 (s.any (·.knext))
  let w := putBits w 23 17 run
  let cnt := (s.map (fun z => if L.subBurst n then z.cnt / 1024 else z.cnt)).getD 0
  L.setReg .INT_SUB_STAT (putBits w 16 0 cnt) n

/-- One stream at the cut-off of tick `k` (R65, R70). -/
def Lane.cutStream (L : Lane) (k n : Nat) : Lane :=
  if !L.subEn n then L else
  let x := L.stream n
  let N := L.fld .INT_SUB_CFG 26 24 n + 1
  let r := L.dueItems n k x
  let svc := r.1.foldl (fun v d => v.judge N d.svc) x.svc
  let tst := r.1.foldl (fun v d => v.judge N d.tst) x.tst
  let walk := r.1.foldl (fun (a : View × Nat × Nat) d =>
    let v := a.1.judge N d.svc
    (v, a.2.1 + bnat (v.lost && !a.1.lost), a.2.2 + bnat (!v.lost && a.1.lost))) (x.svc, 0, 0)
  let misses := (r.1.filter (fun d => !d.svc)).length
  let y := { x with svc := svc, tst := tst, expect := r.2, dueNow := r.1,
                    lostEvt := x.lostEvt + walk.2.1, recEvt := x.recEvt + walk.2.2 }
  let before := (x.index.get? ((k + 1023) % 1024)).filter (fun r => r.tick + 1 == k)
  let tr : TickRead :=
    { tick := k, svc := (y.newest false).or (before.bind (·.svc)), tst := (y.newest true).or (before.bind (·.tst)),
      svcV := svc, tstV := tst }
  let y := { y with index := y.index.put (k % 1024) tr }
  let L := (L.setStream n y).setReg .INT_SUB_MISS (L.reg .INT_SUB_MISS n + w32 misses) n
  L.showStream n y

/-- The enabled subscriptions, as INT_STAT counts them. [log 135 DEDUCED] -/
def Lane.intakeCounts (L : Lane) : Lane :=
  let subs := (List.range 256).filter (fun n => L.subEn n)
  let L := L.setFld .INT_STAT 25 17 subs.length
  let L := L.setFld .INT_STAT 16 10 (subs.filter (fun n => L.subRate n == 96000 && !L.subBurst n)).length
  L.setFld .INT_STAT 2 0 (subs.filter (fun n => L.subBurst n)).length

/-- Subscriptions LOST at a cut-off (INT_STAT.NLOST). -/
def Lane.intakeStat (L : Lane) : Lane :=
  let lost := ((List.range 256).filter (fun n => L.subEn n && (L.stream n).svc.lost)).length
  L.setFld .INT_STAT 9 3 (min 127 lost)

/-- The intake cut-off of a tick: every stream is judged once (R65). [log 44 DEDUCED] -/
def Lane.cutStreams (k : Nat) (L : Lane) : Lane :=
  let L := { L with intake := { L.intake with cutTick := k } }
  (foldTo 256 (fun L n => L.cutStream k n) L).intakeStat

/-- The tick's cut-off as a datum instant in ns; standby lanes cut off on the unshifted grid (R34). -/
def Lane.cutNs (L : Lane) : Int := (L.refEdge + 600 : Nat)

/-- A stream's entry into LOST is reported (R67). [log 2 DESIGN CHOICE, log 44 DEDUCED] -/
def Lane.streamLost (n : Nat) (L : Lane) : Lane :=
  let x := L.stream n
  if x.lostEvt = 0 then L
  else ((L.setStream n { x with lostEvt := x.lostEvt - 1 }).bump .INT_SUB_LOSTCNT n).raise
    (64 + n / 4) (0x01 + 256 * (n % 4)) L.cutNs (leBytes 1 n)

/-- A stream's recovery is reported (R67). [log 44 DEDUCED] -/
def Lane.streamRecovered (n : Nat) (L : Lane) : Lane :=
  let x := L.stream n
  if x.recEvt = 0 then L
  else (L.setStream n { x with recEvt := x.recEvt - 1 }).raise (64 + n / 4) (0x02 + 256 * (n % 4)) L.cutNs (leBytes 1 n)

/-! ### The LPDDR copy (R72) -/

/-- Octets a stream's history takes in LPDDR in a second (R72). -/
def Lane.lpddrRate (L : Lane) (n : Nat) : Nat :=
  let f := L.subRate n
  let off := if f != 96000 || (L.stream n).hist.head?.any (fun s => !s.sync) then f * 4 else 0
  f * L.subVals n * 4 + off

/-- The LPDDR history span in ms: the lesser of 20 s and the region's size over the rate (R72). -/
def Lane.histSpanMs (L : Lane) : Nat :=
  let subs := (List.range 256).filter (fun n => L.subEn n && !L.subBurst n)
  let B := (subs.map (fun n => L.lpddrRate n)).sum
  if B = 0 then 20000 else min 20000 (15737028608 * 1000 / B)

/-- The records the quality-change log holds (R72). -/
def qlogSize : Nat := 12582912

/-- A view's status bits of the tick index (R70): STALE, LOST, SYNC, AT, Q and T. -/
def viewBits (s : Option Sample) (v : View) : Nat :=
  32 * bnat v.stale + 16 * bnat v.lost + 8 * bnat (s.any (·.sync)) + 4 * bnat (s.any (fun z => !z.sync)) +
    2 * bnat (s.any (·.quest)) + bnat (s.any (·.test))

/-- The records that the quality-change log gains from a stream's tick (R72): one for each channel whose octet differs
from that of the sample before, and one where the status bits of the tick index have changed. -/
def qualityChanges (k n : Nat) (new : List Sample) (status : Option Nat) (x : Stream) : List QRec × Stream :=
  let r := new.foldl (fun (a : List QRec × List Nat) s =>
    (a.1 ++ (s.qual.mapIdx (fun i q => (i, q))).filterMap (fun p =>
      if (a.2.drop p.1).head? == some p.2 then none else some ⟨k, n, some p.1, p.2⟩), s.qual)) ([], x.lastQ)
  match status with
  | none => (r.1, { x with lastQ := r.2 })
  | some v =>
    (r.1 ++ (if x.lastSt == some v then [] else [⟨k, n, none, v⟩]), { x with lastQ := r.2, lastSt := some v })

/-- One stream's part of the copy to LPDDR at the closure of tick `k` (R72): the samples whose write met the cut-off of
`k`, and the quality changes. A burst stream has no part in it, its status changes neither. [log 167 DEDUCED] -/
def Lane.copyStream (k keepTicks : Nat) (L : Lane) (n : Nat) : Lane :=
  if !L.subEn n || L.subBurst n then L else
  let x := L.stream n
  let new := x.hist.filter (fun s => s.wtick == k)
  let status := ((x.index.get? (k % 1024)).filter (fun r => r.tick == k)).map (fun r =>
    viewBits r.svc r.svcV + 64 * viewBits r.tst r.tstV)
  let q := qualityChanges k n new.reverse status x
  let L := L.setStream n
    { q.2 with lpddr := (new.map (fun s => (k, s)) ++ x.lpddr).filter (fun p => k < p.1 + keepTicks) }
  { L with intake := { L.intake with qlog := (q.1.reverse ++ L.intake.qlog).take qlogSize } }

/-- At closure the tick's samples go to LPDDR, and quality changes to the log (R72). -/
def Lane.copyHistory (L : Lane) : Lane :=
  let k := L.tick
  let span := L.histSpanMs
  let L := foldTo 256 (Lane.copyStream k (span * 96)) L
  let wrapped := qlogSize ≤ L.intake.qlog.length
  let age := (k - (L.intake.qlog.getLast?.map (·.tick)).getD k) / 96
  (L.setReg .INT_HIST_SPAN (w32 (if wrapped then min span age else span))).setFlag .INT_STAT 26 (wrapped && age < span)

/-! ### History reset (R73) -/

/-- The history of subscription `n` emptied, its records in the quality-change log with it. -/
def Lane.resetHistory (L : Lane) (n : Nat) : Lane :=
  let L := { L with intake := { L.intake with qlog := L.intake.qlog.filter (fun r => r.sub != n) } }
  (L.setStream n (.fresh L.tick)).setReg .INT_SUB_STAT Reg.INT_SUB_STAT.reset n

/-! ### Meanings -/

/-- STREAM_LOST (R65, R67). -/
def execStreamLost (lane : LaneId) (sub : Nat) (s : State) : Host.Outcome State Fault Refusal :=
  onLane lane (Lane.streamLost sub) s

/-- STREAM_RECOVERED (R65, R67). -/
def execStreamRecovered (lane : LaneId) (sub : Nat) (s : State) : Host.Outcome State Fault Refusal :=
  onLane lane (Lane.streamRecovered sub) s

end Sys2Proof.Machine
end

