-- ==== Sys2Proof/Machine/Cond.lean ====
section
/-! DEFINITION. Conditioning chains, single-cycle settling and the wavefront detector (R74 to R97). -/

namespace Sys2Proof.Machine

open Sys2Proof

/-! ### Configuration of a chain -/

/-- A chain. -/
def Lane.chain (L : Lane) (c : Nat) : Chain := L.cond.chains.getD c (.fresh false)

/-- The lane with a chain replaced. -/
def Lane.setChain (L : Lane) (c : Nat) (x : Chain) : Lane :=
  { L with cond := { L.cond with chains := L.cond.chains.put c x } }

/-- Chain `c` is enabled. -/
def Lane.chEn (L : Lane) (c : Nat) : Bool := L.flag .CND_CH_CFG 31 c

/-- Single-cycle settling. -/
def Lane.chScs (L : Lane) (c : Nat) : Bool := L.flag .CND_CH_CFG 30 c

/-- The chain reads the test view (R77). -/
def Lane.chTest (L : Lane) (c : Nat) : Bool := L.flag .CND_CH_CFG 29 c

/-- The subscription and value index a history channel belongs to. -/
def Lane.chanOf (L : Lane) (ch : Nat) : Option (Nat × Nat) :=
  (List.range 256).findSome? (fun n =>
    let c0 := L.subCh0 n
    if L.subEn n && !L.subBurst n && decide (c0 ≤ ch ∧ ch < c0 + L.subVals n) then some (n, ch - c0) else none)

/-- The subscription and value index a chain's source names (CND_CH_CFG). -/
def Lane.chSource (L : Lane) (c : Nat) (second : Bool) : Option (Nat × Nat) :=
  let w := if second then L.fld .CND_CH_CFG 21 11 c else L.fld .CND_CH_CFG 10 0 c
  if 64 ≤ c then some (w / 4 % 256, w % 4) else L.chanOf w

/-- The skew of a chain's source in 1/65,536 ns (R90). -/
def Lane.chSkew (L : Lane) (c : Nat) (second : Bool) : Int :=
  let ch := match L.chSource c second with
    | some (n, i) => L.subCh0 n + i
    | none => 0
  L.img.skews.getD ch 0 * 65536

/-- CIC order. -/
def Lane.cicN (L : Lane) (c : Nat) : Nat := L.fld .CND_CH_DEC 31 29 c

/-- CIC ratio, 1 when bypassed. -/
def Lane.cicR (L : Lane) (c : Nat) : Nat := if L.cicN c = 0 then 1 else max 1 (L.fld .CND_CH_DEC 28 18 c)

/-- The FIR set in use, if the stage is. -/
def Lane.firOf (L : Lane) (c : Nat) : Option FirSet :=
  if L.flag .CND_CH_DEC 17 c then L.img.firs.get? (L.fld .CND_CH_DEC 16 13 c) else none

/-- FIR decimation, 1 when bypassed. -/
def Lane.firD (L : Lane) (c : Nat) : Nat := if L.flag .CND_CH_DEC 17 c then L.fld .CND_CH_DEC 12 9 c + 1 else 1

/-- L_F: the tap count, 1 when bypassed. -/
def Lane.firL (L : Lane) (c : Nat) : Nat := match L.firOf c with
  | some s => max 1 s.taps.length
  | none => 1

/-- Output period M in ticks. [log 134 DESIGN CHOICE] -/
def Lane.chM (L : Lane) (c : Nat) : Nat := max 1 (L.fld .CND_CH_OUT 16 0 c)

/-- The source of the block that starts at a grid tick (R89): the select value last seen at or before it, the source at
reset where none was. [log 50 DEDUCED] -/
def Chain.blockSrc (x : Chain) (start : Nat) : Bool :=
  match x.blkSrc.find? (fun e => e.1 ≤ start) with
  | some e => e.2
  | none => x.src

/-- The source that a chain takes its samples from (R89). -/
def Lane.chSrc (L : Lane) (c : Nat) : Bool := if L.chScs c then (L.chain c).blockSrc L.tick else (L.chain c).src

/-- The rate of the chain's source. -/
def Lane.chRate (L : Lane) (c : Nat) : Nat := match L.chSource c (L.chSrc c) with
  | some (n, _) => L.subRate n
  | none => 1

/-- LAT and LAT_MIN (R85). -/
def Lane.chLat (L : Lane) (c : Nat) : Nat := L.fld .CND_CH_LAT 31 16 c

/-- LAT_MIN (R85). -/
def Lane.chLatMin (L : Lane) (c : Nat) : Nat := L.fld .CND_CH_LAT 15 0 c

/-- S_c, the samples that can influence one output (R78). -/
def Lane.chSpan (L : Lane) (c : Nat) : Nat :=
  let R := L.cicR c
  L.cicN c * (R - 1) + R * (L.firL c - 1) +
    (if L.flag .CND_CH_CFG 28 c then 0 else 16 * R * L.firD c) + 1

/-- Periods of a rate, as time in 1/65,536 ns, rounded down: `num / den` periods at `f` per second. -/
def periods (num den f : Nat) : Int := ((num * 65536000000000) / (den * max 1 f) : Nat)

/-! ### Consumption (R76 to R80) -/

/-- One input sample as the chain consumes it: instant with skew taken off, the instant as it was, value, and its
marks; `src` is whether the source is synchronised. -/
structure ChainIn where
  inst  : Int
  raw   : Int
  v     : Int
  recv  : Bool
  at_   : Bool
  sync  : Bool
  quest : Bool
  src   : Bool
  deriving DecidableEq, Repr

/-- A sample's value of a channel is questionable (R68). -/
def Sample.questAt (s : Sample) (idx : Nat) : Bool := validity (s.qual.getD idx 0) == 3

/-- A due item as a chain's input: the sample, or a held value at the expected instant, which for a sample that is
present but a miss is its own (R76). `src` is whether the source's newest sample is synchronised.
[log 153 DESIGN CHOICE] -/
def chainIn (d : DueItem) (test : Bool) (idx : Nat) (skew : Int) (held : Int) (src : Bool) : ChainIn :=
  match d.smp, (if test then d.tst else d.svc) with
  | some s, true => ⟨s.inst - skew, s.inst, s.vals.getD idx 0, true, !s.sync, s.sync, s.questAt idx, s.sync⟩
  | _, _ => ⟨d.inst - skew, d.inst, held, false, false, false, false, src⟩

/-- The sample count within its second of an instant at a rate. -/
def countAt (inst : Int) (f : Nat) : Nat :=
  let sec : Int := 65536000000000
  (((inst % sec) * f + sec / 2) / sec).toNat % max 1 f

/-- CIC integrators after one input. -/
def integrate : List (BitVec 96) → BitVec 96 → List (BitVec 96)
  | [], _ => []
  | a :: t, x => (a + x) :: integrate t (a + x)

/-- CIC combs after one decimated value: the new delays and the output. [log 48 DEDUCED] -/
def comb : List (BitVec 96) → BitVec 96 → List (BitVec 96) × BitVec 96
  | [], y => ([], y)
  | z :: t, y => let r := comb t (y - z); (y :: r.1, r.2)

/-- A stage output in binary32: one rounding, ±MAX where it would be an infinity (R79). [log 159 DEDUCED] -/
def stage32 (y : Dy) : Dy := val32 (sat32 y).1

/-- A sum of products in binary64, in ascending order: each product is rounded, then each sum (R79).
[log 169 DESIGN CHOICE] -/
def mac64 (l : List (Dy × Dy)) : Dy :=
  l.foldl (fun a p => rnd64 (a.add (rnd64 (p.1.mul p.2)))) Dy.zero

/-- The FIR stage on its newest input (R79, R80): an output when the decimation phase completes. -/
def Lane.firStep (L : Lane) (c : Nat) (x : Chain) (inst : Int) (d : DWord) (phase : Bool) : Chain :=
  match L.firOf c with
  | none => { x with rsLine := ((inst, d) :: x.rsLine).take 160 }
  | some s =>
    let line := ((inst, d) :: x.firLine).take 256
    let x := { x with firLine := line, firCnt := x.firCnt + 1 }
    if !phase then x else
    let y := mac64 ((s.taps.zip line).map (fun p => (val32 p.1, val64 p.2.2)))
    let fr := L.chRate c
    let R := L.cicR c
    let delay := if s.typ = 2 then periods (s.delay * R) 65536 fr else periods ((s.taps.length - 1) * R) 2 fr
    let out := data64 (stage32 y)
    { x with rsLine := ((inst - delay, out) :: x.rsLine).take 160 }

/-- A chain consumes one input sample (R76 to R80). The decimation phase is aligned, or not, at its first sample.
[log 48 DEDUCED, log 154 DESIGN CHOICE] -/
def Lane.chainTake (L : Lane) (c : Nat) (x : Chain) (i : ChainIn) : Chain :=
  let f := L.chRate c
  let R := L.cicR c
  let RD := R * L.firD c
  let first := x.aligned.isNone
  let al := x.aligned.getD (i.src && decide (f % RD = 0))
  let n := if first then (if al then countAt i.raw f else 0) else x.cnt
  let x := { x with
    aligned := some al, cnt := if al then (n + 1) % max 1 f else n + 1,
    held := if i.recv then some i.v else x.held,
    valid := if i.recv then x.valid + 1 else x.valid,
    span := (⟨i.recv, i.at_, i.sync, i.quest⟩ :: x.span).take (L.chSpan c) }
  let firPhase := if al then n % RD == RD - 1 else
    (let k := x.firCnt + 1; k % L.firD c == 0)
  if L.cicN c = 0 then
    let d := if L.flag .CND_CH_DEC 17 c then data64 (Dy.ofInt i.v)
      else data64 (stage32 (Dy.ofInt i.v))
    L.firStep c x i.inst d firPhase
  else
    let N := L.cicN c
    let integ := if x.integ.length = N then x.integ else List.replicate N 0
    let combs := if x.combs.length = N then x.combs else List.replicate N 0
    let ints := integrate integ (BitVec.ofInt 96 i.v)
    let x := { x with integ := ints, combs := combs }
    if n % R != R - 1 then x else
    let r := comb combs (ints.getLastD 0)
    let d := data64 (ratio64 r.2.toInt (R ^ N))
    L.firStep c { x with combs := r.1 } (i.inst - periods (N * (R - 1)) 2 f) d firPhase

/-! ### Outputs (R78, R82 to R88) -/

/-- Scaling: GAIN × v + OFFSET with one rounding, saturated (R79). -/
def Lane.scale (L : Lane) (c : Nat) (v : Dy) : Word × Bool :=
  sat32 (((val32 (L.reg .CND_CH_GAIN c)).mul v).add (val32 (L.reg .CND_CH_OFS c)))

/-- The status octet of an output (R78). -/
def Lane.chStatus (L : Lane) (c : Nat) (x : Chain) (sat : Bool) : Nat :=
  let recv := x.span.filter (·.recv)
  128 * bnat sat + 64 * bnat (recv.any (·.at_)) + 32 * bnat (!recv.isEmpty && recv.all (·.sync)) +
    16 * bnat (L.chTest c) + 8 * bnat (recv.any (·.quest)) + 4 * bnat (decide (x.valid < L.chSpan c)) +
    2 * bnat x.lost + bnat (x.span.any (fun b => !b.recv))

/-- D_r of the resampler set in 1/65,536 ns: 8 or 1.75 periods of the FIR output rate (R83). -/
def Lane.chDr (L : Lane) (c : Nat) : Int :=
  let RD := L.cicR c * L.firD c
  if L.flag .CND_CH_CFG 27 c then periods (7 * RD) 4 (L.chRate c) else periods (8 * RD) 1 (L.chRate c)

/-- The resampler for a grid instant (R82): value, p and w. None before its first FIR output. Where x is 1 or more, p
is 63 and w the fraction of φ. [log 49 DESIGN CHOICE, log 155 DESIGN CHOICE] -/
def Lane.resample (L : Lane) (c : Nat) (x : Chain) (tg : Int) : Option (Dy × Nat × Nat) :=
  let RD := L.cicR c * L.firD c
  let line := x.rsLine.dropWhile (fun e => tg + L.chDr c < e.1)
  match line with
  | [] => none
  | (u, _) :: _ =>
    let set := bnat (L.flag .CND_CH_CFG 27 c)
    let phi := (((tg + L.chDr c - u) * 64 * 65536 * L.chRate c) / ((RD : Int) * 65536000000000)).toNat
    let p := min 63 (phi / 65536)
    let w := phi % 65536
    let ins := fun i => match (line.drop i).head? with
      | some e => val64 e.2
      | none => Dy.zero
    let y := fun (q k : Nat) =>
      mac64 ((List.range 16).map (fun i => (val32 (Config.resamplerTap set q i), ins (i + k))))
    let y0 := y p 0
    let y1 := if p = 63 then y 0 1 else y (p + 1) 0
    let wd : Dy := ⟨false, w, -16⟩
    let one : Dy := Dy.ofInt 1
    let out := rnd64 ((rnd64 ((one.sub wd).mul y0)).add (rnd64 (wd.mul y1)))
    some (stage32 out, p, w)

/-- The value of a bypassed chain for a grid instant: the FIR output nearest the grid (R84). [log 49 DESIGN CHOICE] -/
def Lane.bypassOut (L : Lane) (c : Nat) (x : Chain) (tg : Int) : Option Dy :=
  let half := periods (L.cicR c * L.firD c) 2 (L.chRate c)
  (x.rsLine.dropWhile (fun e => tg + half < e.1)).head?.map (fun e => val64 e.2)

/-- An instant in 1/65,536 ns to the nearest ns. [log 48 DEDUCED] -/
def nearNs (x : Int) : Int := (x + 32768) / 65536

/-- Writes an output: the ring, the latest-output registers and the counters (R85, R93). -/
def Lane.writeOut (L : Lane) (c : Nat) (o : DerOut) : Lane :=
  let x := L.chain c
  let o := { o with tick := L.tick }
  let L := L.setChain c { x with ring := (o :: x.ring).take 1024 }
  let w := putBits (putBits (putBit 0#32 23 (L.chSrc c)) 31 24 o.status) 16 0 (o.grid % 96000)
  let L := (L.setReg .CND_CH_STAT w c).bump .CND_CH_OUTS c
  if o.status.testBit 7 then L.bump .CND_CH_SATCNT c else L

/-- The output of a normal chain for grid tick `k` joins those that wait for tick k + LAT (R82, R85). -/
def Lane.computeOut (L : Lane) (c k : Nat) : Lane :=
  let x := L.chain c
  let tg : Int := (edgeNs k : Int) * 65536
  let put := fun (L : Lane) (v : Dy) =>
    let r := L.scale c v
    L.setChain c { x with wait := x.wait ++ [⟨r.1, L.chStatus c x r.2, 0, edgeNs k, k⟩] }
  if L.flag .CND_CH_CFG 28 c then
    match L.bypassOut c x tg with
    | some v => put L v
    | none => L
  else match L.resample c x tg with
    | some (v, p, w) => (put L v).setReg .CND_CH_PHASE (putBits (w32 w) 21 16 p) c
    | none => L

/-- The grid tick whose block holds a corrected instant: E(k − M) < t ≤ E(k) (R87). [log 50 DEDUCED] -/
def blockOf (M : Nat) (inst : Int) : Nat :=
  let ns := (inst + 65535) / 65536
  let j := tickOf ns.toNat
  let j := if (edgeNs j : Int) * 65536 < inst then j + 1 else j
  (j + M - 1) / M * M

/-- A source of a chain is LOST at this cut-off. -/
def Lane.srcLost (L : Lane) (c : Nat) (second : Bool) : Bool :=
  match L.chSource c second with
  | some (n, _) => if L.chTest c then (L.stream n).tst.lost else (L.stream n).svc.lost
  | none => (L.chain c).lost

/-- The output of a single-cycle-settling chain for grid tick `k` (R87, R88): AT, SYNC and Q are those of the block's
samples; an empty block repeats the previous value at its grid instant, without SAT.
[log 50 DEDUCED, log 156 DESIGN CHOICE] -/
def Lane.blockOut (L : Lane) (c k : Nat) : Lane :=
  let x := L.chain c
  let M := L.chM c
  let src := x.blockSrc (k - M)
  let mine := x.blk.filter (fun b => blockOf M b.inst == k && b.second == src)
  let miss := x.blkMiss.any (fun b => blockOf M b.2 == k && b.1 == src)
  let first := x.ring.isEmpty && x.wait.isEmpty
  let x' := { x with blkDone := some k, blk := x.blk.filter (fun b => k < blockOf M b.inst),
                     blkMiss := x.blkMiss.filter (fun b => k < blockOf M b.2) }
  let n := mine.length
  let stl := 4 * bnat first
  let base := 16 * bnat (L.chTest c) + stl + 2 * bnat (L.srcLost c src)
  if n = 0 then
    let prev := match x.wait.getLast?, x.ring.head? with
      | some o, _ => o.val
      | none, some o => o.val
      | none, none => zero32
    L.setChain c { x' with wait := x.wait ++ [⟨prev, base + 1, 0, edgeNs k, k⟩] }
  else
    let sum := mine.foldl (fun a b => rnd64 (a.add (Dy.ofInt b.v))) Dy.zero
    let mean := stage32 (rnd64 (sum.div (Dy.ofInt n)))
    let r := L.scale c mean
    let inst := (mine.map (·.inst)).sum / n
    let st := base + 128 * bnat r.2 + 64 * bnat (mine.any (·.at_)) + 32 * bnat (mine.all (·.sync)) +
      8 * bnat (mine.any (·.quest)) + bnat miss
    L.setChain c { x' with wait := x.wait ++ [⟨r.1, st, 0, nearNs inst, k⟩] }

/-- A single-cycle-settling chain takes one sample of one source into its block (R87, R88). [log 50 DEDUCED] -/
def Lane.blockTake (L : Lane) (c : Nat) (second : Bool) (i : ChainIn) : Lane :=
  let x := L.chain c
  let M := L.chM c
  let b := blockOf M i.inst
  if x.blockSrc (b - M) != second then L
  else if !i.recv then L.setChain c { x with blkMiss := (second, i.inst) :: x.blkMiss }
  else
    let x := { x with valid := x.valid + 1, held := some i.v }
    if x.blkDone.any (fun k => b ≤ k) then (L.setChain c x).bump .CND_CH_LATEBLK c
    else L.setChain c { x with blk := x.blk ++ [⟨second, i.inst, i.v, i.at_, i.sync, i.quest⟩] }

/-- What a subscription's chains consume in this tick: what fell due at this cut-off, after what fell due in freeze
ticks (R223). -/
def Lane.dueOfSub (L : Lane) (n : Nat) : List DueItem := (L.stream n).frozen ++ (L.stream n).dueNow

/-- A chain consumes what fell due at this cut-off from one of its sources. -/
def Lane.consume (L : Lane) (c : Nat) (second : Bool) : Lane :=
  match L.chSource c second with
  | none => L
  | some (n, idx) =>
    let test := L.chTest c
    let skew := L.chSkew c second
    let lost := if test then (L.stream n).tst.lost else (L.stream n).svc.lost
    (L.dueOfSub n).foldl (fun L d =>
      let x := { L.chain c with lost := lost }
      let i := chainIn d test idx skew (x.held.getD 0) ((L.stream n).hist.head?.any (·.sync))
      if L.chScs c then (L.setChain c x).blockTake c second i
      else L.setChain c (L.chainTake c x i)) L

/-- One chain's tick: it consumes, computes the output of grid tick T − LAT_MIN, and writes that of T − LAT (R76, R85).
A block takes samples until its output is written (R87), so it is computed when it is written. A freeze tick stops the
consumption alone (R223): an output that falls to it is computed from what the chain has consumed.
[log 168 DESIGN CHOICE] -/
def Lane.chainTick (L : Lane) (c : Nat) : Lane :=
  if !L.chEn c then L else
  let L := if L.frozen then L
    else if L.chScs c then (L.consume c false).consume c true else L.consume c (L.chain c).src
  let t := L.tick
  let lat := if L.chScs c then L.chLat c else L.chLatMin c
  let k := t - lat
  let L := if lat ≤ t ∧ k % L.chM c = 0 then (if L.chScs c then L.blockOut c k else L.computeOut c k) else L
  let x := L.chain c
  let ready := x.wait.filter (fun o => o.grid + L.chLat c ≤ t)
  let L := L.setChain c { x with wait := x.wait.filter (fun o => t < o.grid + L.chLat c) }
  ready.foldl (fun L o => L.writeOut c o) L

/-! ### The wavefront detector (R94 to R97) -/

/-- A detector of burst chain 64 + b. -/
def Lane.wf (L : Lane) (b : Nat) : Wf := L.cond.wfs.getD b .fresh

/-- φ of R95 in binary32: each difference rounded to binary32, then their quotient. [log 157 DESIGN CHOICE] -/
def wfPhi (thr d0 d1 : Nat) : Dy :=
  if d1 ≤ d0 then Dy.zero
  else f32.value (f32.round ((val32 (int32 ((thr : Int) - d0))).div (val32 (int32 ((d1 : Int) - d0)))))

/-- The interpolated time of a crossing in ns, a multiple of 10, ties up (R95). `t` is the instant of sample i − 1 and
`s` the skew, both in 1/65,536 ns. -/
def wfTime (t s : Int) (phi : Dy) (rate : Nat) : Int :=
  let frac : Int := (phi.mul ⟨false, 65536000000000, 0⟩).floor / max 1 rate
  ((t + frac - s + 5 * 65536) / (10 * 65536)) * 10

/-- INT32 saturation. -/
def satI32 (x : Int) : Int := clampI (-2147483648) 2147483647 x

/-- The open events count one more consumed sample, with its d where one was formed and its QUAL[2]; those whose last
sample it was come back complete, their amplitude saturated (R95, R97). -/
def wfCount (opens : List (Nat × WfEvent)) (d : Option Int) (clip : Bool) : List (Nat × WfEvent) × List WfEvent :=
  let l := opens.map (fun (o : Nat × WfEvent) =>
    let amp := match d with
      | some v => if o.2.amp.natAbs < v.natAbs then v else o.2.amp
      | none => o.2.amp
    (o.1 - 1, { o.2 with amp := amp, clip := o.2.clip || clip }))
  (l.filter (fun o => o.1 != 0), (l.filter (fun o => o.1 == 0)).map (fun o => { o.2 with amp := satI32 o.2.amp }))

/-- The detector after a sample that it is not fed (R94): disarmed, no d held; open events count the sample. -/
def Wf.stop (w : Wf) (clip : Bool) : Wf × List WfEvent :=
  let r := wfCount w.opens none clip
  ({ line := [], below := 0, armed := false, last := none, opens := r.1 }, r.2)

/-- The detector takes one valid sample; completed events come back. -/
def Lane.wfTake (L : Lane) (b : Nat) (w : Wf) (smp : WfSample) (skew : Int) (rate : Nat) : Wf × List WfEvent :=
  let K := L.fld .CND_WF_CFG 28 25 b + 1
  let line := (smp :: w.line).take (2 * K + 1)
  match (line.drop K).head? with
  | none =>
    let r := wfCount w.opens none smp.clip
    ({ w with line := line, opens := r.1 }, r.2)
  | some old =>
    let d := smp.x - old.x
    let a := d.natAbs
    let thr := (L.reg .CND_WF_THR b).toNat
    let arm := (L.reg .CND_WF_ARM b).toNat
    let hold := L.fld .CND_WF_CFG 15 0 b
    let crossing := w.armed && decide (thr ≤ a)
    let wanted := if d < 0 then L.flag .CND_WF_CFG 29 b else L.flag .CND_WF_CFG 30 b
    let ev : WfEvent :=
      { time := wfTime (line.getD 1 smp).inst skew (wfPhi thr (w.last.getD 0).natAbs a) rate, amp := 0, seq := 0,
        neg := decide (d < 0), clip := (line.take (K + 1)).any (·.clip), test := smp.test, at_ := smp.at_, chain := b,
        kspan := K - 1, inst := smp.inst, tick := 0 }
    let r := wfCount (if crossing && wanted then w.opens ++ [(K, ev)] else w.opens) (some d) smp.clip
    let below := if crossing then 0 else if a < arm then w.below + 1 else 0
    let armed := if crossing then false else w.armed || decide (hold ≤ below)
    ({ line := line, below := below, armed := armed, last := some d, opens := r.1 }, r.2)

/-- A completed event enters the ring (R96). -/
def Lane.enterWf (L : Lane) (b : Nat) (e : WfEvent) : Lane :=
  let e := { e with seq := L.cond.seq, tick := L.tick }
  let L := { L with cond := { L.cond with ring := (e :: L.cond.ring).take 256, seq := (L.cond.seq + 1) % 65536 } }
  (L.bump .CND_WF_EVCNT b).setNum64 .CND_WF_LAST_LO .CND_WF_LAST_HI (wrap 64 e.time) b

/-- A detector's tick: every sample its chain consumed, then at most 8 events into the ring (R96). -/
def Lane.wfTick (L : Lane) (b : Nat) : Lane :=
  let c := 64 + b
  if !L.chEn c || !L.flag .CND_WF_CFG 31 b then L else
  match L.chSource c (L.chSrc c) with
  | none => L
  | some (n, idx) =>
    let skew := L.chSkew c (L.chSrc c)
    let r := (L.dueOfSub n).foldl (fun (a : Wf × List WfEvent) d =>
      match d.smp, (if L.chTest c then d.tst else d.svc) with
      | some s, true =>
        let p := L.wfTake b a.1 ⟨s.vals.getD idx 0, s.inst, (s.qual.getD idx 0).testBit 6, s.test, !s.sync⟩ skew (L.subRate n)
        (p.1, a.2 ++ p.2)
      | o, _ =>
        let p := a.1.stop (o.any (fun s => (s.qual.getD idx 0).testBit 6))
        (p.1, a.2 ++ p.2)) (L.wf b, [])
    let L := { L with cond := { L.cond with wfs := L.cond.wfs.put b r.1 } }
    let L := (r.2.take 8).foldl (fun L e => L.enterWf b e) L
    let excess := r.2.length - 8
    if excess = 0 then L
    else (L.setReg .CND_WF_OVF (L.reg .CND_WF_OVF b + w32 excess) b).raise 3 0x01 (edgeNs L.tick + 10150 : Nat) (leBytes 1 b)

/-- The conditioning phase of the tick (R35, R76). [log 168 DESIGN CHOICE] -/
def Lane.condPhase (L : Lane) : Lane :=
  let L := foldTo 68 (fun L c => L.chainTick c) L
  let L := if L.frozen then L else foldTo 4 (fun L b => L.wfTick b) L
  let keep := L.frozen
  { L with intake := { L.intake with streams := L.intake.streams.mapv (fun _ x =>
      { x with frozen := if keep then x.frozen ++ x.dueNow else [] }) } }

/-! ### Resets and source switching (R89, R91) -/

/-- A chain reset (R91), on a source. -/
def Lane.resetChain (L : Lane) (c : Nat) (src : Bool) : Lane :=
  let L := if 64 ≤ c then { L with cond := { L.cond with wfs := L.cond.wfs.put (c - 64) .fresh } } else L
  ((L.setChain c (.fresh src L.tick)).setReg .CND_CH_STAT (putBit Reg.CND_CH_STAT.reset 23 src) c).bump .CND_CH_RESETS c

/-- The select bit of a chain at this edge (R89). -/
def Lane.selectBit (L : Lane) (c : Nat) (parcelBit : Nat → Nat → Bool) : Bool :=
  match L.fld .CND_CH_CFG 26 25 c with
  | 1 => let f := L.fld .CND_CH_SEL 12 0 c; L.flag .ILU_FLAG (f % 32) (f / 32)
  | 2 => parcelBit (L.fld .CND_CH_SEL 12 9 c) (L.fld .CND_CH_SEL 5 0 c)
  | _ => false

/-- The select bits before a closure are kept for a realignment tick (R234). -/
def Lane.keepSelects (L : Lane) (parcelBit : Nat → Nat → Bool) : Lane :=
  { L with cond := { L.cond with before := bitsWhere (fun c => L.chEn c && L.selectBit c parcelBit) 68 } }

/-- Chains at the edge: a changed select switches the source (R89). -/
def Lane.chainEdge (L : Lane) (parcelBit : Nat → Nat → Bool) : Lane :=
  foldTo 68 (fun L c =>
    if !L.chEn c then L else
    let sel := if L.twin.realign then L.cond.before.testBit c else L.selectBit c parcelBit
    let x := L.chain c
    if L.chScs c then
      if L.tick % L.chM c = 0 && sel != x.blockSrc L.tick then
        (L.setChain c { x with blkSrc := (L.tick, sel) :: x.blkSrc }).setFlag .CND_CH_STAT 23 sel c
      else L
    else if sel != x.src then L.resetChain c sel else L) L

/-- The latest derived output of a chain, as elements read it (R91). -/
def Lane.derived (L : Lane) (c : Nat) : DerOut := match (L.chain c).ring.head? with
  | some o => o
  | none => ⟨zero32, 6, 0, 0, 0⟩

/-- Conditioning's summary register: the chains enabled, and the engines that the image assigns them to (R86). -/
def Lane.condStat (L : Lane) : Lane :=
  (L.setFld .CND_STAT 31 25 ((List.range 68).filter (fun c => L.chEn c)).length).setFld .CND_STAT 24 20
    (bits (L.img.regs.get .CND_STAT 0 0) 24 20)

end Sys2Proof.Machine
end

