-- ==== Sys2Proof/Machine/Operands.lean ====
section
/-! DEFINITION. The operand forms of element slots: descriptor fields, input references, and what each source reads
(R99 to R103, R126). -/

namespace Sys2Proof.Machine

open Sys2Proof

/-! ### Descriptor fields (R126) -/

/-- Word `i` of a descriptor. -/
def dWord (d : Desc) (i : Nat) : Word := (d.drop i).headD 0#32

/-- A field of the HDR word. -/
def dHdr (d : Desc) (hi lo : Nat) : Nat := bits (dWord d 0) hi lo

/-- KIND. -/
def dKind (d : Desc) : Nat := dHdr d 31 28

/-- STAGE, 0 for stage 1. -/
def dStage (d : Desc) : Nat := dHdr d 27 26

/-- EN. -/
def dEn (d : Desc) : Bool := bit (dWord d 0) 25

/-- TEST. -/
def dTest (d : Desc) : Bool := bit (dWord d 0) 24

/-- LOSS: 0 BLOCK, 1 HOLD, 2 SUBST. -/
def dLoss (d : Desc) : Nat := dHdr d 23 22

/-- DIR: 0 NONE, 1 OVER, 2 UNDER. -/
def dDir (d : Desc) : Nat := dHdr d 21 20

/-- ABS. -/
def dAbs (d : Desc) : Bool := bit (dWord d 0) 19

/-- SUB. -/
def dSub (d : Desc) : Nat := dHdr d 18 16

/-- The inputs used. -/
def dNin (d : Desc) : Nat := dHdr d 15 12 + 1

/-- The pickup timer in ticks. -/
def dPu (d : Desc) : Nat := bits (dWord d 1) 23 0

/-- The dropout timer in ticks. -/
def dDo (d : Desc) : Nat := bits (dWord d 2) 23 0

/-- The ROUTE word. -/
def dRoute (d : Desc) : Word := dWord d 3

/-- Input reference `i`. -/
def dIn (d : Desc) (i : Nat) : Word := dWord d (4 + i)

/-- Weight `i`. -/
def dWt (d : Desc) (i : Nat) : Word := dWord d (20 + i)

/-- Parameter word `i`. -/
def dPar (d : Desc) (i : Nat) : Word := dWord d (36 + i)

/-- The pickup level. -/
def dP (d : Desc) : Word := dWord d 56

/-- The reset level. -/
def dH (d : Desc) : Word := dWord d 57

/-- The substitute value. -/
def dSubst (d : Desc) : Word := dWord d 58

/-- The first window-store entry. -/
def dWbase (d : Desc) : Nat := bits (dWord d 60) 19 0

/-- The window-store entries allocated. -/
def dWcap (d : Desc) : Nat := bits (dWord d 61) 10 0

/-- A kind that holds a window (R113). -/
def isWindow (kind : Nat) : Bool := kind == 3 || kind == 5 || kind == 6

/-- The slot's window length, for a window kind. -/
def dWin (d : Desc) : Nat := (dPar d 0).toNat

/-- SRC of an input reference. -/
def refSrc (r : Word) : Nat := bits r 31 28

/-- INV of an input reference. -/
def refInv (r : Word) : Bool := bit r 27

/-- INDEX of an input reference. -/
def refIdx (r : Word) : Nat := bits r 15 0

/-- A reference that yields a bit (R100). -/
def refIsBit (r : Word) : Bool := [5, 6, 7, 8, 9, 11].contains (refSrc r)

/-- A reference that yields a value (R100). -/
def refIsVal (r : Word) : Bool := [1, 2, 3, 4, 10, 12].contains (refSrc r)

/-- A reference to an element output, this tick's or the previous one's. -/
def refIsSlot (r : Word) : Bool := decide (3 ≤ refSrc r ∧ refSrc r ≤ 8)

/-- A reference to an output of this tick. -/
def refSameTick (r : Word) : Bool := refSrc r == 3 || refSrc r == 5 || refSrc r == 7

/-! ### What the sources read -/

/-- A value input of a tick with its status (R103). -/
structure InVal where
  x     : Word
  stale : Bool
  lost  : Bool
  q     : Bool
  sat   : Bool
  nan   : Bool
  deriving DecidableEq, Repr

/-- A good value. -/
def InVal.of (x : Word) : InVal := ⟨x, false, false, false, false, false⟩

/-- The entry of a stream's tick index for a tick, if it is still held (R70). [log 46 DEDUCED] -/
def Stream.atTick (x : Stream) (k : Nat) : Option TickRead :=
  (x.index.get? (k % 1024)).filter (fun r => r.tick == k)

/-- What a view read at a tick's cut-off. -/
def TickRead.read (r : TickRead) (test : Bool) : Option Sample × View :=
  if test then (r.tst, r.tstV) else (r.svc, r.svcV)

/-- Scaling of a history channel: one fused multiply-add with one rounding (R101). -/
def Lane.scaleRaw (L : Lane) (ch : Nat) (raw : Int) : Word × Bool :=
  sat32 (((val32 (L.reg .FAB_CH_SCALE ch)).mul (Dy.ofInt raw)).add (val32 (L.reg .FAB_CH_OFS ch)))

/-- A history channel as a slot reads it at the cut-off of tick `k` (R101, R103): 0.0 until its first sample (R73). A
channel that no enabled stream carries reads as LOST. [log 46 DEDUCED] -/
def Lane.readHist (L : Lane) (test : Bool) (ch k : Nat) : InVal :=
  match L.chanOf ch with
  | none => { InVal.of zero32 with lost := true }
  | some (n, i) =>
    match (L.stream n).atTick k with
    | none => { InVal.of zero32 with stale := true }
    | some r =>
      let p := r.read test
      let v := match p.1 with
        | some s => L.scaleRaw ch (s.vals.getD i 0)
        | none => (zero32, false)
      { x := v.1, stale := p.2.stale, lost := p.2.lost, q := p.1.any (fun s => s.questAt i || !s.sync), sat := v.2,
        nan := false }

/-- A derived output as a slot reads it (R102, R103). -/
def readDer (o : DerOut) : InVal :=
  { x := o.val, stale := o.status.testBit 0 || o.status.testBit 2, lost := o.status.testBit 1,
    q := o.status.testBit 3 || o.status.testBit 6, sat := o.status.testBit 7, nan := false }

/-- An element output as another slot reads it (R103, R109). [log 158 DEDUCED] -/
def readEl (o : ElOut) : InVal :=
  { x := o.val, stale := o.status.testBit 5, lost := o.status.testBit 4, q := o.status.testBit 2,
    sat := o.status.testBit 1, nan := false }

/-- A slot's output in this tick. -/
def Lane.elCur (L : Lane) (s : Nat) : ElOut := L.fabric.cur.getD s ⟨zero32, 0, 0⟩

/-- A slot's output at the previous closure. -/
def Lane.elPrev (L : Lane) (s : Nat) : ElOut :=
  ⟨L.reg .FAB_OUT_VAL s, L.fld .FAB_OUT_STAT 31 24 s, L.fld .FAB_OUT_STAT 23 0 s⟩

/-- A parcel's output value as published (R17). -/
def Lane.pclVal (L : Lane) (p o : Nat) : Word := (L.pcl.getD p .fresh).pubVals.getD o zero32

/-- A parcel's output bit as published (R17). -/
def Lane.pclBit (L : Lane) (p b : Nat) : Bool := (L.pcl.getD p .fresh).pubBits.testBit b

/-- An ILU flag as published (R17). -/
def Lane.iluFlag (L : Lane) (f : Nat) : Bool := L.flag .ILU_FLAG (f % 32) (f / 32)

/-- A parcel output value: infinities read as ±MAX, a NaN as LOST (R105). -/
def readPcl (w : Word) : InVal :=
  if f32.isNaN w.toNat then { InVal.of zero32 with lost := true, nan := true }
  else if f32.isInf w.toNat then { InVal.of (putBit (w32 maxBits) 31 (bit w 31)) with sat := true }
  else InVal.of w

/-- What a value reference reads in this tick (R100 to R103). -/
def Lane.readVal (L : Lane) (test : Bool) (r : Word) : InVal :=
  let i := refIdx r
  match refSrc r with
  | 1 => L.readHist test i L.tick
  | 2 => readDer (L.derived i)
  | 3 => readEl (L.elCur i)
  | 4 => readEl (L.elPrev i)
  | 10 => readPcl (L.pclVal (bits r 12 9) (bits r 5 0))
  | 12 => InVal.of one32
  | _ => InVal.of zero32

/-- What a bit reference reads in this tick, after INV (R100). -/
def Lane.readBit (L : Lane) (r : Word) : Bool :=
  let i := refIdx r
  let b := match refSrc r with
    | 5 => (L.elCur i).status.testBit 7
    | 6 => (L.elPrev i).status.testBit 7
    | 7 => (L.elCur i).status.testBit 6
    | 8 => (L.elPrev i).status.testBit 6
    | 9 => L.iluFlag i
    | 11 => L.pclBit (bits r 12 9) (bits r 5 0)
    | _ => false
  b != refInv r

/-- The value read `K` ticks earlier through a rate slot's reference, if the source still holds it; of its status only
STALE and LOST are added (R112). -/
def Lane.readBack (L : Lane) (test : Bool) (r : Word) (K : Nat) : Option InVal :=
  let k := L.tick - K
  if refSrc r = 1 then
    match L.chanOf (refIdx r) with
    | none => none
    | some (n, _) => if ((L.stream n).atTick k).isNone then none else some (L.readHist test (refIdx r) k)
  else some (match (L.chain (refIdx r)).ring.find? (fun o => o.tick ≤ k) with
    | some o => { readDer o with sat := false }
    | none => { readDer (L.derived 1000) with sat := false })

/-- The tick of the last reset of a rate slot's source (R73, R91). -/
def Lane.sourceSince (L : Lane) (r : Word) : Nat :=
  if refSrc r = 1 then
    match L.chanOf (refIdx r) with
    | some (n, _) => (L.stream n).since
    | none => L.tick
  else (L.chain (refIdx r)).since

end Sys2Proof.Machine
end

