-- ==== Sys2Proof/Machine/Flags.lean ====
section
/-! DEFINITION. The condition, the pickup and dropout timers and the status octet of element slots (R106 to R110). -/

namespace Sys2Proof.Machine

open Sys2Proof

/-- The greatest count of a 24-bit timer or counter. -/
def max24 : Nat := 16777215

/-- The condition of the comparing kinds (R106). -/
def condOf (dir : Nat) (q p h : Dy) (prev : Bool) : Bool :=
  if dir = 1 then p.lt q || (prev && h.lt q)
  else if dir = 2 then q.lt p || (prev && q.lt h)
  else false

/-- The condition of the kinds with their own threshold and reset ratio: |S| > t, or |S| > HR × t held on (R120,
R121). -/
def ratioCond (s t hr : Word) (prev : Bool) : Bool :=
  let a := (val32 s).abs
  (val32 t).lt a || (prev && (val32 (sat32 ((val32 hr).mul (val32 t))).1).lt a)

/-- Operate bit and timers after a tick: op, pu_cnt, do_cnt (R107). A soft write can put PU or DO below the count, which
then runs on past it. [log 172 DESIGN CHOICE] -/
def timers (blocked c : Bool) (pu dO : Nat) (op : Bool) (puCnt doCnt : Nat) : Bool × Nat × Nat :=
  if blocked then (false, 0, 0)
  else if c then
    if op then (true, puCnt, 0)
    else if puCnt = pu then (true, puCnt, 0)
    else (false, puCnt + 1, 0)
  else
    if !op then (false, 0, doCnt)
    else if doCnt = dO then (false, 0, doCnt)
    else (true, 0, doCnt + 1)

/-- The status octet (R108). -/
def statusOctet (op pu stale lost test q sat blk : Bool) : Nat :=
  128 * bnat op + 64 * bnat pu + 32 * bnat stale + 16 * bnat lost + 8 * bnat test + 4 * bnat q + 2 * bnat sat + bnat blk

end Sys2Proof.Machine
end

