-- ==== Sys2Proof/Machine/Trig.lean ====
section
/-! DEFINITION. Sines, cosines and the arc tangent to far more places than binary64 holds, and the fabric's free choice
among the values that R117 lets it take. -/

namespace Sys2Proof.Machine

open Sys2Proof

/-- An exact number cut to its leading 200 bits. -/
def Dy.cut (x : Dy) : Dy :=
  let n := x.m.log2
  if n ≤ 200 then x else ⟨x.neg, x.m / 2 ^ (n - 200), x.e + ((n - 200 : Nat) : Int)⟩

/-- π to 200 places after the binary point. -/
def piDy : Dy := ⟨false, 5048344754617993871973410141242436836214643421488662971535368, -200⟩

/-- A sum of `n` further terms after `t`, each the one before times `x` over a whole number. -/
def seriesFrom (x t : Dy) (den : Nat → Nat) (n : Nat) : Dy :=
  ((List.range n).foldl (fun (a : Dy × Dy) k =>
    let t := (((a.2.mul x).cut).div (Dy.ofInt (den k))).cut
    ((a.1.add t).cut, t)) (t, t)).1

/-- The cosine of an angle of at most π/4. -/
def cosDy (x : Dy) : Dy := seriesFrom (x.mul x).cut.flip (Dy.ofInt 1) (fun k => (2 * k + 1) * (2 * k + 2)) 28

/-- The sine of an angle of at most π/4. -/
def sinDy (x : Dy) : Dy := seriesFrom (x.mul x).cut.flip x (fun k => (2 * k + 2) * (2 * k + 3)) 28

/-- cos and sin of the angle r/W of a right angle, `r` at most W. -/
def quarterTurn (W r : Nat) : Dy × Dy :=
  let a := fun (r : Nat) => ((piDy.mul (Dy.ofInt r)).div (Dy.ofInt (2 * W))).cut
  if 2 * r ≤ W then (cosDy (a r), sinDy (a r)) else (sinDy (a (W - r)), cosDy (a (W - r)))

/-- Real and imaginary part of e^(−j2πi/W). -/
def turn (W i : Nat) : Dy × Dy :=
  let p := quarterTurn W (4 * (i % W) % W)
  match 4 * (i % W) / W with
  | 0 => (p.1, p.2.flip)
  | 1 => (p.2.flip, p.1.flip)
  | 2 => (p.1.flip, p.2)
  | _ => (p.2, p.1)

/-- The arc tangent of a number from 0 to 1: three halvings of the angle, then the series. -/
def atanDy (t : Dy) : Dy :=
  let half := fun (t : Dy) =>
    (t.div ((Dy.ofInt 1).add ((Dy.ofInt 1).add (t.mul t).cut).cut.sqrt).cut).cut
  let u := half (half (half t))
  let u2 := (u.mul u).cut.flip
  let s := (List.range 36).foldl (fun (a : Dy × Dy) k =>
    let p := (a.2.mul u2).cut
    ((a.1.add (p.div (Dy.ofInt (2 * k + 3)))).cut, p)) (u, u)
  (Dy.ofInt 8).mul s.1

/-- The angle of a point other than the origin, in (−π, π]. -/
def angleDy (re im : Dy) : Dy :=
  let a := im.abs
  let b := re.abs
  let half : Dy := { piDy with e := piDy.e - 1 }
  let q := if a.le b then atanDy (a.div b).cut else half.sub (atanDy (b.div a).cut)
  let q := if re.lt Dy.zero then piDy.sub q else q
  if im.lt Dy.zero then q.flip else q

/-- One unit in the last place of a format at a number. -/
def Fmt.ulp (f : Fmt) (x : Dy) : Dy :=
  ⟨false, 1, if x.m = 0 then f.minExp else max (x.e + x.m.log2 + 1 - f.prec) f.minExp⟩

/-- A binary64 value within `u` of `x`: the candidate where it is one, else `x` rounded. -/
def nearTo (x u : Dy) (c : Dy) : Dy := if (c.sub x).abs.le u then c else rnd64 x

/-- c_n of R117: real and imaginary part of e^(−j2πi/W), each any binary64 value within one unit in the last place of
binary32. [log 58 DESIGN CHOICE] -/
def coefficient (W i : Nat) : Dy × Dy :=
  let t := turn W i
  (nearTo t.1 (f32.ulp t.1) (val64 (Config.twiddleRe W (i % W))), nearTo t.2 (f32.ulp t.2) (val64 (Config.twiddleIm W (i % W))))

/-- The phase of R117: 0.0 at the origin, else any binary64 value in (−π, π] within one unit in the last place.
[log 58 DESIGN CHOICE] -/
def phaseOf (re im : Dy) : Dy :=
  if re.m = 0 && im.m = 0 then Dy.zero else
  let x := angleDy re im
  let c := val64 (Config.phase64 (data64 re) (data64 im))
  if c.abs.le piDy then nearTo x (f64.ulp x) c else rnd64 x

end Sys2Proof.Machine
end

