-- ==== Sys2Proof/Machine/Fabric.lean ====
section
/-! DEFINITION. The element fabric: evaluating slots by kind, window by window, stage by stage (R98 to R132). -/

namespace Sys2Proof.Machine

open Sys2Proof

/-- A slot's descriptor, if the slot has ever had one. -/
def Lane.desc (L : Lane) (s : Nat) : Option Desc := L.fabric.desc.get? s

/-- A slot's state. -/
def Lane.slot (L : Lane) (s : Nat) : SlotSt := L.fabric.slots.getD s .reset

/-- The lane with a slot's state replaced. -/
def Lane.setSlot (L : Lane) (s : Nat) (x : SlotSt) : Lane :=
  { L with fabric := { L.fabric with slots := L.fabric.slots.put s x } }

/-- The enabled slots of a stage, 0 to 3, in ascending order. -/
def Lane.stageSlots (L : Lane) (g : Nat) : List (Nat × Desc) :=
  L.fabric.desc.cells.filter (fun c => dEn c.2 && dStage c.2 == g)

/-- Exact value of a word. -/
def dv (w : Word) : Dy := val32 w

/-- An operation's result and whether anything saturated so far. -/
structure Num where
  w   : Word
  sat : Bool
  deriving DecidableEq, Repr

/-- One binary32 operation on an exact result (R104, R105). -/
def Num.of (x : Dy) (sat : Bool := false) : Num := let r := sat32 x; ⟨r.1, r.2 || sat⟩

/-- A sum of binary32 values in binary64, in ascending order, rounded once (R104). -/
def sumNum (l : List Word) : Num :=
  let r := l.foldl (fun (a : Dy × Bool) w => let s := acc64 (a.1.add (dv w)); (s.1, a.2 || s.2)) (Dy.zero, false)
  Num.of r.1 r.2

/-- The value inputs of a slot as read, with the tick's loss behaviour applied: what enters the formulas (R109). -/
def Lane.slotInputs (L : Lane) (d : Desc) : List InVal :=
  (List.range (dNin d)).map (fun i => if refIsVal (dIn d i) then L.readVal (dTest d) (dIn d i) else InVal.of zero32)

/-- An input's value under the loss behaviour (R109). -/
def lossValue (d : Desc) (s : SlotSt) (i : Nat) (v : InVal) : Word :=
  if v.lost then (if dLoss d = 2 then dSubst d else s.held.getD i zero32) else v.x

/-- The values read while not LOST, after this tick (R468). -/
def nextHeld (s : SlotSt) (ins : List InVal) : List Word :=
  ins.zipIdx.map (fun p => if p.1.lost then s.held.getD p.2 zero32 else p.1.x)

/-- The inputs LOST, as bits. -/
def lostBits (ins : List InVal) : Nat := bitsWhere (fun i => (ins.getD i (.of zero32)).lost) 16

/-- What a kind's formula gives: value, condition where the kind forms its own, marks, and the new state. -/
structure Eval where
  q     : Word
  c     : Option Bool
  sat   : Bool
  stale : Bool
  lost  : Bool
  st    : SlotSt
  deriving DecidableEq, Repr

/-- The weighted terms of a slot (R100). -/
def terms (d : Desc) (xs : List Word) : List Num :=
  xs.zipIdx.map (fun p => Num.of ((dv (dWt d p.2)).mul (dv p.1)))

/-! ### Kinds without windows (R112, R119 to R125) -/

/-- The ticks since a rate slot's reset and since its source's, up to 1,023 (R112). [log 52 DEDUCED] -/
def Lane.rateSince (L : Lane) (d : Desc) (s : SlotSt) : Nat :=
  min (if s.fresh then 0 else s.since + 1) (min 1023 (L.tick - L.sourceSince (dIn d 0)))

/-- What a rate slot's source gave `K` ticks earlier, once `K` ticks have passed (R112). [log 52 DEDUCED] -/
def Lane.rateBack (L : Lane) (d : Desc) (s : SlotSt) : Option InVal :=
  let K := (dPar d 0).toNat
  if L.rateSince d s < K then none else L.readBack (dTest d) (dIn d 0) K

/-- Kind 0x1, rate (R112). [log 52 DEDUCED] -/
def Lane.evalRate (L : Lane) (d : Desc) (s : SlotSt) (a : Num) : Eval :=
  let st := { s with since := L.rateSince d s }
  match L.rateBack d s with
  | none => ⟨zero32, none, a.sat, true, false, st⟩
  | some v =>
    let old := Num.of ((dv (dWt d 0)).mul (dv v.x)) (a.sat || v.sat)
    let diff := Num.of ((dv a.w).sub (dv old.w)) old.sat
    let q := Num.of ((dv diff.w).mul (dv (dPar d 1))) diff.sat
    ⟨q.w, none, q.sat, v.stale, v.lost, st⟩

/-- Kind 0x2, sum and restraint (R120). -/
def evalSum (d : Desc) (s : SlotSt) (a : List Num) : Eval :=
  let S := sumNum (a.map (·.w))
  let mags := a.map (fun t => (t.w &&& 0x7FFFFFFF#32))
  let Rq :=
    if (dPar d 4).toNat = 0 then (let t := sumNum mags; Num.of ((dv t.w).mul ⟨false, 1, -1⟩) t.sat)
    else ⟨mags.foldl (fun x y => if (dv x).lt (dv y) then y else x) zero32, false⟩
  let K1 := dv (dPar d 0)
  let B := dv (dPar d 2)
  let maxP := fun (n : Num) => if (dv n.w).lt (dv (dP d)) then ({ n with w := dP d } : Num) else n
  let thr :=
    if (dv Rq.w).le B then maxP (Num.of (K1.mul (dv Rq.w)) Rq.sat)
    else
      let u := Num.of (K1.mul B) Rq.sat
      let e := Num.of ((dv Rq.w).sub B) u.sat
      let f := Num.of ((dv (dPar d 1)).mul (dv e.w)) e.sat
      maxP (Num.of ((dv u.w).add (dv f.w)) f.sat)
  ⟨S.w, some (ratioCond S.w thr.w (dPar d 3) s.cPrev), S.sat || thr.sat || a.any (·.sat), false, false, s⟩

/-- The term of input `i` in the previous tick (R121). [log 54 DEDUCED] -/
def prevTerm (d : Desc) (s : SlotSt) (i : Nat) (now : Word) : Word :=
  if s.fresh then now
  else
    let x := if s.lostPrev.testBit i && dLoss d = 2 then dSubst d else s.held.getD i zero32
    (Num.of ((dv (dWt d i)).mul (dv x))).w

/-- Kind 0xC, zone conservation (R121). [log 54 DEDUCED] -/
def evalZone (d : Desc) (s : SlotSt) (a : List Num) : Eval :=
  let S := sumNum (a.map (·.w))
  let rel := a.zipIdx.map (fun p => Num.of ((dv (dPar d (4 + p.2))).mul (dv p.1.w).abs))
  let chg := a.zipIdx.map (fun p => Num.of ((dv p.1.w).sub (dv (prevTerm d s p.2 p.1.w))).abs)
  let r := sumNum (rel.map (·.w))
  let c := sumNum (chg.map (·.w))
  let td := Num.of ((dv (dPar d 1)).mul (dv c.w)) c.sat
  let t1 := Num.of ((dv (dPar d 0)).add (dv r.w)) (td.sat || r.sat)
  let tol := Num.of ((dv t1.w).add (dv td.w)) t1.sat
  ⟨S.w, some (ratioCond S.w tol.w (dPar d 2) s.cPrev), S.sat || tol.sat || (a ++ rel ++ chg).any (·.sat), false, false, s⟩

/-- Kind 0x4, I²t (R119). -/
def evalI2t (d : Desc) (s : SlotSt) (a : Num) : Eval :=
  let x := dv a.w
  let ib := dv (dPar d 0)
  let th := val64 s.aRe
  let heat := (ib.mul ib).lt (x.mul x)
  let nxt :=
    if heat then acc64 (th.add (rnd64 ((rnd64 ((x.mul x).sub (ib.mul ib))).mul (dv (dPar d 1)))))
    else acc64 (th.mul (dv (dPar d 2)))
  let q := Num.of nxt.1 (a.sat || nxt.2)
  ⟨q.w, none, q.sat, false, false, { s with aRe := data64 nxt.1 }⟩

/-- Kind 0x7, ratio with a guarded divisor (R112). -/
def evalRatio (d : Desc) (s : SlotSt) (n m : Num) : Eval :=
  let sat := n.sat || m.sat
  if (dv m.w).abs.lt (dv (dPar d 0)) then
    let q := if (dv n.w).lt Dy.zero then dPar d 1 ^^^ 0x80000000#32 else dPar d 1
    ⟨q, none, sat, false, false, s⟩
  else let q := Num.of ((dv n.w).div (dv m.w)) sat; ⟨q.w, none, q.sat, false, false, s⟩

/-- Kind 0xA, comparator (R112). -/
def evalCmp (s : SlotSt) (n m : Num) : Eval :=
  let q := Num.of ((dv n.w).sub (dv m.w)) (n.sat || m.sat)
  ⟨q.w, none, q.sat, false, false, s⟩

/-- A rising edge of bit input `i` (R122). [log 56 DEDUCED] -/
def rising (s : SlotSt) (i : Nat) (b : Bool) : Bool := b && !s.fresh && !s.bitPrev.testBit i

/-- Kind 0x8, timer (R123). [log 56 DEDUCED] -/
def evalTimer (d : Desc) (s : SlotSt) (b : Bool) : Eval :=
  let fin := fun (s : SlotSt) (c : Bool) => (⟨int32 s.cnt, some c, false, false, false, s⟩ : Eval)
  if dSub d = 0 then
    let same := !s.fresh && s.bitPrev.testBit 0 == b
    fin { s with cnt := if same then min max24 (s.cnt + 1) else 0 } b
  else
    let pt := (dPar d 0).toNat
    let left := if s.pulse then s.cnt - 1 else 0
    let start := rising s 0 b && (dSub d = 2 || left = 0)
    let left := if start then pt else left
    fin { s with cnt := left, pulse := decide (left ≠ 0) } (decide (left ≠ 0))

/-- Kind 0x9, counter (R124). [log 56 DEDUCED] -/
def evalCounter (d : Desc) (s : SlotSt) (b : Nat → Bool) : Eval :=
  let up := rising s 0 (b 0)
  let dn := dSub d = 1 && decide (2 ≤ dNin d) && rising s 1 (b 1)
  let cnt := if up && !dn then min max24 (s.cnt + 1) else if dn && !up then s.cnt - 1 else s.cnt
  let cnt := if dNin d = 3 && b 2 then 0 else cnt
  ⟨int32 cnt, some (decide ((dPar d 0).toNat ≤ cnt)), false, false, false, { s with cnt := cnt }⟩

/-- Kind 0xB, sequence (R125), at tick `t`. -/
def evalSeq (d : Desc) (s : SlotSt) (t : Nat) (a b : Bool) : Eval :=
  let s := if rising s 0 a then { s with tA := t, taValid := true } else s
  let diff := t - s.tA
  let hit := rising s 1 b && s.taValid && decide (diff ≤ (dPar d 0).toNat) && (decide (1 ≤ diff) || dSub d % 2 = 1)
  let s := if hit then { s with cnt := diff, taValid := false } else s
  ⟨int32 s.cnt, some hit, false, false, false, s⟩

/-! ### Window kinds (R113 to R118) -/

/-- Entry `i` of a slot's part of the window store. -/
def Lane.winAt (L : Lane) (d : Desc) (i : Nat) : Word := L.fabric.store.getD (dWbase d + i) zero32

/-- What falls due at this cut-off for a window that reads a history channel, in order of instant (R113).
[log 55 DEDUCED] -/
def Lane.winDue (L : Lane) (d : Desc) (s : SlotSt) : List WinDue :=
  match L.chanOf (refIdx (dIn d 0)) with
  | none => []
  | some (n, _) => s.wait ++ ((L.stream n).dueNow.map (fun e =>
      if (if dTest d then e.tst else e.svc) then ⟨e.inst, e.smp.map (·.cnt)⟩ else ⟨e.inst, none⟩))

/-- The sample a window consumes in this tick: its value where there is one, what still waits, the ring position, and
whether a waiting sample was overwritten (R113). A miss, or an input LOST in this tick, gives `x`, the input's value in
the tick that consumes (R109). [log 55 DEDUCED, log 170 DEDUCED] -/
def Lane.winNext (L : Lane) (d : Desc) (s : SlotSt) (x : Word) (lost : Bool) : Option Word × List WinDue × Nat × Bool :=
  match refSrc (dIn d 0) with
  | 1 =>
    match L.chanOf (refIdx (dIn d 0)) with
    | none => (none, [], s.lastPos, false)
    | some (n, i) =>
      let hist := (L.stream n).hist
      let find := fun (w : WinDue) (c : Nat) => hist.find? (fun h => h.cnt == c && h.inst == w.inst)
      let all := L.winDue d s
      let kept := all.dropWhile (fun w => match w.cnt with
        | some c => (find w c).isNone
        | none => false)
      let gone := decide (kept.length < all.length)
      match kept with
      | [] => (none, [], s.lastPos, gone)
      | w :: t =>
        match w.cnt.bind (find w) with
        | some h => (some (if lost then x else (L.scaleRaw (refIdx (dIn d 0)) (h.vals.getD i 0)).1), t, h.pos, gone)
        | none => (some x, t, s.lastPos, gone)
  | 2 => (if (L.derived (refIdx (dIn d 0))).tick = L.tick && !(L.chain (refIdx (dIn d 0))).ring.isEmpty then some x
          else none, [], s.lastPos, false)
  | _ => (some x, [], s.lastPos, false)

/-- One accumulator step: `a + g`, rounded and saturated (R105, R115). -/
def accAdd (a : DWord × Bool) (g : Dy) : DWord × Bool :=
  let r := acc64 ((val64 a.1).add g)
  (data64 r.1, a.2 || r.2)

/-- The terms g(x) of a window kind for sample number `n` mod W: real and imaginary parts (R115, R117).
[log 51 DEDUCED] -/
def winTerm (d : Desc) (n : Nat) (x : Dy) : Dy × Dy :=
  if dKind d = 5 then
    let c := coefficient (max 1 (dWin d)) ((dPar d 1).toNat * n)
    (rnd64 (x.mul c.1), rnd64 (x.mul c.2))
  else if dSub d = 1 then (rnd64 (x.mul x), Dy.zero)
  else (x, Dy.zero)

/-- A window advances by one sample (R113, R115); the flag tells of saturation. [log 51 DEDUCED, log 55 DEDUCED] -/
def Lane.winAdvance (L : Lane) (d : Desc) (s : SlotSt) (x : Word) : Lane × SlotSt × Bool :=
  let W := max 1 (dWin d)
  let leave := if s.used < W then zero32 else L.winAt d s.wpos
  let L := { L with fabric := { L.fabric with store := L.fabric.store.put (dWbase d + s.wpos) x } }
  let gn := winTerm d s.wpos (dv x)
  let gl := winTerm d s.wpos (dv leave)
  let s1 := { s with wpos := (s.wpos + 1) % W, used := satAdd32 s.used 1, stale := s.stale - 1 }
  if dKind d = 6 then (L, s1, false) else
  let ar := accAdd (accAdd (s.aRe, false) gn.1) gl.1.flip
  let ai := accAdd (accAdd (s.aIm, false) gn.2) gl.2.flip
  let br := accAdd (s.bRe, false) gn.1
  let bi := accAdd (s.bIm, false) gn.2
  let sat := ar.2 || ai.2 || br.2 || bi.2
  if s.m + 1 = W then (L, { s1 with aRe := br.1, aIm := bi.1, bRe := 0, bIm := 0, m := 0 }, sat)
  else (L, { s1 with aRe := ar.1, aIm := ai.1, bRe := br.1, bIm := bi.1, m := s.m + 1 }, sat)

/-- Kind 0x3, mean or RMS (R116). -/
def evalMean (d : Desc) (s : SlotSt) (sat : Bool) : Eval :=
  let nf := Dy.ofInt (min s.used (dWin d))
  let A := Num.of (val64 s.aRe) sat
  let q :=
    if dSub d = 0 then Num.of ((dv A.w).div nf) A.sat
    else
      let p := if (dv A.w).lt Dy.zero then zero32 else A.w
      let r := Num.of ((dv p).div nf) A.sat
      Num.of (dv r.w).sqrt r.sat
  ⟨q.w, none, q.sat, false, false, s⟩

/-- Kind 0x5, DFT bin (R117). [log 58 DESIGN CHOICE] -/
def evalDft (d : Desc) (s : SlotSt) (sat : Bool) : Eval :=
  let W := max 1 (dWin d)
  let h := (dPar d 1).toNat
  let n := (s.wpos + W - 1) % W
  let c := coefficient W (h * n)
  let cr := c.1
  let ci := c.2
  let ar := val64 s.aRe
  let ai := val64 s.aIm
  let yr := rnd64 ((rnd64 (ar.mul cr)).add (rnd64 (ai.mul ci)))
  let yi := rnd64 ((rnd64 (ai.mul cr)).sub (rnd64 (ar.mul ci)))
  let g := rnd64 ((Dy.ofInt (if h = 0 || 2 * h = W then 1 else 2)).div (Dy.ofInt W))
  let mag := rnd64 (rnd64 ((rnd64 (yr.mul yr)).add (rnd64 (yi.mul yi)))).sqrt
  let amp := rnd64 (g.mul mag)
  let q := match dSub d with
    | 0 => amp
    | 1 => rnd64 (amp.div (rnd64 (Dy.ofInt 2).sqrt))
    | 2 => rnd64 (yr.mul g)
    | 3 => rnd64 (yi.mul g)
    | _ => phaseOf yr yi
  let r := Num.of q sat
  ⟨r.w, none, r.sat, false, false, s⟩

/-- Binary32 values in order, −0 below +0. [log 53 DEDUCED] -/
def orderKey (w : Word) : Int := if bit w 31 then -(bits w 30 0 : Int) - 1 else (w.toNat : Int)

/-- Kind 0x6, window maximum, minimum or both (R118). [log 53 DEDUCED] -/
def Lane.evalMinMax (L : Lane) (d : Desc) (s : SlotSt) : Eval :=
  let l := (List.range (min s.used (dWin d))).map (fun i => L.winAt d i)
  let x0 := l.headD zero32
  let hi := l.foldl (fun a b => if orderKey a < orderKey b then b else a) x0
  let lo := l.foldl (fun a b => if orderKey b < orderKey a then b else a) x0
  match dSub d with
  | 0 => ⟨hi, none, false, false, false, s⟩
  | 1 => ⟨lo, none, false, false, false, s⟩
  | _ => let q := Num.of ((dv hi).sub (dv lo)); ⟨q.w, none, q.sat, false, false, s⟩

/-- A window kind in one tick, on the unweighted value `x` it reads (R113 to R118). [log 51 DEDUCED] -/
def Lane.evalWindow (L : Lane) (d : Desc) (s : SlotSt) (x : Word) (lost : Bool) : Lane × Eval :=
  let nx := L.winNext d s x lost
  let s := { s with wait := nx.2.1, lastPos := nx.2.2.1 }
  let r : Lane × SlotSt × Bool := match nx.1 with
    | none => (L, s, false)
    | some v =>
      let a := Num.of ((dv (dWt d 0)).mul (dv v))
      let t := L.winAdvance d s a.w
      (t.1, t.2.1, a.sat || t.2.2)
  let L := r.1
  let s := r.2.1
  let e : Eval :=
    if s.used = 0 then ⟨zero32, none, false, true, false, s⟩
    else if dKind d = 3 then evalMean d s r.2.2
    else if dKind d = 5 then evalDft d s r.2.2
    else L.evalMinMax d s
  (L, { e with sat := e.sat || r.2.2, stale := e.stale || decide (s.used < dWin d) || decide (0 < s.stale) || nx.2.2.2 })

/-! ### A slot's tick -/

/-- The kind's formula (R111 to R125). -/
def Lane.evalKind (L : Lane) (d : Desc) (s : SlotSt) (xs : List Word) (lost : Bool) : Lane × Eval :=
  let a := terms d xs
  let a1 := a.getD 0 ⟨zero32, false⟩
  let a2 := a.getD 1 ⟨zero32, false⟩
  let b := fun i => L.readBit (dIn d i)
  match dKind d with
  | 1 => (L, L.evalRate d s a1)
  | 2 => (L, evalSum d s a)
  | 3 => L.evalWindow d s (xs.headD zero32) lost
  | 4 => (L, evalI2t d s a1)
  | 5 => L.evalWindow d s (xs.headD zero32) lost
  | 6 => L.evalWindow d s (xs.headD zero32) lost
  | 7 => (L, evalRatio d s a1 a2)
  | 8 => (L, evalTimer d s (b 0))
  | 9 => (L, evalCounter d s b)
  | 10 => (L, evalCmp s a1 a2)
  | 11 => (L, evalSeq d s L.tick (b 0) (b 1))
  | 12 => (L, evalZone d s a)
  | _ => (L, ⟨a1.w, none, a1.sat, false, false, s⟩)

/-- The bits read this tick, after INV (R122). [log 55 DEDUCED] -/
def Lane.slotBits (L : Lane) (d : Desc) : Nat :=
  bitsWhere (fun i => decide (i < dNin d) && refIsBit (dIn d i) && L.readBit (dIn d i)) 16

/-- The end of a stage's window in ns after T (R36). -/
def Lane.stageEnd (L : Lane) (g : Nat) : Nat := L.fld .FAB_STAGE_CNT 27 16 g

/-- Writes a slot's output, counts saturation, and raises the event of a change of OP (R108, R126, R467). -/
def Lane.writeEl (L : Lane) (g s : Nat) (d : Desc) (o : ElOut) : Lane :=
  let was := (L.elPrev s).status.testBit 7
  let now := o.status.testBit 7
  let L := { L with fabric := { L.fabric with cur := L.fabric.cur.put s o } }
  let L := if o.status.testBit 1 then L.bump .FAB_SAT_CNT else L
  if bit (dRoute d) 30 && was != now then
    L.raise (128 + s / 64) (256 * (s % 64) + (if now then 1 else 2)) ((L.refEdge + L.stageEnd g : Nat) : Int)
      (leBytes 2 s ++ leBytes 4 o.val.toNat ++ leBytes 1 o.status)
  else L

/-- One slot's evaluation (R98 to R125). A blocked tick of a rate slot adds the STALE of tick t − K, and no STALE for
want of K ticks. [log 51 DEDUCED, log 52 DEDUCED] -/
def Lane.evalSlot (L : Lane) (g s : Nat) (d : Desc) : Lane :=
  let st := L.slot s
  let ins := L.slotInputs d
  let L := L.bump .FAB_NAN_CNT 0 (ins.filter (·.nan)).length
  let anyLost := ins.any (·.lost)
  let blocked := anyLost && dLoss d = 0
  let stale := ins.any (·.stale)
  let q := ins.any (·.q)
  let inSat := ins.any (·.sat)
  let common := fun (x : SlotSt) => { x with held := nextHeld st ins, lostPrev := lostBits ins, bitPrev := L.slotBits d, fresh := false }
  if blocked then
    let t := timers true false (dPu d) (dDo d) st.op st.puCnt st.doCnt
    let x := common { st with cPrev := false, op := t.1, puCnt := t.2.1, doCnt := t.2.2, blk := true,
                              since := if dKind d = 1 then L.rateSince d st else st.since,
                              stale := if isWindow (dKind d) then dWin d else 0 }
    let full := isWindow (dKind d) && (decide (st.used < dWin d) || decide (0 < st.stale))
    let back := dKind d == 1 && (L.rateBack d st).any (·.stale)
    let o : ElOut := ⟨(L.elPrev s).val, statusOctet false false (stale || full || back) true (dTest d) q inSat true, 0⟩
    (L.setSlot s x).writeEl g s d o
  else
    let xs := ins.zipIdx.map (fun p => lossValue d st p.2 p.1)
    let r := L.evalKind d st xs anyLost
    let L := r.1
    let e := r.2
    let v := if dAbs d then e.q &&& 0x7FFFFFFF#32 else e.q
    let c := match e.c with
      | some c => c
      | none => condOf (dDir d) (dv v) (dv (dP d)) (dv (dH d)) st.cPrev
    let t := timers false c (dPu d) (dDo d) st.op st.puCnt st.doCnt
    let x := common { e.st with cPrev := c, op := t.1, puCnt := t.2.1, doCnt := t.2.2, blk := false }
    let status := statusOctet t.1 c (stale || e.stale) (anyLost || e.lost) (dTest d) q (inSat || e.sat) false
    (L.setSlot s x).writeEl g s d ⟨v, status, if t.1 then t.2.2 else t.2.1⟩

/-- The logical pipeline of an enabled slot: its place among its stage's enabled slots, mod 4 (R130). -/
def Lane.logicalPipe (L : Lane) (g s : Nat) : Option Nat :=
  ((L.stageSlots g).findIdx? (fun p => p.1 == s)).map (· % 4)

/-- The physical pipeline that FAB_PIPE_MAP gives a logical one (R130). -/
def Lane.physPipe (L : Lane) (lp : Nat) : Nat := L.fld .FAB_PIPE_MAP (3 * lp + 2) (3 * lp)

/-- The spare compares in this tick: shadowing is on, and the fabric is evaluated (R131, R223). -/
def Lane.shadows (L : Lane) : Bool := L.flag .FAB_STAT 29 && !L.frozen

/-- A shadow mismatch can be met on a pipeline and a slot: in tick N the spare shadows logical pipeline N mod 4 in the
slots that fall to it (R131). -/
def Lane.shadowed (L : Lane) (g : Nat) (f : FabFault) : Bool :=
  L.shadows && L.logicalPipe g f.slot == some (L.tick % 4) && f.pipe == L.physPipe (L.tick % 4)

/-- A fabric fault latches and takes the lane to Level 2 at the next edge (R132). -/
def Lane.fabFault (L : Lane) (g : Nat) (f : FabFault) : Lane :=
  if f.cause = 1 && !L.shadowed g f then L else
  let L := if f.cause = 1 then L.bump .FAB_SHADOW_ERR else L
  let L := (L.setFlag .FAB_STAT 28 true).setFld .FAB_STAT 27 26 f.cause
  let now : Int := (L.refEdge + L.stageEnd g : Nat)
  (L.raise 4 0x01 now (leBytes 1 f.cause ++ leBytes 1 f.pipe ++ leBytes 2 f.slot)).dropTo 2 1 now

/-- A stage's window: its enabled slots in ascending order; corrected ECC errors are counted, a fault latches; the
shadow pipeline has compared a tick at the end of stage 4 (R98, R131, R132). At Level 2 nothing is evaluated. -/
def Lane.elementStage (g : Nat) (fault : Option FabFault) (ce : Nat) (L : Lane) : Lane :=
  if 2 ≤ L.level || 4 ≤ g then L else
  let L := if L.frozen then L else (L.stageSlots g).foldl (fun L p => L.evalSlot g p.1 p.2) L
  let L := L.bump .FAB_ECC_CE 0 ce
  let L := match fault with
    | some f => L.fabFault g f
    | none => L
  if g = 3 then (if L.shadows then L.bump .FAB_SHADOW_CNT else L).markDone 5 else L

/-! ### Closure (R38) -/

/-- At closure this tick's outputs become those of the previous closure, the summary is written, and slots are shown as
they stand now (R99, R306, R468). -/
def Lane.fabPublish (L : Lane) : Lane :=
  let on := L.fabric.cur.cells
  let L := on.foldl (fun (L : Lane) c =>
    (L.setReg .FAB_OUT_VAL c.2.val c.1).setReg .FAB_OUT_STAT (w32 (c.2.status * 2 ^ 24 + c.2.tcnt % 2 ^ 24)) c.1) L
  let nop := (on.filter (fun c => c.2.status.testBit 7)).length
  let nlost := (on.filter (fun c => c.2.status.testBit 4)).length
  let L := L.setReg .FAB_STAGE_STAT (w32 (nop * 2 ^ 19 + nlost * 64))
  { L with fabric := { L.fabric with shownDesc := L.fabric.desc, shownSlots := L.fabric.slots } }

/-! ### Descriptors in force (R128, R129) -/

/-- Words that differ without resetting a slot: ROUTE, P, H, PU, DO, SUBST, TAG and the CRC over them (R129). -/
def softWords : List Nat := [1, 2, 3, 56, 57, 58, 59, 62]

/-- Two descriptors differ only in what keeps a slot's state; TEST lies in HDR. [log 125 DESIGN CHOICE] -/
def sameSlot (o n : Desc) : Bool :=
  (List.range 64).all (fun i =>
    if i = 0 then putBit (dWord o 0) 24 false == putBit (dWord n 0) 24 false
    else softWords.contains i || dWord o i == dWord n i)

/-- A descriptor takes effect at an edge (R129): the slot keeps its state, or is reset, and what the acquisition engine
kept of it goes (R327). A slot no longer enabled reads 0.0 with status 0x00 from the next closure on (R98). -/
def Lane.applyDesc (L : Lane) (s : Nat) (n : Desc) : Lane :=
  let keep := (L.desc s).any (fun o => sameSlot o n)
  let F := { L.fabric with desc := L.fabric.desc.put s n }
  let F := if keep then F else { F with slots := F.slots.put s .reset }
  let L := if keep then L else { L with acq := { L.acq with ring := L.acq.ring.del s } }
  { L with fabric := if dEn n then F else { F with cur := F.cur.put s ⟨zero32, 0, 0⟩ } }

/-- Slot counts, window ends and window-store use after descriptors change (R36). -/
def Lane.fabSummary (L : Lane) : Lane :=
  let n := fun g => (L.stageSlots g).length
  let cyc := fun g => if n g = 0 then 0 else ceilDiv (n g) 4 + 22
  let total := fun g => ((List.range (g + 1)).map cyc).sum
  let L := foldTo 4 (fun (L : Lane) g =>
    L.setReg .FAB_STAGE_CNT (w32 ((1600 + ceilDiv (total g * 5) 6) * 65536 + n g)) g) L
  let L := L.setFld .FAB_STAT 25 13 (n 0 + n 1 + n 2 + n 3)
  L.setReg .FAB_WIN_USED (w32 ((L.fabric.desc.vals.map dWcap).sum))

/-- Sets the pipeline map from the benchmarks of P0 to P4 (R130); the answer is whether the fabric can run. Where two or
more fail it cannot, and the map shows P4, if that passes, for each of P0 to P3 that failed. [log 171 DEDUCED] -/
def Lane.setPipes (L : Lane) (p0 p1 p2 p3 p4 : Bool) : Lane × Bool :=
  let good := [p0, p1, p2, p3]
  let bad := (good ++ [p4]).filter (fun b => !b)
  let lp := fun i => if good.getD i true || !p4 then i else 4
  let L := L.setReg .FAB_PIPE_MAP (w32 (lp 0 + lp 1 * 8 + lp 2 * 64 + lp 3 * 512))
  let used := good.any (fun b => !b) && p4
  let L := ((L.setFlag .FAB_STAT 31 used).setFlag .FAB_STAT 30 (!p4)).setFlag .FAB_STAT 29 (p4 && !used)
  (L, decide (bad.length ≤ 1))

/-! ### The state window (R468) -/

/-- Word `i` of a slot's state, as READ_SLOT returns it and FAB_STATE_WIN shows it. -/
def slotStateWord (kind W : Nat) (s : SlotSt) (i : Nat) : Word :=
  let lo := fun (d : DWord) => w32 d.toNat
  let hi := fun (d : DWord) => w32 (d.toNat / 2 ^ 32)
  let pos := w32 (s.m % 2048 + s.wpos % 2048 * 65536)
  match i with
  | 0 => w32 (bnat s.cPrev + 2 * bnat s.op + 4 * bnat s.blk + 8 * bnat s.fresh + 16 * bnat s.pulse +
      32 * bnat s.taValid + 64 * bnat (isWindow kind && decide (W ≤ s.used)) + s.lostPrev % 65536 * 65536)
  | 1 => w32 s.puCnt
  | 2 => w32 s.doCnt
  | 3 => w32 (s.bitPrev % 65536)
  | i =>
    if i < 20 then s.held.getD (i - 4) zero32
    else match kind, i - 20 with
      | 1, 0 => w32 s.since
      | 3, 0 => lo s.aRe | 3, 1 => hi s.aRe | 3, 2 => lo s.bRe | 3, 3 => hi s.bRe
      | 3, 4 => pos | 3, 5 => w32 s.used | 3, 6 => w32 (s.lastPos % 2048)
      | 4, 0 => lo s.aRe | 4, 1 => hi s.aRe
      | 5, 0 => lo s.aRe | 5, 1 => hi s.aRe | 5, 2 => lo s.aIm | 5, 3 => hi s.aIm
      | 5, 4 => lo s.bRe | 5, 5 => hi s.bRe | 5, 6 => lo s.bIm | 5, 7 => hi s.bIm
      | 5, 8 => pos | 5, 9 => w32 s.used | 5, 10 => w32 (s.lastPos % 2048)
      | 6, 4 => w32 (s.wpos % 2048 * 65536) | 6, 5 => w32 s.used | 6, 6 => w32 (s.lastPos % 2048)
      | 8, 0 => w32 s.cnt | 9, 0 => w32 s.cnt
      | 11, 0 => w32 s.tA | 11, 1 => w32 (s.tA / 2 ^ 32) | 11, 2 => w32 s.cnt
      | _, _ => 0#32

/-- Word `i` of a slot's state as at the last closure, as FAB_STATE_WIN and READ_SLOT give it (R306, R468). -/
def Lane.stateWin (L : Lane) (s i : Nat) : Word :=
  let d := L.fabric.shownDesc.getD s []
  slotStateWord (dKind d) (dWin d) (L.fabric.shownSlots.getD s .reset) i

/-! ### Checking a descriptor (R128) -/

/-- The octets of a descriptor's words `0` to `n − 1`. -/
def descBytes (d : Desc) (n : Nat) : List Byte := (List.range n).flatMap (fun i => leBytes 4 (dWord d i).toNat)

/-- A word is a finite binary32. -/
def finite (w : Word) : Bool := !f32.isNaN w.toNat && !f32.isInf w.toNat

/-- The PAR words a kind uses, and which of them are integers (R127). -/
def parUsed : Nat → List Nat × List Nat
  | 1 => ([0, 1], [0])
  | 2 => ([0, 1, 2, 3, 4], [4])
  | 3 => ([0], [0])
  | 4 => ([0, 1, 2], [])
  | 5 => ([0, 1], [0, 1])
  | 6 => ([0], [0])
  | 7 => ([0, 1], [])
  | 8 => ([0], [0])
  | 9 => ([0], [0])
  | 11 => ([0], [0])
  | 12 => ([0, 1, 2] ++ (List.range 16).map (· + 4), [])
  | _ => ([], [])

/-- The greatest SUB of a kind (R127). -/
def subMax : Nat → Nat
  | 3 => 1 | 5 => 4 | 6 => 2 | 8 => 2 | 9 => 1 | 11 => 1 | _ => 0

/-- Code 0x2: reserved kinds, fields and encodings, a reference or a weight of an unused input among them.
[log 57 DEDUCED] -/
def badReserved (d : Desc) : Bool :=
  decide (12 < dKind d) || dHdr d 11 0 != 0 || dLoss d == 3 || dDir d == 3 || decide (subMax (dKind d) < dSub d) ||
  bits (dWord d 1) 31 24 != 0 || bits (dWord d 2) 31 24 != 0 || bits (dRoute d) 27 0 != 0 ||
  bits (dWord d 60) 31 20 != 0 || bits (dWord d 61) 31 11 != 0 || dWord d 63 != 0 ||
  (List.range 16).any (fun i =>
    if i < dNin d then bits (dIn d i) 26 16 != 0 || decide (12 < refSrc (dIn d i)) || (refInv (dIn d i) && !refIsBit (dIn d i))
    else dIn d i != 0 || dWt d i != 0) ||
  (List.range 20).any (fun i => !(parUsed (dKind d)).1.contains i && dPar d i != 0)

/-- The references in use. -/
def refsOf (d : Desc) : List Word := (List.range (dNin d)).map (dIn d)

/-- Code 0x3: a same-tick reference to the same or a higher stage. [log 57 DEDUCED] -/
def badStage (std : Nat → Desc) (d : Desc) : Bool :=
  (refsOf d).any (fun r => refSameTick r && decide (refIdx r < 4096 ∧ dStage d ≤ dStage (std (refIdx r))))

/-- Code 0x4: a disabled slot or chain, or an index out of range. [log 57 DEDUCED] -/
def badIndex (std : Nat → Desc) (chEn : Nat → Bool) (d : Desc) : Bool :=
  (refsOf d).any (fun r =>
    let i := refIdx r
    if refSrc r = 1 then decide (2048 ≤ i)
    else if refSrc r = 2 then decide (68 ≤ i) || !chEn i
    else if refIsSlot r then decide (4096 ≤ i) || !dEn (std i)
    else if refSrc r = 9 then decide (8192 ≤ i)
    else if refSrc r = 10 || refSrc r = 11 then bits r 15 13 != 0 || bits r 8 6 != 0
    else i != 0)

/-- Code 0x5: window length and allocation (R114). [log 57 DEDUCED] -/
def badWindow (alloc d : Desc) : Bool :=
  dWord d 60 != dWord alloc 60 || dWord d 61 != dWord alloc 61 || decide (1024 < dWcap d) ||
  (isWindow (dKind d) && (decide (dWin d < (if dKind d = 5 then 2 else 1)) || decide (dWcap d < dWin d)))

/-- Code 0x6: a parameter out of range for its kind. [log 57 DEDUCED] -/
def badParam (d : Desc) : Bool :=
  let p := fun i => dv (dPar d i)
  let n := fun i => (dPar d i).toNat
  let one := Dy.ofInt 1
  let half : Dy := ⟨false, 1, -1⟩
  let hrBad := fun (x : Dy) => x.lt half || one.lt x
  let neg := fun (x : Dy) => x.lt Dy.zero
  let own := [2, 8, 9, 11, 12].contains (dKind d)
  (refsOf d).zipIdx.any (fun r => !finite (dWt d r.2)) || !finite (dP d) || !finite (dH d) || !finite (dSubst d) ||
  (parUsed (dKind d)).1.any (fun i => !(parUsed (dKind d)).2.contains i && !finite (dPar d i)) ||
  (own && (dDir d != 0 || dAbs d)) ||
  (dDir d == 1 && (dv (dP d)).lt (dv (dH d))) || (dDir d == 2 && (dv (dH d)).lt (dv (dP d))) ||
  (match dKind d with
   | 1 => decide (n 0 < 1 ∨ 1023 < n 0)
   | 2 => (dv (dP d)).le Dy.zero || neg (p 0) || (p 1).lt (p 0) || (Dy.ofInt 2).lt (p 1) || neg (p 2) || hrBad (p 3) || decide (1 < n 4)
   | 4 => (p 2).le Dy.zero || one.lt (p 2)
   | 5 => decide (dWin d / 2 < n 1)
   | 7 => (p 0).le Dy.zero
   | 8 => decide (n 0 < 1 ∨ max24 < n 0)
   | 9 => decide (n 0 < 1 ∨ max24 < n 0)
   | 11 => decide (n 0 < 1 ∨ max24 < n 0)
   | 12 => neg (p 0) || neg (p 1) || hrBad (p 2) || (List.range 16).any (fun i => neg (p (4 + i)))
   | _ => false)

/-- Code 0x7: a service slot that reads a test source (R110). [log 57 DEDUCED] -/
def badTest (std : Nat → Desc) (chTest : Nat → Bool) (d : Desc) : Bool :=
  !dTest d && (refsOf d).any (fun r =>
    (refSrc r = 2 && chTest (refIdx r)) || (refIsSlot r && dTest (std (refIdx r))))

/-- The input counts of a kind (R111). -/
def ninOk : Nat → Nat → Bool
  | 2, n => decide (2 ≤ n)
  | 12, n => decide (2 ≤ n)
  | 7, n => n == 2
  | 10, n => n == 2
  | 11, n => n == 2
  | 9, n => decide (n ≤ 3)
  | _, n => n == 1

/-- The sources of a kind (R111). -/
def srcOk (kind : Nat) (r : Word) : Bool :=
  let s := refSrc r
  match kind with
  | 0 => refIsVal r
  | 1 => s == 1 || s == 2
  | 2 => [1, 2, 3, 4, 12].contains s
  | 3 => refIsVal r && s != 12
  | 4 => refIsVal r && s != 12
  | 5 => [1, 2, 3, 4].contains s
  | 6 => refIsVal r && s != 12
  | 7 => refIsVal r
  | 10 => s == 3 || s == 4
  | 12 => [1, 2, 12].contains s
  | _ => refIsBit r

/-- Code 0x9: input count or source kind. -/
def badKind (d : Desc) : Bool := !ninOk (dKind d) (dNin d) || (refsOf d).any (fun r => !srcOk (dKind d) r)

/-- The first reason that applies to a new descriptor of slot `s`, in ascending order (R128); 0 if none. `std` is the
configuration that will stand at the apply tick, `alloc` the image's descriptor of the slot, `quota` whether the slot
lies in the function's element-slot quota. [log 57 DEDUCED] -/
def descReason (std : NMap Desc) (chEn chTest : Nat → Bool) (alloc : Desc) (quota : Bool) (s : Nat) (d : Desc) : Nat :=
  let after := fun i => if i = s then d else (std.get? i).getD []
  let others := std.cells.filter (fun c => c.1 != s && dEn c.2)
  if (dWord d 62).toNat != crc32 (descBytes d 62) then 0x1
  else if badReserved d then 0x2
  else if badStage after d then 0x3
  else if badIndex after chEn d then 0x4
  else if badWindow alloc d then 0x5
  else if badParam d then 0x6
  else if badTest after chTest d then 0x7
  else if !quota then 0x8
  else if badKind d then 0x9
  else if others.any (fun c => badStage after c.2 || badIndex after chEn c.2 || badTest after chTest c.2) then 0xA
  else 0

/-! ### Meanings -/

/-- ELEMENT_STAGE (R36, R98). -/
def execElementStage (lane : LaneId) (stage : Nat) (fault : Option FabFault) (ce : Nat) (s : State) :
    Host.Outcome State Fault Refusal :=
  onLane lane (Lane.elementStage stage fault ce) s

end Sys2Proof.Machine
end

