-- ==== Sys2Proof/Machine/Net.lean ====
section
/-! DEFINITION. The lane switch: classes, forwarding, buffers, queues, flow control, redundancy, trunk and links
(R243 to R271). -/

namespace Sys2Proof.Machine

open Sys2Proof

/-! ### Settings -/

/-- PRP or HSR on PA and PB: 0 none, 1 PRP, 2 HSR. -/
def Lane.red (L : Lane) : Nat := L.fld .SWM_RED_CFG 31 30

/-- PX1 and PX2 are RedBox ports. -/
def Lane.redBox (L : Lane) : Bool := L.flag .SWM_RED_CFG 29

/-- PVID of a port; IN has none and uses 1. -/
def Lane.pvid (L : Lane) (port : Nat) : Nat := if port < 4 then L.fld .SWM_PORT_CFG 11 0 port else 1

/-- A frame's cells (R253). -/
def cellsOf (len : Nat) : Nat := ceilDiv len 128

/-- The index of an egress queue. -/
def qIdx (port cls : Nat) : Nat := port * 8 + cls

/-- An egress queue. -/
def Net.queue (n : Net) (port cls : Nat) : List QItem := n.queues.getD (qIdx port cls) []

/-- The switch with an egress queue replaced. -/
def Net.setQueue (n : Net) (port cls : Nat) (l : List QItem) : Net := { n with queues := n.queues.put (qIdx port cls) l }

/-- A queue's depth in cells. -/
def depthOf (l : List QItem) : Nat := (l.map (·.cells)).sum

/-- A copy's cells on chip. -/
def QItem.here (it : QItem) : Nat := it.cells - it.out

/-- The on-chip part of a queue's depth. -/
def onChip (l : List QItem) : Nat := (l.map (·.here)).sum

/-- Every copy queued. -/
def Net.items (n : Net) : List QItem := n.queues.vals.flatten

/-- A frame's cells on chip: its copies share them, so they are those of the copy that has most there (R254). -/
def Net.chipOf (n : Net) (id : Nat) : Nat := ((n.items.filter (fun i => i.buf == id)).map (·.here)).foldl max 0

/-- The cell counts after a change of the queues: free cells on chip are 32,768 less those held, and overflow cells are
those of the copies spilled (R253 to R255). [log 83 DEDUCED] -/
def Net.recount (n : Net) : Net :=
  let bufs := n.bufs.mapv (fun id b => { b with chip := n.chipOf id })
  { n with bufs := bufs, free := 32768 - (bufs.vals.map (·.chip)).sum, ovf := (n.items.map (·.out)).sum }

/-- Cells that frames of an ingress and class hold, on chip and spilled counted together (R258). -/
def Net.ingressCount (n : Net) (port cls : Nat) : Nat :=
  ((n.bufs.vals.filter (fun b => b.ingress == port && b.cls == cls)).map (·.cells)).sum

/-- The on-chip cells of a pool: a class of TC5 to TC7 for itself, the others together (R253). -/
def samePool (c d : Nat) : Bool := c == d || (decide (c < 5) && decide (d < 5))

/-- A pool's size (R253). -/
def poolSize (cls : Nat) : Nat := if cls = 7 then 1024 else if cls = 6 then 6144 else if cls = 5 then 512 else 25088

/-- On-chip cells in use from the pool of a class. -/
def Net.poolUsed (n : Net) (cls : Nat) : Nat :=
  ((n.bufs.vals.filter (fun b => samePool b.cls cls)).map (·.chip)).sum

/-- On-chip cells left in the pool of a class. -/
def Net.poolRoom (n : Net) (cls : Nat) : Nat := poolSize cls - n.poolUsed cls

/-- The overflow region in cells (R255). -/
def ovfSize : Nat := 8388608

/-! ### Classes and lookup (R249 to R251) -/

/-- The class of an EtherType in an untagged frame (R249). -/
def Lane.typeClass (L : Lane) (port etype : Nat) : Nat :=
  if etype = 0x88B8 then 7
  else if etype = 0x88BA ∨ etype = L.burstEtype then 6
  else if etype = 0x88F7 then 5
  else if port < 4 then min 2 (L.fld .SWM_PORT_CFG 27 26 port) else 0

/-- A received frame's class (R249). -/
def Lane.classOf (L : Lane) (port : Nat) (f : Frame) : Nat := match f.tag with
  | some t => t.pcp % 8
  | none => L.typeClass port f.etype

/-- A frame's VLAN ID (R249). -/
def Lane.vidOf (L : Lane) (port : Nat) (f : Frame) : Nat := match f.tag with
  | some t => if t.vid = 0 then L.pvid port else t.vid
  | none => L.pvid port

/-- An FDB entry's word. -/
def fdbWord (e : List Word) (i : Nat) : Word := (e.drop i).headD 0#32

/-- An FDB entry is in use for a VLAN. [log 86 DEDUCED] -/
def fdbVlan (e : List Word) (vid : Nat) : Bool := bit (fdbWord e 1) 31 && bits (fdbWord e 1) 27 16 == vid

/-- The destination MAC of an FDB entry. -/
def fdbMac (e : List Word) : Nat := bits (fdbWord e 1) 15 0 * 2 ^ 32 + (fdbWord e 0).toNat

/-- An entry's ports as a mask, both trunk ports where TRUNK is set. -/
def fdbPorts (e : List Word) : Nat :=
  let m := bits (fdbWord e 2) 4 0
  if bit (fdbWord e 2) 5 then m % 4 + 12 + m / 16 * 16 else m

/-- The entry of a destination, with its index: the first in the table. -/
def Lane.fdbFind (L : Lane) (mac vid : Nat) : Option (Nat × List Word) :=
  L.img.fdb.cells.find? (fun c => fdbVlan c.2 vid && fdbMac c.2 == mac)

/-- The member ports of a VLAN: those that some entry of its VID includes (R250). [log 86 DEDUCED] -/
def Lane.vlanPorts (L : Lane) (vid : Nat) : Nat :=
  bitsWhere (fun p => L.img.fdb.vals.any (fun e => fdbVlan e vid && (fdbPorts e).testBit p)) 5

/-- A group address. -/
def isGroup (mac : Nat) : Bool := mac.testBit 40

/-- A lane port's MAC address (R243). [log 9 DESIGN CHOICE] -/
def Lane.portMac (L : Lane) (port : Nat) : Nat := L.mac + port

/-- The trunk hash entry of a flow (R264). -/
def trunkEntry (dst src vid : Nat) : Nat := crc16 (beBytes 6 dst ++ beBytes 6 src ++ beBytes 2 (vid % 4096)) % 256

/-- The port that a trunk hash entry names now: its home port, or the other (R265). -/
def Net.trunkPort (n : Net) (e : Nat) : Nat :=
  let home := e % 2
  2 + (if n.moved.contains e then 1 - home else home)

/-- The learned port of an address. -/
def Net.learnedPort (n : Net) (mac vid : Nat) : Option Nat :=
  (n.learned.find? (fun x => x.mac == mac && x.vid == vid)).map (·.port)

/-- Learns a source address; a table that is full learns no new one (R251). [log 84 DEDUCED] -/
def Net.learn (n : Net) (mac vid port raw : Nat) : Net :=
  if n.learned.any (fun x => x.mac == mac && x.vid == vid) then
    { n with learned := n.learned.map (fun x => if x.mac == mac && x.vid == vid then { x with port := port, raw := raw } else x) }
  else if n.learned.length < 4096 then { n with learned := n.learned ++ [⟨mac, vid, port, raw⟩] } else n

/-- The mask without a port. -/
def without (mask port : Nat) : Nat := if mask.testBit port then mask - 2 ^ port else mask

/-- The mask with a port. -/
def withPort (mask port : Nat) : Nat := if mask.testBit port then mask else mask + 2 ^ port

/-- An express meter takes a frame (R251): tokens in octets × 9,600, filled by RATE per raw step; the answer is
whether the frame fits. -/
def Net.meter (n : Net) (entry : Nat) (e : List Word) (len raw : Nat) : Net × Bool :=
  let full := bits (fdbWord e 3) 15 0 * 64 * 9600
  let old := n.meters.getD entry (full, raw)
  let level := min full (old.1 + bits (fdbWord e 3) 31 16 * rawSince raw old.2)
  let cost := len * 9600
  if cost ≤ level then ({ n with meters := n.meters.put entry (level - cost, raw) }, true)
  else ({ n with meters := n.meters.put entry (level, raw) }, false)

/-- Where a frame goes by the FDB: class after metering, port mask, trunk entry; none when it is not forwarded. -/
structure Route where
  cls   : Nat
  mask  : Nat
  hash  : Option Nat
  demoted : Bool
  deriving DecidableEq, Repr

/-- An entry's ports with the trunk resolved. -/
def Lane.entryMask (L : Lane) (e : List Word) (f : Frame) (vid : Nat) : Nat × Option Nat :=
  if bit (fdbWord e 2) 5 then
    let h := trunkEntry f.dst f.src vid
    let m := bits (fdbWord e 2) 4 0
    (m % 4 + m / 16 * 16 + 2 ^ L.net.trunkPort h, some h)
  else (bits (fdbWord e 2) 4 0, none)

/-- The forwarding result of a frame of class `cls` received on a port, or at IN (R251). [log 86 DEDUCED] -/
def Lane.route (L : Lane) (port raw cls vid : Nat) (f : Frame) : Lane × Option Route :=
  if port < 4 && f.dst == L.portMac port then (L, some ⟨cls, 16, none, false⟩)
  else match L.fdbFind f.dst vid with
  | some (i, e) =>
    let m := L.entryMask e f vid
    if 5 ≤ cls then
      if !bit (fdbWord e 2) 6 then (L.bump .SWM_NOFWD, none)
      else
        let r := L.net.meter i e f.len raw
        let L := { L with net := r.1 }
        if r.2 then (L, some ⟨cls, without m.1 port, m.2, false⟩)
        else (L.bump .SWM_DEMOTE, some ⟨0, without m.1 port, m.2, true⟩)
    else if bit (fdbWord e 2) 6 then
      let r := L.net.meter i e f.len raw
      ({ L with net := r.1 }, some ⟨cls, without m.1 port, m.2, false⟩)
    else (L, some ⟨cls, without m.1 port, m.2, false⟩)
  | none =>
    if 5 ≤ cls then (L.bump .SWM_NOFWD, none)
    else if isGroup f.dst then (L, some ⟨cls, without (L.vlanPorts vid) port, none, false⟩)
    else match L.net.learnedPort f.dst vid with
      | some p => (L, some ⟨cls, without (2 ^ p) port, none, false⟩)
      | none => (L, some ⟨cls, without (L.vlanPorts vid) port, none, false⟩)

/-! ### Redundancy (R262, R263) -/

/-- A duplicate-discard entry exists for a direction. -/
def Net.wasSeen (n : Net) (src seq dir : Nat) : Bool := n.seen.any (fun x => x.src == src && x.seq == seq && x.dir == dir)

/-- Remembers a frame in a direction; the table holds 4,096 entries, the oldest leaving first. -/
def Net.remember (n : Net) (src seq dir raw : Nat) : Net := { n with seen := (⟨src, seq, dir, raw⟩ :: n.seen).take 4096 }

/-- The mask of a frame from the ring or a LAN after duplicate discard (R263): what is left for PX1, PX2 and IN, and,
in an HSR ring, the other ring port. -/
def Lane.redFilter (L : Lane) (port raw : Nat) (f : Frame) (t : RedTag) (mask : Nat) (fwd : Bool) : Lane × Nat :=
  let L := if L.red = 1 && t.lan != port then L.bump .SWM_RED_WRONGLAN else L
  let toLane := mask / 4 * 4
  let dup := L.net.wasSeen f.src t.seq 4
  let L := if dup && toLane != 0 then L.bump .SWM_RED_DUP else L
  let L := if dup || toLane = 0 then L else { L with net := L.net.remember f.src t.seq 4 raw }
  let left := if dup then 0 else toLane
  if L.red = 2 && fwd then
    let other := 1 - port
    if L.net.wasSeen f.src t.seq other || decide (L.mac ≤ f.dst ∧ f.dst < L.mac + 4) then (L.bump .SWM_RED_DUP, left)
    else ({ L with net := L.net.remember f.src t.seq other raw }, withPort left other)
  else (L, left)

/-! ### Copies as they leave (R245, R250, R262) -/

/-- The length of a frame without its IEEE 802.1Q tag and its redundancy part. -/
def bareLen (f : Frame) : Nat := f.len - (if f.tag.isSome then 4 else 0) - (if f.red.isSome then 6 else 0)

/-- A copy for an egress port: tagged as the port's TAG field says for the class, at IN as the frame came; with the
redundancy part given. -/
def Lane.copyFor (L : Lane) (f : Frame) (cls vid : Nat) (demoted : Bool) (red : Option RedTag) (port : Nat) (own : Bool)
    (hash : Option Nat) : QItem :=
  let pcp := if demoted then 0 else match f.tag with
    | some t => t.pcp
    | none => cls
  let tag := if 4 ≤ port then f.tag else if L.flag .SWM_PORT_CFG (16 + cls) port then some (⟨vid, pcp⟩ : Tag) else none
  let len := bareLen f + (if tag.isSome then 4 else 0) + (if red.isSome then 6 else 0)
  { buf := 0, cells := cellsOf f.len, tag := tag, red := red, len := len, ecn := f.ecn, own := own, out := 0, hash := hash }

/-! ### Admission to a queue (R255, R258, R261) -/

/-- A copy is tail-dropped and counted; IN has no such counter. -/
def Lane.dropCopy (L : Lane) (port cls : Nat) : Lane :=
  if port < 4 then L.setReg .SWM_Q_DROP (L.reg .SWM_Q_DROP port cls + 1) port cls else L

/-- Cells of a new copy that go on chip: none in a queue with a spilled part, else what SPILL and the pool leave (R255).
IN has no SPILL. [log 83 DEDUCED] -/
def Lane.chipRoom (L : Lane) (port cls : Nat) : Nat :=
  let q := L.net.queue port cls
  if q.any (fun i => decide (0 < i.out)) then 0
  else if 4 ≤ port then L.net.poolRoom cls
  else min (L.fld .SWM_Q_SCHED 15 0 port cls - onChip q) (L.net.poolRoom cls)

/-- Best-effort admission of a copy at a depth (R261). -/
def Lane.markCopy (L : Lane) (port cls d : Nat) (it : QItem) : Lane × Option QItem :=
  let K := L.fld .SWM_Q_THR 31 16 port cls
  let D := L.fld .SWM_Q_THR 15 0 port cls
  let ect := it.ecn == some 1 || it.ecn == some 2
  if d < K then (L, some it)
  else if ect then (L.setReg .SWM_Q_MARK (L.reg .SWM_Q_MARK port cls + 1) port cls, some { it with ecn := some 3 })
  else if d < D || it.ecn == some 3 then (L, some it)
  else (L.dropCopy port cls, none)

/-- Whether a queue takes a copy, where nothing can be spilled without LPDDR (R390): the copy as it is queued, or none when it is tail-dropped; counters follow (R255, R258,
R261). No copy of TC5 to TC7 is dropped for want of a cell (R251); one for a port whose link is down is not queued.
[log 83 DEDUCED] -/
def Lane.takeCopy (L : Lane) (port cls : Nat) (it : QItem) : Lane × Option QItem :=
  if 5 ≤ cls then if port < 4 && !L.flag .SWM_PORT_STAT 31 port then (L.dropCopy port cls, none) else (L, some it) else
  let d := depthOf (L.net.queue port cls)
  let out := it.cells - L.chipRoom port cls
  let spillFull := 0 < out && (L.flag .PWR_MBIST_STAT 10 || !L.flag .PWR_PD 9 || decide (ovfSize < L.net.ovf + out))
  if ovfSize ≤ L.net.ovf || spillFull then (L.dropCopy port cls, none)
  else if 4 ≤ port then (L, some { it with out := out })
  else if L.fld .SWM_Q_LIMIT 23 0 port cls ≤ d then (L.dropCopy port cls, none)
  else if 3 ≤ cls then (L, some { it with out := out })
  else L.markCopy port cls d { it with out := out }

/-- A copy's place in its queue: the lane's own frames go ahead of transit frames (R248). -/
def enqueueItem (it : QItem) (q : List QItem) : List QItem :=
  if it.own then q.takeWhile (·.own) ++ it :: q.dropWhile (·.own) else q ++ [it]

/-- Offers copies to their queues in port order; those taken come back with their ports. -/
def Lane.admitAll (L : Lane) (cls : Nat) : List (Nat × QItem) → Lane × List (Nat × QItem)
  | [] => (L, [])
  | (p, it) :: t =>
    if 1522 < it.len && p < 4 then (L.bump .SWM_PORT_OVERSIZE p).admitAll cls t
    else
      let r := L.takeCopy p cls it
      let s := r.1.admitAll cls t
      match r.2 with
      | some x => (s.1, (p, x) :: s.2)
      | none => s

/-- Queue depth peaks and overflow use after an enqueue. -/
def Lane.notePeak (L : Lane) (port cls : Nat) : Lane :=
  let d := depthOf (L.net.queue port cls)
  let L := if port < 4 && decide ((L.reg .SWM_Q_PEAK port cls).toNat < d) then L.setReg .SWM_Q_PEAK (w32 d) port cls else L
  if (L.reg .SWM_OVF_PEAK).toNat < L.net.ovf then L.setReg .SWM_OVF_PEAK (w32 L.net.ovf) else L

/-- Stores a frame whose copies were taken: its cells leave the pool once, each copy joins its queue (R254, R255).
[log 83 DEDUCED] -/
def Lane.store (L : Lane) (f : Frame) (ingress cls vid raw : Nat) (host : Option (Nat × Nat × Nat))
    (items : List (Nat × QItem)) : Lane :=
  if items.isEmpty then L else
  let id := L.net.nextBuf
  let b : Buf := { frame := f, ingress := ingress, cls := cls, cells := cellsOf f.len, copies := items.length, chip := 0,
                   host := host, sent := 0, ts := [], vid := vid, rx := raw }
  let n := { L.net with nextBuf := id + 1, bufs := L.net.bufs.put id b }
  let n := (items.foldl (fun (n : Net) p =>
    n.setQueue p.1 cls (enqueueItem { p.2 with buf := id } (n.queue p.1 cls))) n).recount
  items.foldl (fun (L : Lane) p => L.notePeak p.1 cls) { L with net := n }

/-- HWM, LWM and LIMIT of an ingress and class (R258). -/
def Lane.waterMarks (L : Lane) (port cls : Nat) : Nat × Nat × Nat :=
  if port < 4 then
    (L.fld .SWM_Q_THR 31 16 port cls, L.fld .SWM_Q_THR 15 0 port cls, L.fld .SWM_Q_LIMIT 23 0 port cls)
  else L.img.inThr.getD cls (0xFFFFFF, 0xFFFFFE, 0xFFFFFF)

/-- XOFF is in force toward the partner for a class. -/
def Lane.xoff (L : Lane) (port cls : Nat) : Bool := L.flag .SWM_PORT_STAT (8 + cls) port

/-- Sends a PFC frame. -/
def Lane.sendPfc (L : Lane) (port cls quanta : Nat) : Lane := (L.emit (.pfc port cls quanta)).bump .SWM_PORT_PFCTX port

/-- An ingress count that reaches HWM holds its source back (R258, R259). -/
def Lane.checkHigh (L : Lane) (port cls : Nat) : Lane :=
  if cls != 3 && cls != 4 then L else
  let n := L.net.ingressCount port cls
  if n < (L.waterMarks port cls).1 then L
  else if 4 ≤ port then
    if L.net.inOff.testBit cls then L else { L with net := { L.net with inOff := L.net.inOff + 2 ^ cls } }
  else if L.xoff port cls then L
  else
    let L := (L.setFlag .SWM_PORT_STAT (8 + cls) true port).sendPfc port cls 65535
    L.setReg .SWM_Q_MARK (L.reg .SWM_Q_MARK port cls + 1) port cls

/-- The acquisition engine's hold ends once IN's count for TC3 has fallen to LWM (R259). -/
def Lane.inResume (L : Lane) : Lane :=
  if L.net.inOff.testBit 3 && decide (L.net.ingressCount 4 3 ≤ (L.waterMarks 4 3).2.1) then
    { L with net := { L.net with inOff := L.net.inOff - 2 ^ 3 } }
  else L

/-- A frame of TC3 or TC4 whose ingress count is at LIMIT is tail-dropped (R258). -/
def Lane.atLimit (L : Lane) (port cls : Nat) : Bool :=
  (cls == 3 || cls == 4) && decide ((L.waterMarks port cls).2.2 ≤ L.net.ingressCount port cls)

/-- The redundancy part of a copy sent into the pair from outside it (R262): a new sequence number, one for both. -/
def Lane.newRed (L : Lane) (port : Nat) : Option RedTag :=
  if L.red = 1 then some ⟨false, L.net.redSeq % 65536, port⟩
  else if L.red = 2 then some ⟨true, L.net.redSeq % 65536, port⟩ else none

/-- Sends a frame to the ports of a mask (R248, R250, R262): into a redundancy pair it goes to both ports with the
lane's or the RedBox's sequence number, and an HSR lane remembers it, so that it is known when it comes back (R263). A
copy that leaves PA or PB keeps the part it came with; PTP has none. [log 13 DEDUCED] -/
def Lane.dispatch (L : Lane) (f : Frame) (ingress cls vid raw mask : Nat) (demoted own : Bool) (hash : Option Nat)
    (host : Option (Nat × Nat × Nat)) : Lane :=
  let fromPair := decide (ingress < 2)
  let ptp := f.etype == 0x88F7
  let intoPair := !fromPair && !ptp && L.red != 0 && mask % 4 != 0 && (ingress = 4 || L.redBox)
  let mask := if intoPair then mask / 4 * 4 + 3 else mask
  let red := fun p =>
    if 2 ≤ p then none
    else if intoPair then L.newRed p
    else if ptp then none else f.red
  let items := ((List.range 5).filter (fun p => mask.testBit p)).map (fun p => (p, L.copyFor f cls vid demoted (red p) p own hash))
  let L := if intoPair && L.red = 2 then
      { L with net := [0, 1, 4].foldl (fun (n : Net) d => n.remember f.src (n.redSeq % 65536) d raw) L.net } else L
  let L := if intoPair then { L with net := { L.net with redSeq := (L.net.redSeq + 1) % 65536 } } else L
  if L.atLimit ingress cls then
    (if ingress < 4 then L.setReg .SWM_Q_DROP (L.reg .SWM_Q_DROP ingress cls + 1) ingress cls else L)
  else
    let r := L.admitAll cls items
    (r.1.store f ingress cls vid raw host r.2).checkHigh ingress cls

/-- The lane's own frame enters the switch at IN for the ports named (R248). -/
def Lane.sendOwn (L : Lane) (f : Frame) (cls mask : Nat) : Lane :=
  let raw := L.trav.lastRaw
  L.dispatch f 4 cls ((f.tag.map (·.vid)).getD 1) raw mask false true none none

/-! ### A received frame (R245 to R252) -/

/-- Forwarding is enabled (SWM_STAT.FWD), and the port is one the lane keeps (R271). -/
def Lane.forwards (L : Lane) (port : Nat) : Bool := L.flag .SWM_STAT 31 && L.portKept port

/-- A received frame is classified and forwarded. `started` is the mask of egress ports that had begun a cut-through
copy when the ingress FCS failed (R252). [log 82 DEDUCED] -/
def Lane.switchForward (port raw : Nat) (f : Frame) (fcsOk : Bool) (started : Nat) (L : Lane) : Lane :=
  if !L.forwards port || !decide (port < 4) then L else
  let L := L.bump .SWM_PORT_RXFRM port
  if 1522 < f.len then L.bump .SWM_PORT_OVERSIZE port else
  let cls := L.classOf port f
  let vid := L.vidOf port f
  if !fcsOk then
    let L := L.bump .SWM_PORT_RXERR port
    if 6 ≤ cls ∧ started % 16 ≠ 0 then
      ((List.range 4).filter (fun p => started.testBit p)).foldl (fun (L : Lane) p => L.emit (.stomped p f)) (L.bump .SWM_STOMP)
    else L
  else if L.red = 2 && port < 2 && decide (L.mac ≤ f.src ∧ f.src < L.mac + 4) then L.bump .SWM_RED_DUP
  else if !(L.vlanPorts vid).testBit port then L.bump .SWM_PORT_RXDROP port
  else
    let L := if cls < 5 && 2 ≤ port then { L with net := L.net.learn f.src vid port raw } else L
    let r := L.route port raw cls vid f
    match r.2 with
    | none => r.1
    | some o =>
      let m : Lane × Nat := match (if port < 2 && r.1.red != 0 then f.red else none) with
        | some t => if f.etype = 0x88F7 then (r.1, o.mask) else r.1.redFilter port raw f t o.mask true
        | none => (r.1, if port < 2 && r.1.red = 1 then without o.mask (1 - port) else o.mask)
      m.1.dispatch f port o.cls vid raw m.2 o.demoted false o.hash none

/-! ### Egress (R256, R260) -/

/-- A class's egress is paused by the partner. -/
def Lane.paused (L : Lane) (port cls : Nat) : Bool := L.flag .SWM_PORT_STAT (16 + cls) port

/-- The class that weighted round robin serves: the present one while its turn lasts, then the next with frames.
[log 87 DEDUCED] -/
def wrrPick (has : Nat → Bool) (weight : Nat → Nat) (cur : Nat × Nat) : Option (Nat × Nat) :=
  if has cur.1 && 0 < cur.2 then some (cur.1, cur.2 - 1)
  else ([1, 2, 3].map (fun k => (cur.1 + k) % 3)).find? has |>.map (fun c => (c, max 1 (weight c) - 1))

/-- A queue's head may leave: transit frames do only while the lane forwards (R271). -/
def headLeaves (fwd : Bool) (q : List QItem) : Bool := (q.head?).any (fun i => fwd || i.own)

/-- The class an idle egress serves next, and its round-robin state after it (R256). [log 87 DEDUCED] -/
def Lane.nextClass (L : Lane) (port : Nat) : Option (Nat × Nat × Nat) :=
  let has := fun c => headLeaves (L.flag .SWM_STAT 31) (L.net.queue port c)
  let cur := L.net.wrr.getD port (0, 0)
  match [7, 6, 5, 4, 3].find? (fun c => has c && !((c == 4 || c == 3) && port < 4 && L.paused port c)) with
  | some c => some (c, cur.1, cur.2)
  | none => (wrrPick has (fun c => if port < 4 then L.fld .SWM_Q_SCHED 31 24 port c else 1) cur).map (fun x => (x.1, x.1, x.2))

/-- One copy of a frame is gone: sent on a port at a raw count, or discarded. The frame's record goes with its last
copy. [log 83 DEDUCED] -/
def Net.dropRef (n : Net) (it : QItem) (sentOn : Option (Nat × Nat)) : Net :=
  match n.bufs.get? it.buf with
  | none => n
  | some b =>
    let b' := { b with copies := b.copies - 1,
                       sent := match sentOn with
                         | some p => withPort b.sent p.1
                         | none => b.sent,
                       ts := match sentOn with
                         | some p => b.ts ++ [p]
                         | none => b.ts }
    if b'.copies = 0 then
      { n with bufs := n.bufs.del it.buf,
               txDone := match b.host with
                 | some h => n.txDone ++ [⟨h.1, h.2.1, h.2.2, if b'.sent = 0 then 2 else 0, b'.sent, b'.ts⟩]
                 | none => n.txDone }
    else { n with bufs := n.bufs.put it.buf b' }

/-- A copy that has left its queue is released: its cells return with the last copy that has them (R254).
[log 83 DEDUCED] -/
def Net.release (n : Net) (it : QItem) (sentOn : Option (Nat × Nat)) : Net := (n.dropRef it sentOn).recount

/-- A queue whose spilled cells come back in order as far as `lead` cells from its head, while the pool has room
(R255). -/
def fetchItems (room lead : Nat) : List QItem → List QItem
  | [] => []
  | it :: t =>
    let k := min it.out (min room (lead - it.here))
    let it' := { it with out := it.out - k }
    if k < it.out then it' :: t else it' :: fetchItems (room - k) (lead - it.cells) t

/-- The spill engine keeps the first 64 cells of a queue on chip (R255). [log 83 DEDUCED] -/
def Net.fetchBack (n : Net) (port cls : Nat) : Net :=
  (n.setQueue port cls (fetchItems (n.poolRoom cls) 64 (n.queue port cls))).recount

/-- The frame of a copy as it leaves. -/
def asSent (b : Buf) (it : QItem) : Frame := { b.frame with tag := it.tag, red := it.red, len := it.len, ecn := it.ecn }

/-- An idle egress sends its next frame, which is the answer; `tx` is the raw count of its transmit timestamp (R256,
R266, R271). -/
def Lane.egressSend (port tx : Nat) (L : Lane) : Lane × Option Frame :=
  if !decide (port < 4) || !L.flag .SWM_PORT_STAT 31 port || !L.portKept port then (L, none) else
  match L.nextClass port with
  | none => (L, none)
  | some (c, w) =>
    let n := L.net.fetchBack port c
    match n.queue port c with
    | [] => (L, none)
    | it :: t =>
      let n' := ((n.setQueue port c t).release it (some (port, tx))).fetchBack port c
      ((({ L with net := { n' with wrr := n'.wrr.put port w } }).inResume).bump .SWM_PORT_TXFRM port,
       (n.bufs.get? it.buf).map (fun b => asSent b it))

/-- Takes the next frame delivered to IN, highest class first. -/
def Lane.takeIn (L : Lane) : Option (Lane × Buf × QItem × Nat) :=
  match [7, 6, 5, 4, 3, 2, 1, 0].find? (fun c => !(L.net.queue 4 c).isEmpty) with
  | none => none
  | some c =>
    match L.net.queue 4 c with
    | [] => none
    | it :: t =>
      match L.net.bufs.get? it.buf with
      | none => some ({ L with net := L.net.setQueue 4 c t }, ⟨⟨0, 0, none, 0, 0, none, none, .data []⟩, 0, c, 0, 0, 0, none, 0, [], 0, 0⟩, it, c)
      | some b => some (({ L with net := (L.net.setQueue 4 c t).release it none } : Lane).inResume, b, it, c)

/-! ### Flow control (R258 to R260) -/

/-- The PFC repeat while the ingress count stays above LWM. -/
def Lane.pfcRepeat (port cls : Nat) (L : Lane) : Lane :=
  if decide (port < 4) && L.xoff port cls && decide ((L.waterMarks port cls).2.1 < L.net.ingressCount port cls) then
    L.sendPfc port cls 65535 else L

/-- The PFC frame with pause time 0 once the ingress count has fallen to LWM. -/
def Lane.pfcResume (port cls : Nat) (L : Lane) : Lane :=
  if 4 ≤ port || decide ((L.waterMarks port cls).2.1 < L.net.ingressCount port cls) then L
  else if L.xoff port cls then (L.setFlag .SWM_PORT_STAT (8 + cls) false port).sendPfc port cls 0 else L

/-- One priority of a received PFC frame: TC3 and TC4 pause or resume (R260). -/
def Lane.takePause (L : Lane) (port raw : Nat) (p : Nat × Nat) : Lane :=
  if p.1 != 3 && p.1 != 4 then L
  else
    let L := L.setFlag .SWM_PORT_STAT (16 + p.1) (p.2 != 0) port
    { L with net := { L.net with pause := if p.2 = 0 then L.net.pause.del (qIdx port p.1)
                                          else L.net.pause.put (qIdx port p.1) (raw, p.2) } }

/-- A received PFC frame: `times` lists its enabled priorities with their quanta (R260). -/
def Lane.pfcFrame (port raw : Nat) (times : List (Nat × Nat)) (L : Lane) : Lane :=
  if !L.portKept port || !decide (port < 4) then L else
  let L := if times.any (fun p => p.1 != 3 && p.1 != 4) then L.bump .SWM_PORT_PAUSEIGN port else L
  let L := if times.any (fun p => p.1 == 3 || p.1 == 4) then L.bump .SWM_PORT_PFCRX port else L
  times.foldl (fun (L : Lane) p => L.takePause port raw p) L

/-- A pause runs out: quanta of 51.2 ns, which are 61.44 raw steps each (R260). -/
def Lane.pfcPauseExpiry (port cls raw : Nat) (L : Lane) : Lane :=
  match L.net.pause.get? (qIdx port cls) with
  | none => L
  | some (r, q) =>
    if rawSince raw r * 25 < q * 1536 then L
    else { L.setFlag .SWM_PORT_STAT (16 + cls) false port with
           net := { L.net with pause := L.net.pause.del (qIdx port cls) } }

/-- A received PAUSE frame is ignored and counted (R260). -/
def Lane.pauseFrame (port : Nat) (L : Lane) : Lane := L.bump .SWM_PORT_PAUSEIGN port

/-! ### Links, preemption, trunk (R244, R257, R265) -/

/-- The verify exchange ends (R257). -/
def Lane.preemptionVerify (port : Nat) (ok : Bool) (now : Int) (L : Lane) : Lane :=
  if !L.flag .SWM_PORT_CFG 28 port then L
  else if ok then L.setFlag .SWM_PORT_STAT 29 true port
  else (L.setFlag .SWM_PORT_STAT 29 false port).raise 8 0x03 now (leBytes 1 port)

/-- LINK of SWM_STAT follows the ports. -/
def Lane.showLinks (L : Lane) : Lane :=
  L.setFld .SWM_STAT 29 26 (bitsWhere (fun p => L.flag .SWM_PORT_STAT 31 p) 4)

/-- Discards what is queued on a port, counted in its queues (R265). -/
def Lane.flushPort (L : Lane) (port : Nat) : Lane :=
  foldTo 8 (fun (L : Lane) c =>
    let q := L.net.queue port c
    let n := q.foldl (fun (n : Net) it => n.release it none) (L.net.setQueue port c [])
    (({ L with net := n } : Lane).inResume).setReg .SWM_Q_DROP (L.reg .SWM_Q_DROP port c + w32 q.length) port c) L

/-- Trunk entries that name a failed port move to the other (R265). -/
def Net.moveFrom (n : Net) (port : Nat) : Net :=
  let naming := (List.range 256).filter (fun e => n.trunkPort e == port)
  { n with moved := naming.filter (fun e => !n.moved.contains e) ++ n.moved.filter (fun e => !naming.contains e) }

/-- A port declares link down; a frame that was leaving it is lost and counted (R244, R252, R265). [log 24 DEDUCED] -/
def Lane.portLinkDown (port : Nat) (x : LinkDown) (L : Lane) : Lane :=
  if !decide (port < 4) || !L.flag .SWM_PORT_STAT 31 port then L else
  let L := ((L.setFlag .SWM_PORT_STAT 31 false port).setFlag .SWM_PORT_STAT 29 false port).showLinks
  let L := if x.cut then L.bump .SWM_STOMP else L
  let L := (L.bump .SWM_PORT_LINKDN port).raise 8 0x01 x.now (leBytes 1 port)
  if port = 2 ∨ port = 3 then ({ L with net := L.net.moveFrom port }).flushPort port else L

/-- A port declares link up (R244). Its PMA role is MS's, or the one auto-negotiation has given (R243).
[log 24 DEDUCED] -/
def Lane.portLinkUp (port raw : Nat) (master : Bool) (now : Int) (L : Lane) : Lane :=
  if !decide (port < 4) || L.flag .SWM_PORT_STAT 31 port || !L.flag .SWM_PORT_CFG 31 port then L else
  let role := if L.flag .SWM_PORT_CFG 29 port then master else L.flag .SWM_PORT_CFG 30 port
  let L := ((L.setFlag .SWM_PORT_STAT 31 true port).setFlag .SWM_PORT_STAT 30 role port).showLinks
  let L := L.bump .SWM_PORT_LINKDN port
  ({ L with net := { L.net with upAt := L.net.upAt.put port raw } }).raise 8 0x02 now (leBytes 1 port)

/-- Raw steps of a time in ms. -/
def rawMs (ms : Nat) : Nat := ms * 1200000

/-- A moved entry goes home: its home port has held link up for 1 s, and no frame of its flows is queued on either
port (R265). -/
def Lane.trunkMoveBack (entry raw : Nat) (L : Lane) : Lane :=
  let home := 2 + entry % 2
  let busy := [2, 3].any (fun p => (List.range 8).any (fun c => (L.net.queue p c).any (fun i => i.hash == some entry)))
  if L.net.moved.contains entry && L.flag .SWM_PORT_STAT 31 home && !busy &&
     (L.net.upAt.get? home).any (fun r => decide (rawMs 1000 ≤ rawSince raw r)) then
    { L with net := { L.net with moved := L.net.moved.filter (· != entry) } }
  else L

/-! ### Ageing and redundancy tables (R251, R262) -/

/-- A learned address 300 s old goes. -/
def Lane.addressAgeing (mac vid raw : Nat) (L : Lane) : Lane :=
  { L with net := { L.net with learned := L.net.learned.filter (fun x =>
      !(x.mac == mac && x.vid == vid && decide (rawMs 300000 ≤ rawSince raw x.raw))) } }

/-- A duplicate-discard entry 400 ms old goes. -/
def Lane.entryForget (src seq raw : Nat) (L : Lane) : Lane :=
  { L with net := { L.net with seen := L.net.seen.filter (fun x =>
      !(x.src == src && x.seq == seq && decide (rawMs 400 ≤ rawSince raw x.raw))) } }

/-- The node count in SWM_RED_NODES. -/
def Lane.showNodes (L : Lane) : Lane := L.setReg .SWM_RED_NODES (w32 L.net.nodes.length)

/-- A node not refreshed for 60 s goes. [log 2 DESIGN CHOICE] -/
def Lane.nodeForget (node raw : Nat) (L : Lane) : Lane :=
  ({ L with net := { L.net with nodes := L.net.nodes.filter (fun x =>
      !(x.1 == node && decide (rawMs 60000 ≤ rawSince raw x.2))) } }).showNodes

/-- A received supervision frame refreshes its node; a full table takes no new one. [log 85 PRESUMED] -/
def Lane.supervisionFrame (port raw node : Nat) (L : Lane) : Lane :=
  if L.red = 0 || !decide (port < 2) || !L.forwards port then L else
  let known := L.net.nodes.any (fun x => x.1 == node)
  let nodes :=
    if known then L.net.nodes.map (fun x => if x.1 == node then (node, raw) else x)
    else if L.net.nodes.length < 512 then L.net.nodes ++ [(node, raw)] else L.net.nodes
  ({ L with net := { L.net with nodes := nodes } }).showNodes

/-- The EtherType and group address of supervision frames. [log 85 PRESUMED] -/
def supervisionType : Nat := 0x88FB

/-- The lane's supervision frame, every 2,000 ms, into both ports of its pair (R262). [log 85 PRESUMED] -/
def Lane.supervisionSend (raw : Nat) (L : Lane) : Lane :=
  if L.red = 0 || !L.flag .SWM_STAT 31 || L.net.supRaw.any (fun r => decide (rawSince raw r < rawMs 2000)) then L else
  let L := { L with net := { L.net with supRaw := some raw } }
  L.sendOwn { dst := 0x01154E000100, src := L.portMac 0, tag := none, etype := supervisionType, len := 64, ecn := none,
              red := none, body := .supervision (L.portMac 0) } (L.typeClass 0 supervisionType) 3

/-! ### Wake (R270) -/

/-- A write to SWM_WAKE_TX sends one wake pattern on a powered port; one with link up sends only with FORCE, and drops
its link. -/
def Lane.wakeTx (w : Word) (now : Int) (L : Lane) : Lane :=
  let port := bits w 17 16
  let up := L.flag .SWM_PORT_STAT 31 port
  if !L.portKept port || (up && !bit w 31) then L
  else (if up then L.portLinkDown port ⟨now, false⟩ else L).emit (.wake port (bits w 11 0))

/-! ### Closure and levels (R271) -/

/-- Queue depths and the overflow summary, as at a closure. -/
def Lane.netPublish (L : Lane) : Lane :=
  let L := foldTo 4 (fun (L : Lane) p => foldTo 8 (fun (L : Lane) c =>
    L.setReg .SWM_Q_DEPTH (w32 (depthOf (L.net.queue p c))) p c) L) L
  L.setFlag .SWM_STAT 30 (decide (L.net.ovf = ovfSize))

/-! ### Meanings -/

/-- SWITCH_FORWARD (R249 to R252). -/
def execSwitchForward (lane : LaneId) (port raw : Nat) (f : Frame) (fcsOk : Bool) (started : Nat) (s : State) :
    Host.Outcome State Fault Refusal := onLane lane (Lane.switchForward port raw f fcsOk started) s

/-- PFC_REPEAT (R258). -/
def execPfcRepeat (lane : LaneId) (port cls : Nat) (s : State) : Host.Outcome State Fault Refusal :=
  onLane lane (Lane.pfcRepeat port cls) s

/-- PFC_RESUME (R258). -/
def execPfcResume (lane : LaneId) (port cls : Nat) (s : State) : Host.Outcome State Fault Refusal :=
  onLane lane (Lane.pfcResume port cls) s

/-- PFC_FRAME (R260). -/
def execPfcFrame (lane : LaneId) (port raw : Nat) (times : List (Nat × Nat)) (s : State) :
    Host.Outcome State Fault Refusal := onLane lane (Lane.pfcFrame port raw times) s

/-- PFC_PAUSE_EXPIRY (R260). -/
def execPfcPauseExpiry (lane : LaneId) (port cls raw : Nat) (s : State) : Host.Outcome State Fault Refusal :=
  onLane lane (Lane.pfcPauseExpiry port cls raw) s

/-- PAUSE_FRAME (R260). -/
def execPauseFrame (lane : LaneId) (port : Nat) (s : State) : Host.Outcome State Fault Refusal :=
  onLane lane (Lane.pauseFrame port) s

/-- PREEMPTION_VERIFY (R257). -/
def execPreemptionVerify (lane : LaneId) (port : Nat) (ok : Bool) (now : Int) (s : State) :
    Host.Outcome State Fault Refusal := onLane lane (Lane.preemptionVerify port ok now) s

/-- PORT_LINK_DOWN (R244, R265). -/
def execPortLinkDown (lane : LaneId) (port : Nat) (x : LinkDown) (s : State) : Host.Outcome State Fault Refusal :=
  onLane lane (Lane.portLinkDown port x) s

/-- PORT_LINK_UP (R244). -/
def execPortLinkUp (lane : LaneId) (port raw : Nat) (master : Bool) (now : Int) (s : State) :
    Host.Outcome State Fault Refusal := onLane lane (Lane.portLinkUp port raw master now) s

/-- TRUNK_MOVE_BACK (R265). -/
def execTrunkMoveBack (lane : LaneId) (entry raw : Nat) (s : State) : Host.Outcome State Fault Refusal :=
  onLane lane (Lane.trunkMoveBack entry raw) s

/-- ADDRESS_AGEING (R251). -/
def execAddressAgeing (lane : LaneId) (mac vid raw : Nat) (s : State) : Host.Outcome State Fault Refusal :=
  onLane lane (Lane.addressAgeing mac vid raw) s

/-- SUPERVISION_FRAME_SEND (R262). -/
def execSupervisionFrameSend (lane : LaneId) (raw : Nat) (s : State) : Host.Outcome State Fault Refusal :=
  onLane lane (Lane.supervisionSend raw) s

/-- SUPERVISION_FRAME (R262). -/
def execSupervisionFrame (lane : LaneId) (port raw node : Nat) (s : State) : Host.Outcome State Fault Refusal :=
  onLane lane (Lane.supervisionFrame port raw node) s

/-- NODE_FORGET (R262). -/
def execNodeForget (lane : LaneId) (node raw : Nat) (s : State) : Host.Outcome State Fault Refusal :=
  onLane lane (Lane.nodeForget node raw) s

/-- ENTRY_FORGET (R262). -/
def execEntryForget (lane : LaneId) (src seq raw : Nat) (s : State) : Host.Outcome State Fault Refusal :=
  onLane lane (Lane.entryForget src seq raw) s

/-- WAKE_TX (R270). -/
def execWakeTx (lane : LaneId) (w : Word) (now : Int) (s : State) : Host.Outcome State Fault Refusal :=
  onLane lane (Lane.wakeTx w now) s

end Sys2Proof.Machine
end

