-- ==== Sys2Proof/Machine/Trip.lean ====
section
/-! DEFINITION. Trip matrix, trip lines, backstop comparators and GOOSE trip publications (R133 to R149). -/

namespace Sys2Proof.Machine

open Sys2Proof

/-! ### Trip lines (R140 to R144, R149) -/

/-- A trip line. -/
def Lane.line (L : Lane) (i : Nat) : TripLine := L.trip.lines.getD i .fresh

/-- The lane with a trip line replaced. -/
def Lane.setLine (L : Lane) (i : Nat) (x : TripLine) : Lane :=
  { L with trip := { L.trip with lines := L.trip.lines.put i x } }

/-- A trip line is enabled. -/
def Lane.lineEn (L : Lane) (i : Nat) : Bool := L.flag .TRM_TL_CFG 31 i

/-- De-energise-to-trip. -/
def Lane.linePol (L : Lane) (i : Nat) : Bool := L.flag .TRM_TL_CFG 30 i

/-- The level a line's driver is commanded to, true for energised (R143, R144, R149). At Level 2 a lane without a twin
goes on driving its active-only lines, and every driver is de-energised while their domain is off (R149). -/
def Lane.lineLevel (L : Lane) (i : Nat) : Bool :=
  let x := L.line i
  if !L.flag .PWR_PD 3 then false else
  match x.safe with
  | some e => e
  | none =>
    if !L.lineEn i then false
    else if L.flag .TRM_TL_CFG 28 i && !L.drives && (L.flag .TWN_CFG 31 || decide (L.level < 2)) then L.linePol i
    else x.trip != L.linePol i

/-- One line of every open TL_RESET is settled: 0 released, 1 discarded; a command whose lines are
all settled completes (R142). -/
def Lane.settleLine (L : Lane) (i how : Nat) : Lane :=
  let b := 2 ^ i
  let jobs := L.trip.jobs.map (fun j =>
    if !j.left.testBit i then j
    else { j with left := j.left - b, rel := j.rel + (if how = 0 then b else 0), disc := j.disc + (if how = 1 then b else 0) })
  let done := jobs.filter (fun j => j.left == 0)
  let L := { L with trip := { L.trip with jobs := jobs.filter (fun j => j.left != 0) } }
  done.foldl (fun (L : Lane) j => L.finish j.id 0 (leBytes 2 j.rel ++ leBytes 2 j.disc ++ leBytes 4 j.na)) L

/-- A TL_RESET takes effect at its apply edge: lines it cannot apply to are settled, the others become pending
(R142). -/
def Lane.tlReset (L : Lane) (id : CmdId) (mask : Nat) : Lane :=
  let can := fun i => let x := L.line i; L.lineEn i && L.flag .TRM_TL_CFG 29 i && x.trip && x.safe.isNone
  let left := bitsWhere (fun i => mask.testBit i && can i) 16
  let na := bitsWhere (fun i => mask.testBit i && !can i) 16
  if left = 0 then L.finish id 0 (leBytes 4 0 ++ leBytes 4 na)
  else
    let L := { L with trip := { L.trip with jobs := L.trip.jobs ++ [⟨id, left, 0, 0, na⟩] } }
    foldTo 16 (fun (L : Lane) i => if left.testBit i then L.setLine i { L.line i with pend := true } else L) L

/-- A line is moved to its SAFE level (R149): MINP, seal-in and pending resets are overridden. -/
def Lane.lineToSafe (L : Lane) (i cond : Nat) (time : Int) : Lane :=
  let x := L.line i
  if !L.lineEn i || x.safe.isSome then L else
  let trips := L.flag .TRM_TL_CFG 27 i
  let L := if x.pend then L.settleLine i 1 else L
  (L.setLine i { x with trip := trips, sealed := false, pend := false, safe := some (trips != L.linePol i) }).raise
    (36 + i) 0x05 time (leBytes 1 cond)

/-- A line whose EN an image has cleared is forgotten: a reset pending on it is discarded, and trip level ends.
[log 173 DEDUCED] -/
def Lane.lineOff (L : Lane) (i : Nat) : Lane :=
  let x := L.line i
  let L := if x.pend then L.settleLine i 1 else L
  let L := if x.trip && x.safe.isNone then L.raise (36 + i) 0x02 (L.refEdge : Nat) (leBytes 1 0) else L
  { L with trip := { L.trip with lines := L.trip.lines.del i } }

/-- Every line, or those `p` names, to its SAFE level. -/
def Lane.linesToSafe (L : Lane) (p : Nat → Bool) (cond : Nat) (time : Int) : Lane :=
  foldTo 16 (fun (L : Lane) i => if p i then L.lineToSafe i cond time else L) L

/-- Lines leave SAFE at the first traverse at Level 0 to 2 (R149): they restart released. A line that Level 2 holds
at SAFE stays. -/
def Lane.linesFromSafe (L : Lane) (time : Int) : Lane :=
  foldTo 16 (fun (L : Lane) i =>
    let x := L.line i
    if x.safe.isNone || (L.level = 2 && L.flag .TRM_TL_CFG 26 i) then L
    else
      let L' := L.setLine i { TripLine.fresh with mism := x.mism }
      if x.trip then L'.raise (36 + i) 0x02 time (leBytes 1 3) else L') L

/-- A line asserts at a latch (R140): `by` is 0 for the backstop latch, 1 for the trip-matrix latch. -/
def Lane.assertLine (L : Lane) (i from_ : Nat) (time : Int) : Lane :=
  let x := L.line i
  ((L.setLine i { x with trip := true, ta := L.tick }).bump .TRM_TL_CNT i).raise (36 + i) 0x01 time
    (leBytes 1 from_ ++ leBytes 1 L.trip.bsp)

/-! ### Backstop (R145) -/

/-- Backstop demand on a line: the OR of the bits of this tick routed to it. -/
def Lane.bspDemand (L : Lane) (i : Nat) : Bool :=
  (List.range 8).any (fun b => L.trip.bsp.testBit b && L.flag .TRM_BSP_DST i b)

/-- The samples of a channel written in a tick, in order of instant, with the value's index (R145). -/
def Lane.written (L : Lane) (ch k : Nat) : List (Sample × Nat) :=
  match L.chanOf ch with
  | none => []
  | some (n, i) => (((L.stream n).hist.filter (fun s => s.wtick == k)).reverse).map (fun s => (s, i))

/-- One comparator over the samples of the tick (R145): its run, whether the run reached K after any of them, and the
largest magnitude. -/
def bspRun (thr K : Nat) : List (Sample × Nat) → Nat → Bool → Nat → Nat × Bool × Nat
  | [], run, hit, top => (run, hit, top)
  | (s, i) :: t, run, hit, top =>
    if s.test then bspRun thr K t run hit top
    else
      let a := (s.vals.getD i 0).natAbs
      let run := if s.invalid then 0 else if thr < a then min 8 (run + 1) else 0
      bspRun thr K t run (hit || decide (K ≤ run)) (max top a)

/-- A comparator whose EN is clear has neither run nor bit. -/
def Lane.bspOff (L : Lane) (b : Nat) : Lane :=
  { L with trip := { L.trip with runs := L.trip.runs.del b, bsp := if L.trip.bsp.testBit b then L.trip.bsp - 2 ^ b else L.trip.bsp } }

/-- A comparator's tick. -/
def Lane.bspTick (L : Lane) (b : Nat) : Lane :=
  if !L.flag .TRM_BSP_CFG 31 b then L.bspOff b else
  let K := L.fld .TRM_BSP_CFG 30 28 b + 1
  let thr := L.fld .TRM_BSP_THR 30 0 b
  let smp := (L.written (L.fld .TRM_BSP_CFG 10 0 b) L.tick).filter (fun p => !p.1.test)
  let run0 := L.trip.runs.getD b 0
  let r := bspRun thr K smp run0 false 0
  let now := if smp.isEmpty then decide (K ≤ run0) else r.2.1
  let was := L.trip.bsp.testBit b
  let bsp := (if was then L.trip.bsp - 2 ^ b else L.trip.bsp) + (if now then 2 ^ b else 0)
  let L := { L with trip := { L.trip with runs := L.trip.runs.put b r.1, bsp := bsp } }
  let time : Int := (L.refEdge + 900 : Nat)
  if now && !was then
    (L.bump .TRM_BSP_CNT b).raise (52 + b) 0x01 time (leBytes 4 thr ++ leBytes 4 r.2.2)
  else if was && !now then L.raise (52 + b) 0x02 time else L

/-- The comparisons from T+600 ns and the latch at T+900 ns, at Level 0, 1 and 2 (R140, R145). -/
def Lane.backstopLatch (L : Lane) : Lane :=
  if 3 ≤ L.level || !L.inService then L else
  let L := foldTo 8 (fun (L : Lane) b => L.bspTick b) L
  (foldTo 16 (fun (L : Lane) i =>
    let x := L.line i
    if L.lineEn i && x.safe.isNone && !x.trip && L.bspDemand i then L.assertLine i 0 (L.refEdge + 900 : Nat) else L) L).markDone 3

/-! ### Terms (R133 to R139) -/

/-- The source bit of a literal, after NEG (R133). -/
def Lane.literal (L : Lane) (w : Word) : Bool :=
  let i := bits w 12 0
  let slot := bits w 11 0
  let b := match bits w 31 28 with
    | 1 => (L.elCur slot).status.testBit 7
    | 2 => (L.elCur slot).status.testBit 6
    | 3 => L.trip.bsp.testBit (i % 8)
    | 4 => L.iluFlag i
    | 5 => L.pclBit (bits w 12 9) (bits w 5 0)
    | 6 => if i % 64 < 32 then L.flag .TRM_HF_LO (i % 64) else L.flag .TRM_HF_HI (i % 64 - 32)
    | 7 => (L.elPrev slot).status.testBit 7
    | _ => false
  b != bit w 27

/-- A literal that names an element slot. -/
def litSlot (w : Word) : Bool := let s := bits w 31 28; s == 1 || s == 2 || s == 7

/-- Masking of a literal in a term, by what holds of its slot in this tick (R136). -/
def Lane.masked (L : Lane) (testTerm : Bool) (w : Word) : Bool :=
  litSlot w &&
  (let i := bits w 11 0
   let d := (L.desc i).getD []
   !dEn d || !bit (dRoute d) 31 || ((L.elCur i).status.testBit 3 && !testTerm))

/-- The literals a term uses. -/
def Lane.termLits (L : Lane) (n : Nat) : List Word :=
  ((List.range 8).map (fun j => L.reg .TRM_TERM_LIT n j)).filter (fun w => bits w 31 28 != 0)

/-- What the terms drive: the destinations as numbers, and those driven by terms without TEST (R138). -/
structure Dests where
  tl  : Nat
  gb  : Nat
  gbN : Nat
  trg : Nat
  flg : Nat
  deriving DecidableEq, Repr

/-- One term's evaluation (R136, R137): counters and the destinations it adds. -/
def Lane.evalTerm (L : Lane) (n : Nat) (d : Dests) : Lane × Dests :=
  if !L.flag .TRM_TERM_CFG 31 n then (L, d) else
  let test := L.flag .TRM_TERM_CFG 30 n
  let lits := L.termLits n
  if lits.any (L.masked test) then (L.bump .TRM_MASKED, d)
  else if lits.isEmpty || !lits.all L.literal then (L, d)
  else
    let pair := fun (lo hi : Reg) => (L.reg lo n).toNat + (L.reg hi n).toNat * 2 ^ 32
    let tl := L.fld .TRM_TERM_DST_TL 15 0 n
    let tl := if test then bitsWhere (fun i => tl.testBit i && L.flag .TRM_TL_CFG 25 i) 16 else tl
    let gs := pair .TRM_TERM_DST_GS_LO .TRM_TERM_DST_GS_HI
    let gs := if test then bitsWhere (fun i => gs.testBit i && L.flag .TRM_GP_CFG 30 (i / 16)) 64 else gs
    let flg := if test then 0 else pair .TRM_TERM_DST_FLG_LO .TRM_TERM_DST_FLG_HI
    (L.bump .TRM_TERM_HITS n,
     { tl := d.tl ||| tl, gb := d.gb ||| gs, gbN := if test then d.gbN else d.gbN ||| gs,
       trg := d.trg ||| (L.reg .TRM_TERM_DST_TRG n).toNat, flg := d.flg ||| flg })

/-- Every term in order. -/
def Lane.evalTerms (L : Lane) : Lane × Dests :=
  (List.range 256).foldl (fun (a : Lane × Dests) n => a.1.evalTerm n a.2) (L, ⟨0, 0, 0, 0, 0⟩)

/-- A line at the T+3,500 ns latch (R140 to R142). A line whose SEAL an image has cleared releases without a reset. -/
def Lane.latchLine (L : Lane) (tm : Nat) (i : Nat) : Lane :=
  let x := L.line i
  if !L.lineEn i || x.safe.isSome then L else
  let time : Int := (L.refEdge + 3500 : Nat)
  let seals := L.flag .TRM_TL_CFG 29 i
  let ilu := L.flag .TRM_TL_CFG 24 i && L.iluFlag (L.fld .TRM_TL_RST 12 0 i)
  if tm.testBit i || L.bspDemand i then
    let L := if x.trip then L else L.assertLine i 1 time
    let L := if seals && !x.sealed then (L.setLine i { L.line i with sealed := true }).raise (36 + i) 0x03 time else L
    if x.pend then (L.setLine i { L.line i with pend := false }).settleLine i 1 else L
  else if x.trip && decide (L.fld .TRM_TL_CFG 15 0 i ≤ L.tick - x.ta) && (!x.sealed || !seals || x.pend || ilu) then
    let why := if !x.sealed || !seals then 0 else if x.pend then 1 else 2
    let L := (L.setLine i { x with trip := false, sealed := false, pend := false }).raise (36 + i) 0x02 time (leBytes 1 why)
    if x.pend then L.settleLine i 0 else L
  else L

/-! ### GOOSE trip publications (R147, R148) -/

/-- A publication's schedule. -/
def Lane.pub (L : Lane) (g : Nat) : GoosePub := L.trip.pubs.getD g .fresh

/-- The lane with a publication's schedule replaced. -/
def Lane.setPub (L : Lane) (g : Nat) (x : GoosePub) : Lane :=
  { L with trip := { L.trip with pubs := L.trip.pubs.put g x } }

/-- The members of a publication with their test bits, as latched. -/
def Lane.pubMembers (L : Lane) (g : Nat) : List (Bool × Bool) :=
  (List.range (L.fld .TRM_GP_CFG 4 0 g)).map (fun m =>
    (L.trip.gb.testBit (16 * g + m), L.flag .TRM_GP_CFG 30 g && L.trip.gbT.testBit (16 * g + m)))

/-- Datum ns as UtcTime: the offset is taken off while one is held (R147). [log 59 DEDUCED] -/
def Lane.utcOf (L : Lane) (t : Int) : Int :=
  if L.flag .DTM_UTC 31 then t - signed 16 (L.fld .DTM_UTC 15 0) * 1000000000 else t

/-- The TimeQuality octet of R147. -/
def Lane.timeQuality (L : Lane) : Nat :=
  128 * bnat (L.flag .DTM_UTC 31) + 32 * bnat (L.flag .LCT_TRAV_STAT 24) + 20

/-- The octets of a BER element of `n` content octets under a one-octet tag. [log 59 DEDUCED] -/
def tlv (n : Nat) : Nat := n + (if n < 128 then 2 else if n < 256 then 3 else 4)

/-- The octets of an unsigned number as a BER INTEGER. [log 59 DEDUCED] -/
def berInt (v : Nat) : Nat := tlv (v.log2 / 8 + 1 + (if v.log2 % 8 = 7 then 1 else 0))

/-- The length of a GOOSE frame, from destination address to FCS. [log 59 DEDUCED] -/
def gooseLen (f : GooseFrame) : Nat :=
  let data := (f.members.map (fun m => 3 + (if m.2.isSome then 5 else 0))).sum
  let apdu := tlv f.gocbRef.length + berInt f.tal + tlv f.datSet.length + tlv f.goId.length + tlv 8 + berInt f.stNum +
    berInt f.sqNum + 3 + berInt f.confRev + 3 + berInt f.members.length + tlv data
  max 64 (14 + (if f.tag.isSome then 4 else 0) + 8 + tlv apdu + (if f.ext.isSome then 32 else 0) + 4)

/-- The authentication part of a frame the lane builds, by its mode and key slot (R147, R155). -/
def Lane.ownExt (L : Lane) (mode slot : Nat) : Option SecExt :=
  if mode = 0 then none else
  match (L.keySlot slot).cur with
  | some k => some ⟨false, if mode = 1 then 128 else 256, k.id, true⟩
  | none => some ⟨false, if mode = 1 then 128 else 256, 0, false⟩

/-- The ports of a PORTS field as a mask. -/
def Lane.firstMac (L : Lane) (mask : Nat) : Nat :=
  L.portMac (((List.range 4).find? (fun p => mask.testBit p)).getD 0)

/-- Builds a publication's frame (R147); `ahead` is the interval to the next frame in ticks. [log 59 DEDUCED] -/
def Lane.pubFrame (L : Lane) (g : Nat) (x : GoosePub) (ahead : Nat) : GooseFrame :=
  let names := L.img.goose.getD g ([], [], [], 0)
  let qual := L.flag .TRM_GP_CFG 30 g
  { dst := L.fld .TRM_GP_DMAC_HI 15 0 g * 2 ^ 32 + (L.reg .TRM_GP_DMAC_LO g).toNat,
    src := L.firstMac (L.fld .TRM_GP_CFG 27 24 g),
    tag := some ⟨L.fld .TRM_GP_ID 27 16 g, 7⟩, etype := 0x88B8, appId := L.fld .TRM_GP_ID 15 0 g,
    gocbRef := names.1, datSet := names.2.1, goId := names.2.2.1, confRev := names.2.2.2,
    t := L.utcOf x.t, tq := L.timeQuality, tal := ceilDiv (2 * ahead) 96, stNum := x.st, sqNum := x.sq,
    sim := false, test := qual && !x.mem.isEmpty && x.mem.all (·.2), ndsCom := false,
    members := x.mem.map (fun m => (m.1, if qual then some (if m.2 then 2048 else 0) else none)), berOk := true,
    ext := L.ownExt (L.fld .TRM_GP_CFG 29 28 g) (L.fld .TRM_GP_CFG 23 16 g) }

/-- Sends a publication's frame through IN in TC7; a lane without the active role sends none (R235). [log 59 DEDUCED] -/
def Lane.sendPub (L : Lane) (g : Nat) (x : GoosePub) (ahead : Nat) : Lane :=
  let L := L.setPub g { x with sentAt := L.tick }
  if !L.drives then L else
  let f := L.pubFrame g x ahead
  let L := L.sendOwn { dst := f.dst, src := f.src, tag := f.tag, etype := 0x88B8, len := gooseLen f, ecn := none,
                       red := none, body := .goose f } 7 (L.fld .TRM_GP_CFG 27 24 g)
  ((L.setReg .TRM_GP_STNUM (w32 x.st) g).setReg .TRM_GP_SQNUM (w32 x.sq) g).bump .TRM_GP_TXCNT g

/-- stNum or sqNum plus one, past 4,294,967,295 back to 1 (R147). -/
def nextNum (n : Nat) : Nat := if 4294967295 ≤ n then 1 else n + 1

/-- A change frame, or a publication's first: it carries the members as latched and restarts the repeats (R148). -/
def Lane.sendChange (L : Lane) (g : Nat) : Lane :=
  let x := L.pub g
  let every := min (L.fld .TRM_GP_REP0 15 0 g) (L.fld .TRM_GP_HB 19 0 g)
  let x := { x with mem := L.pubMembers g, st := if x.begun then nextNum x.st else 1, sq := 0, t := (L.refEdge + 3500 : Nat),
                    every := every, next := L.tick + every, begun := true, force := false, want := 0 }
  L.sendPub g x every

/-- A repeat of the frame before (R148). -/
def Lane.sendRepeat (L : Lane) (g : Nat) : Lane :=
  let x := L.pub g
  let every := min (2 * x.every) (L.fld .TRM_GP_HB 19 0 g)
  L.sendPub g { x with sq := nextNum x.sq, every := every, next := L.tick + every, want := 0 } every

/-- A repeat of a publication falls due in this tick and has not been asked for (R148). -/
def Lane.repeatDue (L : Lane) (g : Nat) : Bool :=
  let x := L.pub g
  L.flag .TRM_GP_CFG 31 g && x.begun && x.next == L.tick && x.sentAt != L.tick

/-- Frames that wait for the latch leave in the order G0 to G3: none passes a publication with a lower number whose
repeat is due in this tick (R148). [log 148 DEDUCED] -/
def pubDrain : List Nat → Lane → Lane
  | [], L => L
  | g :: t, L =>
    match (L.pub g).want with
    | 0 => if L.repeatDue g then L else pubDrain t L
    | 1 => pubDrain t (L.sendChange g)
    | _ => pubDrain t (L.sendRepeat g)

/-- A publication at the T+3,500 ns latch: a change, or its first frame, waits to leave in this tick (R148).
[log 148 DEDUCED] -/
def Lane.pubLatch (L : Lane) (g : Nat) : Lane :=
  let x := L.pub g
  if !L.flag .TRM_GP_CFG 31 g || (x.begun && (x.sentAt == L.tick || (!x.force && x.mem == L.pubMembers g))) then L
  else L.setPub g { x with want := 1 }

/-- A repeat whose interval has run enters the TC7 queue at the latch of the tick (R148). [log 148 DEDUCED] -/
def Lane.gooseRepeat (g : Nat) (L : Lane) : Lane :=
  let x := L.pub g
  if !L.flag .TRM_GP_CFG 31 g || L.trip.stop || !x.begun || L.tick < x.next || x.sentAt = L.tick || x.want != 0 then L
  else
    let L := L.setPub g { x with want := 2 }
    if L.trav.done.testBit 6 then pubDrain (List.range 4) L else L

/-- Publications stop (R149), with the condition code of the event. -/
def Lane.pubsStop (L : Lane) (cond : Nat) (time : Int) : Lane :=
  if L.trip.stop then L else
  let L := (({ L with trip := { L.trip with stop := true, pubs := L.trip.pubs.mapv (fun _ x => { x with want := 0 }) } } : Lane).setFlag
    .TRM_STAT 30 true)
  foldTo 4 (fun (L : Lane) g => if L.flag .TRM_GP_CFG 31 g then L.raise (60 + g) 0x01 time (leBytes 1 cond) else L) L

/-- Publications run again. -/
def Lane.pubsStart (L : Lane) (time : Int) : Lane :=
  if !L.trip.stop then L else
  let L := (({ L with trip := { L.trip with stop := false } } : Lane).setFlag .TRM_STAT 30 false)
  foldTo 4 (fun (L : Lane) g => if L.flag .TRM_GP_CFG 31 g then L.raise (60 + g) 0x02 time else L) L

/-! ### The T+3,500 ns latch (R138) -/

/-- The trip-matrix phase and its latch. At Level 2 the matrix is stopped: no term demand, triggers and flags 0; in a
freeze tick the held demand drives the lines and everything else stands (R149, R223). -/
def Lane.tripMatrixLatch (L : Lane) : Lane :=
  if 3 ≤ L.level || !L.inService then L else
  let r : Lane × Dests :=
    if L.frozen then (L, ⟨L.trip.tm, L.trip.gb, L.trip.gb - (L.trip.gb &&& L.trip.gbT), L.trip.trg, L.trip.flg⟩)
    else if L.level = 2 then (L, ⟨0, L.trip.gb, L.trip.gb - (L.trip.gb &&& L.trip.gbT), 0, 0⟩)
    else L.evalTerms
  let d := r.2
  let L := { r.1 with trip := { r.1.trip with tm := d.tl, gb := d.gb, gbT := d.gb - (d.gb &&& d.gbN), trg := d.trg, flg := d.flg } }
  let L := foldTo 16 (fun (L : Lane) i => L.latchLine d.tl i) L
  let L := if L.level = 2 || L.trip.stop then L
           else pubDrain (List.range 4) (if L.frozen then L else foldTo 4 (fun (L : Lane) g => L.pubLatch g) L)
  L.markDone 6

/-- READBACK at T+9,000 ns (R143): `levels` are the output levels read back, bit i for line i. -/
def Lane.readback (levels : Nat) (L : Lane) : Lane :=
  if !L.inService then L else
  foldTo 16 (fun (L : Lane) i =>
    let x := L.line i
    let want := L.lineLevel i
    if levels.testBit i == want then L.setLine i { x with mism := 0 }
    else
      let L := L.setLine i { x with mism := min 2 (x.mism + 1) }
      if 1 ≤ x.mism && !L.flag .TRM_TL_RDBK i then
        (L.setFlag .TRM_TL_RDBK i true).raise (36 + i) 0x04 (L.refEdge + 9000 : Nat) (leBytes 1 (bnat want))
      else L) L

/-! ### Lock, closure (R146) -/

/-- The backstop lock is set by PF0 at once; a lock already set, or a write by another function or of 0, changes
nothing. [log 60 DEDUCED] -/
def Lane.bspLock (fn : Nat) (w : Word) (now : Int) (L : Lane) : Lane :=
  if fn != 0 || !bit w 0 || L.flag .TRM_BSP_LOCK 0 then L
  else (L.setFlag .TRM_BSP_LOCK 0 true).raise 5 0x01 now

/-- The trip matrix is stopped: no term demand, triggers and flags 0 until it runs again (R149). -/
def Lane.matrixStop (L : Lane) : Lane :=
  let L : Lane := { L with trip := { L.trip with tm := 0, trg := 0, flg := 0 } }
  let L := ((L.setReg .TRM_TRG 0#32).setReg .TRM_FLG_LO 0#32).setReg .TRM_FLG_HI 0#32
  ((L.setReg .ILU_FLAG 0#32 254).setReg .ILU_FLAG 0#32 255).setFlag .TRM_STAT 31 false

/-- At closure the registers take the states as latched, and the matrix's flags become ILU flags 8,128 to 8,191
(R139). -/
def Lane.tripPublish (L : Lane) : Lane :=
  let t := L.trip
  let L := L.setReg .TRM_TL_STATE (w32 (bitsWhere (fun i => (L.line i).sealed) 16 * 65536 + bitsWhere (fun i => (L.line i).trip) 16))
  let L := (L.setReg .TRM_GB_LO (w32 t.gb)).setReg .TRM_GB_HI (w32 (t.gb / 2 ^ 32))
  let L := (L.setReg .TRM_TRG (w32 t.trg)).setReg .TRM_FLG_LO (w32 t.flg)
  let L := L.setReg .TRM_FLG_HI (w32 (t.flg / 2 ^ 32))
  let L := (L.setReg .ILU_FLAG (w32 t.flg) 254).setReg .ILU_FLAG (w32 (t.flg / 2 ^ 32)) 255
  let L := (L.setFld .TRM_STAT 23 16 t.bsp).setFlag .TRM_STAT 31 (decide (L.level ≤ 1))
  foldTo 16 (fun (L : Lane) i =>
    L.setReg .TRM_TL_AGE (w32 (min 65535 (L.tick - (L.line i).ta))) i) L

/-! ### Meanings -/

/-- BACKSTOP_LATCH (R140, R145). -/
def execBackstopLatch (lane : LaneId) (s : State) : Host.Outcome State Fault Refusal := onLane lane Lane.backstopLatch s

/-- GOOSE_REPEAT (R148). -/
def execGooseRepeat (lane : LaneId) (pub : Nat) (s : State) : Host.Outcome State Fault Refusal :=
  onLane lane (Lane.gooseRepeat pub) s

/-- READBACK (R143). -/
def execReadback (lane : LaneId) (levels : Nat) (s : State) : Host.Outcome State Fault Refusal :=
  onLane lane (Lane.readback levels) s

/-- BSP_LOCK (R146). -/
def execBspLock (lane : LaneId) (fn : Nat) (w : Word) (now : Int) (s : State) : Host.Outcome State Fault Refusal :=
  onLane lane (Lane.bspLock fn w now) s

end Sys2Proof.Machine
end

