-- ==== Sys2Proof/Machine/Parcel.lean ====
section
/-! DEFINITION. Parcels: cycles, input blocks, stores through the guard, publication, stops and control (R164 to
R188, R470). -/

namespace Sys2Proof.Machine

open Sys2Proof

/-- A parcel. -/
def Lane.parcel (L : Lane) (p : Nat) : Parcel := L.pcl.getD p .fresh

/-- The lane with a parcel replaced. -/
def Lane.setParcel (L : Lane) (p : Nat) (x : Parcel) : Lane := { L with pcl := L.pcl.put p x }

/-- Unloaded: a state of LCT_PCL_STAT. -/
def pUnloaded : Nat := 0
/-- Loaded. -/
def pLoaded : Nat := 1
/-- Running. -/
def pRunning : Nat := 2
/-- Stopped. -/
def pStopped : Nat := 3
/-- Frozen. -/
def pFrozen : Nat := 4

/-- A parcel's state (R185). -/
def Lane.pState (L : Lane) (p : Nat) : Nat := L.fld .LCT_PCL_STAT 31 29 p

/-- Fallbacks are in force. -/
def Lane.pFb (L : Lane) (p : Nat) : Bool := L.flag .LCT_PCL_STAT 28 p

/-- A cycle is in progress. -/
def Lane.pIncyc (L : Lane) (p : Nat) : Bool := L.flag .LCT_PCL_STAT 27 p

/-- N, at least 1. [log 134 DESIGN CHOICE] -/
def Lane.pN (L : Lane) (p : Nat) : Nat := max 1 (L.fld .LCT_PCL_SCHED 31 16 p)

/-- PHASE. -/
def Lane.pPhase (L : Lane) (p : Nat) : Nat := L.fld .LCT_PCL_SCHED 15 0 p

/-- A tick is a cycle-start tick of a parcel (R170). -/
def Lane.cycleTick (L : Lane) (p t : Nat) : Bool := t % L.pN p == L.pPhase p

/-- The first cycle-start tick from a tick on. -/
def Lane.firstCycle (L : Lane) (p a : Nat) : Nat := a + (L.pPhase p + L.pN p - a % L.pN p) % L.pN p

/-- An empty image, for a parcel without one. -/
def noImg : ParcelImg :=
  { strands := [], n := 1, phase := 0, hist := false, items := [], chans := [], chains := [], cmds := [], fbVal := ⟨[]⟩,
    fbBits := ⟨[]⟩, fbCmd := ⟨[]⟩, crit := (0, 0), lpddr := (0, 0), dstate := (0, 0), init := [], ok := false }

/-- A parcel's image. -/
def Parcel.image (x : Parcel) : ParcelImg := x.img.getD noImg

/-! ### Input blocks (R173) -/

/-- The status octet of a history channel item, service view (R173), for value `i` of the stream. -/
def histStatus (r : TickRead) (i : Nat) : Nat :=
  let s := r.svc
  32 * bnat r.svcV.stale + 16 * bnat r.svcV.lost + 8 * bnat (s.any (·.sync)) + 4 * bnat (s.any (fun z => !z.sync)) +
    2 * bnat (s.any (·.questAt i)) + bnat (s.any (·.test))

/-- The eight octets of a history channel at a tick (R173, R174). [log 46 DEDUCED] -/
def Lane.histEntry (L : Lane) (ch k : Nat) : List Byte :=
  match L.chanOf ch with
  | none => leBytes 8 (2 ^ 44)
  | some (n, i) =>
    match (L.stream n).atTick k with
    | none => leBytes 8 (2 ^ 45)
    | some r =>
      let v := (r.svc.map (fun s => s.vals.getD i 0)).getD 0
      let q := (r.svc.map (fun s => s.qual.getD i 0)).getD 0
      leBytes 4 (w32i v).toNat ++ leBytes 1 q ++ leBytes 1 (histStatus r i) ++ leBytes 2 0

/-- The sixteen octets of a ring entry of R93. -/
def derBytes (o : DerOut) : List Byte :=
  leBytes 4 o.val.toNat ++ leBytes 1 o.status ++ leBytes 1 0 ++ leBytes 2 (o.tick % 65536) ++ leBytes 8 (wrap 64 o.inst)

/-- The sixteen octets of a wavefront event (R97). -/
def wfBytes (e : WfEvent) : List Byte :=
  leBytes 8 (wrap 64 e.time) ++ leBytes 4 (wrap 32 e.amp) ++ leBytes 2 e.seq ++
  leBytes 1 (128 * bnat e.neg + 64 * bnat e.clip + 32 * bnat e.test + 16 * bnat e.at_ + 4 * (e.chain % 4)) ++ leBytes 1 e.kspan

/-- Wavefront events entered since a parcel's last block, oldest first. -/
def Lane.wfNew (L : Lane) (x : Parcel) : List WfEvent :=
  let total := ((List.range 4).map (fun b => (L.reg .CND_WF_EVCNT b).toNat)).sum
  (L.cond.ring.take (total - x.wfSeen)).reverse

/-- An item's octets (R173); a slot whose ROUTE.SNAP is clear does not appear in the snapshot (R126). -/
def Lane.itemBytes (L : Lane) (x : Parcel) : InItem → List Byte
  | .el s =>
    if !bit (dRoute ((L.desc s).getD [])) 29 then leBytes 8 0
    else let o := L.elCur s; leBytes 4 o.val.toNat ++ leBytes 4 (o.tcnt % 2 ^ 24 + o.status * 2 ^ 24)
  | .chain c => derBytes (L.derived c)
  | .hist ch => L.histEntry ch L.tick
  | .ilu j => leBytes 4 (L.reg .ILU_FLAG (2 * j)).toNat ++ leBytes 4 (L.reg .ILU_FLAG (2 * j + 1)).toNat
  | .outVal p o => leBytes 4 (L.pclVal p o).toNat ++ leBytes 1 (bnat (L.pFb p)) ++ leBytes 3 0
  | .outBits p => leBytes 8 (L.parcel p).pubBits
  | .wavefront wmax =>
    let all := L.wfNew x
    let got := all.drop (all.length - wmax)
    let seq := ((got.getLast?).map (·.seq)).getD 0
    leBytes 2 seq ++ leBytes 1 got.length ++ leBytes 1 (bnat (decide (wmax < all.length))) ++ leBytes 4 0 ++
      got.flatMap wfBytes ++ List.replicate (16 * (wmax - got.length)) 0#8

/-- The trip-matrix words of the header, octets 0x20 to 0x3F (R173). -/
def Lane.tripWords (L : Lane) : List Byte :=
  leBytes 2 (bitsWhere (fun i => (L.line i).trip) 16) ++ leBytes 1 L.trip.bsp ++ leBytes 1 0 ++ leBytes 4 L.trip.trg ++
  leBytes 8 L.trip.gb ++ leBytes 8 L.trip.flg ++ leBytes 8 0

/-- A parcel's input block at the start of a cycle. -/
def Lane.inputBlock (L : Lane) (x : Parcel) : List Byte :=
  let items := x.image.items
  leBytes 8 L.tick ++ leBytes 8 (edgeNs L.tick) ++ leBytes 4 (L.tick % 96000) ++ leBytes 4 x.cycle ++ leBytes 1 L.level ++
  leBytes 1 (bnat (L.flag .LCT_TRAV_STAT 24) + 2 * bnat x.first + 4 * bnat x.missed + 8 * bnat x.restored) ++ leBytes 2 0 ++
  leBytes 4 items.length ++ L.tripWords ++ items.flatMap (L.itemBytes x)

/-! ### Cycles (R170 to R172) -/

/-- A strand at the start of a cycle (R171): ENTRY, sp, a0 and a1, every other register zero. -/
def strandStart (c : StrandCfg) (s : Nat) : Strand :=
  { regs := { pc := c.entry, x := NMap.ofList [(2, BitVec.ofNat 64 c.stack), (10, BitVec.ofNat 64 c.block), (11, BitVec.ofNat 64 s)],
              f := ⟨[]⟩, fcsr := 0, resv := none, tries := 0 }, begun := false, done := false, used := 0 }

/-- A cycle of a parcel begins in the tick in progress (R170, R173, R175). -/
def Lane.beginCycle (L : Lane) (p : Nat) : Lane :=
  let x := L.parcel p
  let img := x.image
  let x := { x with cycle := (x.cycle + 1) % 2 ^ 32, page := x.last, cmdWr := ⟨[]⟩, histRng := false, critWork := x.critDone,
                    start := x.mem, wrBy := ⟨[]⟩,
                    strands := img.strands.zipIdx.map (fun (c : StrandCfg × Nat) => strandStart c.1 c.2) }
  let x := { x with block := L.inputBlock x, first := false, missed := false }
  let total := ((List.range 4).map (fun b => (L.reg .CND_WF_EVCNT b).toNat)).sum
  let x := { x with wfSeen := if img.items.any (fun i => match i with
                                 | .wavefront _ => true
                                 | _ => false) then total else x.wfSeen }
  (L.setParcel p x).setReg .LCT_PCL_STAT (putBits (putBit (L.reg .LCT_PCL_STAT p) 27 true) 15 0 0) p

/-- From T+2,540 ns each parcel whose cycle starts in this tick gets its input block (R173); in a freeze tick no cycle
begins. -/
def Lane.inputBlockCopy (L : Lane) : Lane :=
  if 2 ≤ L.level || L.frozen || !L.inService then L else
  foldTo 16 (fun (L : Lane) p =>
    if L.pState p = pRunning && !L.pIncyc p && L.cycleTick p L.tick then L.beginCycle p else L) L

/-- At the T+3,500 ns latch the header's trip-matrix words are written (R173). -/
def Lane.blockTrip (L : Lane) : Lane :=
  foldTo 16 (fun (L : Lane) p =>
    let x := L.parcel p
    if L.pState p = pRunning && L.pIncyc p && L.cycleTick p L.tick then
      L.setParcel p { x with block := x.block.take 32 ++ L.tripWords ++ x.block.drop 64 } else L) L

/-! ### Slices and stores (R167, R168, R175 to R179) -/

/-- A strand of a parcel. -/
def Parcel.strand (x : Parcel) (s : Nat) : Option Strand := (x.strands.drop s).head?

/-- The parcel with a strand replaced. -/
def Parcel.setStrand (x : Parcel) (s : Nat) (y : Strand) : Parcel := { x with strands := x.strands.set s y }

/-- The strand of a parcel that runs on a core. -/
def Parcel.strandOn (x : Parcel) (core : Nat) : Option Nat :=
  (x.image.strands.zipIdx.find? (fun c => c.1.core == core)).map (·.2)

/-- A parcel owns a command channel (R150, R176). -/
def Lane.ownsCmd (L : Lane) (p c : Nat) : Bool :=
  decide (c < 64) && L.fld .CMD_CH_CFG 30 28 c == 1 && L.fld .CMD_CH_CFG 3 0 c == p

/-- A strand may run: its lane is in service below Level 2, its parcel is RUNNING in a cycle and not halted, and the
strand has not written DONE. -/
def Lane.canRun (L : Lane) (p s : Nat) : Bool :=
  let x := L.parcel p
  L.pState p = pRunning && L.pIncyc p && !x.halt && (x.strand s).any (fun y => !y.done) && !L.frozen && decide (L.level < 2) &&
  L.inService

/-- The power domain of an application core is on (R188, R380). -/
def Lane.coreOn (L : Lane) (core : Nat) : Bool := L.flag .PWR_PD (if core < 4 then 18 else 19)

/-- An interval of octets lies within a region. -/
def within (r : Nat × Nat) (a n : Nat) : Bool := decide (r.1 ≤ a ∧ a + n ≤ r.1 + r.2)

/-- The octets of an item in the input block (R173). -/
def itemLen : InItem → Nat
  | .chain _ => 16
  | .wavefront w => 8 + 16 * w
  | _ => 8

/-- The octets of a parcel's input block (R173). -/
def blockLen (img : ParcelImg) : Nat := 64 + (img.items.map itemLen).sum

/-- The regions a grant gives a strand (R178, R179). -/
def grantRegions (img : ParcelImg) (s : Nat) : List Region :=
  (match (img.strands.drop s).head? with
   | none => []
   | some c => [⟨c.code.1, c.code.2, true, false, true⟩, ⟨c.data.1, c.data.2, true, true, false⟩,
                ⟨c.block, blockLen img, true, false, false⟩]) ++
  [⟨0x08000000, 0x1000, true, true, false⟩, ⟨0x08001000 + s * 0x1000, 0x1000, true, true, false⟩,
   ⟨0x08001000, 0x8000, true, false, false⟩, ⟨img.crit.1, img.crit.2, true, true, false⟩,
   ⟨0x10000000, 0x4000, true, false, false⟩, ⟨img.lpddr.1, img.lpddr.2, true, true, false⟩] ++
  (if img.hist then [⟨0x20000000, 0x1000000, true, false, false⟩] else [])

/-- At a slice boundary the core takes the incoming strand with its grant (R168, R179). -/
def Lane.sliceStart (core p : Nat) (L : Lane) : Lane :=
  match (L.parcel p).strandOn core with
  | none => { L with cores := L.cores.del core }
  | some s =>
    if !L.canRun p s || !L.coreOn core then { L with cores := L.cores.del core } else
    let x := L.parcel p
    let L := match x.strand s with
      | some y => L.setParcel p (x.setStrand s { y with begun := true })
      | none => L
    { L with cores := L.cores.put core ⟨p, s, grantRegions x.image s⟩ }

/-- What the core that runs a strand holds: none unless a slice of the strand is in progress, the strand may run and the
core has power (R167, R188). -/
def Lane.running (L : Lane) (p s : Nat) : Option OnCore :=
  match L.cores.cells.find? (fun c => c.2.p == p && c.2.s == s) with
  | none => none
  | some c => if L.canRun p s && L.coreOn c.1 then some c.2 else none

/-! ### What a strand reads and writes (R174 to R179) -/

/-- What a read answers: a number, least significant octet first, and whether it set HIST_RANGE; a guard violation by
code; or an access-fault trap. -/
inductive BusRead
  | data (v : Nat) (rng : Bool)
  | viol (code : Nat)
  | fault
  deriving DecidableEq, Repr

/-- What a write does: it changes the parcel's memory; ends the strand's cycle; writes command channels; is a guard
violation by code; or an access-fault trap. -/
inductive BusWrite
  | mem (x : Parcel)
  | done
  | cmd (l : List (Nat × Word))
  | viol (code : Nat)
  | fault
  deriving DecidableEq, Repr

/-- A region list lets an access of `n` octets pass. -/
def pmpOk (g : List Region) (ok : Region → Bool) (a n : Nat) : Bool := g.any (fun r => ok r && within (r.base, r.len) a n)

/-- An octet of the output page as a strand of its parcel reads it (R175): what strand 0 has written in this cycle only
strand 0 sees (R177). [log 174 DEDUCED] -/
def Parcel.pageByte (x : Parcel) (s o : Nat) : Byte :=
  if o < 0x108 then memGet (if s = 0 then x.page else x.last) o
  else if 0x300 ≤ o ∧ o < 0x308 then
    if s = 0 then BitVec.ofNat 8 (bitsWhere (fun c => (x.cmdWr.get? c).isSome) 64 / 2 ^ (8 * (o - 0x300))) else 0#8
  else if o = 0x3F8 then BitVec.ofNat 8 (bnat x.histRng)
  else if 0x3F9 ≤ o ∧ o < 0x3FC then 0#8
  else Config.pageRead o

/-- An octet of a memory that the strands of a parcel share, as a strand sees it: as the cycle found it where another
strand has written it since (R177). [log 174 DEDUCED] -/
def Parcel.sees (x : Parcel) (s a : Nat) (cur start : ByteMem) : Byte :=
  if (x.wrBy.get? a).any (· != s) then memGet start a else memGet cur a

/-- A strand has written `n` octets of a shared memory in this cycle. -/
def Parcel.wrote (x : Parcel) (s a n : Nat) : Parcel :=
  { x with wrBy := (List.range n).foldl (fun m i => m.put (a + i) s) x.wrBy }

/-- An octet of the scale table (R178). -/
def Lane.scaleByte (L : Lane) (o : Nat) : Byte :=
  let w := L.reg (if o % 8 < 4 then .FAB_CH_SCALE else .FAB_CH_OFS) (o / 8)
  BitVec.ofNat 8 (w.toNat / 2 ^ (8 * (o % 4)))

/-- The number of `n` octets given one by one. -/
def octets (n : Nat) (f : Nat → Byte) : Nat := ofLe ((List.range n).map f)

/-- A read of the history aperture (R174): the number and HIST_RANGE, or none where it is not permitted. -/
def Lane.aperture (L : Lane) (p ch age : Nat) : Option (List Byte × Bool) :=
  let x := L.parcel p
  if !x.image.hist || decide (1024 < L.pN p) || !x.image.chans.contains ch then none
  else if 1024 - L.pN p < age then some (leBytes 8 0, true)
  else some (L.histEntry ch (L.tick - L.fld .LCT_PCL_STAT 15 0 p - age), false)

/-- A read of `n` octets by a strand (R174 to R179). A TCM access never leaves the core: the PMP alone judges it; the
guard judges every other. [log 150 DESIGN CHOICE] -/
def Lane.busRead (L : Lane) (p s : Nat) (g : List Region) (a n : Nat) : BusRead :=
  let x := L.parcel p
  let img := x.image
  let o := a % 2 ^ 24
  if a < 0x40000 then
    if !pmpOk g (·.r) a n then .fault
    else
      let blk := ((img.strands.drop s).head?).map (fun c => (c.block, blockLen img))
      match blk with
      | some b => if within b a n then .data (leAt x.block (a - b.1) n) false
                  else .data (octets n (fun i => memGet x.mem (s * 2 ^ 32 + a + i))) false
      | none => .fault
  else if within (0x08000000, 0x1000) a n then .data (octets n (fun i => x.pageByte s (a - 0x08000000 + i))) false
  else if within (0x08001000, 0x8000) a n then
    let m := if (a - 0x08001000) / 0x1000 = s then x.mailCur else x.mailPub
    .data (octets n (fun i => memGet m (a - 0x08001000 + i))) false
  else if within img.crit a n && within (0x09000000, 0x10000) a n then .data (octets n (fun i => x.sees s (a + i) x.critWork x.critDone)) false
  else if within (0x10000000, 0x4000) a n then
    if (List.range n).all (fun i => img.chans.contains ((a - 0x10000000 + i) / 8)) then
      .data (octets n (fun i => L.scaleByte (a - 0x10000000 + i))) false
    else .viol 0x01
  else if within (0x20000000, 0x1000000) a n then
    match L.aperture p (o / 0x2000) (o % 0x2000 / 8) with
    | none => .viol 0x04
    | some e => .data (leAt e.1 (o % 8) n) e.2
  else if within img.lpddr a n && within (0x40000000, 0x8000000) a n then
    .data (octets n (fun i => x.sees s (a + i) x.mem x.start)) false
  else .viol 0x01

/-- The command channels that a write of `n` octets at an offset of CMD_WR names, with their values; octets that the
write leaves out stay as last written. [log 150 DESIGN CHOICE] -/
def Parcel.cmdWords (x : Parcel) (o : Nat) (bs : List Byte) : List (Nat × Word) :=
  if 8 ≤ bs.length then [(o / 4, w32 (leAt bs 0 4)), (o / 4 + 1, w32 (leAt bs 4 4))]
  else
    let old := leBytes 4 (x.cmdWr.getD (o / 4) 0).toNat
    [(o / 4, w32 (ofLe (old.take (o % 4) ++ bs ++ old.drop (o % 4 + bs.length))))]

/-- The granules of 1 KiB that a store touches become dirty in a tracked parcel (R320). -/
def Parcel.touch (x : Parcel) (s a : Nat) : Parcel :=
  let g := (if a < 0x40000 then s * 2 ^ 22 else 0) + a / 1024
  { x with dirty := x.dirty.map (fun d => if d.any (fun r => decide (r.1 ≤ g ∧ g ≤ r.2)) then d else d ++ [(g, g)]) }

/-- Every granule that a migration copies: TCM data and stack of each strand, the output page, mailboxes, critical state
and the LPDDR allocation (R320). -/
def imgGranules (img : ParcelImg) : List (Nat × Nat) :=
  let range := fun (base : Nat) (r : Nat × Nat) => if r.2 = 0 then [] else [(base + r.1 / 1024, base + (r.1 + r.2 - 1) / 1024)]
  (img.strands.zipIdx.flatMap (fun s => range (s.2 * 2 ^ 22) s.1.data)) ++
  range 0 (0x08000000, 0x1000) ++ range 0 (0x08001000, 0x1000 * img.strands.length) ++ range 0 img.crit ++ range 0 img.lpddr

/-- A write of octets by a strand (R175 to R179). [log 150 DESIGN CHOICE] -/
def Lane.busWrite (L : Lane) (p s : Nat) (g : List Region) (a : Nat) (bs : List Byte) : BusWrite :=
  let x := L.parcel p
  let y := x.touch s a
  let img := x.image
  let n := bs.length
  if a < 0x40000 then
    if pmpOk g (·.w) a n then .mem { y with mem := memWrite x.mem (s * 2 ^ 32 + a) bs } else .fault
  else if within (0x08000000, 0x1000) a n then
    let o := a - 0x08000000
    if 0x3F0 ≤ o ∧ o < 0x3F8 then .done
    else if s ≠ 0 then .viol 0x06
    else if o + n ≤ 0x108 then .mem { y with page := memWrite x.page o bs }
    else if 0x200 ≤ o ∧ o < 0x300 then
      let l := x.cmdWords (o - 0x200) bs
      if l.all (fun c => L.ownsCmd p c.1) then .cmd l else .viol 0x05
    else .viol 0x02
  else if within (0x08001000, 0x8000) a n then
    if (a - 0x08001000) / 0x1000 = s then .mem { y with mailCur := memWrite x.mailCur (a - 0x08001000) bs } else .viol 0x07
  else if within img.crit a n && within (0x09000000, 0x10000) a n then
    .mem { y.wrote s a n with critWork := memWrite x.critWork a bs }
  else if within img.lpddr a n && within (0x40000000, 0x8000000) a n then
    .mem { y.wrote s a n with mem := memWrite x.mem a bs }
  else if within (0x10000000, 0x4000) a n || within (0x20000000, 0x1000000) a n then .viol 0x02
  else .viol 0x01

/-! ### One instruction of a strand (R164, R165, R170 to R179) -/

/-- What the next instruction of a strand does: new registers; a store; a write to DONE; writes to command channels; an
aperture read at an address, with HIST_RANGE; a guard violation by code and address; a trap by cause and value. -/
inductive StepOut
  | regs (r : StrandRegs)
  | store (x : Parcel) (r : StrandRegs)
  | done (r : StrandRegs)
  | cmd (l : List (Nat × Word)) (r : StrandRegs)
  | aper (addr : Nat) (rng : Bool) (r : StrandRegs)
  | viol (code addr : Nat)
  | trap (cause tval : Nat)
  deriving DecidableEq, Repr

/-- The 16 bits at an address of the code, or why they cannot be fetched (R178, R179). -/
def Lane.fetch16 (L : Lane) (p s : Nat) (g : List Region) (a : Nat) : Nat ⊕ StepOut :=
  if pmpOk g (·.x) a 2 then .inl (octets 2 (fun i => memGet (L.parcel p).mem (s * 2 ^ 32 + a + i)))
  else .inr (if a < 0x40000 then .trap 1 a else .viol 0x03 a)

/-- What a write leads to. -/
def storeOut (w : BusWrite) (a : Nat) (r : StrandRegs) : StepOut :=
  match w with
  | .mem x => .store x r
  | .done => .done r
  | .cmd l => .cmd l r
  | .viol c => .viol c a
  | .fault => .trap 7 a

/-- What an instruction's request leads to through the guard. [log 150 DESIGN CHOICE] -/
def Lane.actOut (L : Lane) (p s : Nat) (g : List Region) : CoreAct → StepOut
  | .regs r => .regs r
  | .trap c v => .trap c v
  | .load a n put =>
    match L.busRead p s g a n with
    | .data v rng => if within (0x20000000, 0x1000000) a n then .aper a rng (put v) else .regs (put v)
    | .viol c => .viol c a
    | .fault => .trap 5 a
  | .store a n v r => storeOut (L.busWrite p s g a (leBytes n v)) a r
  | .cond a n v done _ =>
    (match L.busWrite p s g a (leBytes n v) with
     | .mem x => .store x done
     | .viol c => .viol c a
     | .fault => .trap 7 a
     | _ => .viol 0x02 a)
  | .amo a n op put =>
    match L.busRead p s g a n with
    | .viol c => .viol c a
    | .fault => .trap 7 a
    | .data old _ =>
      match L.busWrite p s g a (leBytes n (op old)) with
      | .mem x => .store x (put old)
      | .viol c => .viol c a
      | .fault => .trap 7 a
      | _ => .viol 0x02 a

/-- What the next instruction of a strand with these registers does. -/
def Lane.nextOut (L : Lane) (p s : Nat) (g : List Region) (r : StrandRegs) : StepOut :=
  match L.fetch16 p s g r.pc with
  | .inr o => o
  | .inl lo =>
    if lo % 4 = 3 then
      match L.fetch16 p s g (r.pc + 2) with
      | .inr o => o
      | .inl hi => L.actOut p s g (coreAct lo hi r)
    else L.actOut p s g (coreAct lo 0 r)

/-! ### Stops (R184) -/

/-- A trap or a guard violation halts the parcel: the cause and tick are recorded, the event is raised, and from the
next edge it is STOPPED (R184). -/
def Lane.haltParcel (L : Lane) (kind p s cause pc tval : Nat) : Lane :=
  let x := L.parcel p
  let core := ((x.image.strands.drop s).head?.map (·.core)).getD 0
  let trap := w32 (kind * 2 ^ 28 + s % 8 * 2 ^ 25 + core % 8 * 2 ^ 22 + cause % 65536)
  let L := (L.setParcel p { x with halt := true }).setReg .LCT_PCL_TRAP trap p
  let L := L.setNum64 .LCT_PCL_TEPC_LO .LCT_PCL_TEPC_HI pc p
  let L := L.setNum64 .LCT_PCL_TVAL_LO .LCT_PCL_TVAL_HI tval p
  let L := L.setNum64 .LCT_PCL_STOPTK_LO .LCT_PCL_STOPTK_HI L.tick p
  let data := leBytes 4 trap.toNat ++ leBytes 4 0 ++ leBytes 8 (if kind = 1 then pc else tval)
  L.raise (16 + p) (if kind = 1 then 0x02 else 0x03) (edgeNs L.tick : Nat) data

/-! ### Strands run (R167 to R172) -/

/-- What the next instruction of a strand that runs does, with the registers it finds. -/
def Lane.strandNext (L : Lane) (p s : Nat) : Option (StepOut × Strand) :=
  match L.running p s, (L.parcel p).strand s with
  | some c, some y => some (L.nextOut p s c.pmp y.regs, y)
  | _, _ => none

/-- The lane with a strand's part of a parcel written back. -/
def Lane.putStrand (L : Lane) (p s : Nat) (x : Parcel) (y : Strand) : Lane := L.setParcel p (x.setStrand s y)

/-- The effect of an instruction (R172, R174 to R176, R184); a stop leaves no other trace (R179). -/
def Lane.applyOut (L : Lane) (p s : Nat) (y : Strand) : StepOut → Lane
  | .regs r => L.putStrand p s (L.parcel p) { y with regs := r }
  | .store x r => L.putStrand p s x { y with regs := r }
  | .done r => L.putStrand p s (L.parcel p) { y with regs := r, done := true }
  | .cmd l r => L.putStrand p s { L.parcel p with cmdWr := l.foldl (fun m c => m.put c.1 c.2) (L.parcel p).cmdWr } { y with regs := r }
  | .aper _ rng r => L.putStrand p s { L.parcel p with histRng := (L.parcel p).histRng || rng } { y with regs := r }
  | .viol code addr => L.haltParcel 2 p s code y.regs.pc addr
  | .trap cause tval => L.haltParcel 1 p s cause y.regs.pc tval

/-- One instruction of a strand, if it runs. -/
def Lane.strandStep (p s : Nat) (L : Lane) : Lane :=
  match L.strandNext p s with
  | none => L
  | some o => L.applyOut p s o.2 o.1

/-- Instructions of a strand, one after another. [log 65 DESIGN CHOICE] -/
def Lane.strandSteps (p s : Nat) : Nat → Lane → Lane
  | 0, L => L
  | n + 1, L => Lane.strandSteps p s n (L.strandStep p s)

/-- A strand runs `n` instructions and then the one that is meant, where its next is of that kind.
[log 65 DESIGN CHOICE] -/
def Lane.runTo (want : StepOut → Bool) (p s n : Nat) (L : Lane) : Lane :=
  let L := L.strandSteps p s n
  match L.strandNext p s with
  | none => L
  | some o => if want o.1 then L.applyOut p s o.2 o.1 else L

/-- Core cycles that a strand used are counted. -/
def Lane.useCycles (L : Lane) (p s n : Nat) : Lane :=
  match (L.parcel p).strand s with
  | none => L
  | some y => L.putStrand p s (L.parcel p) { y with used := y.used + n }

/-- The strand in its slice runs the instructions left to it, and at its slice end is suspended with its registers as
they stand (R168, R170). [log 65 DESIGN CHOICE] -/
def Lane.sliceEnd (core p n cycles : Nat) (L : Lane) : Lane :=
  match L.cores.get? core with
  | none => L
  | some c =>
    if c.p != p then L else
    let L := (L.strandSteps c.p c.s n).useCycles c.p c.s cycles
    { L with cores := L.cores.del core }

/-- A write to DONE. -/
def StepOut.isDone : StepOut → Bool
  | .done _ => true
  | _ => false

/-- A write of a value to a channel's CMD_WR, or one of that channel that is not permitted. -/
def StepOut.isCmd (ch : Nat) (v : Word) : StepOut → Bool
  | .cmd l _ => l.contains (ch, v)
  | .viol c a => (c == 0x05 || c == 0x06) && within (0x08000200 + 4 * ch, 4) a 1
  | _ => false

/-- A read of a channel's entry of an age in the history aperture, permitted or not. -/
def StepOut.isAperture (ch age : Nat) : StepOut → Bool
  | .aper a _ _ => within (0x20000000 + 0x2000 * ch + 8 * age, 8) a 1
  | .viol c a => c == 0x04 && within (0x20000000 + 0x2000 * ch + 8 * age, 8) a 1
  | _ => false

/-- A guard violation of a code at an address. -/
def StepOut.isViol (code addr : Nat) : StepOut → Bool
  | .viol c a => c == code && a == addr
  | _ => false

/-- A trap of a cause with a trap value. -/
def StepOut.isTrap (cause tval : Nat) : StepOut → Bool
  | .trap c v => c == cause && v == tval
  | _ => false

/-- A strand's write to DONE ends its cycle (R172). [log 65 DESIGN CHOICE] -/
def Lane.strandDone (p s n cycles : Nat) (L : Lane) : Lane :=
  match L.running p s with
  | none => L
  | some _ => (L.runTo StepOut.isDone p s n).useCycles p s cycles

/-! ### What readers see (R183, R185) -/

/-- Outputs of a page as values and bits. -/
def pageOut (m : ByteMem) : NMap Word × Nat :=
  (NMap.ofList ((List.range 64).filterMap (fun o =>
    let w := memWord m (4 * o)
    if w = 0 then none else some (o, w))), ofLe (memRead m 0x100 8))

/-- The fallbacks of a parcel over what was last published (R183). -/
def Parcel.fallback (x : Parcel) : Parcel :=
  let p := pageOut x.last
  let img := x.image
  { x with pubVals := img.fbVal.cells.foldl (fun (m : NMap Word) (c : Nat × Word) => m.put c.1 c.2) p.1,
           pubBits := img.fbBits.cells.foldl (fun b c => if b.testBit c.1 == c.2 then b else if c.2 then b + 2 ^ c.1 else b - 2 ^ c.1) p.2 }

/-- Sets a parcel's STATE and FB. -/
def Lane.setPState (L : Lane) (p st : Nat) (fb : Bool) : Lane :=
  let w := putBits (L.reg .LCT_PCL_STAT p) 31 29 st
  L.setReg .LCT_PCL_STAT (putBits (putBit (putBit w 28 fb) 27 false) 15 0 0) p

/-- A parcel comes to a state in which its fallbacks are in force. -/
def Lane.fallBack (L : Lane) (p st : Nat) : Lane :=
  let x := (L.parcel p).fallback
  (L.setParcel p { x with halt := false, strands := [] }).setPState p st true

/-- A parcel becomes UNLOADED: no image, outputs 0, allocations free (R185). -/
def Lane.unload (L : Lane) (p : Nat) : Lane :=
  let L := ({ L with pcl := L.pcl.del p }).setPState p pUnloaded false
  let L := (L.setReg .LCT_PCL_CFG 0 p).setReg .LCT_PCL_SCHED 0 p
  (L.setReg .LCT_PCL_CORES 0 p).setReg .LCT_PCL_BUDGET 0 p

/-- At an edge parcels that halted are STOPPED, and at Level 2 every parcel that is loaded, for Level 2 where both hold
(R25, R184, R185). -/
def Lane.parcelEdge (L : Lane) : Lane :=
  foldTo 16 (fun (L : Lane) p =>
    if 2 ≤ L.level && L.pState p != pUnloaded && !(L.pState p == pStopped && L.fld .LCT_PCL_TRAP 31 28 p == 3) then
      let L := (L.fallBack p pStopped).setReg .LCT_PCL_TRAP (w32 (3 * 2 ^ 28)) p
      (L.setNum64 .LCT_PCL_STOPTK_LO .LCT_PCL_STOPTK_HI L.tick p).raise (16 + p) 0x04 (L.refEdge : Nat)
    else if (L.parcel p).halt then L.fallBack p pStopped
    else L) L

/-! ### Closure (R41, R172, R175, R181, R182) -/

/-- The CRC-32 a publication adds to the backsight digest (R181): OUT_VAL, OUT_BITS, the targets of the owned channels
in ascending order, and the declared state. -/
def Parcel.digest (x : Parcel) : Nat :=
  let cmds := (List.range 64).filter (fun c => x.image.cmds.contains c)
  crc32 (memRead x.last 0 256 ++ memRead x.last 0x100 8 ++
    cmds.flatMap (fun c => leBytes 4 (x.lastCmd.getD c 0).toNat) ++ memRead x.mem x.image.dstate.1 x.image.dstate.2)

/-- A cycle is published (R172, R175, R182). -/
def Lane.publish (L : Lane) (p : Nat) : Lane :=
  let x := L.parcel p
  let out := pageOut x.page
  let x := { x with last := x.page, lastCmd := x.cmdWr.cells.foldl (fun (m : NMap Word) (c : Nat × Word) => m.put c.1 c.2) x.lastCmd,
                    pubVals := out.1, pubBits := out.2, critDone := x.critWork, mailPub := x.mailCur,
                    restored := false }
  let x := { x with crc := x.digest }
  let use := x.strands.foldl (fun m s => max m s.used) 0
  let L := ((L.setParcel p x).setFlag .LCT_PCL_STAT 28 false p).bump .LCT_PCL_CYCLES p
  if (L.reg .LCT_PCL_USEMAX p).toNat < use then L.setReg .LCT_PCL_USEMAX (w32 use) p else L

/-- A cycle that has not finished is pre-empted: a closure miss (R41). -/
def Lane.missCycle (L : Lane) (p : Nat) : Lane :=
  let x := L.parcel p
  let L := (L.setParcel p { x with missed := true, mailCur := x.mailPub }).bumpSat .LCT_PCL_MISS p
  let L := (L.setFlag .LCT_CLOSURE_STAT 0 true).bumpSat .LCT_CLOSURE_CNT
  L.raise (16 + p) 0x01 (L.refEdge + 10150 : Nat) (leBytes 4 (L.reg .LCT_PCL_MISS p).toNat)

/-- Parcels at closure: the last tick of a cycle publishes it or counts a miss; a halted parcel does neither. -/
def Lane.parcelClose (L : Lane) : Lane :=
  foldTo 16 (fun (L : Lane) p =>
    if L.pState p != pRunning || !L.pIncyc p then L else
    let ran := L.fld .LCT_PCL_STAT 15 0 p + 1
    if ran < L.pN p then L.setFld .LCT_PCL_STAT 15 0 ran p
    else
      let x := L.parcel p
      let L := if x.halt then L else if x.strands.all (·.done) then L.publish p else L.missCycle p
      L.setReg .LCT_PCL_STAT (putBits (putBit (L.reg .LCT_PCL_STAT p) 27 false) 15 0 0) p) L

/-! ### Parcel control (R185, R470) -/

/-- Memory as a LOAD or a restart leaves it: cleared, with the image's initial data (R178). -/
def initMem (img : ParcelImg) : ByteMem :=
  img.init.foldl (fun m w => memWrite m ((if w.2.1 < 0x40000 then w.1 * 2 ^ 32 else 0) + w.2.1) w.2.2) ⟨[]⟩

/-- A checked image is loaded (R185). -/
def Lane.loadParcel (L : Lane) (p : Nat) (img : ParcelImg) (auto : Bool) : Lane :=
  let x := { Parcel.fresh with img := some img, mem := initMem img }
  let cfg := bnat auto * 2 ^ 31 + (img.strands.length - 1) % 8 * 2 ^ 28 + bnat img.hist * 2 ^ 27 + img.crit.2 / 64 % 2048 * 65536 +
    img.dstate.2 / 64 % 128
  let L := ((L.setParcel p x).setReg .LCT_PCL_CFG (w32 cfg) p).setReg .LCT_PCL_SCHED (w32 (img.n * 65536 + img.phase)) p
  let cores := bitsWhere (fun c => img.strands.any (fun s => s.core == c)) 8
  let L := (L.setReg .LCT_PCL_CORES (w32 cores) p).setReg .LCT_PCL_BUDGET (w32 (img.strands.foldl (fun m s => max m s.budget) 0)) p
  (L.setReg .LCT_PCL_TRAP 0 p).fallBack p pLoaded

/-- START or RESTART begins afresh: CYCLE from 0, FIRST set; the first cycle is at the first cycle-start tick (R185). -/
def Lane.runParcel (L : Lane) (p : Nat) (x : Parcel) : Lane :=
  (L.setParcel p { x with cycle := 0, first := true, missed := false, halt := false, strands := [] }).setPState p pRunning (L.pFb p)

/-- RESTART initialises memory; critical state is kept, or cleared (R185). -/
def Parcel.restart (x : Parcel) (clear : Bool) : Parcel :=
  { x with mem := initMem x.image, mailCur := ⟨[]⟩, mailPub := ⟨[]⟩, critWork := if clear then ⟨[]⟩ else x.critDone,
           critDone := if clear then ⟨[]⟩ else x.critDone, restored := x.restored && !clear }

/-- The states an operation is allowed from (R185): 1 LOAD, 2 START, 3 STOP, 4 RESTART, 5 UNLOAD, 6 FREEZE, 7 RESUME. -/
def pclFrom : Nat → List Nat
  | 1 => [0] | 2 => [1] | 3 => [2] | 4 => [2, 3] | 5 => [1, 3] | 6 => [2] | 7 => [4] | _ => []

/-- The state an operation leads to. -/
def pclTo : Nat → Nat
  | 1 => 1 | 2 => 2 | 3 => 1 | 4 => 2 | 5 => 0 | 6 => 4 | _ => 2

/-- A parcel-control operation needs the cores and their TCM: LOAD, START, RESTART, RESUME. -/
def pclNeedsCores (op : Nat) : Bool := op == 1 || op == 2 || op == 4 || op == 7

/-- A parcel-control operation at its apply edge: carried out from a state that allows it, else status STATE; at
Level 2, where no core runs, one that needs cores has status LEVEL (R48, R185, R470). [log 97 DEDUCED] -/
def Lane.pclApply (L : Lane) (id : CmdId) (p op : Nat) (img : ParcelImg) (clear auto : Bool) : Lane :=
  if !(pclFrom op).contains (L.pState p) then L.finish id 0x0006
  else if decide (2 ≤ L.level) && pclNeedsCores op then L.finish id 0x0004
  else
    let x := L.parcel p
    let first := leBytes 8 (L.firstCycle p L.tick)
    match op with
    | 1 => (L.loadParcel p img auto).finish id 0
    | 2 => (L.runParcel p x).finish id 0 first
    | 3 => (L.fallBack p pLoaded).finish id 0
    | 4 => (L.runParcel p (x.restart clear)).finish id 0 first
    | 5 => (L.unload p).finish id 0
    | 6 => (L.setPState p pFrozen (L.pFb p)).finish id 0
    | _ => (L.setPState p pRunning (L.pFb p)).finish id 0 first

/-- Every parcel becomes UNLOADED: lane reset, lane safe state (R185). -/
def Lane.unloadAll (L : Lane) : Lane := foldTo 16 (fun (L : Lane) p => if L.pState p = pUnloaded then L else L.unload p) L

/-- LCT_CORE_STAT follows the loaded parcels' slices. -/
def Lane.showCores (L : Lane) : Lane :=
  foldTo 8 (fun (L : Lane) c =>
    let l := L.pcl.vals.flatMap (fun x => (x.image.strands.filter (fun s => s.core == c)).map (·.len))
    (L.setFlag .LCT_CORE_STAT 31 (!l.isEmpty) c).setFld .LCT_CORE_STAT 12 0 l.sum c) L

/-! ### Checks of a LOAD (R470) -/

/-- A slice's cycles (R169). -/
def sliceCycles (len : Nat) : Nat := len * 17982 / 10000

/-- Two intervals share an octet or an ns. -/
def overlap (a b : Nat × Nat) : Bool := decide (a.1 < b.1 + b.2 ∧ b.1 < a.1 + a.2 ∧ 0 < a.2 ∧ 0 < b.2)

/-- A strand's slice has the form of R168 and its budget fits its slices (R169). -/
def strandOk (n : Nat) (s : StrandCfg) : Bool :=
  s.off % 100 == 0 && s.len % 100 == 0 && decide (500 ≤ s.len ∧ s.off + s.len ≤ 6000 ∧ s.core < 8) &&
  decide (s.budget ≤ n * sliceCycles s.len)

/-- A strand's allocations in the TCM of its core: code, data and stack, input block (R178). -/
def tcmOf (img : ParcelImg) (s : StrandCfg) : List (Nat × Nat) := [s.code, s.data, (s.block, blockLen img)]

/-- The slices and allocations of an image are free beside the parcels loaded on the lane, and its channels and grants
are provided by the image in force (R470). -/
def Lane.grantOk (L : Lane) (p : Nat) (img : ParcelImg) : Bool :=
  let others := (L.pcl.cells.filter (fun c => c.1 != p)).map (·.2.image)
  let strandsFree := img.strands.all (fun s => others.all (fun o => o.strands.all (fun t =>
    s.core != t.core || (!overlap (s.off, s.len) (t.off, t.len) &&
      (tcmOf img s).all (fun a => (tcmOf o t).all (fun b => !overlap a b))))))
  let tcmFits := img.strands.all (fun s => (tcmOf img s).all (fun a => a.2 == 0 || within (0, 0x40000) a.1 a.2))
  let items := img.items.all (fun i => match i with
    | .el n => (L.desc n).any (fun d => dEn d && bit (dRoute d) 29)
    | .chain c => img.chains.contains c
    | .hist ch => img.chans.contains ch
    | _ => true)
  let coresOnce := decide ((img.strands.map (·.core)).Nodup)
  img.strands.all (strandOk (max 1 img.n)) && !img.strands.isEmpty && decide (img.strands.length ≤ 8) && coresOnce && strandsFree &&
  tcmFits && items &&
  others.all (fun o => !overlap img.crit o.crit && !overlap img.lpddr o.lpddr) &&
  (img.crit.2 = 0 || within (0x09000000, 0x10000) img.crit.1 img.crit.2) &&
  (img.lpddr.2 = 0 || within (0x40000000, 0x8000000) img.lpddr.1 img.lpddr.2) &&
  decide (1 ≤ img.n ∧ img.n ≤ 65535 ∧ img.phase < img.n) &&
  img.cmds.all (fun c => L.ownsCmd p c) && img.chains.all (fun c => L.chEn c) && img.chans.all (fun c => (L.chanOf c).isSome)

/-- An image lies within a quota (R317); PF0 has no quota and passes. -/
def quotaOk (q : Option LaneQuota) (others : List ParcelImg) (p : Nat) (img : ParcelImg) : Bool :=
  match q with
  | none => true
  | some q =>
    q.parcels.testBit p &&
    (List.range 8).all (fun c =>
      let mine := ((img.strands ++ others.flatMap (·.strands)).filter (fun s => s.core == c)).map (·.len)
      decide (mine.sum ≤ q.core.getD c 0 * 100)) &&
    img.chains.all (fun c => q.chains.testBit c) && img.chans.all (fun c => decide (q.chan0 ≤ c ∧ c < q.chan0 + q.chans))

/-! ### Meanings -/

/-- TRIP_MATRIX_LATCH (R136 to R142, R173). -/
def execTripMatrixLatch (lane : LaneId) (s : State) : Host.Outcome State Fault Refusal :=
  onLane lane (fun L => L.tripMatrixLatch.blockTrip) s

/-- INPUT_BLOCK_COPY (R173). -/
def execInputBlockCopy (lane : LaneId) (s : State) : Host.Outcome State Fault Refusal := onLane lane Lane.inputBlockCopy s

/-- SLICE_START (R168). -/
def execSliceStart (lane : LaneId) (core parcel : Nat) (s : State) : Host.Outcome State Fault Refusal :=
  onLane lane (Lane.sliceStart core parcel) s

/-- SLICE_END (R168, R170). -/
def execSliceEnd (lane : LaneId) (core parcel steps cycles : Nat) (s : State) : Host.Outcome State Fault Refusal :=
  onLane lane (Lane.sliceEnd core parcel steps cycles) s

/-- DONE (R172). -/
def execDone (lane : LaneId) (parcel strand steps cycles : Nat) (s : State) : Host.Outcome State Fault Refusal :=
  onLane lane (Lane.strandDone parcel strand steps cycles) s

/-- CMD_WR (R176). -/
def execCmdWr (lane : LaneId) (parcel strand channel : Nat) (value : Word) (steps : Nat) (s : State) :
    Host.Outcome State Fault Refusal := onLane lane (Lane.runTo (StepOut.isCmd channel value) parcel strand steps) s

/-- HISTORY_APERTURE_READ (R174). -/
def execHistoryApertureRead (lane : LaneId) (parcel strand channel age steps : Nat) (s : State) :
    Host.Outcome State Fault Refusal := onLane lane (Lane.runTo (StepOut.isAperture channel age) parcel strand steps) s

/-- GUARD_VIOLATION (R179, R184). -/
def execGuardViolation (lane : LaneId) (parcel strand code addr steps : Nat) (s : State) :
    Host.Outcome State Fault Refusal := onLane lane (Lane.runTo (StepOut.isViol code addr) parcel strand steps) s

/-- PARCEL_TRAP (R184). -/
def execParcelTrap (lane : LaneId) (parcel strand cause tval steps : Nat) (s : State) :
    Host.Outcome State Fault Refusal := onLane lane (Lane.runTo (StepOut.isTrap cause tval) parcel strand steps) s

end Sys2Proof.Machine
end

