-- ==== Sys2Proof/Machine/Command.lean ====
section
/-! DEFINITION. Command channels, their ramp limiters, published streams and pulse pairs (R150 to R163). -/

namespace Sys2Proof.Machine

open Sys2Proof

/-! ### Targets (R150, R151) -/

/-- A command channel. -/
def Lane.cmdCh (L : Lane) (c : Nat) : CmdCh := L.cmds.chans.getD c ⟨0, 0, 0, false, false, false, false, false⟩

/-- The lane with a command channel replaced. -/
def Lane.setCmdCh (L : Lane) (c : Nat) (x : CmdCh) : Lane := { L with cmds := { L.cmds with chans := L.cmds.chans.put c x } }

/-- A command channel is enabled. -/
def Lane.cmdEn (L : Lane) (c : Nat) : Bool := L.flag .CMD_CH_CFG 31 c

/-- What a parcel gives the command channels, as published. -/
def Lane.cmdPcl (L : Lane) (p : Nat) : CmdPcl := ⟨L.pFb p, (L.parcel p).image.fbCmd, (L.parcel p).lastCmd⟩

/-- What a channel's source gives (R150, R151): a host value as it stands, a parcel's or an element's as they are now or,
in a realignment tick, as they were before the last closure (R154, R234). [log 64 DEDUCED] -/
def Lane.cmdSource (L : Lane) (c : Nat) : CmdSrc :=
  let i := L.fld .CMD_CH_CFG 11 0 c
  match L.fld .CMD_CH_CFG 30 28 c with
  | 0 => ⟨some (L.cmdCh c).host, false, false⟩
  | 1 =>
    let x := if L.twin.realign then L.cmds.befPcl.getD (i % 16) ⟨false, ⟨[]⟩, ⟨[]⟩⟩ else L.cmdPcl (i % 16)
    if x.fb then ⟨(x.fall.get? c).orElse (fun _ => x.last.get? c), true, false⟩ else ⟨x.last.get? c, false, false⟩
  | 2 =>
    let o := if L.twin.realign then L.cmds.befEl.getD i ⟨zero32, 0, 0⟩ else L.elPrev i
    ⟨if o.status.testBit 4 then none else some o.val, o.status.testBit 4, o.status.testBit 3⟩
  | _ => ⟨none, false, false⟩

/-- The target conditioned: infinities as ±MAX, a NaN not used, then limited to [OMIN, OMAX] (R151). [log 64 DEDUCED] -/
def Lane.condition (L : Lane) (c : Nat) (prev : Word) (s : CmdSrc) : Word × Bool :=
  let raw : Word × Bool := match s.v with
    | none => (prev, s.held)
    | some w =>
      if f32.isNaN w.toNat then (prev, true)
      else if f32.isInf w.toNat then (putBit (w32 maxBits) 31 (bit w 31), s.held)
      else (w, s.held)
  let lo := L.reg .CMD_CH_OMIN c
  let hi := L.reg .CMD_CH_OMAX c
  let r := if (val32 raw.1).lt (val32 lo) then lo else if (val32 hi).lt (val32 raw.1) then hi else raw.1
  (r, raw.2)

/-! ### The ramp limiter (R152) -/

/-- One step from an output toward a target: the output, RAMPING, and the direction where it moved (true for a
fall). A difference that rounds to an infinity is beyond every hold band. -/
def rampStep (y r up dn hband : Word) : Word × Bool × Option Bool :=
  let e := sat32 ((val32 r).sub (val32 y))
  if !e.2 && (val32 e.1).abs.le (val32 hband) then (y, false, none)
  else if Dy.zero.lt (val32 e.1) then
    let c := (sat32 ((val32 y).add (val32 up))).1
    if (val32 r).le (val32 c) then (r, false, some false) else (c, true, some false)
  else
    let c := (sat32 ((val32 y).sub (val32 dn))).1
    if (val32 c).le (val32 r) then (r, false, some true) else (c, true, some true)

/-- One channel's step at an edge (R152 to R154). -/
def Lane.cmdStep (L : Lane) (c : Nat) : Lane :=
  if !L.cmdEn c then L else
  let x := L.cmdCh c
  if x.justOn then L.setCmdCh c { x with justOn := false } else
  let s := L.cmdSource c
  let t := L.condition c x.tgt s
  let r := rampStep x.y t.1 (L.reg .CMD_CH_UP c) (L.reg .CMD_CH_DN c) (L.reg .CMD_CH_HBAND c)
  let L := L.setCmdCh c { x with tgt := t.1, y := r.1, ramping := r.2.1, fall := r.2.2.getD x.fall, held := t.2, test := s.test }
  let L := if r.2.1 then L.bump .CMD_CH_RAMPCNT c else L
  if t.2 then L.bump .CMD_CH_HELDCNT c else L

/-- The ramp steps of an edge, at Level 0 and 1 and not in a freeze tick (R163, R223). -/
def Lane.cmdEdge (L : Lane) : Lane :=
  let L := { L with cmds := { L.cmds with served := 0 } }
  if 2 ≤ L.level || L.frozen then L.markDone 7 else (foldTo 64 (fun (L : Lane) c => L.cmdStep c) L).markDone 7

/-- A channel that becomes enabled starts at INIT; one that stays so keeps its state; a disabled one has none (R153). -/
def Lane.cmdEnable (L : Lane) (c : Nat) : Lane :=
  if !L.cmdEn c then { L with cmds := { L.cmds with chans := L.cmds.chans.del c } }
  else if (L.cmds.chans.get? c).isSome then L
  else let i := L.reg .CMD_CH_INIT c; L.setCmdCh c ⟨i, i, i, false, false, false, false, true⟩

/-- SET_TARGET at its apply edge (R150). -/
def Lane.setTarget (L : Lane) (c : Nat) (v : Word) : Lane :=
  if L.cmdEn c then L.setCmdCh c { L.cmdCh c with host := v } else L

/-- What parcels and element outputs give before a closure, for a realignment tick (R234). [log 64 DEDUCED] -/
def Lane.keepSources (L : Lane) : Lane :=
  { L with cmds := { L.cmds with befPcl := L.pcl.mapv (fun p _ => L.cmdPcl p),
                                 befEl := L.fabric.cur.mapv (fun i _ => L.elPrev i) } }

/-! ### Published streams (R155, R156) -/

/-- A stream's rate divisor, at least 1. [log 134 DESIGN CHOICE] -/
def Lane.psD (L : Lane) (s : Nat) : Nat := max 1 (L.fld .CMD_PS_CFG 16 10 s)

/-- Streams that send in the tick in progress (R156). -/
def Lane.psDue (L : Lane) (s : Nat) : Bool := L.flag .CMD_PS_CFG 31 s && decide (L.tick % 96000 % L.psD s = 0)

/-- The channel of a stream's member. -/
def Lane.psMember (L : Lane) (s m : Nat) : Nat := L.fld .CMD_PS_MEM (8 * (m % 4) + 5) (8 * (m % 4)) s (m / 4)

/-- A member's value and quality, and whether it saturated (R155). [log 61 DEDUCED] -/
def Lane.psValue (L : Lane) (c : Nat) : Int × Nat × Bool :=
  let x := L.cmdCh c
  let v := (rnd64 ((val32 x.y).mul (val32 (L.reg .CMD_CH_PSCALE c)))).nearEven
  let w := clampI (-2147483648) 2147483647 v
  (w, (if x.held then 3 else 0) + (if w != v then 4 else 0) + (if x.test then 2048 else 0), w != v)

/-- The svID of a stream, without its padding. -/
def Lane.psSvId (L : Lane) (s : Nat) : List Byte :=
  ((((List.range 16).flatMap (fun j => leBytes 4 (L.reg .CMD_PS_SVID s j).toNat)).reverse).dropWhile (· == 0#8)).reverse

/-- The octets of a stream's APDU. -/
def svApdu (l : List Asdu) : Nat :=
  let asdu := (l.map (fun a => tlv (tlv a.svId.length + 4 + 6 + 3 + (if a.rate.isSome then 4 else 0) +
    (if a.gm.isSome then 10 else 0) + tlv (8 * a.vals.length)))).sum
  tlv (3 + tlv asdu)

/-- The length of a stream's frame, from destination address to FCS. [log 61 DEDUCED] -/
def svLen (f : SvFrame) : Nat := max 64 (14 + (if f.tag.isSome then 4 else 0) + f.length + 4)

/-- A stream's frame of this tick (R155). [log 61 DEDUCED] -/
def Lane.psFrame (L : Lane) (s : Nat) : SvFrame :=
  let vals := (List.range (L.fld .CMD_PS_CFG 4 0 s)).map (fun m => L.psValue (L.psMember s m))
  let follows := L.synced && !L.flag .LCT_TRAV_STAT 24 && decide (L.level < 2)
  let asdus : List Asdu :=
    [{ svId := L.psSvId s, smpCnt := L.tick % 96000 / L.psD s, confRev := (L.reg .CMD_PS_CONFREV s).toNat,
       synch := if follows then 2 else 0, gm := some L.gmId, rate := some (96000 / L.psD s), smpMod := none,
       vals := vals.map (fun v => (v.1, v.2.1)) }]
  let ext := L.ownExt (L.fld .CMD_PS_CFG 30 29 s) (L.fld .CMD_PS_CFG 24 17 s)
  { dst := L.fld .CMD_PS_DMAC_HI 15 0 s * 2 ^ 32 + (L.reg .CMD_PS_DMAC_LO s).toNat,
    src := L.firstMac (L.fld .CMD_PS_CFG 28 25 s), tag := some ⟨L.fld .CMD_PS_ID 27 16 s, 4⟩,
    etype := 0x88BA, appId := L.fld .CMD_PS_ID 15 0 s, length := 8 + svApdu asdus + (if ext.isSome then 32 else 0),
    apdu := svApdu asdus, extLen := if ext.isSome then 32 else 0, sim := false, noAsdu := 1, asdus := asdus, berOk := true,
    ext := ext }

/-- A stream's exchange of the tick (R155, R156, R162, R163): no frame from a standby, nor at Level 2, nor while TC4
of IN is held back (R259). [log 61 DEDUCED] -/
def Lane.streamFrame (s : Nat) (L : Lane) : Lane :=
  if 2 ≤ L.level || !L.inService || !L.psDue s || L.cmds.served.testBit s || 16 ≤ s then L else
  let L := { L with cmds := { L.cmds with served := L.cmds.served + 2 ^ s } }
  if !L.drives then L
  else if (L.waterMarks 4 4).1 ≤ L.net.ingressCount 4 4 then L.bump .SWM_IN_SKIP
  else
    let f := L.psFrame s
    let sats := ((List.range (L.fld .CMD_PS_CFG 4 0 s)).filter (fun m => (L.psValue (L.psMember s m)).2.2)).length
    let L := (L.bump .CMD_PS_TXCNT s).bump .CMD_PS_SATCNT s sats
    L.sendOwn { dst := f.dst, src := f.src, tag := f.tag, etype := 0x88BA, len := svLen f, ecn := none, red := none,
                body := .sv f } 4 (L.fld .CMD_PS_CFG 28 25 s)

/-- Every stream due in this tick was served. -/
def Lane.streamsDone (L : Lane) : Bool := (List.range 16).all (fun s => !L.psDue s || L.cmds.served.testBit s)

/-! ### Pulse pairs (R157 to R161) -/

/-- A pulse pair. -/
def Lane.pulse (L : Lane) (p : Nat) : Pulse := L.cmds.pulses.getD p .off

/-- The lane with a pulse pair replaced. -/
def Lane.setPulse (L : Lane) (p : Nat) (x : Pulse) : Lane := { L with cmds := { L.cmds with pulses := L.cmds.pulses.put p x } }

/-- The step of 1/1.2 GHz at which a datum instant in ns is placed: the first at or after it (R30). -/
def stepsAt (ns : Nat) : Nat := (ns * 6 + 4) / 5

/-- The issued H interval of a period (R159): whole period off, whole period on, or on until `r`. -/
inductive HShape
  | off
  | on
  | until_ (r : Int)
  deriving DecidableEq, Repr

/-- What R159 decides for a period: shape, carry, steps discarded, on-time and off-time suppressions. -/
structure Issue where
  shape : HShape
  carry : Int
  disc  : Int
  supOn : Bool
  supOff : Bool
  deriving DecidableEq, Repr

/-- R159 for a requested on-time. -/
def issue (rq carry p dt mp : Int) (hPrev : Bool) : Issue :=
  let r0 := rq + carry
  let d0 := if r0 < 0 then -r0 else if p < r0 then r0 - p else 0
  let r := clampI 0 p r0
  if r = 0 then ⟨.off, 0, d0, false, false⟩
  else if !hPrev && decide (r - dt < mp) then ⟨.off, min r mp, d0 + (r - min r mp), true, false⟩
  else if r = p then ⟨.on, 0, d0, false, false⟩
  else if p - r - dt < mp then ⟨.on, -(min (p - r) mp), d0 + ((p - r) - min (p - r) mp), false, true⟩
  else ⟨.until_ r, 0, d0, false, false⟩

/-- The edges of a period from its shape (R160). [log 62 DEDUCED] -/
def gateEdges (comp hPrev : Bool) (t0 dt : Nat) (sh : HShape) : List GateEdge :=
  let rise : List GateEdge := if hPrev then [] else (if comp then [⟨t0, false, false⟩] else []) ++ [⟨t0 + dt, true, true⟩]
  let fall := fun (t : Nat) => ([⟨t, true, false⟩] : List GateEdge) ++ (if comp then [⟨t + dt, false, true⟩] else [])
  match sh with
  | .off => if hPrev then fall t0 else []
  | .on => rise
  | .until_ r => rise ++ fall (t0 + r.toNat)

/-- Levels after the edges up to an instant. [log 63 DEDUCED] -/
def Pulse.upTo (x : Pulse) (t : Nat) : Pulse :=
  let now := x.edges.filter (fun e => decide (e.at_ ≤ t))
  let y := now.foldl (fun (y : Pulse) e => if e.h then { y with h := e.on } else { y with l := e.on }) x
  { y with edges := x.edges.filter (fun e => decide (t < e.at_)) }

/-- A carrier period starts at step `t0` since the epoch (R158 to R161). [log 62 DEDUCED, log 134 DESIGN CHOICE] -/
def Lane.periodStart (p t0 : Nat) (L : Lane) : Lane :=
  let x := L.pulse p
  let P := L.fld .CMD_PP_PER 23 0 p
  if !L.flag .CMD_PP_CFG 31 p || 2 ≤ L.level || !L.inService || !L.flag .PWR_PD 16 || !L.drives || P = 0 || t0 % 1200000000 % P ≠ 0 || t0 < x.start
  then L
  else
    let comp := L.flag .CMD_PP_CFG 30 p
    let dt := L.fld .CMD_PP_DT 13 0 p
    let mp := L.fld .CMD_PP_MP 14 0 p
    let x := x.upTo t0
    let y := val32 (L.cmdCh (L.fld .CMD_PP_CFG 5 0 p)).y
    let d := if y.lt Dy.zero then Dy.zero else if (Dy.ofInt 1).lt y then Dy.ofInt 1 else y
    let rq := (rnd64 (d.mul (Dy.ofInt P))).nearEven
    let i := issue rq x.carry P dt mp x.hPrev
    let hEnd := match i.shape with
      | .on => true
      | _ => false
    let es := (if !comp && x.l then [⟨t0, false, false⟩] else []) ++ gateEdges comp x.hPrev t0 dt i.shape
    let L := L.setPulse p { (({ x with edges := es } : Pulse).upTo t0) with
                            carry := i.carry, hPrev := hEnd, run := true, start := t0 + P }
    let L := L.emit (.gate p es)
    let L := (L.bump .CMD_PP_PERCNT p).bump .CMD_PP_DISC p i.disc.toNat
    let L := if i.supOn then L.bump .CMD_PP_SUPON p else L
    if i.supOff then L.bump .CMD_PP_SUPOFF p else L

/-- Every pair's lines go off at a datum instant, and its carrier stops (R163). -/
def Lane.pulsesOff (ns : Int) (L : Lane) : Lane :=
  let t := stepsAt ns.toNat
  L.cmds.pulses.cells.foldl (fun (L : Lane) c =>
    let L := L.setPulse c.1 .off
    if c.2.h || c.2.l || !c.2.edges.isEmpty then L.emit (.gate c.1 [⟨t, true, false⟩, ⟨t, false, false⟩]) else L) L

/-- A pair starts as newly enabled from a datum instant: lines off, carry 0 (R161, R162). [log 62 DEDUCED] -/
def Lane.pulseNew (L : Lane) (p ns : Nat) : Lane := L.setPulse p { Pulse.off with start := stepsAt ns }

/-- The settings of a pair: MODE and DCH, P, DT, MP. -/
def Lane.pulseCfg (L : Lane) (p : Nat) : Word × Word × Word × Word :=
  (L.reg .CMD_PP_CFG p, L.reg .CMD_PP_PER p, L.reg .CMD_PP_DT p, L.reg .CMD_PP_MP p)

/-- A pair when configuration changes at an edge: newly enabled, disabled, changed or as before (R161). -/
def Lane.pulseChange (L old : Lane) (p : Nat) : Lane :=
  let was := old.flag .CMD_PP_CFG 31 p
  let now := L.flag .CMD_PP_CFG 31 p
  if now && !was then L.pulseNew p L.refEdge
  else if was && !now then
    (L.setPulse p .off).emit (.gate p [⟨stepsAt L.refEdge, true, false⟩, ⟨stepsAt L.refEdge, false, false⟩])
  else if now && L.pulseCfg p != old.pulseCfg p then
    let x := L.pulse p
    L.setPulse p { x with carry := 0, start := max x.start (stepsAt L.refEdge) }
  else L

/-! ### Closure (R163) -/

/-- The summary of enabled outputs. -/
def Lane.cmdStat (L : Lane) : Lane :=
  let n := fun (r : Reg) (k : Nat) => ((List.range k).filter (fun i => L.flag r 31 i)).length
  let w := n .CMD_CH_CFG 64 * 2 ^ 25 + n .CMD_PS_CFG 16 * 2 ^ 20 + n .CMD_PP_CFG 4 * 2 ^ 17 + bnat (decide (2 ≤ L.level)) * 65536
  L.setReg .CMD_STAT (w32 w)

/-- The registers take the states as at closure. -/
def Lane.cmdPublish (L : Lane) : Lane :=
  let L := L.cmds.chans.cells.foldl (fun (L : Lane) c =>
    let x := c.2
    let w := bnat x.ramping * 2 ^ 31 + bnat x.fall * 2 ^ 30 + bnat x.held * 2 ^ 29 + bnat x.test * 2 ^ 28
    ((L.setReg .CMD_CH_TARGET x.tgt c.1).setReg .CMD_CH_OUT x.y c.1).setReg .CMD_CH_STAT (w32 w) c.1) L
  let t := stepsAt (L.refEdge + 10150)
  let L := L.cmds.pulses.cells.foldl (fun (L : Lane) c =>
    let x := c.2.upTo t
    let w := bnat x.h * 2 ^ 31 + bnat x.l * 2 ^ 30 + bnat x.run * 2 ^ 29 + wrap 16 x.carry
    (L.setPulse c.1 x).setReg .CMD_PP_STAT (w32 w) c.1) L
  L.cmdStat

/-! ### Meanings -/

/-- PUBLISHED_STREAM_FRAME (R155, R156). -/
def execPublishedStreamFrame (lane : LaneId) (stream : Nat) (s : State) : Host.Outcome State Fault Refusal :=
  onLane lane (Lane.streamFrame stream) s

/-- PERIOD_START (R158 to R160). -/
def execPeriodStart (lane : LaneId) (pair t0 : Nat) (s : State) : Host.Outcome State Fault Refusal :=
  onLane lane (Lane.periodStart pair t0) s

end Sys2Proof.Machine
end

