-- ==== Sys2Proof/Machine/Datum.lean ====
section
/-! DEFINITION. Datum time: PTP, 1PPS, qualification, switching, steps, slews and the edge of the mapping
(R272 to R292). -/

namespace Sys2Proof.Machine

open Sys2Proof

/-! ### States and candidates (R283 to R286) -/

/-- The datum states of R284. -/
def dUnset : Nat := 0
def dLocked : Nat := 1
def dSwitching : Nat := 2
def dHoldover : Nat := 3
def dStepPend : Nat := 4
def dSlewing : Nat := 5
def dTwin : Nat := 6
def dFrozen : Nat := 7

/-- Candidate number of 1PPS; 0 to 3 are the ports. -/
def candPps : Nat := 4

/-- One second in ns. -/
def secNs : Int := 1000000000

/-- A candidate. -/
def Lane.cand (L : Lane) (c : Nat) : Cand := L.datum.cands.getD c .fresh

/-- The lane with a candidate replaced. -/
def Lane.setCand (L : Lane) (c : Nat) (x : Cand) : Lane :=
  { L with datum := { L.datum with cands := L.datum.cands.put c x } }

/-- A port's PTP exchanges. -/
def Lane.ptpPort (L : Lane) (p : Nat) : PtpPort := L.datum.ports.getD p .fresh

/-- The lane with a port's PTP exchanges replaced. -/
def Lane.setPtpPort (L : Lane) (p : Nat) (x : PtpPort) : Lane :=
  { L with datum := { L.datum with ports := L.datum.ports.put p x } }

/-- QUAL_N (R283). -/
def Lane.qualN (L : Lane) : Nat := L.fld .DTM_CFG 15 8

/-- The count a candidate needs to qualify (R283). -/
def Lane.candNeed (L : Lane) (c : Nat) : Nat := max L.qualN (L.cand c).need

/-- JUMP in ns (R287). -/
def Lane.jump (L : Lane) : Int := L.fld .DTM_JUMP 29 0

/-- An interval 2^log s in ns, of a four-bit two's-complement logarithm (R279). -/
def logInterval (f : Nat) : Int :=
  let k := signed 4 f
  if 0 ≤ k then secNs * 2 ^ k.toNat else secNs / 2 ^ (-k).toNat

/-- A port's announce interval. -/
def Lane.annInterval (L : Lane) (p : Nat) : Int := logInterval (L.fld .DTM_PORT_CFG 23 20 p)

/-- A port's Sync interval. -/
def Lane.syncInterval (L : Lane) (p : Nat) : Int := logInterval (L.fld .DTM_PORT_CFG 27 24 p)

/-- A port's PTP mode (R280). -/
def Lane.ptpMode (L : Lane) (p : Nat) : Nat := L.fld .DTM_PORT_CFG 31 29 p

/-- The lane is a transparent clock on PA and PB: RED is HSR and both are set to TC (R280). -/
def Lane.tcOn (L : Lane) : Bool := L.red == 2 && L.ptpMode 0 == 4 && L.ptpMode 1 == 4

/-- The port can be a slave: BC, slave-only, or TC with the ordinary clock on the ring (R280). -/
def Lane.slaveCapable (L : Lane) (p : Nat) : Bool :=
  L.ptpMode p == 1 || L.ptpMode p == 3 || (L.ptpMode p == 4 && decide (p < 2) && L.tcOn)

/-- PTP messages are received and sent: in service at Level 0 or 1 (R292). -/
def Lane.ptpOn (L : Lane) : Bool := L.inService && decide (L.level < 2)

/-- One data set is better than another (R279): by grandmaster attributes, then by steps removed. -/
def betterSet (a b : DataSet) : Bool :=
  let key := fun (x : DataSet) => [x.prio1, x.cls, x.accuracy, x.variance, x.prio2, x.gm]
  if a.gm = b.gm then decide (a.steps < b.steps) else decide (key a < key b)

/-- One master is better than another, by data set and then by the identity of the sender (R279).
[log 90 DESIGN CHOICE] -/
def betterFrom (a b : DataSet) (x y : Nat) : Bool := betterSet a b || (!betterSet b a && decide (x < y))

/-- A candidate numbered `a` ranks above one numbered `b` (R283). Of two senders of one data set the lower clock identity
comes first, and of one clock heard on two ports the lower port. [log 90 DESIGN CHOICE] -/
def Lane.outranks (L : Lane) (a : Nat) (x : Cand) (b : Nat) (y : Cand) : Bool :=
  let pref := L.flag .DTM_CFG 30
  let i := x.src / 65536
  let j := y.src / 65536
  if a = candPps then b != candPps && pref
  else if b = candPps then !pref
  else betterFrom x.ds y.ds i j || (!betterFrom y.ds x.ds j i && decide (a < b))

/-- Candidate `a` ranks above candidate `b` (R283). -/
def Lane.ranks (L : Lane) (a b : Nat) : Bool := L.outranks a (L.cand a) b (L.cand b)

/-- The reference numbered `c`: the candidate, or what it was before another master of its port became the better. -/
def Lane.refCand (L : Lane) (c : Nat) : Cand := L.datum.held.getD (L.cand c)

/-- A candidate may be chosen: qualified and not barred (R283, R288). -/
def Lane.eligible (L : Lane) (c : Nat) : Bool := (L.cand c).qual && !(L.cand c).barred

/-- The highest-ranked qualified candidate that `p` accepts. -/
def Lane.bestCand (L : Lane) (p : Nat → Bool) : Option Nat :=
  ((List.range 5).filter (fun c => L.eligible c && p c)).foldl
    (fun b c => match b with
      | none => some c
      | some x => if L.ranks c x then some c else some x) none

/-- SYNCED, HOLDOVER of LCT_TRAV_STAT and the reference fields for a datum state (R284). -/
def Lane.showDatum (L : Lane) (twinSynced twinHold : Bool) : Lane :=
  let st := L.dstate
  let sync := st == dLocked || st == dSlewing || (st == dTwin && twinSynced)
  let hold := st == dHoldover || st == dStepPend || (st == dTwin && twinHold)
  (L.setFlag .DTM_STAT 24 sync).setFlag .LCT_TRAV_STAT 24 hold

/-- The datum enters a state (R284): the register, SYNCED, the holdover marks, the counter and the event. A slew profile
runs on in HOLDOVER, and ends where the target is frozen or the twin's (R288, R290). -/
def Lane.enterDatum (L : Lane) (st : Nat) (now : Int) : Lane :=
  let old := L.dstate
  if old = st then L else
  let L := if st = dStepPend || st = dTwin || st = dFrozen then { L with datum := { L.datum with slew := none } } else L
  let L := (L.setFld .DTM_STAT 31 29 st).showDatum false false
  let L := if st = dHoldover then L.bump .DTM_HOLD_CNT else L
  let L := if st = dHoldover then
      { L with datum := { L.datum with ports := L.datum.ports.mapv (fun _ x => { x with hold := 0, stop := false }) } } else L
  let L := if old = dLocked then { L with datum := { L.datum with lockEnd := some now } } else L
  L.raise 1 0x01 now (leBytes 1 old ++ leBytes 1 st ++ leBytes 1 (L.fld .DTM_STAT 28 27))

/-- Writes the rate target: the servo's part and the slew profile's, clamped by the hardware (R274, R288).
[log 88 DESIGN CHOICE] -/
def Lane.writeTarget (L : Lane) : Lane :=
  let add := match L.datum.slew with
    | some p => p.add
    | none => 0
  L.setNum64 .DTM_RATE_TGT_LO .DTM_RATE_TGT_HI (clampRate (L.datum.servo + add))

/-- The mean target of the last 60 s of LOCKED, or the last target if LOCKED was shorter (R284). -/
def Datum.meanTarget (D : Datum) (now : Int) (cur : Nat) : Nat :=
  let till := D.lockEnd.getD now
  match D.lockLog with
  | [] => cur
  | (t0, x0) :: rest =>
    let first := ((t0, x0) :: rest).getLast?.map (·.1) |>.getD till
    if till - first < 60 * secNs then x0
    else
      let start := till - 60 * secNs
      let spans := ((t0, x0) :: rest).foldl
        (fun (a : Int × Int × Int) e =>
          let lo := max start e.1
          let w := a.1 - lo
          if 0 < w then (lo, a.2.1 + w * e.2, a.2.2 + w) else a) (till, 0, 0)
      if 0 < spans.2.2 then (spans.2.1 / spans.2.2).toNat else x0

/-- The rate target is frozen at the mean target of R284. -/
def Lane.freezeTarget (L : Lane) (now : Int) : Lane :=
  { L with datum := { L.datum with servo := L.datum.meanTarget now L.datum.servo } }.writeTarget

/-- The reference is left without having been lost: its continuous use ends, and a candidate used for 600 s needs
QUAL_N again (R283). [log 90 DESIGN CHOICE] -/
def Lane.leaveRef (L : Lane) (now : Int) : Lane :=
  match L.datum.ref, L.datum.held with
  | some r, none =>
    let x := L.cand r
    let long := x.curNs.any (fun t => decide (600 * secNs ≤ now - t))
    L.setCand r { x with curNs := none, need := if long then L.qualN else x.need }
  | _, some h =>
    let long := h.curNs.any (fun t => decide (600 * secNs ≤ now - t))
    { L with datum := { L.datum with held := none, needs := L.datum.needs.put h.src (if long then L.qualN else h.need) } }
  | _, _ => L

/-- The datum goes to HOLDOVER (R284, R285). -/
def Lane.holdover (L : Lane) (now : Int) : Lane :=
  let L := (L.freezeTarget now).leaveRef now
  let L := { L with datum := { L.datum with ref := none, settle := 0, beyond := [] } }
  let L := foldTo 4 (fun L p => L.setFlag .DTM_PORT_STAT 26 false p) L
  (L.setFld .DTM_STAT 28 27 0).enterDatum dHoldover now

/-- The datum follows the active lane: it steers by no candidate of its own, and the twin is its reference (R290). -/
def Lane.twinDatum (L : Lane) (now : Int) : Lane :=
  let L := L.leaveRef now
  let L := { L with datum := { L.datum with ref := none, settle := 0, beyond := [] } }
  let L := foldTo 4 (fun L p => L.setFlag .DTM_PORT_STAT 26 false p) L
  ((L.setFld .DTM_STAT 28 27 3).setFld .DTM_STAT 26 25 0).enterDatum dTwin now

/-- The reference fields for a candidate steered by or switched to. -/
def Lane.showRef (L : Lane) (c : Nat) : Lane :=
  let L := foldTo 4 (fun L p => L.setFlag .DTM_PORT_STAT 26 (p == c) p) L
  let L := L.setFld .DTM_STAT 28 27 (if c = candPps then 2 else 1)
  if c = candPps then L else L.setFld .DTM_STAT 26 25 c

/-- A count of qualification begins anew (R283, R286). -/
def Lane.clearCount (L : Lane) (c : Nat) : Lane :=
  let L := L.setCand c { L.cand c with count := 0 }
  if c < 4 then L.setFld .DTM_PORT_STAT 15 0 0 c else L

/-- A switch to a candidate is committed (R285). Counts of candidates not yet qualified begin anew at its end (R286). -/
def Lane.commitSwitch (L : Lane) (c : Nat) (now : Int) : Lane :=
  let L := L.leaveRef now
  let L := foldTo 5 (fun (L : Lane) k => if k = c || (L.cand k).qual then L else L.clearCount k) L
  let L := L.setCand c { L.cand c with curNs := some now }
  let L := { L with datum := { L.datum with ref := some c, settle := 0, swNs := now, beyond := [] } }
  ((L.showRef c).bump .DTM_SWITCH_CNT).enterDatum dSwitching now

/-- The datum is LOCKED on its reference: its grandmaster is the one followed (R285, R61). 1PPS has none, and the identity
last followed stays. [log 138 DESIGN CHOICE] -/
def Lane.lockOn (L : Lane) (now : Int) : Lane :=
  let L := match L.datum.ref with
    | none => L
    | some c =>
      if c = candPps then L
      else
        let ds := (L.refCand c).ds
        ({ L with datum := { L.datum with gmDs := ds } }).setNum64 .DTM_GM_LO .DTM_GM_HI ds.gm
  let L := { L with datum := { L.datum with beyond := [], lockLog := [(now, L.rateTgt)], lockEnd := none, servo := L.rateTgt } }
  let L := L.enterDatum dLocked now
  { L with datum := { L.datum with lockEnd := none } }

/-- The count that a candidate lost needs the next time (R283): one lost within 600 s of becoming current needs twice its
previous count, up to 8 × QUAL_N, and one used for 600 s needs QUAL_N again. -/
def Lane.lossNeed (L : Lane) (x : Cand) (now : Int) : Nat :=
  match x.curNs with
  | some t => if now - t < 600 * secNs then min (8 * L.qualN) (2 * max L.qualN x.need) else L.qualN
  | none => x.need

/-- A candidate is lost (R283): its count starts again. -/
def Lane.loseCand (L : Lane) (c : Nat) (now : Int) : Lane :=
  let x := L.cand c
  let L := L.setCand c { x with count := 0, qual := false, need := L.lossNeed x now, curNs := none, heard := false, meas := false }
  if c < 4 then (L.setFlag .DTM_PORT_STAT 27 false c).setFld .DTM_PORT_STAT 15 0 0 c else L

/-- The reference is lost while another master of its port is the better: what it needs to qualify again is kept (R283).
[log 90 DESIGN CHOICE] -/
def Lane.loseHeld (L : Lane) (now : Int) : Lane :=
  match L.datum.held with
  | none => L
  | some h => { L with datum := { L.datum with held := none, needs := L.datum.needs.put h.src (L.lossNeed h now) } }

/-- A candidate's Announce or pulses have stopped, or the reference's Syncs have, of which it may miss two (R285). A
reference of which no Sync has come since the switch misses them from the switch on. [log 90 DESIGN CHOICE] -/
def Lane.hasStopped (L : Lane) (c : Nat) (x : Cand) (isRef : Bool) (now : Int) : Bool :=
  if c = candPps then decide (3 ≤ L.datum.ppsBad) || decide (x.lastNs + 7 * secNs / 2 < now)
  else decide (x.lastNs + L.fld .DTM_CFG 7 4 * L.annInterval c < now) ||
    (isRef && decide (max x.lastSync L.datum.swNs + 3 * L.syncInterval c < now))

/-- A candidate heard is lost (R283, R285). -/
def Lane.candLost (L : Lane) (c : Nat) (now : Int) : Bool :=
  (L.cand c).heard && L.hasStopped c (L.cand c) (L.datum.ref == some c && L.datum.held.isNone) now

/-- The current reference is lost (R285). -/
def Lane.refLost (L : Lane) (now : Int) : Bool :=
  L.datum.ref.any (fun c => (L.refCand c).heard && L.hasStopped c (L.refCand c) true now)

/-! ### Measurements (R285 to R287) -/

/-- The median of three numbers. -/
def median3 (a b c : Int) : Int := max (min a b) (min (max a b) c)

/-- The part of an accepted step not yet worked off, in ns (R288). -/
def Slew.left (p : Slew) : Int := p.s - p.off * 31250 / (3 * rateNominal)

/-- A measured offset θ in ns from the reference (R285 to R288). The servo writes a free target. -/
def Lane.refTheta (L : Lane) (theta now : Int) : Lane :=
  let L := L.setReg .DTM_THETA (w32i (clampI (-2147483647) 2147483647 theta))
  let th := theta - (match L.datum.slew with
    | some p => p.left
    | none => 0)
  let st := L.dstate
  let far := decide (L.jump < th.natAbs)
  let same := match L.datum.beyond with
    | [] => true
    | b :: _ => decide (0 < b) == decide (0 < th)
  let beyond :=
    if st = dStepPend then (th :: L.datum.beyond).take 3
    else if far then (if same then (th :: L.datum.beyond).take 3 else [th])
    else []
  let L := { L with datum := { L.datum with beyond := beyond } }
  if st = dStepPend then
    match beyond with
    | [a, b, d] => L.setNum64 .DTM_STEP_LO .DTM_STEP_HI (wrap 64 (median3 a b d))
    | _ => L
  else if st = dLocked || st = dSwitching || st = dSlewing then
    let f := L.fresh1
    let tgt := (Config.servoTarget f.1).toNat
    let L := f.2
    let settle := if st = dSwitching && decide (th.natAbs ≤ 100) then L.datum.settle + 1 else 0
    let L := { L with datum := { L.datum with servo := clampRate tgt, settle := settle } }.writeTarget
    if st = dLocked then { L with datum := { L.datum with lockLog := (now, L.rateTgt) :: L.datum.lockLog } } else L
  else L

/-- A measured offset from candidate `c`, which steers only if it is the reference. [log 88 DESIGN CHOICE] -/
def Lane.takeTheta (L : Lane) (c : Nat) (theta now : Int) : Lane :=
  let L := L.setCand c { L.cand c with theta := theta, meas := true }
  if L.datum.ref == some c && L.datum.held.isNone then L.refTheta theta now else L

/-- θ of a Sync: the reference's time at the port less the datum, with the peer delay and the configured asymmetry
added, in ns (R279, R285). Times in 1/65,536 ns. [log 89 DEDUCED] -/
def Lane.syncTheta (L : Lane) (port : Nat) (origin corr t2 : Int) : Int :=
  nsOf (origin + corr - t2) + L.fld .DTM_PORT_PDELAY 19 0 port + (L.reg .DTM_PORT_ASYM port).toInt

/-- A complete Sync measurement from the reference in use or from a port's best master. -/
def Lane.syncDone (L : Lane) (m : PtpHead) (origin corr t2 : Int) : Lane :=
  let th := L.syncTheta m.port origin corr t2
  let x := L.cand m.port
  match L.datum.ref == some m.port && L.datum.held.any (fun h => h.src == m.src), L.datum.held with
  | true, some h =>
    ({ L with datum := { L.datum with held := some { h with lastSync := nsOf t2, theta := th, meas := true } } }).refTheta th (nsOf t2)
  | _, _ =>
    if !x.heard || x.src != m.src then L
    else (L.setCand m.port { x with lastSync := nsOf t2 }).takeTheta m.port th (nsOf t2)

/-- A PTP message is ignored and counted (R279). -/
def Lane.ptpIgnored (port : Nat) (L : Lane) : Lane := L.bump .DTM_PORT_ERR port

/-- The message is one the port handles: PTP is on, the port is enabled and the domain is DOMAIN. -/
def Lane.ptpTakes (L : Lane) (m : PtpHead) : Bool :=
  L.ptpOn && L.ptpMode m.port != 0 && m.domain == L.fld .DTM_CFG 23 16

/-- The other port of the HSR pair. -/
def ringPeer (p : Nat) : Nat := if p = 0 then 1 else 0

/-- Where a PTP message is sent (R279). [log 151 PRESUMED] -/
def ptpDst : PtpBody → Nat
  | .announce _ _ | .sync _ _ _ | .followUp _ _ => 0x011B19000000
  | .pdelayReq | .pdelayResp _ _ | .pdelayRespFollowUp _ _ => 0x0180C200000E

/-- A PTP frame's length, from destination address to FCS. [log 151 PRESUMED] -/
def ptpLen : PtpBody → Nat
  | .announce _ _ => 82
  | .sync _ _ _ | .followUp _ _ => 64
  | .pdelayReq | .pdelayResp _ _ | .pdelayRespFollowUp _ _ => 72

/-- A PTP message enters the switch for one port, in TC5 and without redundancy, with DOMAIN as its domainNumber (R248,
R262, R279). `sender` is that of a message passed on. [log 92 DEDUCED, log 151 PRESUMED] -/
def Lane.sendPtp (L : Lane) (port raw : Nat) (m : PtpBody) (seq : Nat) (arrived : Option Int)
    (sender : Option Nat := none) : Lane :=
  L.dispatch { dst := ptpDst m, src := L.portMac port, tag := none, etype := 0x88F7, len := ptpLen m, ecn := none,
               red := none, body := .ptp m (L.fld .DTM_CFG 23 16) sender seq arrived } 4 5 (L.pvid port) raw (2 ^ port) false true none none

/-- SYNC (R279): an offset measurement, or forwarding as a transparent clock; `tx` is the raw count at which the copy
enters the switch. [log 89 DEDUCED] -/
def Lane.takeSync (m : PtpHead) (rx tx : Nat) (origin : Int) (twoStep : Bool) (L : Lane) : Lane :=
  if !L.ptpTakes m then L.ptpIgnored m.port else
  let a := (L.bump .DTM_PORT_RXCNT m.port).convert rx
  let L := a.2
  let L := if L.ptpMode m.port = 4 && L.tcOn then
      L.sendPtp (ringPeer m.port) tx (.sync origin m.corr twoStep) m.seq (some a.1) (some m.src) else L
  if !L.slaveCapable m.port then L
  else if twoStep then
    L.setPtpPort m.port { L.ptpPort m.port with syncSeq := some (m.seq, a.1, m.corr) }
  else L.syncDone m origin m.corr a.1

/-- FOLLOW_UP (R279): completes a two-step Sync; a transparent clock passes it on behind the Sync. [log 89 DEDUCED] -/
def Lane.takeFollowUp (m : PtpHead) (origin : Int) (L : Lane) : Lane :=
  if !L.ptpTakes m then L.ptpIgnored m.port else
  let L := L.bump .DTM_PORT_RXCNT m.port
  let L := if L.ptpMode m.port = 4 && L.tcOn then
      L.sendPtp (ringPeer m.port) L.trav.lastRaw (.followUp origin m.corr) m.seq (some 0) (some m.src) else L
  match (L.ptpPort m.port).syncSeq with
  | some (sq, t2, corr) =>
    if sq = m.seq then
      (L.setPtpPort m.port { L.ptpPort m.port with syncSeq := none }).syncDone m origin (corr + m.corr) t2
    else L
  | none => L

/-- What a PTP message carries as it leaves a port at raw count `tx`, and what its departure brings about (R279): a
passed-on one-step Sync takes its residence along, and a two-step one leaves it to its Follow_Up; the lane's own Sync
and Pdelay_Resp are followed by their second message; the send time of its own Pdelay_Req is noted. [log 92 DEDUCED] -/
def Lane.ptpLeaves (L : Lane) (port tx : Nat) (m : PtpBody) (seq : Nat) (arrived : Option Int) : PtpBody × Lane :=
  let L := L.bump .DTM_PORT_TXCNT port
  let peer := L.ptpPort (ringPeer port)
  match m, arrived with
  | .sync o c two, some t =>
    let a := L.convert tx
    if two then (m, a.2.setPtpPort (ringPeer port) { peer with resid := some (seq, a.1 - t) })
    else (.sync o (c + (a.1 - t)) false, a.2)
  | .followUp o c, some _ =>
    match peer.resid with
    | some (sq, r) =>
      if sq = seq then (.followUp o (c + r), L.setPtpPort (ringPeer port) { peer with resid := none }) else (m, L)
    | none => (m, L)
  | .sync _ _ _, none =>
    let a := L.convert tx
    (m, a.2.sendPtp port tx (.followUp a.1 0) seq none)
  | .pdelayReq, _ =>
    let a := L.convert tx
    (m, a.2.setPtpPort port { a.2.ptpPort port with reqSeq := some (seq, a.1), resp := none })
  | .pdelayResp _ q, _ =>
    let a := L.convert tx
    (m, a.2.sendPtp port tx (.pdelayRespFollowUp a.1 q) seq none)
  | _, _ => (m, L)

/-- An idle egress sends its next frame (R256, R266). [log 92 DEDUCED] -/
def Lane.egressTransmit (port tx : Nat) (L : Lane) : Lane :=
  let r := L.egressSend port tx
  match r.2 with
  | none => r.1
  | some f =>
    match f.body with
    | .ptp m dom sender seq arrived =>
      let a := r.1.ptpLeaves port tx m seq arrived
      a.2.emit (.frame port { f with body := .ptp a.1 dom sender seq none })
    | _ => r.1.emit (.frame port f)

/-- QCOUNT of the switch target or of the best candidate, and a port's own count (DTM_STAT, DTM_PORT_STAT). -/
def Lane.showCount (L : Lane) (c : Nat) : Lane :=
  let n := (L.cand c).count
  let L := if c < 4 then L.setFld .DTM_PORT_STAT 15 0 (min 65535 n) c else L
  let best := match L.datum.ref with
    | some r => if L.dstate = dSwitching then r else c
    | none => c
  L.setFld .DTM_STAT 15 0 (min 65535 (L.cand best).count)

/-- At an announce interval a datum in HOLDOVER takes the best qualified candidate, one in STEP_PEND takes a qualified
candidate whose θ has been measured within JUMP, and a LOCKED one a qualified candidate that outranks its reference (R285, R287). -/
def Lane.trySwitch (L : Lane) (now : Int) : Lane :=
  let best :=
    if L.dstate = dHoldover then L.bestCand (fun _ => true)
    else if L.dstate = dStepPend then L.bestCand (fun c => (L.cand c).meas && decide (((L.cand c).theta.natAbs : Int) ≤ L.jump))
    else if L.dstate = dLocked then
      (L.bestCand (fun _ => true)).filter (fun c => L.datum.ref.any (fun r => L.outranks c (L.cand c) r (L.refCand r)))
    else none
  match best with
  | some c => L.commitSwitch c now
  | none => L

/-- One consecutive interval is counted toward qualification, unless a switch toward another candidate runs: its count
then begins at the end of the switch (R286). -/
def Lane.countCand (L : Lane) (c : Nat) (x : Cand) (consecutive : Bool) : Lane :=
  let wait := L.dstate == dSwitching && (L.datum.ref != some c || L.datum.held.isSome) && !x.qual
  (L.setCand c { x with count := if wait then 0 else if consecutive then x.count + 1 else 1 }).showCount c

/-- The foreign masters of a port after one more Announce, those that have timed out left out. [log 90 DESIGN CHOICE] -/
def Lane.foreignWith (L : Lane) (m : PtpHead) (ds : DataSet) (now : Int) : List Foreign :=
  let old := L.datum.foreign.getD m.port []
  let span := L.fld .DTM_CFG 7 4 * L.annInterval m.port
  ⟨m.src, ds, now⟩ :: old.filter (fun f => f.src != m.src && decide (now ≤ f.last + span))

/-- The best of a list of foreign masters (R279). -/
def bestForeign (f : Foreign) (l : List Foreign) : Foreign :=
  l.foldl (fun b x => if betterFrom x.ds b.ds x.src b.src then x else b) f

/-- A port's best foreign master becomes another: the reference in use stays what it was, and the newcomer's count
begins, with the count it needs and its bar as they were; the reference itself comes back as it was (R283, R288).
[log 90 DESIGN CHOICE] -/
def Lane.changeMaster (L : Lane) (port : Nat) (b : Foreign) (now : Int) : Lane :=
  let x := L.cand port
  let isRef := L.datum.ref == some port
  match isRef && L.datum.held.any (fun h => h.src == b.src), L.datum.held with
  | true, some h => (({ L with datum := { L.datum with held := none } }).setCand port h).setFlag .DTM_PORT_STAT 27 h.qual port
  | _, _ =>
    let L : Lane := if isRef && x.heard && L.datum.held.isNone then { L with datum := { L.datum with held := some x } } else L
    let L : Lane :=
      if x.src = b.src || !x.heard then L else { L with datum := { L.datum with needs := L.datum.needs.put x.src x.need } }
    let y := if x.src = b.src then x
      else { Cand.fresh with need := L.datum.needs.getD b.src 0, barred := L.datum.bars.contains b.src }
    (L.setFlag .DTM_PORT_STAT 27 false port).countCand port
      { y with heard := true, ds := b.ds, src := b.src, lastNs := now, lastSync := 0, qual := false, count := 0, curNs := none } false

/-- An Announce of the candidate of a port: the next interval is counted (R283). [log 90 DESIGN CHOICE] -/
def Lane.sameMaster (L : Lane) (port : Nat) (ds : DataSet) (now : Int) : Lane :=
  let x := L.cand port
  let iv := L.annInterval port
  if now < x.lastNs + iv / 2 then L.setCand port { x with ds := ds }
  else L.countCand port { x with ds := ds, lastNs := now } (decide (now < x.lastNs + 2 * iv))

/-- The Announce of the reference gives UTC, and while LOCKED the grandmaster followed (R279, R280). -/
def Lane.refAnnounce (L : Lane) (m : PtpHead) (ds : DataSet) (utc : UtcInfo) : Lane :=
  if L.datum.ref != some m.port || (L.refCand m.port).src != m.src then L
  else
    let w := putBits 0#32 15 0 (wrap 16 utc.offset)
    let w := putBit (putBit (putBit w 31 utc.valid) 30 utc.leap61) 29 utc.leap59
    let L := L.setReg .DTM_UTC w
    if L.dstate = dLocked then
      ({ L with datum := { L.datum with gmDs := ds } }).setNum64 .DTM_GM_LO .DTM_GM_HI ds.gm
    else L

/-- ANNOUNCE (R279, R283, R286); a transparent clock passes it on. -/
def Lane.takeAnnounce (m : PtpHead) (ds : DataSet) (utc : UtcInfo) (now : Int) (L : Lane) : Lane :=
  if !L.ptpTakes m then L.ptpIgnored m.port else
  let L := L.bump .DTM_PORT_RXCNT m.port
  let L := if L.ptpMode m.port = 4 && L.tcOn then
      L.sendPtp (ringPeer m.port) L.trav.lastRaw (.announce ds utc) m.seq (some 0) (some m.src) else L
  if !L.slaveCapable m.port then L else
  let l := L.foreignWith m ds now
  let b := bestForeign ⟨m.src, ds, now⟩ l
  let held := L.datum.held.map (fun h => if L.datum.ref == some m.port && h.src == m.src then { h with ds := ds, lastNs := now } else h)
  let L : Lane := { L with datum := { L.datum with foreign := L.datum.foreign.put m.port l, held := held } }
  let x := L.cand m.port
  let L :=
    if !x.heard || x.src != b.src then L.changeMaster m.port b now
    else if x.src == m.src then L.sameMaster m.port ds now
    else L
  (L.refAnnounce m ds utc).trySwitch now

/-- A candidate is barred, or no longer, and BARRED tells whether any is (R288). -/
def Lane.setBar (L : Lane) (c : Nat) (x : Cand) (bar : Bool) : Lane :=
  let L := L.setCand c { x with barred := bar }
  let rest := L.datum.bars.filter (· != x.src)
  let L : Lane := if c = candPps then L else { L with datum := { L.datum with bars := if bar then x.src :: rest else rest } }
  L.setFlag .DTM_STAT 22 (!L.datum.bars.isEmpty || (L.cand candPps).barred)

/-- QUALIFICATION_COMPLETE (R283, R285): a candidate with its full count is qualified, no longer barred, and a switch
is committed when it outranks the current reference. -/
def Lane.qualComplete (c : Nat) (now : Int) (L : Lane) : Lane :=
  let x := L.cand c
  if x.qual || x.count < L.candNeed c || x.count = 0 then L else
  let L := if x.barred then L.setBar c { x with qual := true } false else L.setCand c { x with qual := true }
  let L := if c < 4 then L.setFlag .DTM_PORT_STAT 27 true c else L
  if L.dstate = dLocked then
    match L.datum.ref with
    | some r => if L.outranks c (L.cand c) r (L.refCand r) then L.commitSwitch c now else L
    | none => L
  else L.trySwitch now

/-- ANNOUNCE_TIMEOUT (R285): every candidate that has stopped is lost; a lost reference gives a switch or holdover.
[log 2 DESIGN CHOICE] -/
def Lane.annTimeout (now : Int) (L : Lane) : Lane :=
  let gone := (List.range 5).filter (fun c => (L.cand c).heard && L.candLost c now)
  let refLost := L.refLost now
  let L := gone.foldl (fun L c => L.loseCand c now) L
  let L := if refLost then L.loseHeld now else L
  if !refLost then L
  else if L.dstate = dLocked then
    match L.bestCand (fun _ => true) with
    | some c => L.commitSwitch c now
    | none => L.holdover now
  else if L.dstate = dSwitching || L.dstate = dSlewing then L.holdover now
  else L

/-- STEP_DETECTED (R287): three measurements beyond JUMP with one sign refuse the step. -/
def Lane.stepDetected (now : Int) (L : Lane) : Lane :=
  match L.datum.beyond with
  | [a, b, c] =>
    if L.dstate = dLocked || L.dstate = dSwitching || L.dstate = dSlewing then
      let step := median3 a b c
      let keep := L.datum.ref
      let L := ({ L with datum := { L.datum with slew := none } } : Lane).freezeTarget now
      let L := (L.setNum64 .DTM_STEP_LO .DTM_STEP_HI (wrap 64 step)).bump .DTM_STEP_CNT
      let L := (L.enterDatum dStepPend now).raise 1 0x02 now (leBytes 8 (wrap 64 step))
      { L with datum := { L.datum with ref := keep } }
    else L
  | _ => L

/-- SWITCH_END (R285): a switch ends by settling, by a step, after 60 s, or by loss of its target. -/
def Lane.switchEnd (now : Int) (L : Lane) : Lane :=
  if L.dstate != dSwitching then L else
  match L.datum.ref with
  | none => L
  | some c =>
    if 16 ≤ L.datum.settle then L.lockOn now
    else if L.datum.beyond.length = 3 then L.stepDetected now
    else if L.refLost now then (if L.datum.held.isSome then L.loseHeld now else L.loseCand c now).holdover now
    else if L.datum.swNs + 60 * secNs ≤ now then
      (if (L.refCand c).meas && decide ((L.refCand c).theta.natAbs ≤ 1000) then L.lockOn now else L.holdover now)
    else L

/-! ### Peer delay (R279) -/

/-- PDELAY_REQ: answered with Pdelay_Resp, and Pdelay_Resp_Follow_Up as that leaves; `tx` is the raw count at which the
answer enters the switch. -/
def Lane.takePdelayReq (m : PtpHead) (rx tx : Nat) (L : Lane) : Lane :=
  if !L.ptpTakes m then L.ptpIgnored m.port else
  let a := (L.bump .DTM_PORT_RXCNT m.port).convert rx
  a.2.sendPtp m.port tx (.pdelayResp a.1 m.src) m.seq none

/-- The measured peer delay in ns, in DTM_PORT_PDELAY. -/
def Lane.setPdelay (L : Lane) (port : Nat) (d : Int) : Lane :=
  L.setReg .DTM_PORT_PDELAY (w32 (clampI 0 0xFFFFF (nsOf (d / 2))).toNat) port

/-- PDELAY_RESP: the responder's receive time, or with one step the whole turnaround in the correction. -/
def Lane.takePdelayResp (m : PtpHead) (rx : Nat) (t2 : Int) (twoStep : Bool) (L : Lane) : Lane :=
  if !L.ptpTakes m then L.ptpIgnored m.port else
  let a := (L.bump .DTM_PORT_RXCNT m.port).convert rx
  let L := a.2
  let x := L.ptpPort m.port
  match x.reqSeq with
  | some (sq, t1) =>
    if sq != m.seq then L
    else if twoStep then L.setPtpPort m.port { x with resp := some (a.1, t2, m.corr) }
    else (L.setPtpPort m.port { x with reqSeq := none }).setPdelay m.port (a.1 - t1 - m.corr)
  | none => L

/-- PDELAY_RESP_FOLLOW_UP: completes the measurement, ((t4 − t1) − (t3 − t2) − corrections) / 2. -/
def Lane.takePdelayFollowUp (m : PtpHead) (t3 : Int) (L : Lane) : Lane :=
  if !L.ptpTakes m then L.ptpIgnored m.port else
  let L := L.bump .DTM_PORT_RXCNT m.port
  let x := L.ptpPort m.port
  match x.reqSeq, x.resp with
  | some (sq, t1), some (t4, t2, corr) =>
    if sq != m.seq then L
    else (L.setPtpPort m.port { x with reqSeq := none, resp := none }).setPdelay m.port
      ((t4 - t1) - (t3 - t2) - corr - m.corr)
  | _, _ => L

/-- PDELAY_REQ_TRANSMIT: a port sends a Pdelay_Req. -/
def Lane.sendPdelayReq (port tx : Nat) (L : Lane) : Lane :=
  if !L.ptpOn || L.ptpMode port == 0 then L else
  let x := L.ptpPort port
  (L.setPtpPort port { x with txReq := (x.txReq + 1) % 65536 }).sendPtp port tx .pdelayReq x.txReq none

/-! ### Master ports (R280) -/

/-- The port announces and sends Sync: master-only or BC, not the port of the reference, and the datum is LOCKED, or
in HOLDOVER before the stop. -/
def Lane.masterPort (L : Lane) (port : Nat) : Bool :=
  L.ptpOn && (L.ptpMode port == 2 || (L.ptpMode port == 1 && L.datum.ref != some port)) &&
  (L.dstate == dLocked || (L.dstate == dHoldover && !(L.ptpPort port).stop))

/-- portState of a port, numbered as IEEE 1588-2008 numbers it: DISABLED, MASTER, SLAVE or UNCALIBRATED for the port of
the reference, PASSIVE for a port that another outranks, LISTENING; INITIALIZING where the lane takes no part in PTP.
[log 136 PRESUMED] -/
def Lane.portState (L : Lane) (port : Nat) : Nat :=
  if !L.ptpOn then 1
  else if L.ptpMode port = 0 then 3
  else if L.masterPort port then 6
  else if L.flag .DTM_PORT_STAT 26 port then (if L.dstate = dLocked then 9 else 8)
  else if (L.cand port).qual || L.ptpMode port = 2 then 7
  else 4

/-- SYNC_TRANSMIT: a two-step Sync, which its Follow_Up follows as it leaves (R279). -/
def Lane.sendSync (port tx : Nat) (L : Lane) : Lane :=
  if !L.masterPort port then L else
  let x := L.ptpPort port
  (L.setPtpPort port { x with txSync := (x.txSync + 1) % 65536 }).sendPtp port tx (.sync 0 0 true) x.txSync none

/-- The data set a master port announces: that of the grandmaster followed, or last followed, one step further (R280). -/
def Lane.ownDataSet (L : Lane) : DataSet := { L.datum.gmDs with steps := L.datum.gmDs.steps + 1 }

/-- The time properties that a master port announces: those of the reference, as DTM_UTC holds them (R279). -/
def Lane.ownUtc (L : Lane) : UtcInfo :=
  ⟨L.flag .DTM_UTC 31, L.flag .DTM_UTC 30, L.flag .DTM_UTC 29, signed 16 (L.fld .DTM_UTC 15 0)⟩

/-- ANNOUNCE_TRANSMIT (R280). In HOLDOVER a port counts its announce intervals. -/
def Lane.sendAnnounce (port : Nat) (L : Lane) : Lane :=
  if !L.masterPort port then L else
  let x := L.ptpPort port
  let hold := if L.dstate = dHoldover then x.hold + 1 else x.hold
  (L.setPtpPort port { x with txAnn := (x.txAnn + 1) % 65536, hold := hold }).sendPtp port L.trav.lastRaw
    (.announce L.ownDataSet L.ownUtc) x.txAnn none

/-- HOLDOVER_ANNOUNCE_STOP (R280): on each port that has sent HOLD_ANN intervals in holdover Announce and Sync stop. -/
def Lane.annStop (L : Lane) : Lane :=
  if L.dstate != dHoldover then L
  else foldTo 4 (fun (L : Lane) p =>
    let x := L.ptpPort p
    if L.fld .DTM_SLEW 3 0 ≤ x.hold then L.setPtpPort p { x with stop := true } else L) L

/-! ### 1PPS (R281) -/

/-- PPS_PULSE: a rising edge is timestamped, corrected and judged against the predicted second.
[log 90 DESIGN CHOICE] -/
def Lane.takePps (raw : Nat) (L : Lane) : Lane :=
  if !L.inService || !L.flag .DTM_CFG 31 then L else
  let a := L.convert raw
  let L := a.2
  let t := a.1 - (L.fld .DTM_PPS_DLY 19 0 : Int) * 65536
  let sec : Int := 65536 * 1000000000
  let near := fun (x : Int) => (x + sec / 2) / sec * sec
  let ok := match L.datum.ppsPrev with
    | none => true
    | some p => decide ((t - p - near (t - p)).natAbs ≤ 65536 * 1000 ∧ 0 < near (t - p))
  let x := L.cand candPps
  let now := nsOf t
  if ok then
    let L := { L with datum := { L.datum with ppsPrev := some t, ppsBad := 0 } }.bump .DTM_PPS_CNT
    let L := L.countCand candPps { x with heard := true, lastNs := now } (decide (now < x.lastNs + 3 * secNs / 2))
    (L.takeTheta candPps (nsOf (near t - t)) now).trySwitch now
  else
    let bad := L.datum.ppsBad + 1
    let L := { L with datum := { L.datum with ppsBad := bad } }
    L.setCand candPps { x with count := 0 }

/-! ### Steps and slews (R288) -/

/-- Datum moved by a triangle of `n` ticks each way, in units of n²: 4,886 × t_k / RATE_nom as a ratio (R288).
[log 93 DEDUCED] -/
def slewUnit : Nat × Nat := (rateStep * 31250, 3 * rateNominal)

/-- The profile of a step of `s` ns under a cap in ppm (R288): ticks of rise and of hold. [log 93 DEDUCED] -/
def slewPlan (s : Int) (capPpm : Nat) : Slew :=
  let m := s.natAbs * slewUnit.2
  let q := m / slewUnit.1
  let r := natSqrt q
  let n := if q - r * r ≤ r then r else r + 1
  let cap := capPpm * rateNominal / 1000000 / rateStep
  if n ≤ cap then ⟨s, n, 0, 0, 0, 0⟩
  else ⟨s, cap, (m - cap * cap * slewUnit.1 + cap * slewUnit.1 / 2) / (max 1 (cap * slewUnit.1)), 0, 0, 0⟩

/-- The extra rate of a profile in its `i`-th tick. -/
def Slew.rateAt (p : Slew) (i : Nat) : Int :=
  let up : Int := if i ≤ p.n then i else if i ≤ p.n + p.hold then p.n else (2 * p.n + p.hold : Nat) - (i : Int)
  let v := max 0 up * rateStep
  if p.s < 0 then -v else v

/-- One tick of a slew profile. [log 93 DEDUCED] -/
def Slew.tick (p : Slew) : Slew :=
  { p with ran := p.ran + 1, off := p.off + p.add, add := p.rateAt (p.ran + 1) }

/-- The profile has run to its end. -/
def Slew.done (p : Slew) : Bool := decide (2 * p.n + p.hold ≤ p.ran)

/-- ACCEPT takes effect at its apply edge: SLEWING with the step fixed at acceptance (R288). [log 93 DEDUCED] -/
def Lane.acceptStep (L : Lane) (s now : Int) : Lane :=
  let L := { L with datum := { L.datum with slew := some (slewPlan s (L.fld .DTM_SLEW 24 16)), beyond := [] } }
  L.enterDatum dSlewing now

/-- REJECT takes effect at its apply edge: HOLDOVER, the reference barred (R288). -/
def Lane.rejectStep (L : Lane) (now : Int) : Lane :=
  if L.dstate != dStepPend then L else
  let L := match L.datum.ref, L.datum.held with
    | some _, some h => ({ L with datum := { L.datum with bars := h.src :: L.datum.bars } } : Lane).setFlag .DTM_STAT 22 true
    | some c, none => L.setBar c (L.cand c) true
    | none, _ => L
  L.holdover now

/-- SLEW_END (R288): the profile has ended; a slewing datum is LOCKED. -/
def Lane.slewEnd (now : Int) (L : Lane) : Lane :=
  match L.datum.slew with
  | none => L
  | some p =>
    if !p.done then L else
    let L := { L with datum := { L.datum with slew := none } }.writeTarget
    if L.dstate = dSlewing then L.lockOn now else L

/-! ### Initial set (R276) -/

/-- OFS is set so that the datum at a raw count is `t` (1/65,536 ns), from an initial-set source (R275, R276). -/
def Lane.setOfs (L : Lane) (raw : Nat) (t : Int) (init : Nat) : Lane :=
  let k := tickOf (nsOf t).toNat
  let p : MapPt := ⟨k, raw, 0, L.rateCur⟩
  let L := { L with datum := { L.datum with ofs := t, maps := [p], servo := L.rateTgt } }
  let L := L.setNum64 .DTM_OFS_LO .DTM_OFS_HI (wrap 64 t)
  let L := L.setFld .DTM_STAT 21 19 init
  (L.setNum64 .LCT_TICK_NUM_LO .LCT_TICK_NUM_HI k).setReg .LCT_TICK_IDX (w32 (k % 96000))

/-- The second of a pulse, in 1/65,536 ns: the one nearest to the host-complex clock at the pulse (R276, R281).
[log 91 DEDUCED] -/
def pulseSecond (clock : Int) (raw pulse : Nat) : Int :=
  let t := clock - rawDiff raw pulse * 65536 * 5 / 6
  (t + 65536 * secNs / 2) / (65536 * secNs) * (65536 * secNs)

/-- The datum set from PTP is not yet qualified, and the servo pulls it in on that master (R276, R285).
[log 91 DEDUCED] -/
def Lane.firstMaster (L : Lane) (p : PtpFirst) : Lane :=
  let now := nsOf p.t
  let L : Lane := { L with datum := { L.datum with foreign := L.datum.foreign.put p.port [⟨p.src, p.ds, now⟩] } }
  (L.setCand p.port { L.cand p.port with heard := true, src := p.src, ds := p.ds, lastNs := now, lastSync := now }).commitSwitch
    p.port now

/-- INITIAL_SET (R276): OFS is set once from the first available source; with none the lane stays UNSET. `tod` is the
host complex time of day when a command has set it, in 1/65,536 ns. [log 42 DEDUCED, log 91 DEDUCED] -/
def Lane.initialSet (src : InitSources) (tod : Option Int) (L : Lane) : Lane :=
  if L.dstate != dUnset then L else
  let L : Lane := { L with datum := { L.datum with tried := true } }
  let now := fun (t : Int) => nsOf t
  match src.twin, src.ptp, src.pps, tod, L.datum.saved with
  | some t, _, _, _, _ => (L.setOfs src.raw t 1).enterDatum dHoldover (now t)
  | none, some p, _, _, _ => (L.setOfs src.raw p.t 2).firstMaster p
  | none, none, some pulse, some c, _ =>
    let t := pulseSecond c src.raw pulse + (L.fld .DTM_PPS_DLY 19 0 : Int) * 65536 +
      (L.rateCur * rawDiff src.raw pulse).fdiv (2 ^ 32)
    (L.setOfs src.raw t 3).enterDatum dHoldover (now t)
  | none, none, _, some t, _ => (L.setOfs src.raw t 4).enterDatum dHoldover (now t)
  | none, none, _, none, some x => (L.setOfs src.raw x.val 5).enterDatum dHoldover (now x.val)
  | none, none, _, none, none => L

/-- DATUM_UNSET_EVENT (R276): a lane with no source raises an event each second. -/
def Lane.unsetEvent (L : Lane) : Lane := if L.dstate = dUnset then L.raise 1 0x03 0 else L

/-- TWIN_OFFSET_ALARM (R290): the twin offset has been beyond ±100 ns for 96 consecutive ticks. -/
def Lane.twinAlarm (now : Int) (L : Lane) : Lane :=
  if L.datum.twinRun < 96 || L.flag .DTM_STAT 23 then L
  else (L.setFlag .DTM_STAT 23 true).raise 1 0x04 now (leBytes 4 (L.reg .DTM_TWIN_OFS).toNat)

/-! ### The edge (R30, R31, R273, R274) -/

/-- The datum at a tick edge: the edge is placed on the raw count, the mapping takes a new point, the applied rate
moves toward its target, and a slew profile runs one tick. At Level 2 the rate is frozen (R33). -/
def Lane.datumEdge (L : Lane) : Lane :=
  match L.datum.maps with
  | [] => L
  | p :: rest =>
    let k := L.tick + 1
    let raw := L.datum.rawOf p (edgeNs k)
    let L := match L.datum.slew with
      | some w => { L with datum := { L.datum with slew := some w.tick } }.writeTarget
      | none => L
    let frozen := L.dstate == dFrozen
    let rate := if frozen then L.rateCur else rateToward L.rateCur L.rateTgt
    let q : MapPt := ⟨k, raw, p.d + (p.rate : Int) * rawDiff raw p.e, rate⟩
    let L := { L with datum := { L.datum with maps := (q :: p :: rest).take 1024 } }
    let L := L.setNum64 .DTM_RATE_CUR_LO .DTM_RATE_CUR_HI rate
    let L := L.setNum64 .LCT_TICK_NUM_LO .LCT_TICK_NUM_HI k
    let L := (L.setReg .LCT_TICK_IDX (w32 (k % 96000))).setReg .LCT_TICK_RAW (w32 (rawSince raw p.e))
    let L := L.setNum64 .DTM_RAW_LO .DTM_RAW_HI raw
    let t := (L.datum.at48 q raw).fdiv (2 ^ 32)
    let L := L.setNum64 .DTM_NS_LO .DTM_NS_HI (nsOf t).toNat
    L.setReg .DTM_NS_FRAC (w32 (t % 65536).toNat)

/-- STATE and INIT at the edge of tick 0 of a second, for its beacon (R277). -/
def Lane.noteSecond (L : Lane) : Lane :=
  if L.tick % 96000 != 0 then L
  else { L with datum := { L.datum with secCode := L.fld .DTM_STAT 31 29 + 8 * L.fld .DTM_STAT 21 19 } }

/-! ### Meanings -/

/-- EGRESS_TRANSMIT (R256). -/
def execEgressTransmit (lane : LaneId) (port tx : Nat) (s : State) : Host.Outcome State Fault Refusal :=
  onLane lane (Lane.egressTransmit port tx) s

/-- ANNOUNCE. -/
def execAnnounce (lane : LaneId) (m : PtpHead) (ds : DataSet) (utc : UtcInfo) (now : Int) (s : State) :
    Host.Outcome State Fault Refusal := onLane lane (Lane.takeAnnounce m ds utc now) s

/-- SYNC. -/
def execSync (lane : LaneId) (m : PtpHead) (rx tx : Nat) (origin : Int) (twoStep : Bool) (s : State) :
    Host.Outcome State Fault Refusal := onLane lane (Lane.takeSync m rx tx origin twoStep) s

/-- FOLLOW_UP. -/
def execFollowUp (lane : LaneId) (m : PtpHead) (origin : Int) (s : State) : Host.Outcome State Fault Refusal :=
  onLane lane (Lane.takeFollowUp m origin) s

/-- PDELAY_REQ. -/
def execPdelayReq (lane : LaneId) (m : PtpHead) (rx tx : Nat) (s : State) : Host.Outcome State Fault Refusal :=
  onLane lane (Lane.takePdelayReq m rx tx) s

/-- PDELAY_RESP. -/
def execPdelayResp (lane : LaneId) (m : PtpHead) (rx : Nat) (t2 : Int) (twoStep : Bool) (s : State) :
    Host.Outcome State Fault Refusal := onLane lane (Lane.takePdelayResp m rx t2 twoStep) s

/-- PDELAY_RESP_FOLLOW_UP. -/
def execPdelayRespFollowUp (lane : LaneId) (m : PtpHead) (t3 : Int) (s : State) : Host.Outcome State Fault Refusal :=
  onLane lane (Lane.takePdelayFollowUp m t3) s

/-- PTP_MESSAGE_IGNORED (R279): an end-to-end, Management or Signaling message, or one of another domain. -/
def execPtpMessageIgnored (lane : LaneId) (port : Nat) (s : State) :
    Host.Outcome State Fault Refusal := onLane lane (Lane.ptpIgnored port) s

/-- SYNC_TRANSMIT. -/
def execSyncTransmit (lane : LaneId) (port tx : Nat) (s : State) : Host.Outcome State Fault Refusal :=
  onLane lane (Lane.sendSync port tx) s

/-- ANNOUNCE_TRANSMIT. -/
def execAnnounceTransmit (lane : LaneId) (port : Nat) (s : State) : Host.Outcome State Fault Refusal :=
  onLane lane (Lane.sendAnnounce port) s

/-- PDELAY_REQ_TRANSMIT. -/
def execPdelayReqTransmit (lane : LaneId) (port tx : Nat) (s : State) : Host.Outcome State Fault Refusal :=
  onLane lane (Lane.sendPdelayReq port tx) s

/-- HOLDOVER_ANNOUNCE_STOP. -/
def execHoldoverAnnounceStop (lane : LaneId) (s : State) : Host.Outcome State Fault Refusal :=
  onLane lane Lane.annStop s

/-- PPS_PULSE. -/
def execPpsPulse (lane : LaneId) (raw : Nat) (s : State) : Host.Outcome State Fault Refusal :=
  onLane lane (Lane.takePps raw) s

/-- ANNOUNCE_TIMEOUT. -/
def execAnnounceTimeout (lane : LaneId) (now : Int) (s : State) : Host.Outcome State Fault Refusal :=
  onLane lane (Lane.annTimeout now) s

/-- QUALIFICATION_COMPLETE. -/
def execQualificationComplete (lane : LaneId) (cand : Nat) (now : Int) (s : State) :
    Host.Outcome State Fault Refusal := onLane lane (Lane.qualComplete cand now) s

/-- SWITCH_END. -/
def execSwitchEnd (lane : LaneId) (now : Int) (s : State) : Host.Outcome State Fault Refusal :=
  onLane lane (Lane.switchEnd now) s

/-- STEP_DETECTED. -/
def execStepDetected (lane : LaneId) (now : Int) (s : State) : Host.Outcome State Fault Refusal :=
  onLane lane (Lane.stepDetected now) s

/-- SLEW_END. -/
def execSlewEnd (lane : LaneId) (now : Int) (s : State) : Host.Outcome State Fault Refusal :=
  onLane lane (Lane.slewEnd now) s

/-- DATUM_UNSET_EVENT. -/
def execDatumUnsetEvent (lane : LaneId) (s : State) : Host.Outcome State Fault Refusal := onLane lane Lane.unsetEvent s

/-- TWIN_OFFSET_ALARM. -/
def execTwinOffsetAlarm (lane : LaneId) (now : Int) (s : State) : Host.Outcome State Fault Refusal :=
  onLane lane (Lane.twinAlarm now) s

end Sys2Proof.Machine
end

