-- ==== Sys2Proof/Machine/Book.lean ====
section
/-! DEFINITION. The field book: repeats, new entries, overwriting, the window and its flush (R344 to R349). -/

namespace Sys2Proof.Machine

open Sys2Proof

/-- A later occurrence of an entry's event (R345). -/
def FbEntry.again (e : FbEntry) (time : Int) : FbEntry :=
  { e with rep := min 65535 (e.rep + 1), useq := (e.useq + 1) % 65536, last := time }

/-- The first entry of the lowest severity present, dropped. -/
def dropLowest (l : List FbEntry) (sev : Nat) : List FbEntry :=
  match l with
  | [] => []
  | e :: t => if e.sev = sev then t else e :: dropLowest t sev

/-- The lowest severity present. -/
def lowest (l : List FbEntry) : Nat := l.foldl (fun m e => min m e.sev) 7

/-- What booking an occurrence comes to: the REPEAT it is placed with on the event rings, none where it is not placed
again; and whether the book refused it (R345, R346). -/
structure Booked where
  book    : Book
  place   : Option Nat
  refused : Bool
  deriving DecidableEq, Repr

/-- A repeat is placed again when its count is a power of two (R312). -/
def isPow2 (n : Nat) : Bool := n != 0 && 2 ^ n.log2 == n

/-- A new entry of an occurrence. -/
def Book.entry (b : Book) (src : Nat) (o : Occ) : FbEntry :=
  ⟨b.next, src, o.sev, o.safe, o.code, 1, 1, o.time, o.time, o.data⟩

/-- An occurrence is booked in a book of `nSafe` and `nGen` entries (R345, R346). -/
def Book.enter (b : Book) (nSafe nGen src : Nat) (o : Occ) : Booked :=
  let l := if o.safe then b.safe else b.gen
  let repeats := l.getLast?.any (fun e => e.src == src && e.code == o.code)
  if repeats then
    let e := l.getLast?.map (fun e => e.again o.time)
    let l2 := l.dropLast ++ e.toList
    let rep := (e.map (·.rep)).getD 0
    ⟨if o.safe then { b with safe := l2 } else { b with gen := l2 }, if isPow2 rep then some rep else none, false⟩
  else
    let next := (b.next + 1) % 2 ^ 32
    let e := b.entry src o
    if o.safe then
      if nSafe ≤ b.safe.length then ⟨b, some 1, true⟩
      else ⟨{ b with safe := b.safe ++ [e], next := next }, some 1, false⟩
    else if b.gen.length < nGen then ⟨{ b with gen := b.gen ++ [e], next := next }, some 1, false⟩
    else if lowest b.gen ≤ o.sev then
      ⟨{ b with gen := dropLowest b.gen (lowest b.gen) ++ [e], next := next }, some 1, false⟩
    else ⟨b, some 1, true⟩

/-- An entry's 48 octets (R344). -/
def FbEntry.bytes (e : FbEntry) : List Byte :=
  leBytes 4 e.enum ++ leBytes 2 (e.src % 1024 + e.sev % 8 * 1024 + bnat e.safe * 8192) ++ leBytes 2 e.code ++
  leBytes 2 e.rep ++ leBytes 2 e.useq ++ leBytes 4 0 ++ leBytes 8 (wrap 64 e.first) ++ leBytes 8 (wrap 64 e.last) ++
  (e.data ++ List.replicate 16 0#8).take 16

/-- An entry put in its place by its distance from `n`. -/
def insertFrom (n : Nat) (e : FbEntry) : List FbEntry → List FbEntry
  | [] => [e]
  | x :: t => if (e.enum + 2 ^ 32 - n) % 2 ^ 32 < (x.enum + 2 ^ 32 - n) % 2 ^ 32 then e :: x :: t else x :: insertFrom n e t

/-- The entries from number `n` on, in order (R348). -/
def Book.since (b : Book) (n : Nat) : List FbEntry :=
  ((b.safe ++ b.gen).filter (fun e => decide ((e.enum + 2 ^ 32 - n) % 2 ^ 32 < 2 ^ 31))).foldr (fun e l => insertFrom n e l) []

/-- A word of the 16-entry window from number `n`; a position with no entry reads zero (R348). -/
def Book.window (b : Book) (n k w : Nat) : Word :=
  match ((b.since n).drop k).head? with
  | some e => w32 (leAt e.bytes (4 * w) 4)
  | none => 0

/-- The book's registers follow it. -/
def Lane.showBook (L : Lane) : Lane :=
  (L.setReg .ACQ_FB_NEXT (w32 L.book.next)).setReg .ACQ_FB_FILL (w32 (L.book.safe.length * 65536 + L.book.gen.length))

/-- The oldest occurrence of a lane is booked; what is to be placed on the rings waits with its REPEAT.
[log 109 DEDUCED] -/
def Lane.bookNext (base : Nat) (L : Lane) : Lane :=
  match L.occ with
  | [] => L
  | o :: rest =>
    let r := L.book.enter 2048 14336 (base + o.src) o
    let L := { L with occ := rest, book := r.book, placed := L.placed ++ (r.place.map (fun n => (o, n))).toList }
    let L := if r.refused then (if o.safe then L.bump .ACQ_FB_SAFEDROP else L.bump .ACQ_FB_GENDROP) else L
    L.showBook

/-- Occurrences that wait are booked, `n` of them. -/
def Lane.bookMany (base : Nat) : Nat → Lane → Lane
  | 0, L => L
  | n + 1, L => (L.bookNext base).bookMany base n

/-- The whole book, with every occurrence so far, is written to MRAM at once: before a reset, at a sag (R347).
[log 110 DEDUCED] -/
def Lane.flushBook (base : Nat) (L : Lane) : Lane :=
  let L := L.bookMany base L.occ.length
  { L with saved := some L.book, flush := [] }

/-- A flush begins, asked for by a command or by entry to Level 2 or the safe state (R347). [log 110 DEDUCED] -/
def Lane.flushStart (id : Option CmdId) (L : Lane) : Lane := { L with flush := L.flush ++ [(L.book, id)] }

/-- The oldest flush in progress completes with its header: the copy stands, and its command completes.
[log 110 DEDUCED] -/
def Lane.flushEnd (L : Lane) : Lane :=
  match L.flush with
  | [] => L
  | f :: rest =>
    let L := { L with saved := some f.1, flush := rest }
    match f.2 with
    | some id => L.finish id 0
    | none => L

/-- At lane start the book is restored from MRAM and ENUM continues (R347). -/
def Lane.restoreBook (L : Lane) : Lane := { L with book := L.saved.getD .empty }.showBook

end Sys2Proof.Machine
end

