-- ==== Sys2Proof/Machine/Ilu.lean ====
section
/-! DEFINITION. The interlock logic unit: GOOSE subscriptions, flags, Farusk logic, scans, program control, snapshots
(R188 to R214). -/

namespace Sys2Proof.Machine

open Sys2Proof

/-! ### Parts -/

/-- A program's machine. -/
def Lane.iluProg (L : Lane) (p : Nat) : IluProg := L.ilu.progs.getD p .fresh

/-- The lane with a program's machine replaced. -/
def Lane.setProg (L : Lane) (p : Nat) (x : IluProg) : Lane := { L with ilu := { L.ilu with progs := L.ilu.progs.put p x } }

/-- A GOOSE subscription's state. -/
def Lane.gsSub (L : Lane) (g : Nat) : GsSub := L.ilu.gs.getD g .fresh

/-- The lane with a subscription's state replaced. -/
def Lane.setGs (L : Lane) (g : Nat) (x : GsSub) : Lane := { L with ilu := { L.ilu with gs := L.ilu.gs.put g x } }

/-- A program's state: 0 disabled, 1 STOPPED, 2 RUNNING. -/
def Lane.iluState (L : Lane) (p : Nat) : Nat := L.fld .ILU_PRG_STAT 31 30 p

/-- N of a program (R190). -/
def Lane.iluN (L : Lane) (p : Nat) : Nat := max 1 (L.fld .ILU_PRG_SCHED 31 16 p)

/-- STEPS of a program in a tick (R191). -/
def Lane.iluSteps (L : Lane) (p : Nat) : Nat := L.fld .ILU_PRG_BUDGET 27 16 p

/-- The ILU can run: in service at Level 0 or 1, with no sag; a fault stops its programs at the next edge (R208, R212,
R214). -/
def Lane.iluRuns (L : Lane) : Bool := L.inService && decide (L.level ≤ 1) && !L.ilu.sag

/-- The bits of a flag set from flag `lo` to flag `hi`. -/
def flagMask (lo hi : Nat) : Nat := if hi < lo then 0 else 2 ^ (hi + 1) - 2 ^ lo

/-- `a` with the bits of `m` taken from `b`. -/
def mergeBits (a m b : Nat) : Nat := a - (a &&& m) + (b &&& m)

/-- Output pins of the lane, as bits (R209). -/
def Lane.outPins (L : Lane) : Nat := L.fld .ILU_FIO_DIR 7 0

/-- The program that owns an output pin. -/
def Lane.pinOwner (L : Lane) (i : Nat) : Nat := L.fld .ILU_FIO_OWN (2 * i + 1) (2 * i)

/-- The flags a program owns (R193): its working flags and its output pins. -/
def Lane.ownMask (L : Lane) (p : Nat) : Nat :=
  ((L.img.iluOwn.getD p []).foldl (fun m r => m ||| flagMask r.1 r.2) 0) |||
  bitsWhere (fun i => L.outPins.testBit i && L.pinOwner i == p) 8

/-- Flags that a program owns, or that others than programs write (R192): every other flag reads 0. -/
def Lane.usedMask (L : Lane) : Nat :=
  (List.range 4).foldl (fun m p => if L.flag .ILU_PRG_CFG 31 p then m ||| L.ownMask p else m)
    ((2 ^ 672 - 1 - L.outPins) ||| flagMask 8128 8191)

/-- The published flags as one number, flag f in bit f. -/
def Lane.pubFlags (L : Lane) : Nat := (List.range 256).foldr (fun w n => n * 2 ^ 32 + (L.reg .ILU_FLAG w).toNat) 0

/-- Flags 0 to 671 but for output pins, as latched in this tick (R192, R195). -/
def Lane.latchedInputs (L : Lane) : Nat :=
  let x := L.ilu
  (x.fio &&& (511 - L.outPins)) + bnat x.hold * 2 ^ 9 + 2 ^ 10 +
  bitsWhere (fun p => L.flag .ILU_PRG_STAT 29 p) 4 * 2 ^ 12 + bitsWhere (fun p => L.flag .ILU_PRG_STAT 28 p) 4 * 2 ^ 16 +
  x.host * 2 ^ 64 + x.gsLat * 2 ^ 128

/-- The input flags that every closure updates. -/
def Lane.inputMask (L : Lane) : Nat := 2 ^ 672 - 1 - L.outPins

/-- The flags a scan reads that begins now (R195): inputs as latched, the trip matrix's flags as latched in this tick,
others as published. -/
def Lane.scanView (L : Lane) : Nat :=
  mergeBits (mergeBits L.pubFlags L.inputMask L.latchedInputs) (flagMask 8128 8191) (L.trip.flg * 2 ^ 8128)

/-! ### GOOSE reception (R197 to R199) -/

/-- The gocbRef of a subscription: 64 octets. -/
def Lane.gsRef (L : Lane) (g : Nat) : List Byte :=
  (List.range 16).flatMap (fun w => leBytes 4 (L.reg .ILU_GS_REF g w).toNat)

/-- A frame matches a subscription (R197). [log 139 DEDUCED] -/
def Lane.gsMatches (L : Lane) (port : Nat) (f : GooseFrame) (g : Nat) : Bool :=
  f.etype == 0x88B8 && L.flag .ILU_GS_CFG 31 g && L.flag .ILU_GS_CFG (21 + port) g &&
  f.dst == L.fld .ILU_GS_DMAC_HI 15 0 g * 2 ^ 32 + (L.reg .ILU_GS_DMAC_LO g).toNat &&
  (match f.tag with
   | none => L.flag .ILU_GS_CFG 27 g
   | some t => t.vid == L.fld .ILU_GS_ID 27 16 g) &&
  f.appId == L.fld .ILU_GS_ID 15 0 g &&
  decide (f.gocbRef.length ≤ 64) && padTo 64 f.gocbRef == L.gsRef g && f.gocbRef.getLast? != some 0#8

/-- NMEM of a subscription. -/
def Lane.gsMem (L : Lane) (g : Nat) : Nat := min 16 (L.fld .ILU_GS_CFG 4 0 g)

/-- A frame passes every drop check (R198). [log 72 DEDUCED] -/
def Lane.gsAccept (L : Lane) (g : Nat) (f : GooseFrame) : Bool :=
  f.berOk && f.confRev == (L.reg .ILU_GS_CONFREV g).toNat && decide (L.gsMem g ≤ f.members.length) &&
  (f.members.take (L.gsMem g)).all (fun m => m.2.isSome == L.flag .ILU_GS_CFG 30 g) &&
  (!f.sim || L.flag .ILU_GS_CFG 28 g) && (!f.test || L.flag .ILU_GS_CFG 29 g)

/-- A frame's authentication (R59): a frame whose extension is encrypted fails under every MODE.
[log 4 DESIGN CHOICE] -/
def Lane.gsAuth (L : Lane) (g : Nat) (f : GooseFrame) : Option Bool :=
  if f.ext.any (·.encrypted) then none else L.authKey (L.fld .ILU_GS_AUTH 31 30 g) (L.fld .ILU_GS_AUTH 7 0 g) f.ext

/-- A frame is new (R198). -/
def GsSub.isNew (x : GsSub) (f : GooseFrame) : Bool :=
  match x.last with
  | none => true
  | some (st, sq) => f.stNum != st || decide (sq < f.sqNum)

/-- An accepted new frame sets the members, VALID and the deadline (R199). [log 72 DEDUCED] -/
def Lane.gsTake (L : Lane) (g rx : Nat) (f : GooseFrame) (knext : Bool) : Lane :=
  let c := L.convert rx
  let L := c.2
  let x := L.gsSub g
  let ms := f.members.take (L.gsMem g)
  let at_ := fun (k : Nat) => (ms.drop k).head?.getD (false, none)
  let x := { x with raw := bitsWhere (fun k => (at_ k).1) ms.length
                    bad := bitsWhere (fun k => (at_ k).2.any (fun q => q % 4 == 1)) ms.length
                    valid := !f.ndsCom, dead := some (c.1 + (f.tal : Int) * 65536000000), last := some (f.stNum, f.sqNum) }
  let L := (L.setGs g x).bump .ILU_GS_RXCNT g
  let L := (L.setReg .ILU_GS_STNUM (w32 f.stNum) g).setReg .ILU_GS_SQNUM (w32 f.sqNum) g
  ((L.setFlag .ILU_GS_STAT 30 f.test g).setFlag .ILU_GS_STAT 29 f.ndsCom g).setFlag .ILU_GS_STAT 28 knext g

/-- A GOOSE frame received on a port at a raw count (R197 to R199). [log 82 DEDUCED] -/
def Lane.takeGoose (port rx : Nat) (f : GooseFrame) (L : Lane) : Lane :=
  if !L.intakeOpen port then L else
  let L := { L with intake := { L.intake with fps := L.intake.fps + 1 } }
  if L.isOwnMac f.src then L.bump .INT_OWNDROP else
  match (List.range 32).find? (fun g => L.gsMatches port f g) with
  | none => L.bump .INT_UNMATCHED
  | some g =>
    if !L.gsAccept g f then L.bump .ILU_GS_DROP g else
    match L.gsAuth g f with
    | none => L.bump .ILU_GS_AUTHFAIL g
    | some knext => if (L.gsSub g).isNew f then L.gsTake g rx f knext else L.bump .ILU_GS_DUP g

/-- At a cut-off past its deadline a subscription's VALID clears (R199). [log 72 DEDUCED] -/
def Lane.gsExpire (L : Lane) (g : Nat) : Lane :=
  let x := L.gsSub g
  if L.flag .ILU_GS_CFG 31 g && x.valid && x.dead.any (fun d => decide (d < L.cutNs * 65536)) then
    (L.setGs g { x with valid := false, evt := x.evt + 1, owed := true }).bump .ILU_GS_TALEXP g
  else L

/-- stNum and sqNum of the last accepted frame, as event data. [log 72 DEDUCED] -/
def GsSub.evtData (x : GsSub) : List Byte := leBytes 4 (x.last.getD (0, 0)).1 ++ leBytes 4 (x.last.getD (0, 0)).2

/-- TAL_EXPIRY: the expiry is carried out, if the cut-off has not done so, and reported (R199). -/
def Lane.talExpiry (g : Nat) (L : Lane) : Lane :=
  let L := L.gsExpire g
  let x := L.gsSub g
  if x.evt = 0 then L else (L.setGs g { x with evt := x.evt - 1 }).raise (192 + g) 0x01 L.cutNs x.evtData

/-- A subscription's member flags at a cut-off: LOSSV where it is not valid or the member's quality is invalid. -/
def Lane.gsFlags (L : Lane) (g : Nat) : Nat :=
  let x := L.gsSub g
  let lossv := L.fld .ILU_GS_CFG 26 25 g
  bitsWhere (fun m =>
    if x.valid && !x.bad.testBit m then x.raw.testBit m
    else if lossv = 1 then false else if lossv = 2 then true else x.flags.testBit m) (L.gsMem g)

/-- The subscriptions at the cut-off: expiries, member flags, and the second event of R199. -/
def Lane.gsCutoff (L : Lane) : Lane :=
  let L := foldTo 32 (fun (L : Lane) g =>
    if !L.flag .ILU_GS_CFG 31 g then L else
    let L := L.gsExpire g
    let x := L.gsSub g
    let L := L.setGs g { x with flags := L.gsFlags g, owed := x.owed && !x.valid }
    if x.owed && x.valid then L.raise (192 + g) 0x02 L.cutNs x.evtData else L) L
  let mem := (List.range 32).foldr (fun g n => n * 65536 + (if L.flag .ILU_GS_CFG 31 g then (L.gsSub g).flags else 0)) 0
  let val := bitsWhere (fun g => L.flag .ILU_GS_CFG 31 g && (L.gsSub g).valid) 32
  { L with ilu := { L.ilu with gsLat := mem + val * 2 ^ 512 } }

/-- Flags 0 to 8 and HOLDOVER as they stand at the edge; every program's allotment begins anew (R191, R195). -/
def Lane.iluEdge (L : Lane) : Lane :=
  { L with ilu := { L.ilu with fio := L.fio.image, hold := L.flag .LCT_TRAV_STAT 24
                               progs := L.ilu.progs.mapv (fun _ x => { x with spent := 0 }) } }

/-! ### Faults and stops (R207, R208) -/

/-- A program leaves RUNNING: its scan is abandoned unpublished, with the stall steps it still owed. -/
def Lane.iluStop (L : Lane) (p : Nat) : Lane :=
  let x := L.iluProg p
  let L := L.setProg p { x with scan := false, tmr := ⟨[]⟩, ctr := ⟨[]⟩, stack := [], stall := 0 }
  let L := ((L.setFld .ILU_PRG_STAT 31 30 1 p).setFlag .ILU_PRG_STAT 27 false p).setFld .ILU_PRG_STAT 15 0 0 p
  L.setFlag .ILU_STAT (24 + p) false

/-- Every running program stops: Level 2, an ILU fault at the next edge. -/
def Lane.iluStopAll (L : Lane) : Lane :=
  (foldTo 4 (fun (L : Lane) p => if L.iluState p = 2 then L.iluStop p else L) L).setFlag .ILU_STAT 31 false

/-- An ILU fault is latched with its event (R208); programs stop at the next edge. [log 68 DEDUCED] -/
def Lane.iluFault (cause : Nat) (time : Int) (L : Lane) : Lane :=
  if !L.inService || L.flag .ILU_STAT 30 then L
  else
    let L := (L.setFlag .ILU_STAT 30 true).raise 7 0x01 time (leBytes 1 cause)
    if cause = 1 then L.dropTo 2 7 time else L

/-! ### Farusk logic (R200 to R204) -/

/-- The steps an instruction takes (R201). -/
def stepsOf : FOp → Nat
  | .ton _ | .tof _ | .tp _ => 3
  | .ctu _ | .ctd _ | .crs _ | .cld _ => 2
  | _ => 1

/-- The instruction a word encodes; none for a reserved code (R201). -/
def faruskDecode (w : Nat) : Option FOp :=
  let f := w % 4096
  let k := w % 1024
  match w / 4096 % 16 with
  | 0 => some (.ld f) | 1 => some (.ldn f) | 2 => some (.andf f) | 3 => some (.andn f) | 4 => some (.orf f)
  | 5 => some (.orn f) | 6 => some (.xorf f) | 7 => some (.xorn f) | 8 => some (.st f) | 9 => some (.stn f)
  | 10 => some (.setf f) | 11 => some (.rst f) | 12 => some (.re f) | 13 => some (.fe f)
  | 14 =>
    if w / 2048 % 2 = 0 then
      match w / 512 % 4 with
      | 0 => some (.ton (w % 512)) | 1 => some (.tof (w % 512)) | 2 => some (.tp (w % 512)) | _ => none
    else if w / 256 % 2 = 1 then none
    else
      match w / 512 % 4 with
      | 0 => some (.ctu (w % 256)) | 1 => some (.ctd (w % 256)) | 2 => some (.crs (w % 256)) | _ => some (.cld (w % 256))
  | _ =>
    match w / 1024 % 4 with
    | 0 =>
      if k = 0 then some .faruskNop else if k = 1 then some .push else if k = 2 then some .popa
      else if k = 3 then some .popo else if k = 4 then some .page0 else if k = 5 then some .page1
      else if k = 0x3FF then some .endScan else none
    | 1 => if k = 0 then none else some (.jc k)
    | 2 => if k = 0 then none else some (.jcn k)
    | _ => none

/-- What an instruction leads to: the next machine, the end of the scan's execution, or a run-time check failure with
its code in the event of R467. -/
inductive FRes
  | next (x : IluProg)
  | done (x : IluProg)
  | bad (code : Nat)
  deriving DecidableEq, Repr

/-- A flag's address: PAGE gives bit 12 (R200). -/
def IluProg.addr (x : IluProg) (f : Nat) : Nat := (if x.page then 4096 else 0) + f % 4096

/-- A flag as the program reads it. -/
def IluProg.flag (x : IluProg) (f : Nat) : Bool := x.view.testBit (x.addr f)

/-- The machine with a flag written. -/
def IluProg.setFlag (x : IluProg) (f : Nat) (v : Bool) : IluProg :=
  let a := 2 ^ x.addr f
  { x with view := mergeBits x.view a (if v then a else 0) }

/-- A timer's mode in the program memory is TOF (R203). -/
def Lane.isTof (L : Lane) (i : Nat) : Bool :=
  (List.range 16384).any (fun w => faruskDecode (bits (L.reg .ILU_PROG (w / 2)) (16 * (w % 2) + 15) (16 * (w % 2))) == some (.tof i))

/-- A timer at load and after CLEAR (R203). -/
def tmrInit (tof : Bool) (pt : Nat) : TmrSt := ⟨if tof then pt else 0, false, false, none⟩

/-- A timer as the program sees it in this scan. -/
def Lane.timerOf (L : Lane) (x : IluProg) (i : Nat) (tof : Bool) : TmrSt :=
  (x.tmr.get? i).getD ((L.ilu.tmr.get? i).getD (tmrInit tof (L.fld .ILU_TMR_CFG 23 0 i)))

/-- A counter as the program sees it in this scan. -/
def Lane.counterOf (L : Lane) (x : IluProg) (j : Nat) : CtrSt :=
  (x.ctr.get? j).getD ((L.ilu.ctr.get? j).getD ⟨0, false, false⟩)

/-- A timer block's update (R203): mode 0 TON, 1 TOF, 2 TP. -/
def TmrSt.update (m : TmrSt) (mode pt t t0 : Nat) (inp : Bool) : TmrSt :=
  let d := min (t - m.tLast.getD t0) 16777215
  let run := min (m.et + d) pt
  match mode with
  | 0 =>
    let et := if !inp then 0 else if m.inPrev then run else m.et
    ⟨et, inp && decide (pt ≤ et), inp, some t⟩
  | 1 =>
    let et := if inp then 0 else if !m.inPrev then run else m.et
    ⟨et, inp || decide (et < pt), inp, some t⟩
  | _ =>
    let et := if m.q then run else m.et
    let q := if m.q then decide (et < pt) else inp && !m.inPrev && et == 0 && decide (0 < pt)
    ⟨if !q && !inp then 0 else et, q, inp, some t⟩

/-- A timer or counter is in a program's allocation (R189, R205). [log 68 DEDUCED] -/
def Lane.allocTo (L : Lane) (r : Reg) (i p : Nat) : Bool := L.flag r 31 i && L.fld r 30 29 i == p

/-- A store of `v` into flag `f` by program `p`; a flag it does not own is a page check failure (R193, R208).
[log 68 DEDUCED] -/
def Lane.faruskStore (L : Lane) (p : Nat) (x : IluProg) (f : Nat) (v : Bool) : FRes :=
  if (L.ownMask p).testBit (x.addr f) then .next (x.setFlag f v) else .bad 3

/-- A timer instruction (R203). -/
def Lane.faruskTimer (L : Lane) (p : Nat) (x : IluProg) (mode i : Nat) : FRes :=
  if !L.allocTo .ILU_TMR_CFG i p then .bad 4 else
  let m := (L.timerOf x i (mode == 1)).update mode (L.fld .ILU_TMR_CFG 23 0 i) x.start (x.tick0.getD x.start) x.acc
  .next { x with tmr := x.tmr.put i m, acc := m.q }

/-- A counter instruction (R204): 0 CTU, 1 CTD, 2 CRS, 3 CLD. -/
def Lane.faruskCounter (L : Lane) (p : Nat) (x : IluProg) (op j : Nat) : FRes :=
  if !L.allocTo .ILU_CTR_PV j p then .bad 4 else
  let c := L.counterOf x j
  let pv := L.fld .ILU_CTR_PV 15 0 j
  match op with
  | 0 =>
    let cv := if x.acc && !c.up then min (c.cv + 1) 65535 else c.cv
    .next { x with ctr := x.ctr.put j ⟨cv, x.acc, c.dn⟩, acc := decide (pv ≤ cv) }
  | 1 =>
    let cv := if x.acc && !c.dn then c.cv - 1 else c.cv
    .next { x with ctr := x.ctr.put j ⟨cv, c.up, x.acc⟩, acc := cv == 0 }
  | 2 => .next { x with ctr := x.ctr.put j { c with cv := if x.acc then 0 else c.cv } }
  | _ => .next { x with ctr := x.ctr.put j { c with cv := if x.acc then pv else c.cv } }

/-- The effect of an instruction on the machine whose PC already names the next word (R201 to R204). -/
def Lane.farusk (L : Lane) (p : Nat) (o : FOp) (x : IluProg) : FRes :=
  match o with
  | .ld f => .next { x with acc := x.flag f }
  | .ldn f => .next { x with acc := !x.flag f }
  | .andf f => .next { x with acc := x.acc && x.flag f }
  | .andn f => .next { x with acc := x.acc && !x.flag f }
  | .orf f => .next { x with acc := x.acc || x.flag f }
  | .orn f => .next { x with acc := x.acc || !x.flag f }
  | .xorf f => .next { x with acc := xor x.acc (x.flag f) }
  | .xorn f => .next { x with acc := xor x.acc (!x.flag f) }
  | .st f => L.faruskStore p x f x.acc
  | .stn f => L.faruskStore p x f (!x.acc)
  | .setf f => L.faruskStore p x f (x.acc || x.flag f)
  | .rst f => L.faruskStore p x f (!x.acc && x.flag f)
  | .re f => L.faruskStore p { x with acc := x.acc && !x.flag f } f x.acc
  | .fe f => L.faruskStore p { x with acc := !x.acc && x.flag f } f x.acc
  | .ton t => L.faruskTimer p x 0 t
  | .tof t => L.faruskTimer p x 1 t
  | .tp t => L.faruskTimer p x 2 t
  | .ctu c => L.faruskCounter p x 0 c
  | .ctd c => L.faruskCounter p x 1 c
  | .crs c => L.faruskCounter p x 2 c
  | .cld c => L.faruskCounter p x 3 c
  | .faruskNop => .next x
  | .push => if 64 ≤ x.stack.length then .bad 2 else .next { x with stack := x.acc :: x.stack }
  | .popa =>
    match x.stack with
    | [] => .bad 2
    | b :: s => .next { x with acc := b && x.acc, stack := s }
  | .popo =>
    match x.stack with
    | [] => .bad 2
    | b :: s => .next { x with acc := b || x.acc, stack := s }
  | .page0 => .next { x with page := false }
  | .page1 => .next { x with page := true }
  | .endScan => if x.stack.isEmpty then .done x else .bad 2
  | .jc k => .next { x with pc := if x.acc then x.pc + k else x.pc }
  | .jcn k => .next { x with pc := if x.acc then x.pc else x.pc + k }

/-! ### Scans (R190, R191) -/

/-- A program word. -/
def Lane.progWord (L : Lane) (w : Nat) : Nat := bits (L.reg .ILU_PROG (w / 2)) (16 * (w % 2) + 15) (16 * (w % 2))

/-- The PC lies in the program's range (R208). [log 68 DEDUCED] -/
def Lane.pcOk (L : Lane) (p pc : Nat) : Bool :=
  let a := L.fld .ILU_PRG_CFG 13 0 p
  decide (a ≤ pc ∧ pc < a + L.fld .ILU_PRG_CFG 29 15 p)

/-- One instruction of `n` steps is charged to the scan and the allotment, and PC moves past its word.
[log 69 DEDUCED] -/
def IluProg.charge (x : IluProg) (n : Nat) : IluProg := { x with pc := x.pc + 1, used := x.used + n, spent := x.spent + n }

/-- A program steps through its memory until END, a failed check or the end of its allotment (R191). [log 67 DEDUCED] -/
def Lane.faruskRun (L : Lane) (p : Nat) : Nat → IluProg → FRes
  | 0, x => .next x
  | fuel + 1, x =>
    if !L.pcOk p x.pc then .bad 4 else
    match faruskDecode (L.progWord x.pc) with
    | none => .bad 4
    | some o =>
      if L.iluSteps p < x.spent + (stepsOf o) then .next x else
      match L.farusk p o (x.charge (stepsOf o)) with
      | .next y => L.faruskRun p fuel y
      | r => r

/-- A corrected memory error's stall steps are served before the next instruction (R206).
[log 67 DEDUCED, log 69 DEDUCED] -/
def IluProg.serve (x : IluProg) (steps : Nat) : IluProg :=
  let n := min x.stall (steps - x.spent)
  { x with stall := x.stall - n, used := x.used + n, spent := x.spent + n }

/-- A scan begins (R190, R200): stall steps that the scan before still owed go with it. [log 69 DEDUCED] -/
def Lane.scanStart (L : Lane) (p : Nat) : Lane :=
  let x := L.iluProg p
  let t := L.tick
  let y : IluProg := { scan := true, start := t, pc := L.fld .ILU_PRG_CFG 13 0 p, acc := false, page := false, stack := [],
                       used := 0, spent := x.spent, stall := 0, view := L.scanView, tmr := ⟨[]⟩, ctr := ⟨[]⟩,
                       tick0 := some (x.tick0.getD t) }
  ((L.setProg p y).setFlag .ILU_PRG_STAT 27 false p).setFld .ILU_PRG_STAT 15 0 0 p

/-- The instant of a step of the tick, in whole ns (R191). -/
def Lane.stepNs (L : Lane) (n : Nat) : Int := (L.refEdge + 3600 + n * 5 / 3 : Nat)

/-- What a machine reached is kept; or its failed check is an ILU fault, and it takes no further step (R208). -/
def Lane.faruskEnd (L : Lane) (p : Nat) : FRes → Lane
  | .next y => L.setProg p y
  | .done y => (L.setProg p y).setFlag .ILU_PRG_STAT 27 true p
  | .bad c => (L.setProg p { L.iluProg p with scan := false }).iluFault c (L.stepNs (L.iluProg p).spent)

/-- In the first tick of its scan a program's scan begins (R190). -/
def Lane.scanDue (L : Lane) (p : Nat) : Lane :=
  if L.iluRuns && L.iluState p == 2 && L.tick % L.iluN p == L.fld .ILU_PRG_SCHED 15 0 p then L.scanStart p else L

/-- A program's part of a tick. [log 69 DEDUCED] -/
def Lane.progSlice (L : Lane) (p : Nat) : Lane :=
  if !L.iluRuns || L.iluState p != 2 then L else
  let x := L.iluProg p
  if !x.scan || L.flag .ILU_PRG_STAT 27 p then L
  else L.faruskEnd p (L.faruskRun p (L.iluSteps p) (x.serve (L.iluSteps p)))

/-- ILU_SLICE: scans due begin, and programs P0 to P3 step in order; `ce` lists the program that executes at each corrected memory error
(R191, R206). No step is taken in a freeze tick (R223). [log 67 DEDUCED] -/
def Lane.iluSlice (ce : List Nat) (L : Lane) : Lane :=
  if L.frozen then L.bump .ILU_ECC_CE 0 ce.length else
  let L := foldTo 4 (fun (L : Lane) p => L.scanDue p) L
  let L := ce.foldl (fun (L : Lane) p =>
    let x := L.iluProg p
    (L.setProg p { x with stall := x.stall + 6 }).bump .ILU_ECC_CE) L
  foldTo 4 (fun (L : Lane) p => L.progSlice p) L

/-- A Farusk instruction's row: program `p` executes it as its next step, in a scan in progress, if its allotment in
the tick has the steps left (R191). [log 67 DEDUCED] -/
def Lane.faruskRow (p : Nat) (o : FOp) (L : Lane) : Lane :=
  let x := L.iluProg p
  if !L.iluRuns || L.frozen || L.iluState p != 2 || !x.scan || L.flag .ILU_PRG_STAT 27 p ||
      decide (L.iluSteps p < x.spent + (stepsOf o)) then L
  else L.faruskEnd p (L.farusk p o (x.charge (stepsOf o)))

/-! ### Closure (R42, R194, R211) -/

/-- Every timer of `m` over those of `base`. -/
def overlay {α : Type} (base m : NMap α) : NMap α := m.cells.foldl (fun b c => b.put c.1 c.2) base

/-- The CRC-32 of the program memory image (R211). [log 70 DESIGN CHOICE] -/
def Lane.progCrc (L : Lane) : Nat := crc32 ((List.range 8192).flatMap (fun w => leBytes 4 (L.reg .ILU_PROG w).toNat))

/-- A timer's 16 octets in a buffer. -/
def tmrBytes (m : Option TmrSt) : List Byte :=
  match m with
  | none => leBytes 16 0
  | some m => leBytes 4 m.et ++ leBytes 1 (bnat m.q) ++ leBytes 1 (bnat m.inPrev) ++ leBytes 1 (bnat m.tLast.isSome) ++ leBytes 1 0 ++
      leBytes 8 (m.tLast.getD 0)

/-- A counter's 4 octets in a buffer. -/
def ctrBytes (c : Option CtrSt) : List Byte :=
  match c with
  | none => leBytes 4 0
  | some c => leBytes 2 c.cv ++ leBytes 1 (bnat c.up) ++ leBytes 1 (bnat c.dn)

/-- The 10,304 octets of a buffer, with its CRC field as zero (R211). [log 70 DESIGN CHOICE] -/
def IluSnap.bytes (s : IluSnap) : List Byte :=
  leBytes 8 s.tick ++ leBytes 4 s.prog ++ leBytes 4 s.mask ++ leBytes 48 0 ++ leBytes 1024 s.flags ++
  (List.range 512).flatMap (fun i => tmrBytes (s.tmr.get? i)) ++ (List.range 256).flatMap (fun j => ctrBytes (s.ctr.get? j))

/-- The program words that are not zero. [log 70 DESIGN CHOICE] -/
def Lane.progWords (L : Lane) : List (Nat × Word) :=
  (List.range 8192).filterMap (fun w => let v := L.reg .ILU_PROG w; if v = 0 then none else some (w, v))

/-- A snapshot is written to the older buffer (R211). [log 70 DESIGN CHOICE, log 130 DEDUCED] -/
def Lane.snapshot (L : Lane) : Lane :=
  let snap : IluSnap := { tick := L.tick, prog := L.progCrc
                          mask := bitsWhere (fun p => L.flag .ILU_PRG_CFG 31 p) 4, flags := L.pubFlags
                          tmr := L.ilu.tmr, ctr := L.ilu.ctr, crc := 0 }
  let snap := { snap with crc := crc32 snap.bytes }
  let L := if L.ilu.newer then { L with ilu := { L.ilu with b0 := some snap, newer := false } }
           else { L with ilu := { L.ilu with b1 := some snap, newer := true } }
  (L.setFlag .ILU_SNAP_STAT 31 L.ilu.newer).setNum64 .ILU_SNAP_TICK_LO .ILU_SNAP_TICK_HI L.tick

/-- A program's scan ends: published, or skipped (R42). The result tells whether it was published, and the flags.
[log 130 DEDUCED] -/
def Lane.scanEnd (L : Lane) (p : Nat) (flags : Nat) : Lane × Nat :=
  let x := L.iluProg p
  let L := (L.setProg p { x with scan := false, tmr := ⟨[]⟩, ctr := ⟨[]⟩ }).setFld .ILU_PRG_STAT 15 0 0 p
  if L.flag .ILU_PRG_STAT 27 p then
    let L := { L with ilu := { L.ilu with tmr := overlay L.ilu.tmr x.tmr, ctr := overlay L.ilu.ctr x.ctr } }
    let L := (L.bump .ILU_PRG_SCANS p).setFld .ILU_PRG_USEMAX 15 0 (max (L.fld .ILU_PRG_USEMAX 15 0 p) (min 65535 x.used)) p
    ((((L.setFlag .ILU_PRG_STAT 29 false p).setFlag .ILU_PRG_STAT 28 false p)).setFlag .ILU_PRG_STAT 27 false p,
     mergeBits flags (L.ownMask p) x.view)
  else
    let L := ((L.bumpSat .ILU_PRG_MISS p).bumpSat .LCT_CLOSURE_CNT).setFlag .ILU_PRG_STAT 28 true p
    ((L.setFlag .LCT_CLOSURE_STAT 1 true).raise (32 + p) 0x01 (L.refEdge + 10150 : Nat) (leBytes 4 (L.reg .ILU_PRG_MISS p).toNat), flags)

/-- A scan whose last tick is a freeze tick ends unpublished, since outputs are held; it is a miss unless END has been
executed (R42, R223). [log 71 DEDUCED] -/
def Lane.scanFrozen (L : Lane) (p : Nat) : Lane :=
  if L.flag .ILU_PRG_STAT 27 p then
    ((L.setProg p { L.iluProg p with scan := false, tmr := ⟨[]⟩, ctr := ⟨[]⟩ }).setFld .ILU_PRG_STAT 15 0 0 p).setFlag .ILU_PRG_STAT 27 false p
  else (L.scanEnd p 0).1

/-- The published flags are written to their registers; flag 10 is 1, and the trip matrix's 64 are its own (R192). -/
def Lane.setPubFlags (L : Lane) (n : Nat) : Lane :=
  let n := n ||| 2 ^ 10
  foldTo 254 (fun (L : Lane) w =>
    let v := w32 (n / 2 ^ (32 * w))
    if L.reg .ILU_FLAG w = v then L else L.setReg .ILU_FLAG v w) L

/-- The ILU at closure (R194): input flags as latched; own flags of programs whose scan ends; snapshot.
[log 71 DEDUCED] -/
def Lane.iluClose (L : Lane) : Lane :=
  if !L.inService || decide (3 ≤ L.level) || L.ilu.sag then L else
  let base := mergeBits L.pubFlags L.inputMask L.latchedInputs
  let runs := L.iluRuns
  let r := foldTo 4 (fun (a : Lane × Nat × Bool) p =>
    let L := a.1
    if !runs || L.iluState p != 2 || !(L.iluProg p).scan then a
    else if (L.tick + 1) % L.iluN p != L.fld .ILU_PRG_SCHED 15 0 p then
      (L.setFld .ILU_PRG_STAT 15 0 (L.fld .ILU_PRG_STAT 15 0 p + 1) p, a.2)
    else if L.frozen then (L.scanFrozen p, a.2)
    else
      let ended := L.flag .ILU_PRG_STAT 27 p
      let s := L.scanEnd p a.2.1
      (s.1, s.2, a.2.2 || ended)) (L, base, false)
  let L := r.1.setPubFlags r.2.1
  let L := foldTo 32 (fun (L : Lane) g =>
    L.setReg .ILU_GS_STAT (putBit (putBits (L.reg .ILU_GS_STAT g) 15 0 (L.ilu.gsLat / 2 ^ (16 * g))) 31
      (L.ilu.gsLat.testBit (512 + g))) g) L
  if r.2.2 then L.snapshot else L

/-! ### Program control (R196, R207) -/

/-- Host flags at their apply edge: the bits of the mask take the value (R196). -/
def Lane.hostFlags (L : Lane) (id : CmdId) (value mask : Nat) : Lane :=
  { L with ilu := { L.ilu with host := mergeBits L.ilu.host (mask % 2 ^ 64) value } }.finish id 0

/-- A program's flags, timers and counters at their initial values. [log 130 DEDUCED] -/
def Lane.iluInit (L : Lane) (p : Nat) : Lane :=
  let L := { L with ilu := { L.ilu with
    tmr := L.ilu.tmr.keep (fun i _ => !L.allocTo .ILU_TMR_CFG i p)
    ctr := L.ilu.ctr.keep (fun j _ => !L.allocTo .ILU_CTR_PV j p) } }
  (L.setProg p .fresh).setPubFlags (mergeBits L.pubFlags (L.ownMask p) 0)

/-- The state from which an operation of ILU_CTRL is allowed: STOP from RUNNING, START and CLEAR from STOPPED (R207). -/
def iluFrom (op : Nat) : Nat := if op = 1 then 2 else 1

/-- ILU_CTRL at its apply edge: 1 STOP, 2 START, 3 CLEAR; from another state, STATE; with FAULT latched or at Level 2,
LEVEL (R48, R207, R208). -/
def Lane.iluCtrl (L : Lane) (id : CmdId) (p op : Nat) : Lane :=
  if L.flag .ILU_STAT 30 || decide (2 ≤ L.level) then L.finish id 0x0004
  else if L.iluState p != iluFrom op then L.finish id 0x0006
  else
    match op with
    | 1 => (L.iluStop p).finish id 0
    | 2 => (((L.setFld .ILU_PRG_STAT 31 30 2 p).setFlag .ILU_PRG_STAT 29 true p).setFlag .ILU_STAT (24 + p) true).finish id 0
    | _ => (L.iluInit p).finish id 0

/-- Output pin `i` as published (R209, R214, R229): the flag while its program runs and the ILU can run, else FSAFE. -/
def Lane.pinImage (L : Lane) (i : Nat) : Bool :=
  L.outPins.testBit i &&
  (if L.iluRuns && L.iluState (L.pinOwner i) = 2 then L.flag .ILU_FLAG i 0 else L.flag .ILU_FIO_DIR (24 + i))

/-- Output pin `i`'s level (R209, R210, R214): a lane that does not drive active-only outputs holds an active-only pin
de-energised while the ILU can run; where the ILU cannot run every pin is at FSAFE. [log 73 DEDUCED] -/
def Lane.pinLevel (L : Lane) (i : Nat) : Bool :=
  L.pinImage i && !(L.flag .ILU_FIO_DIR (16 + i) && !L.drives && L.iluRuns && L.flag .ILU_STAT 31)

/-- The output image. [log 73 DEDUCED] -/
def Lane.outImage (L : Lane) : Nat := bitsWhere (fun i => L.pinLevel i) 8

/-! ### Restore (R213) -/

/-- The snapshot a restore takes: valid, of the same program, with the greater tick. [log 70 DESIGN CHOICE] -/
def Lane.bestSnap (L : Lane) : Option IluSnap :=
  let good := fun (b : Option IluSnap) => b.filter (fun s => s.crc == crc32 s.bytes && s.prog == L.progCrc)
  match good L.ilu.b0, good L.ilu.b1 with
  | some a, some b => some (if a.tick < b.tick then b else a)
  | some a, none => some a
  | none, b => b

/-- The program memory goes to MRAM, if it differs from what stands there (R211). -/
def Lane.keepProg (L : Lane) : Lane := { L with ilu := { L.ilu with prog := L.progWords } }

/-- Programs are enabled as the image says and their state is restored (R213); a program memory in MRAM that is not the
image's leaves no buffer that qualifies. -/
def Lane.iluRestore (now : Int) (L : Lane) : Lane :=
  let en := bitsWhere (fun p => L.flag .ILU_PRG_CFG 31 p) 4
  let L := foldTo 4 (fun (L : Lane) p =>
    if en.testBit p then (L.setFld .ILU_PRG_STAT 31 30 2 p).setFlag .ILU_PRG_STAT 29 true p
    else L.setReg .ILU_PRG_STAT 0 p) L
  let steps := ((List.range 4).filter (fun p => en.testBit p)).map (fun p => L.iluSteps p)
  let L := ((L.setFlag .ILU_STAT 31 true).setFld .ILU_STAT 27 24 en).setFld .ILU_STAT 23 12 steps.sum
  let fresh := { L.ilu with progs := ⟨[]⟩, tmr := ⟨[]⟩, ctr := ⟨[]⟩ }
  match (if L.ilu.prog == L.progWords then L.bestSnap else none) with
  | some s =>
    let L := { L with ilu := { fresh with tmr := s.tmr.mapv (fun _ m => { m with inPrev := false, tLast := none }), ctr := s.ctr } }
    L.setPubFlags (mergeBits (s.flags &&& L.usedMask) L.inputMask 0)
  | none =>
    (({ L with ilu := fresh }.setPubFlags 0).keepProg).raise 7 0x02 now

/-! ### Meanings -/

/-- GOOSE_FRAME (R197 to R199). -/
def execGooseFrame (lane : LaneId) (port rx : Nat) (f : GooseFrame) (s : State) : Host.Outcome State Fault Refusal :=
  onLane lane (Lane.takeGoose port rx f) s

/-- TAL_EXPIRY (R199). -/
def execTalExpiry (lane : LaneId) (sub : Nat) (s : State) : Host.Outcome State Fault Refusal :=
  onLane lane (Lane.talExpiry sub) s

/-- ILU_SLICE (R191). -/
def execIluSlice (lane : LaneId) (ce : List Nat) (s : State) : Host.Outcome State Fault Refusal :=
  onLane lane (Lane.iluSlice ce) s

/-- ILU_FAULT (R208). -/
def execIluFault (lane : LaneId) (cause : Nat) (now : Int) (s : State) : Host.Outcome State Fault Refusal :=
  onLane lane (Lane.iluFault cause now) s

/-- LD (R201). -/
def execLd (lane : LaneId) (p : Nat) (f : Nat) (s : State) : Host.Outcome State Fault Refusal :=
  onLane lane (Lane.faruskRow p (.ld f)) s

/-- LDN (R201). -/
def execLdn (lane : LaneId) (p : Nat) (f : Nat) (s : State) : Host.Outcome State Fault Refusal :=
  onLane lane (Lane.faruskRow p (.ldn f)) s

/-- AND (R201). -/
def execAnd (lane : LaneId) (p : Nat) (f : Nat) (s : State) : Host.Outcome State Fault Refusal :=
  onLane lane (Lane.faruskRow p (.andf f)) s

/-- ANDN (R201). -/
def execAndn (lane : LaneId) (p : Nat) (f : Nat) (s : State) : Host.Outcome State Fault Refusal :=
  onLane lane (Lane.faruskRow p (.andn f)) s

/-- OR (R201). -/
def execOr (lane : LaneId) (p : Nat) (f : Nat) (s : State) : Host.Outcome State Fault Refusal :=
  onLane lane (Lane.faruskRow p (.orf f)) s

/-- ORN (R201). -/
def execOrn (lane : LaneId) (p : Nat) (f : Nat) (s : State) : Host.Outcome State Fault Refusal :=
  onLane lane (Lane.faruskRow p (.orn f)) s

/-- XOR (R201). -/
def execXor (lane : LaneId) (p : Nat) (f : Nat) (s : State) : Host.Outcome State Fault Refusal :=
  onLane lane (Lane.faruskRow p (.xorf f)) s

/-- XORN (R201). -/
def execXorn (lane : LaneId) (p : Nat) (f : Nat) (s : State) : Host.Outcome State Fault Refusal :=
  onLane lane (Lane.faruskRow p (.xorn f)) s

/-- ST (R201). -/
def execSt (lane : LaneId) (p : Nat) (f : Nat) (s : State) : Host.Outcome State Fault Refusal :=
  onLane lane (Lane.faruskRow p (.st f)) s

/-- STN (R201). -/
def execStn (lane : LaneId) (p : Nat) (f : Nat) (s : State) : Host.Outcome State Fault Refusal :=
  onLane lane (Lane.faruskRow p (.stn f)) s

/-- SET (R201). -/
def execSet (lane : LaneId) (p : Nat) (f : Nat) (s : State) : Host.Outcome State Fault Refusal :=
  onLane lane (Lane.faruskRow p (.setf f)) s

/-- RST (R201). -/
def execRst (lane : LaneId) (p : Nat) (f : Nat) (s : State) : Host.Outcome State Fault Refusal :=
  onLane lane (Lane.faruskRow p (.rst f)) s

/-- RE (R202). -/
def execRe (lane : LaneId) (p : Nat) (f : Nat) (s : State) : Host.Outcome State Fault Refusal :=
  onLane lane (Lane.faruskRow p (.re f)) s

/-- FE (R202). -/
def execFe (lane : LaneId) (p : Nat) (f : Nat) (s : State) : Host.Outcome State Fault Refusal :=
  onLane lane (Lane.faruskRow p (.fe f)) s

/-- TON (R203). -/
def execTon (lane : LaneId) (p : Nat) (t : Nat) (s : State) : Host.Outcome State Fault Refusal :=
  onLane lane (Lane.faruskRow p (.ton t)) s

/-- TOF (R203). -/
def execTof (lane : LaneId) (p : Nat) (t : Nat) (s : State) : Host.Outcome State Fault Refusal :=
  onLane lane (Lane.faruskRow p (.tof t)) s

/-- TP (R203). -/
def execTp (lane : LaneId) (p : Nat) (t : Nat) (s : State) : Host.Outcome State Fault Refusal :=
  onLane lane (Lane.faruskRow p (.tp t)) s

/-- CTU (R204). -/
def execCtu (lane : LaneId) (p : Nat) (c : Nat) (s : State) : Host.Outcome State Fault Refusal :=
  onLane lane (Lane.faruskRow p (.ctu c)) s

/-- CTD (R204). -/
def execCtd (lane : LaneId) (p : Nat) (c : Nat) (s : State) : Host.Outcome State Fault Refusal :=
  onLane lane (Lane.faruskRow p (.ctd c)) s

/-- CRS (R204). -/
def execCrs (lane : LaneId) (p : Nat) (c : Nat) (s : State) : Host.Outcome State Fault Refusal :=
  onLane lane (Lane.faruskRow p (.crs c)) s

/-- CLD (R204). -/
def execCld (lane : LaneId) (p : Nat) (c : Nat) (s : State) : Host.Outcome State Fault Refusal :=
  onLane lane (Lane.faruskRow p (.cld c)) s

/-- FARUSK_NOP (R201). -/
def execFaruskNop (lane : LaneId) (p : Nat) (s : State) : Host.Outcome State Fault Refusal :=
  onLane lane (Lane.faruskRow p .faruskNop) s

/-- PUSH (R201). -/
def execPush (lane : LaneId) (p : Nat) (s : State) : Host.Outcome State Fault Refusal :=
  onLane lane (Lane.faruskRow p .push) s

/-- POPA (R201). -/
def execPopa (lane : LaneId) (p : Nat) (s : State) : Host.Outcome State Fault Refusal :=
  onLane lane (Lane.faruskRow p .popa) s

/-- POPO (R201). -/
def execPopo (lane : LaneId) (p : Nat) (s : State) : Host.Outcome State Fault Refusal :=
  onLane lane (Lane.faruskRow p .popo) s

/-- PAGE0 (R201). -/
def execPage0 (lane : LaneId) (p : Nat) (s : State) : Host.Outcome State Fault Refusal :=
  onLane lane (Lane.faruskRow p .page0) s

/-- PAGE1 (R201). -/
def execPage1 (lane : LaneId) (p : Nat) (s : State) : Host.Outcome State Fault Refusal :=
  onLane lane (Lane.faruskRow p .page1) s

/-- END (R201). -/
def execEndScan (lane : LaneId) (p : Nat) (s : State) : Host.Outcome State Fault Refusal :=
  onLane lane (Lane.faruskRow p .endScan) s

/-- JC (R201). -/
def execJc (lane : LaneId) (p : Nat) (k : Nat) (s : State) : Host.Outcome State Fault Refusal :=
  onLane lane (Lane.faruskRow p (.jc k)) s

/-- JCN (R201). -/
def execJcn (lane : LaneId) (p : Nat) (k : Nat) (s : State) : Host.Outcome State Fault Refusal :=
  onLane lane (Lane.faruskRow p (.jcn k)) s

end Sys2Proof.Machine
end

