-- ==== Sys2Proof/Machine/FieldIo.lean ====
section
/-! DEFINITION. Field IO: the traverse exchange, the serial frames of both sides, overloads and the field supply
(R374 to R378, R446). -/

namespace Sys2Proof.Machine

open Sys2Proof

/-- The lane with its field IO group replaced. -/
def Lane.setFio (L : Lane) (x : Fio) : Lane := { L with fio := x }

/-- The lane exchanges frames with the field side: in service and not in its safe state (R377). -/
def Lane.fioRuns (L : Lane) : Bool := L.inService && decide (L.level ≤ 2)

/-- A frame of R375: SEQ, eight bits in [29:22], eight in [21:14], and the CRC-8 of bits [31:8]. -/
def fioWord (seq a b : Nat) : Nat :=
  let top := seq % 4 * 2 ^ 30 + a % 256 * 2 ^ 22 + b % 256 * 2 ^ 14
  top + crc8 0xFF (beBytes 3 (top / 256))

/-- A received frame's CRC is right. -/
def fioCrcOk (w : Word) : Bool := crc8 0xFF (beBytes 3 (bits w 31 8)) == bits w 7 0

/-- The frame the lane sends next: the output image and the FSAFE levels (R375). [log 129 DEDUCED] -/
def Lane.fioFrame (L : Lane) : Word := w32 (fioWord L.fio.txSeq L.fio.out (L.fld .ILU_FIO_DIR 31 24))

/-- The levels the field side drives: FSAFE after three bad frames; an output in overload, or every output while the
field supply is low, is off (R377, R378, R446). [log 129 DEDUCED] -/
def Fio.drives (x : Fio) : Nat :=
  if x.fLow then 0 else let v := if x.fHeld then x.fSafe else x.fOut; v - (v &&& x.fOver)

/-- The levels at the output pins: none is energised once PD_x03, which feeds the group, is off (R214, R377, R380). -/
def Lane.fioDrives (L : Lane) : Nat := if L.flag .PWR_PD 3 then L.fio.drives &&& L.outPins else 0

/-- The field side samples the pins for its next frame: an input's level follows a sample that repeats the one before,
an output is read back as it is (R375). `out` are the output pins. [log 129 DEDUCED] -/
def Fio.sampled (x : Fio) (out pins : Nat) : Fio :=
  { x with sample := pins,
           level := bitsWhere (fun i => if out.testBit i || pins.testBit i == x.sample.testBit i then pins.testBit i else x.level.testBit i) 8 }

/-- The frame the field side sends: SEQ of the last good frame from the lane, the levels of the eight pins, and FLT
while an output is off in overload or the field supply is low (R375, R378). -/
def Fio.frame (x : Fio) : Word := w32 (fioWord x.fLast x.level (if x.fLow || x.fOver != 0 then 128 else 0))

/-- FIELD_IO_EXCHANGE at T+9,500 ns (R376): the input image is taken and the output image written. -/
def Lane.fioExchange (L : Lane) : Lane :=
  if !L.fioRuns then L else
  let x := L.fio
  let pins := if x.zeroed then 0 else x.pin
  (L.setFio { x with image := pins + bnat (L.flag .LCT_FIO_STAT 31) * 256, out := L.outImage }).markDone 10

/-- The common fault bit takes a value, with its event and count (R378). -/
def Lane.setFault (L : Lane) (v : Bool) (why : Nat) (now : Int) : Lane :=
  if L.flag .LCT_FIO_STAT 31 = v then L
  else
    let L := L.setFlag .LCT_FIO_STAT 31 v
    if v then (L.bump .LCT_FIO_FLTCNT).raise 0 0x05 now (leBytes 1 why)
    else (L.setFio { L.fio with zeroed := false }).raise 0 0x06 now

/-- The lane has sent a frame: SEQ advances by one (R375). [log 129 DEDUCED] -/
def Lane.fioSent (L : Lane) : Lane :=
  (L.setFio { L.fio with txSeq := (L.fio.txSeq + 1) % 4 }).setFld .LCT_FIO_STAT 15 8 L.fio.out

/-- A frame is bad on the field side: after three it sets each output to FSAFE (R377). -/
def Fio.fieldBad (x : Fio) (next : Option Nat) : Fio :=
  { x with fBad := min 3 (x.fBad + 1), fGood := 0, fHeld := x.fHeld || decide (2 ≤ x.fBad), fSeq := next }

/-- The field side has received the frame `w` (R375, R377): a good one sets the levels it applies, and its FSAFE levels
unless FSAFE is still held. -/
def Fio.received (x : Fio) (w : Word) : Fio :=
  let seq := bits w 31 30
  if !fioCrcOk w then x.fieldBad (x.fSeq.map (fun s => (s + 1) % 4))
  else if x.fSeq.any (fun s => s != seq) then x.fieldBad (some ((seq + 1) % 4))
  else
    let good := min 16 (x.fGood + 1)
    let held := x.fHeld && decide (good < 16)
    { x with fSeq := some ((seq + 1) % 4), fBad := 0, fGood := good, fOut := bits w 29 22,
             fSafe := if held then x.fSafe else bits w 21 14, fLast := seq, fHeld := held }

/-- FIELD_IO_FRAME_TO_FIELD: the lane sends its output image and the field side receives it, with the bits `err`
inverted on the line (R375, R376). [log 129 DEDUCED] -/
def Lane.frameToField (err : Word) (L : Lane) : Lane :=
  if !L.fioRuns then L else
  let w := L.fioFrame ^^^ err
  let L := L.fioSent
  L.setFio (L.fio.received w)

/-- A frame from the field side is bad: after three the input image reads zero and the fault bit sets (R377, R378). -/
def Lane.fioBad (L : Lane) (now : Int) : Lane :=
  let x := L.fio
  let third := decide (2 ≤ x.rxBad)
  let L := (L.setFio { x with rxBad := min 3 (x.rxBad + 1), rxGood := 0, rxClear := 0, zeroed := x.zeroed || third }).bump .LCT_FIO_FRMERR
  let L := L.setFlag .LCT_FIO_STAT 30 false
  if third then L.setFault true 1 now else L

/-- The lane has received the frame `w` (R375, R377, R378). -/
def Lane.fioReceived (w : Word) (now : Int) (L : Lane) : Lane :=
  let x := L.fio
  let age := (x.txSeq + 4 - bits w 31 30) % 4
  if !fioCrcOk w || (age != 1 && age != 2) then L.fioBad now
  else
    let flt := bit w 21
    let clear := if flt then 0 else min 16 (x.rxClear + 1)
    let good := min 16 (x.rxGood + 1)
    let L := L.setFio { x with rxBad := 0, rxGood := good, rxClear := clear, pin := bits w 29 22 }
    let L := ((L.setFld .LCT_FIO_STAT 7 0 (bits w 29 22)).setFlag .LCT_FIO_STAT 29 flt).setFlag .LCT_FIO_STAT 30 (good == 16)
    if flt then L.setFault true 0 now else if clear = 16 then L.setFault false 0 now else L

/-- FIELD_IO_FRAME_FROM_FIELD: the field side samples the pins and sends its frame; the lane receives it, with the bits
that the line inverts (R375, R378). [log 129 DEDUCED] -/
def Lane.frameFromField (rx : FieldRx) (now : Int) (L : Lane) : Lane :=
  if !L.fioRuns then L else
  let L := L.setFio (L.fio.sampled L.outPins rx.pins)
  L.fioReceived (L.fio.frame ^^^ rx.err) now

/-- FIELD_IO_FRAME_TIMEOUT: a frame 2,400 ns overdue is bad on the side that waits for it (R377). [log 129 DEDUCED] -/
def Lane.frameTimeout (toField : Bool) (now : Int) (L : Lane) : Lane :=
  if toField then
    let L := if L.fioRuns then L.fioSent else L
    L.setFio (L.fio.fieldBad (L.fio.fSeq.map (fun s => (s + 1) % 4)))
  else if L.fioRuns then L.fioBad now else L

/-- OUTPUT_OVERLOAD: an output turns itself off (R378). -/
def Lane.overload (pin : Nat) (L : Lane) : Lane :=
  if L.outPins.testBit pin && !L.fio.fOver.testBit pin then L.setFio { L.fio with fOver := L.fio.fOver + 2 ^ pin } else L

/-- OVERLOAD_RETRY: an output that had turned off tries again, and stays on unless the overload persists (R378). -/
def Lane.overloadRetry (pin : Nat) (stillBad : Bool) (L : Lane) : Lane :=
  if L.fio.fOver.testBit pin && !stillBad then L.setFio { L.fio with fOver := L.fio.fOver - 2 ^ pin } else L

/-- FIELD_SUPPLY_LOW: the group's field supply falls below 14 V or returns (R446). -/
def Lane.fieldSupply (low : Bool) (L : Lane) : Lane := L.setFio { L.fio with fLow := low }

/-! ### Meanings -/

/-- FIELD_IO_EXCHANGE (R376). -/
def execFieldIoExchange (lane : LaneId) (s : State) : Host.Outcome State Fault Refusal := onLane lane Lane.fioExchange s

/-- FIELD_IO_FRAME_TO_FIELD (R375). -/
def execFieldIoFrameToField (lane : LaneId) (err : Word) (s : State) : Host.Outcome State Fault Refusal :=
  onLane lane (Lane.frameToField err) s

/-- FIELD_IO_FRAME_FROM_FIELD (R375). -/
def execFieldIoFrameFromField (lane : LaneId) (rx : FieldRx) (now : Int) (s : State) : Host.Outcome State Fault Refusal :=
  onLane lane (Lane.frameFromField rx now) s

/-- FIELD_IO_FRAME_TIMEOUT (R377). -/
def execFieldIoFrameTimeout (lane : LaneId) (toField : Bool) (now : Int) (s : State) : Host.Outcome State Fault Refusal :=
  onLane lane (Lane.frameTimeout toField now) s

/-- OUTPUT_OVERLOAD (R378). -/
def execOutputOverload (lane : LaneId) (pin : Nat) (s : State) : Host.Outcome State Fault Refusal :=
  onLane lane (Lane.overload pin) s

/-- OVERLOAD_RETRY (R378). -/
def execOverloadRetry (lane : LaneId) (pin : Nat) (stillBad : Bool) (s : State) : Host.Outcome State Fault Refusal :=
  onLane lane (Lane.overloadRetry pin stillBad) s

/-- FIELD_SUPPLY_LOW (R446). -/
def execFieldSupplyLow (lane : LaneId) (low : Bool) (s : State) : Host.Outcome State Fault Refusal :=
  onLane lane (Lane.fieldSupply low) s

end Sys2Proof.Machine
end

