-- ==== Sys2Proof/Machine/Record.lean ====
section
/-! DEFINITION. The acquisition engine: triggers, captures, reduced entries, histograms, persistence maps, and the
record's octets (R324 to R336). -/

namespace Sys2Proof.Machine

open Sys2Proof

/-! ### What a tick holds for a channel (R325, R329) -/

/-- One stored sample: instant in 1/65,536 ns, value, status octet, valid, synchronised, arrival-timed. -/
structure AcqItem where
  inst   : Int
  val    : Word
  status : Nat
  valid  : Bool
  sync   : Bool
  at_    : Bool
  deriving DecidableEq, Repr

/-- A stream sample as an item: value `i`, skew subtracted (R334). -/
def acqSample (s : Sample) (i : Nat) (skew : Int) : AcqItem :=
  ⟨s.inst - skew, w32i (s.vals.getD i 0), s.qual.getD i 0, !s.invalid, s.sync, !s.sync⟩

/-- The samples of a channel that belong to tick `k`, oldest first; a derived output's status carries SYNC and AT (R78). -/
def Lane.acqItems (L : Lane) (c : RecCh) (k : Nat) : List AcqItem :=
  match c.kind with
  | 1 =>
    match L.chanOf c.index with
    | none => []
    | some (n, i) =>
      let skew := L.img.skews.getD c.index 0 * 65536
      ((((L.stream n).lpddr.filter (fun p => p.1 == k)).map (·.2)).reverse).map (fun s => acqSample s i skew)
  | 2 =>
    (((L.chain c.index).ring.filter (fun o => o.tick == k)).reverse).map (fun o =>
      ⟨o.inst * 65536, o.val, o.status, !o.status.testBit 1, o.status.testBit 5, o.status.testBit 6⟩)
  | 3 =>
    let n := c.index / 4
    let skew := L.img.skews.getD (L.subCh0 n + c.index % 4) 0 * 65536
    (((L.stream n).hist.filter (fun s => s.wtick == k)).reverse).map (fun s => acqSample s (c.index % 4) skew)
  | _ =>
    (((L.acq.ring.getD c.index []).filter (fun p => p.1 == k)).reverse).map (fun p =>
      ⟨(edgeNs k : Nat) * 65536, p.2.1, p.2.2, !p.2.2.testBit 4, true, false⟩)

/-- A channel's samples are raw integers. -/
def RecCh_raw (c : RecCh) : Bool := c.kind == 1 || c.kind == 3

/-- A stored value as a number in the channel's sample type. -/
def acqNum (raw : Bool) (w : Word) : Dy := if raw then Dy.ofInt w.toInt else val32 w

/-- A stored value scaled (R331). -/
def Lane.acqScaled (L : Lane) (c : RecCh) (w : Word) : Dy :=
  if c.kind = 1 then val32 (L.scaleRaw c.index w.toInt).1
  else if c.kind = 3 then val32 (L.scaleRaw (L.subCh0 (c.index / 4) + c.index % 4) w.toInt).1
  else val32 w

/-! ### Reduced entries, histograms, maps (R330 to R332) -/

/-- An item taken into the interval in progress (R330). -/
def CapCh.reduce (x : CapCh) (raw : Bool) (a : AcqItem) : CapCh :=
  let old := x.acc.getD (0, 0, 0, 0)
  let st := old.2.2.2 ||| a.status
  if !a.valid then { x with acc := some (old.1, old.2.1, old.2.2.1, st) }
  else if old.2.2.1 = 0 then { x with acc := some (a.val, a.val, 1, st) }
  else
    let mn := if (acqNum raw a.val).lt (acqNum raw old.1) then a.val else old.1
    let mx := if (acqNum raw old.2.1).lt (acqNum raw a.val) then a.val else old.2.1
    { x with acc := some (mn, mx, min 65535 (old.2.2.1 + 1), st) }

/-- The interval ends: its entry is stored. -/
def CapCh.flushRed (x : CapCh) : CapCh := { x with red := x.acc.getD (0, 0, 0, 0) :: x.red, acc := none }

/-- The histogram bin of a value: 1,024 UNDER, 1,025 OVER counted beside bins 0 and 1,023 (R331). -/
def histBin (v lo hi : Dy) : List Nat :=
  if v.lt lo then [0, 1024]
  else if !(v.lt hi) then [1023, 1025]
  else
    let q := rnd64 ((rnd64 ((rnd64 (v.sub lo)).mul (Dy.ofInt 1024))).div (rnd64 (hi.sub lo)))
    [min 1023 q.floor.toNat]

/-- A count that saturates at 32 bits. -/
def satBump (m : NMap Nat) (k top : Nat) : NMap Nat := m.put k (min top (m.getD k 0 + 1))

/-- One item into a channel's full-rate data or the interval in progress, and into its histogram. -/
def Lane.capItem (L : Lane) (c : RecCh) (full : Bool) (x : CapCh) (a : AcqItem) : CapCh :=
  let x := if c.hist && a.valid then
      { x with bins := (histBin (L.acqScaled c a.val) (val32 c.hlo) (val32 c.hhi)).foldl (fun m b => satBump m b 0xFFFFFFFF) x.bins }
    else x
  let x := { x with sync := x.sync && a.sync, at_ := x.at_ || a.at_ }
  if full then { x with full := (a.inst, a.val, a.status) :: x.full } else x.reduce (RecCh_raw c) a

/-- FULL of a definition. -/
def Lane.rdFull (L : Lane) (d : Nat) : Nat := L.fld .ACQ_RD_FULL 22 0 d

/-- A closed tick is read into a capture (R329). -/
def Lane.capRead (L : Lane) (x : Capture) (k : Nat) : Capture :=
  let full := decide (k < x.t + L.rdFull x.d)
  let ri := max 1 (L.fld .ACQ_RD_CFG 15 0 x.d)
  let ends := !full && (decide ((k + 1 - (x.t + L.rdFull x.d)) % ri = 0) || k == x.last)
  let step := fun (p : RecCh × CapCh) =>
    let y := (L.acqItems p.1 k).foldl (fun y a => L.capItem p.1 full y a) p.2
    if ends then y.flushRed else y
  { x with chans := (x.list.zip x.chans).map step, read := k }

/-- What the burst ring holds of ticks that have been closed, newest first (R16, R18). -/
def Lane.closedHist (L : Lane) (n : Nat) : List Sample := (L.stream n).hist.filter (fun s => decide (s.wtick ≤ L.tick))

/-- A mapped event's 256 samples from the burst ring, oldest first; none where sample i + 127 is still to come, the
empty list where they are not all held or include a miss (R332). [log 107 DEDUCED] -/
def Lane.mapSamples (L : Lane) (n idx : Nat) (e : WfEvent) : Option (List Int) :=
  let h := L.closedHist n
  match h.findIdx? (fun s => s.inst == e.inst) with
  | none => some []
  | some j =>
    if j < 127 then none
    else
      let l := ((h.drop (j - 127)).take 256).reverse
      let span : Int := (255 * 65536000000000 : Nat) / max 1 (L.subRate n)
      let got := (l.getLast?.map (·.inst)).getD 0 - (l.head?.map (·.inst)).getD 0
      if l.length = 256 && l.all (fun s => !s.invalid) && decide (got ≤ span + 65536 * 500) then some (l.map (fun s => s.vals.getD idx 0))
      else some []

/-- One event's samples added to a map (R332). [log 107 DEDUCED] -/
def mapAdd (c : RecCh) (m : NMap Nat) (l : List Int) : NMap Nat :=
  (l.zip (List.range 256)).foldl (fun m p =>
    let row := clampI 0 255 ((p.1 - c.plo) * 256 / max 1 (c.phi - c.plo))
    satBump m (row.toNat * 256 + p.2) 65535) m

/-- Waiting events of a capture are mapped, skipped, or wait on; the second result counts those skipped. -/
def Lane.capMaps (L : Lane) (x : Capture) : Capture × Nat :=
  x.todo.foldl (fun (a : Capture × Nat) (q : Nat × WfEvent) =>
    match (x.list.drop q.1).head? with
    | none => a
    | some c =>
      match L.mapSamples (c.index / 4) (c.index % 4) q.2 with
      | none => ({ a.1 with todo := a.1.todo ++ [q] }, a.2)
      | some [] => (a.1, a.2 + 1)
      | some l => ({ a.1 with chans := a.1.chans.mapIdx (fun i y => if i = q.1 then { y with map := mapAdd c y.map l } else y) }, a.2))
    ({ x with todo := [] }, 0)

/-- The burst channel a wavefront event belongs to, as a record channel index. -/
def Lane.wfChannel (L : Lane) (e : WfEvent) : Option Nat :=
  (L.chSource (64 + e.chain % 4) (L.chain (64 + e.chain % 4)).src).map (fun p => p.1 * 4 + p.2)

/-- The tick that an event's crossing sample belongs to. -/
def Lane.crossTick (L : Lane) (e : WfEvent) : Nat :=
  ((L.wfChannel e).bind (fun c => (L.closedHist (c / 4)).find? (fun s => s.inst == e.inst))).elim (tickOf (e.inst / 65536).toNat) (·.wtick)

/-- Wavefront events whose crossing sample falls in the span enter a capture (R332, R333). [log 107 DEDUCED] -/
def Lane.capEvents (L : Lane) (l : List WfEvent) (x : Capture) : Capture :=
  let new := l.filter (fun e => let k := L.crossTick e; decide (x.first ≤ k ∧ k ≤ x.last))
  let todo := new.flatMap (fun e => (x.list.mapIdx (fun i c => (i, c))).filterMap (fun p =>
    if p.2.kind == 3 && p.2.map && L.wfChannel e == some p.2.index then some (p.1, e) else none))
  { x with events := x.events ++ new, todo := x.todo ++ todo }

/-! ### Triggers (R326 to R328) -/

/-- A channel has what PRE asks for before tick `t`: a history channel since before the first tick; a burst or element
channel in each tick; a derived channel an output no older than its period at each (R327). [log 106 DEDUCED] -/
def Lane.preOk (L : Lane) (c : RecCh) (t pre : Nat) : Bool :=
  let first := t - pre
  let each := fun (p : Nat → Bool) => (List.range pre).all (fun i => p (first + i))
  match c.kind with
  | 1 =>
    match L.chanOf c.index with
    | none => false
    | some (n, _) => decide ((L.stream n).since ≤ first) && decide (pre ≤ (L.reg .INT_HIST_SPAN).toNat * 96)
  | 2 => each (fun k => (L.chain c.index).ring.any (fun o => decide (o.tick ≤ k ∧ k < o.tick + max 1 (L.chM c.index))))
  | 3 =>
    let x := L.stream (c.index / 4)
    decide (x.since ≤ first) && decide (pre ≤ 1024) && each (fun k => x.hist.any (fun s => s.wtick == k))
  | _ => each (fun k => (L.acq.ring.getD c.index []).any (fun p => p.1 == k))

/-- The definition's channel list. -/
def Lane.rdList (L : Lane) (d : Nat) : List RecCh := (L.img.recs.getD d []).take (L.fld .ACQ_RD_CFG 22 16 d)

/-- The lane with its captures replaced, and ACQ_STAT with them. -/
def Lane.setCaps (L : Lane) (l : List Capture) : Lane :=
  ({ L with acq := { L.acq with caps := l } }).setFld .ACQ_STAT 31 29 (min 4 (l.filter (fun (x : Capture) => !x.ended)).length)

/-- A channel's rate field: samples per second, or M for a derived channel. -/
def Lane.recRate (L : Lane) (c : RecCh) : Nat :=
  match c.kind with
  | 1 => match L.chanOf c.index with
    | some (n, _) => L.subRate n
    | none => 0
  | 2 => L.chM c.index
  | 3 => L.subRate (c.index / 4)
  | _ => 96000

/-- A channel of a capture that begins, with the rate, skew, SCALE and OFS in force (R333). -/
def Lane.capChan (L : Lane) (c : RecCh) : CapCh :=
  let h := if c.kind = 3 then L.subCh0 (c.index / 4) + c.index % 4 else c.index
  let raw := RecCh_raw c
  { full := [], red := [], acc := none, bins := ⟨[]⟩, map := ⟨[]⟩, sync := true, at_ := false, rate := L.recRate c,
    skew := if raw then L.img.skews.getD h 0 else 0, gain := if raw then L.reg .FAB_CH_SCALE h else one32,
    ofs := if raw then L.reg .FAB_CH_OFS h else zero32 }

/-- A capture starts at trigger tick `t` with its pre-trigger ticks read (R327, R329). -/
def Lane.capStart (L : Lane) (d t src0 src1 : Nat) : Lane :=
  let pre := L.fld .ACQ_RD_PRE 19 0 d
  let list := L.rdList d
  let x : Capture :=
    { d := d, t := t, first := t - pre, last := t + L.fld .ACQ_RD_POST 22 0 d - 1, trigs := [(t, src0, src1)], trunc := false,
      read := t - pre, ended := false, list := list, chans := list.map L.capChan, events := [], todo := [], role := L.drives, synced := L.synced,
      dtm := L.reg .DTM_STAT, gm := L.gmId, arch := L.flag .ACQ_RD_CFG 28 d,
      net := L.flag .ACQ_RD_CFG 29 d && L.flag .ACQ_NET_CFG 31, wait := 0 }
  let x := (List.range pre).foldl (fun x i => L.capRead x (t - pre + i)) x
  (L.setCaps (L.acq.caps ++ [x])).bump .ACQ_RD_CAPS d

/-- A trigger of a definition at tick `t` (R327, R328). [log 106 DEDUCED] -/
def Lane.capTrigger (L : Lane) (d t src0 src1 : Nat) : Lane :=
  let hit0 := src0 &&& (L.reg .ACQ_RD_TRG d).toNat
  let hit1 := src1 &&& L.fld .ACQ_RD_TRG2 16 0 d
  if !L.flag .ACQ_RD_CFG 31 d || (hit0 == 0 && hit1 == 0) then L else
  match L.acq.caps.find? (fun x => x.d == d && !x.ended) with
  | some x =>
    let over_ := decide (64 ≤ x.trigs.length)
    let last := if L.flag .ACQ_RD_CFG 30 d then max x.last (min (t + L.fld .ACQ_RD_POST 22 0 d - 1) (x.t + 5760000 - 1)) else x.last
    let y := { x with trigs := if over_ then x.trigs else x.trigs ++ [(t, hit0, hit1)], last := last }
    let L := L.setCaps (L.acq.caps.map (fun z => if z.d == d && !z.ended then y else z))
    if over_ then L.bump .ACQ_RD_MARKOVF d else L
  | none =>
    if !(L.rdList d).all (fun c => L.preOk c t (L.fld .ACQ_RD_PRE 19 0 d)) then L.bump .ACQ_RD_NOPRE d
    else if 4 ≤ (L.acq.caps.filter (fun x => !x.ended)).length then L.bump .ACQ_BUSY
    else L.capStart d t hit0 hit1

/-- ILU triggers as published now, bit i for IT i. -/
def Lane.iltNow (L : Lane) : Nat :=
  bitsWhere (fun i => L.flag .ACQ_ILT 31 i && L.iluFlag (L.fld .ACQ_ILT 12 0 i)) 16

/-- The outputs of ACQ slots enter their ring (R325). -/
def Lane.acqRing (L : Lane) : Lane :=
  let k := L.tick
  let ring := L.fabric.desc.cells.foldl (fun (m : NMap (List (Nat × Word × Nat))) (c : Nat × Desc) =>
    if dEn c.2 && bit (dRoute c.2) 28 then
      let o := L.elCur c.1
      m.put c.1 (((k, o.val, o.status) :: m.getD c.1 []).take 1024)
    else m) L.acq.ring
  { L with acq := { L.acq with ring := ring } }

/-- A capture ends at the last tick read: a reduced interval in progress is stored over the ticks it has (R329), and events
that still wait are not mapped (R332). -/
def Lane.capCut (L : Lane) (x : Capture) : Capture :=
  let f := x.t + L.rdFull x.d
  let open_ := decide (f ≤ x.read) && decide ((x.read + 1 - f) % max 1 (L.fld .ACQ_RD_CFG 15 0 x.d) ≠ 0)
  { x with trunc := true, ended := true, last := x.read, todo := [], wait := 0,
           chans := if open_ then x.chans.map CapCh.flushRed else x.chans }

/-- The captures that a test names are closed with TRUNC where they are in progress, and wait for no more events where they
have ended; events that waited to be mapped are skipped. -/
def Lane.capsCut (L : Lane) (p : Capture → Bool) : Lane :=
  let L := (L.acq.caps.filter p).foldl (fun (L : Lane) x =>
    let L := if x.ended then L else L.bump .ACQ_RD_TRUNC x.d
    if x.todo.isEmpty then L else L.bump .ACQ_RD_MAPSKIP x.d x.todo.length) L
  L.setCaps (L.acq.caps.map (fun x => if !p x then x else if x.ended then { x with todo := [], wait := 0 } else L.capCut x))

/-- Every capture in progress is closed with TRUNC: Level 2, safe state, reset, a full buffer (R335, R350). -/
def Lane.capsTrunc (L : Lane) : Lane := L.capsCut (fun _ => true)

/-- A definition changes at an edge: its capture in progress is closed with TRUNC (R324). -/
def Lane.capRedefine (L : Lane) (d : Nat) : Lane := L.capsCut (fun x => x.d == d)

/-- How many closures after its last tick a capture waits for the wavefront events of its span, and for the 127 samples after
a crossing: none where no burst chain has a source (R332). [log 107 DEDUCED] -/
def Lane.burstWait (L : Lane) : Nat :=
  (List.range 4).foldl (fun m b => match L.chSource (64 + b) (L.chain (64 + b)).src with
    | some p => max m (256 * 96000 / max 1 (L.subRate p.1) + 2)
    | none => m) 0

/-- A tick's closure for one capture: a tick of its span is read, and at its last tick the capture ends (R329); events of its
span that come are mapped, and at the end of the wait those left are skipped (R332). The number is that of events skipped. -/
def Lane.capClose (L : Lane) (k : Nat) (new : List WfEvent) (x : Capture) : Capture × Nat :=
  if x.ended && x.wait == 0 then (x, 0)
  else
    let x := L.capEvents (if x.t = k then L.cond.ring.reverse else new) x
    let m := L.capMaps (if x.ended then x else L.capRead x k)
    let y := m.1
    let y := if x.ended then { y with wait := y.wait - 1 }
             else if y.last ≤ k then { y with ended := true, wait := L.burstWait } else y
    if y.ended && y.wait == 0 then ({ y with todo := [] }, m.2 + y.todo.length) else (y, m.2)

/-- The engine at closure: triggers of the tick, the ring, then the tick is read into every capture (R326 to R329). -/
def Lane.acqClose (L : Lane) : Lane :=
  if !L.inService || decide (2 ≤ L.level) then L else
  let k := L.tick
  let q := L.acq
  let trg := L.trip.trg
  let rise := trg - (trg &&& q.trg)
  let hosts := (q.host.filter (fun h => h.1 == k)).foldl (fun m h => m ||| h.2) 0
  let it := L.iltNow
  let L := { L with acq := { q with trg := trg, ilt := it, next := it - (it &&& q.ilt), host := q.host.filter (fun h => h.1 != k) } }
  let L := (foldTo 16 (fun (L : Lane) d => L.capTrigger d k rise (q.next + bnat (hosts.testBit d) * 65536)) L).acqRing
  let total := ((List.range 4).map (fun b => (L.reg .CND_WF_EVCNT b).toNat)).sum
  let new := (L.cond.ring.take (total - L.acq.wf)).reverse
  let L := { L with acq := { L.acq with wf := total } }
  let r := L.acq.caps.foldl (fun (a : List Capture × Lane) (x : Capture) =>
    let m := L.capClose k new x
    (a.1 ++ [m.1], if m.2 = 0 then a.2 else a.2.bump .ACQ_RD_MAPSKIP x.d m.2)) ([], L)
  r.2.setCaps r.1

/-! ### The record's octets (R333) -/

/-- A section: header and data. -/
def section_ (kind chan : Nat) (data : List Byte) : List Byte :=
  leBytes 4 kind ++ leBytes 4 chan ++ leBytes 8 data.length ++ data

/-- A channel table entry. -/
def chanEntry (c : RecCh) (x : CapCh) : List Byte :=
  let first := (x.full.getLast?.map (·.1)).getD 0
  leBytes 1 c.kind ++ leBytes 1 (bnat c.hist + 2 * bnat c.map + 4 * bnat x.sync + 8 * bnat x.at_) ++ leBytes 2 c.index ++
  leBytes 4 x.rate ++ leBytes 4 (wrap 32 x.skew) ++ leBytes 4 x.gain.toNat ++ leBytes 4 x.ofs.toNat ++
  leBytes 8 (wrap 64 (first / 65536)) ++ leBytes 2 (first % 65536).toNat ++ leBytes 4 x.full.length ++ leBytes 4 x.red.length ++
  leBytes 4 c.hlo.toNat ++ leBytes 4 c.hhi.toNat ++ leBytes 2 0

/-- A channel's sections. [log 107 DEDUCED] -/
def chanSections (i : Nat) (c : RecCh) (x : CapCh) : List Byte :=
  let full := x.full.reverse
  let t0 := (full.head?.map (·.1)).getD 0
  section_ 1 i (full.flatMap (fun s => leBytes 4 s.2.1.toNat ++ leBytes 1 s.2.2)) ++
  (if x.at_ then section_ 2 i (full.flatMap (fun s => leBytes 4 (wrap 32 ((s.1 - t0) / 65536)))) else []) ++
  (if x.red.isEmpty then [] else
    section_ 3 i (x.red.reverse.flatMap (fun r => leBytes 4 r.1.toNat ++ leBytes 4 r.2.1.toNat ++ leBytes 2 r.2.2.1 ++ leBytes 1 r.2.2.2 ++ leBytes 1 0))) ++
  (if c.hist then section_ 5 i ((List.range 1026).flatMap (fun b => leBytes 4 (x.bins.getD b 0))) else []) ++
  (if c.map then section_ 6 i ((List.range 65536).flatMap (fun b => leBytes 2 (x.map.getD b 0))) else [])

/-- The sections of a record. [log 107 DEDUCED] -/
def Capture.sections (x : Capture) : List Byte :=
  ((x.list.zip x.chans).mapIdx (fun i p => chanSections i p.1 p.2)).flatten ++
  section_ 4 0xFFFFFFFF (x.trigs.flatMap (fun g => leBytes 8 g.1 ++ leBytes 4 g.2.1 ++ leBytes 4 g.2.2)) ++
  (if x.events.isEmpty then [] else section_ 7 0xFFFFFFFF (x.events.flatMap wfBytes))

/-- A record's octets: header block, then sections. [log 107 DEDUCED] -/
def Capture.recordBytes (x : Capture) (lane id : Nat) : List Byte :=
  let body := x.sections
  let src := x.trigs.headD (0, 0, 0)
  let flags := lane + x.d * 4 + bnat x.role * 64 + bnat x.trunc * 128 + bnat x.synced * 256
  let head := leBytes 4 1 ++ leBytes 4 flags ++ leBytes 8 (id % 2 ^ 48) ++ leBytes 8 x.t ++
    leBytes 4 (wrap 32 ((x.first : Int) - x.t)) ++ leBytes 4 (x.last - x.t) ++ leBytes 4 src.2.1 ++ leBytes 4 src.2.2 ++
    leBytes 4 x.dtm.toNat ++ leBytes 8 x.gm ++ leBytes 8 (4096 + body.length) ++ leBytes 2 x.list.length
  let table := (x.list.zip x.chans).flatMap (fun p => chanEntry p.1 p.2)
  padTo 0x100 head ++ padTo 0xF00 (padTo 0xC00 table) ++ body

/-- A capture has ended and waits for nothing more. -/
def Capture.whole (x : Capture) : Bool := x.ended && x.wait == 0

/-- The oldest finished capture of a definition leaves the engine as a record in the output buffer (R335).
[log 107 DEDUCED] -/
def Lane.capFinish (lane id d : Nat) (L : Lane) : Lane :=
  match L.acq.caps.find? (fun x => x.d == d && x.whole) with
  | none => L
  | some x =>
    let out : OutRec := ⟨d, id, x.recordBytes lane id, x.arch, if x.net then some 0 else none⟩
    let L := L.setCaps (L.acq.caps.eraseP (fun z => z.d == d && z.whole))
    if out.host || out.net.isSome then { L with acq := { L.acq with out := L.acq.out ++ [out] } } else L

/-- Octets the output buffer holds. -/
def Lane.outFill (L : Lane) : Nat :=
  (L.acq.out.map (·.bytes.length)).sum + (L.acq.caps.map (fun x => 4096 + x.sections.length)).sum

/-- A full output buffer closes every capture in progress with TRUNC (R335). -/
def Lane.bufferFull (L : Lane) : Lane :=
  if L.outFill < 67108864 then L.setFlag .ACQ_STAT 28 false else (L.setFlag .ACQ_STAT 28 true).capsTrunc

/-- What follows the EtherType in a record transfer frame: header, segment, and KEY_ID and TAG under a key (R336); numbers are
big-endian as in R56, and the tag takes in all that stands before it as in R58. [log 107 DEDUCED] -/
def Lane.segmentBytes (L : Lane) (lane id off : Nat) (seg : List Byte) : List Byte :=
  let mode := L.fld .ACQ_NET_CFG 30 29
  let head := leBytes 1 (0x20 + 8 * bnat (mode != 0)) ++ leBytes 1 lane ++ beBytes 8 id ++ beBytes 8 off ++ beBytes 4 seg.length ++ seg
  if mode = 0 then head
  else
    let key := (L.keySlot (L.fld .ACQ_NET_CFG 24 17)).cur
    let aad := head ++ beBytes 4 ((key.map (·.id)).getD 0)
    aad ++ beBytes 16 (Config.gmac (if mode = 1 then 128 else 256) ((key.map KeyCell.key).getD 0) (Config.recordIv L.mac id off) aad).toNat

/-- The next segment of the first record to be sent leaves as a TC3 frame (R336). -/
def Lane.recordFrame (lane : LaneId) (L : Lane) : Lane :=
  if L.net.inOff.testBit 3 then L else
  match L.acq.out.find? (fun r => r.net.isSome) with
  | none => L
  | some r =>
    let off := r.net.getD 0
    let seg := (r.bytes.drop off).take 1400
    let body := L.segmentBytes lane.num r.id off seg
    let next := off + seg.length
    let done := decide (r.bytes.length ≤ next)
    let out := L.acq.out.filterMap (fun z =>
      if z.id == r.id then
        let z := { z with net := if done then none else some next }
        if z.host || z.net.isSome then some z else none
      else some z)
    let L := { L with acq := { L.acq with out := out } }
    let dst := L.fld .ACQ_NET_DMAC_HI 15 0 * 2 ^ 32 + (L.reg .ACQ_NET_DMAC_LO).toNat
    let etype := if L.flag .INT_CFG 0 then 0x88B6 else 0x88B5
    L.sendOwn { dst := dst, src := L.mac, tag := some ⟨L.fld .ACQ_NET_CFG 11 0, 3⟩, etype := etype,
                len := 18 + body.length + 4, ecn := none, red := none, body := .record body } 3 (L.fld .ACQ_NET_CFG 28 25)

/-! ### Meanings -/

/-- BUFFER_FULL (R335). -/
def execBufferFull (lane : LaneId) (s : State) : Host.Outcome State Fault Refusal := onLane lane Lane.bufferFull s

/-- RECORD_TRANSFER_FRAME (R336). -/
def execRecordTransferFrame (lane : LaneId) (s : State) : Host.Outcome State Fault Refusal :=
  onLane lane (Lane.recordFrame lane) s

/-- FIELD_BOOK_FLUSH_END (R347). -/
def execFieldBookFlushEnd (lane : LaneId) (s : State) : Host.Outcome State Fault Refusal :=
  onLane lane Lane.flushEnd s

end Sys2Proof.Machine
end

