-- ==== Sys2Proof/Machine/Twin.lean ====
section
/-! DEFINITION. Twin operation over the sightline: pairing, state transfer, forwarded intake, backsight, loss of the
active lane, planned swaps and proof tests (R215 to R242, R289 to R291). -/

namespace Sys2Proof.Machine

open Sys2Proof

/-! ### Roles and states (R219, R220) -/

def psAlone : Nat := 0
def psPairing : Nat := 1
def psCopy : Nat := 2
def psFreeze : Nat := 3
def psReplica : Nat := 4
def psDetached : Nat := 5
def psWithdrawn : Nat := 6
def psAwait : Nat := 7

/-- The lane with its twin record replaced. -/
def Lane.setTwin (L : Lane) (x : Twin) : Lane := { L with twin := x }

/-- Sets PSTATE. -/
def Lane.setPs (L : Lane) (s : Nat) : Lane := L.setFld .TWN_STAT 31 29 s

/-- TWN_STAT.ROLE. -/
def Lane.role (L : Lane) : Bool := L.flag .TWN_STAT 28

/-- The pair is in COPY, FREEZE or REPLICA. -/
def Lane.paired (L : Lane) : Bool := let p := L.pstate; decide (psCopy ≤ p ∧ p ≤ psReplica)

/-- The lane forwards its accepted intake: it holds the active role, or takes it in the tick of a planned swap (R215,
R224, R239). -/
def Lane.feeds (L : Lane) : Bool :=
  L.paired && !L.twin.follow && L.flag .TWN_STAT 27 && (L.role || L.twin.turn == some L.tick)

/-- The lane begins to run on the forwarded set; its own goes on beside it. -/
def Lane.startFollow (L : Lane) : Lane :=
  if L.twin.follow then L
  else L.setTwin { L.twin with follow := true, fwd := [], own := L.intake.streams, ownCut := L.intake.cutTick, marker := none }

/-- A stream of the lane's own set, with what only the set in use holds. -/
def Stream.takeOver (x old : Stream) : Stream :=
  { x with index := old.index, lpddr := old.lpddr, since := old.since, frozen := old.frozen, lastQ := old.lastQ,
           lastSt := old.lastSt }

/-- The lane's own set takes the place of the forwarded one (R226, R233). [log 76 DEDUCED] -/
def Lane.useOwn (L : Lane) : Lane :=
  let old := L.intake.streams
  { L with intake := { L.intake with
      streams := L.twin.own.mapv (fun n x => x.takeOver (old.getD n (.fresh L.intake.since))), cutTick := max L.intake.cutTick L.twin.ownCut } }

/-- The lane ceases to run on the forwarded set. -/
def Lane.stopFollow (L : Lane) : Lane :=
  if !L.twin.follow then L
  else
    let L := L.useOwn
    L.setTwin { L.twin with follow := false, fwd := [], own := ⟨[]⟩, marker := none }

/-- The standby offset of the traverse (R34). -/
def Lane.setOffset (L : Lane) (b : Bool) : Lane := L.setFlag .LCT_TRAV_STAT 31 b

/-- Every pulse pair starts as newly enabled from the edge (R162). -/
def Lane.startPulses (L : Lane) : Lane :=
  foldTo 4 (fun (L : Lane) p => if L.flag .CMD_PP_CFG 31 p then L.pulseNew p L.refEdge else L) L

/-- Active-only outputs are driven from here on by a lane that has no twin: publications send their next state as a
change (R235). -/
def Lane.startDriving (L : Lane) : Lane :=
  foldTo 4 (fun (L : Lane) g => L.setPub g { L.pub g with force := true }) L.startPulses

/-- In a planned swap the old active lane's carriers stop, each at the end of its period (R239). [log 63 DEDUCED] -/
def Lane.runOut (L : Lane) : Lane :=
  L.cmds.pulses.cells.foldl (fun (L : Lane) c =>
    let x := c.2
    let off : List GateEdge := [⟨x.start, true, false⟩, ⟨x.start, false, false⟩]
    if !x.run then L
    else (L.setPulse c.1 { x with edges := x.edges ++ off, run := false, carry := 0, hPrev := false }).emit (.gate c.1 off)) L

/-- The datum leaves TWIN: the lane steers by its own best qualified candidate, or holds over (R291).
[log 77 DEDUCED] -/
def Lane.leaveTwinTime (L : Lane) (now : Int) : Lane :=
  if L.dstate != dTwin then L else
  let L := { L with datum := { L.datum with twinRun := 0 } }.setFlag .DTM_STAT 23 false
  match L.bestCand (fun _ => true) with
  | some c => L.commitSwitch c now
  | none => L.holdover now

/-- The lane holds the active role, or pairing has given it that role for the next edge (R219). -/
def Lane.holdsActive (L : Lane) : Bool := L.role || L.twin.roleNext == some true

/-- The lane is ALONE (R220). A swap or a change to standby under way ends, and a lane that ran on the forwarded set
runs on its own from the next edge. [log 77 DEDUCED] -/
def Lane.becomeAlone (L : Lane) (now : Int) : Lane :=
  let L := (L.setPs psAlone).setFlag .TWN_STAT 25 false
  let L := (L.setFlag .TWN_STAT 26 false).setFld .TWN_STAT 22 0 0
  let L := (L.setReg .TWN_COPY_LEFT 0).leaveTwinTime now
  let x := L.twin
  let x := { x with freeze := none, check := false, dirty := [], pass := [], copyPos := none, arrived := [], missed := 0 }
  L.setTwin { x with mine := none, peer := none, turn := none, roleNext := x.roleNext.filter (fun b => b),
                     realAt := if x.follow then some (L.tick + 1) else none }

/-- The lane has left its role: WITHDRAWN (R220). [log 77 DEDUCED] -/
def Lane.withdrawn (L : Lane) : Lane :=
  let now := L.refEdge
  let L := ((L.stopFollow.setOffset false).becomeAlone (now : Nat)).pulsesOff (now : Nat)
  let L := (L.setPs psWithdrawn).setFlag .TWN_STAT 28 false
  L.setTwin { L.twin with realign := false, realAt := none, loss := none, turn := none, driveAt := none, roleNext := none }

/-! ### Frames (R216) -/

/-- A frame of a class arrives: one whose tag fails, or whose counter is not greater than the last accepted of its
class, is discarded and counted (R216). [log 79 DESIGN CHOICE] -/
def Lane.sightline (cls : Nat) (h : TwinHead) (f : Lane → Lane) (L : Lane) : Lane :=
  if !h.tagOk || (L.twin.rxCtr.get? cls).any (fun c => decide (h.ctr ≤ c)) then L.bump .TWN_LINK_ERR
  else f (L.setTwin { L.twin with rxCtr := L.twin.rxCtr.put cls h.ctr })

/-! ### Pairing (R217, R219) -/

/-- Condition 0x6 of R217: one grandmaster, and 16 consecutive offsets within 1,000 ns (R289). -/
def Lane.timeAgrees (L : Lane) (f : PairFacts) : Bool :=
  f.gm == L.gmId && decide (16 ≤ f.offs.length) && (f.offs.take 16).all (fun o => decide (o.natAbs ≤ 1000))

/-- The first condition of R217 that is false, by its reason code. [log 74 DESIGN CHOICE] -/
def Lane.pairReason (L : Lane) (f : PairFacts) : Nat :=
  if !f.identOk then 1
  else if f.pairId != (L.reg .TWN_PAIR_ID).toNat then 2
  else if f.pref == L.flag .TWN_CFG 30 then 3
  else if !f.imgSame then 4
  else if f.gen != L.img.gen then 5
  else if !L.timeAgrees f then 6
  else 0

/-- A lane that is not paired tries to pair while its channel is locked (R217). -/
def Lane.pairAttempt (f : PairFacts) (now : Int) (L : Lane) : Lane :=
  let p := L.pstate
  if !L.flag .TWN_CFG 31 || !L.flag .TWN_STAT 27 || !L.inService || 2 ≤ L.level || !(p == psAlone || p == psDetached || p == psAwait)
  then L
  else
    let r := L.pairReason f
    if r != 0 then (L.setReg .TWN_PAIR_ERR (w32 r)).raise 9 0x06 now (leBytes 1 r)
    else (L.setTwin { L.twin with before := p }).setPs psPairing |>.emitTwin .pair

/-- State transfer begins at its first pass, with every granule dirty (R222). -/
def Lane.enterCopy (L : Lane) : Lane :=
  let L := (L.setPs psCopy).setFld .TWN_STAT 22 0 0
  let L := (L.setReg .TWN_COPY_LEFT (w32 15625000)).setReg .TWN_COPY_PASS 1
  let all := [(0, 15624999)]
  L.setTwin { L.twin with dirty := all, pass := all, copyPos := none, arrived := [], written := ⟨[]⟩, copyAt := L.tick,
                          freeze := none }

/-- Pairing completes: roles as R219 sets them, from the next edge, and state transfer begins. A lane in AWAIT counts
as not in service (R221). -/
def Lane.pairComplete (peerInService : Bool) (now : Int) (L : Lane) : Lane :=
  if L.pstate != psPairing then L else
  let own := L.twin.before != psAwait
  let active := if own != peerInService then own else L.flag .TWN_CFG 30
  let L := (L.setFlag .TWN_STAT 26 true).enterCopy
  let x := L.twin
  let x := { x with roleNext := some active, missed := 0, peer := none, driveAt := none, loss := none, realAt := none }
  let L := L.setTwin { x with rxCtr := ⟨[]⟩, txCtr := 0 }
  if active then L else L.twinDatum now

/-- A role given by pairing is taken at an edge; a lane that loses the active role holds every pulse line off from it
(R162, R219, R238). [log 63 DEDUCED] -/
def Lane.roleEdge (L : Lane) : Lane :=
  match L.twin.roleNext with
  | none => L
  | some b =>
    let was := L.drives
    let L := (L.setTwin { L.twin with roleNext := none }).setFlag .TWN_STAT 28 b
    if b then (if was then L else L.startDriving)
    else
      let L := if was then L.pulsesOff (L.refEdge : Nat) else L
      (L.startFollow).setOffset true

/-! ### Forwarded intake (R224 to R227) -/

/-- A lane's record of a sample it accepted. -/
def recordOf (n : Nat) (burst : Bool) (s : Sample) (rows : List (List Int)) : IntakeRec :=
  { sub := n, cnt := if burst then s.cnt / 1024 else s.cnt, tick := s.wtick, off := s.inst - (edgeNs s.wtick : Nat) * 65536,
    sync := s.sync, test := s.test, invalid := s.invalid, quest := s.quest, knext := s.knext, rows := rows, qual := s.qual }

/-- Consecutive samples of one burst frame together. -/
def bySeq : List Sample → List (Nat × List Sample)
  | [] => []
  | s :: t =>
    match bySeq t with
    | (q, l) :: r => if q = s.cnt / 1024 then (q, s :: l) :: r else (s.cnt / 1024, [s]) :: (q, l) :: r
    | [] => [(s.cnt / 1024, [s])]

/-- The records of samples, earliest first: one for each ASDU, one for a burst frame (R224). -/
def Lane.records (L : Lane) (n : Nat) (l : List Sample) : List IntakeRec :=
  if L.subBurst n then
    (bySeq l).filterMap (fun g => g.2.head?.map (fun s => recordOf n true s (g.2.map (·.vals))))
  else l.map (fun s => recordOf n false s [s.vals])

/-- Records are sent to the standby as they are made (R224). -/
def Lane.forward (L : Lane) (l : List IntakeRec) : Lane := l.foldl (fun (L : Lane) r => L.emitTwin (.intake r)) L

/-- The records of what a stream accepted since an earlier state. -/
def Lane.newRecords (L : Lane) (n : Nat) (old : Stream) : List IntakeRec :=
  L.records n ((L.stream n).hist.filter (fun s => !old.hist.contains s)).reverse

/-- What the lane has accepted for a tick is forwarded (R239). -/
def Lane.forwardTick (L : Lane) (k : Nat) : Lane :=
  foldTo 256 (fun (L : Lane) n =>
    if L.subEn n then L.forward (L.records n ((L.stream n).hist.filter (fun s => s.wtick == k)).reverse) else L) L

/-- Steps 1 to 6 of intake on the set the lane keeps itself, with forwarding of what it accepts (R34, R224). -/
def Lane.ownIntake (L : Lane) (sub : Option Nat) (f : Lane → Lane) : Lane :=
  if L.twin.follow then
    let M := f { L with intake := { L.intake with streams := L.twin.own, cutTick := L.twin.ownCut } }
    { M with twin := { M.twin with own := M.intake.streams },
             intake := { M.intake with streams := L.intake.streams, cutTick := L.intake.cutTick } }
  else
    match L.feeds, sub with
    | true, some n =>
      let M := f L
      M.forward (M.newRecords n (L.stream n))
    | _, _ => f L

/-- SAMPLED_VALUE_FRAME. [log 82 DEDUCED] -/
def Lane.svFrame (port rx : Nat) (f : SvFrame) (L : Lane) : Lane := L.ownIntake (L.matchSv port f) (Lane.takeSv · port rx f)

/-- BURST_FRAME. [log 82 DEDUCED] -/
def Lane.burstFrame (port rx : Nat) (f : BurstFrame) (L : Lane) : Lane :=
  L.ownIntake (L.matchBurst port f) (Lane.takeBurst · port rx f)

/-- The samples a forwarded record stands for. -/
def recSamples (L : Lane) (r : IntakeRec) : List Sample :=
  let burst := L.subBurst r.sub
  let inst0 := r.off + (edgeNs r.tick : Nat) * 65536
  let n := if burst then r.rows.length else L.subAsdu r.sub
  r.rows.zipIdx.map (fun (p : List Int × Nat) =>
    let inst := inst0 + ((p.2 : Int) * 65536000000000) / (L.subRate r.sub : Nat)
    { cnt := if burst then r.cnt * 1024 + p.2 else r.cnt, inst := inst, due := L.dueTick r.sub n inst, vals := p.1,
      qual := r.qual, sync := r.sync, test := r.test, invalid := r.invalid, quest := r.quest, knext := r.knext, pos := 0,
      wtick := r.tick })

/-- QUAL of a burst frame, from the quality octet that a record carries (R56, R69). [log 160 DESIGN CHOICE] -/
def burstQualOf (o : Nat) : Nat :=
  (if validity o = 1 then 1 else if validity o = 3 then 2 else 0) + 4 * bnat (o.testBit 6)

/-- A record of the tick being gathered is applied as R60 to R68 apply to a frame (R224). -/
def Lane.applyRecord (L : Lane) (r : IntakeRec) : Lane :=
  if (L.stream r.sub).seen.contains r.cnt then L
  else
    let L := L.markSeen r.sub r.cnt
    let L :=
      if L.subBurst r.sub then
        let x := L.stream r.sub
        let fr : BurstRec := ⟨r.cnt, r.off + (edgeNs r.tick : Nat) * 65536, burstQualOf (r.qual.headD 0)⟩
        L.setStream r.sub { x with nsamp := r.rows.length, frames := (fr :: x.frames).take 65536 }
      else L
    (recSamples L r).foldl (fun (L : Lane) s => L.writeSample r.sub (if L.subBurst r.sub then r.rows.length else L.subAsdu r.sub) s) L

/-- INTAKE_RECORD: late records belong to no tick; those of later ticks wait for the cut-off (R225). -/
def Lane.intakeRecord (r : IntakeRec) (L : Lane) : Lane :=
  if !L.twin.follow then L
  else if r.tick ≤ L.intake.cutTick then L.bump .TWN_FWD_LATE
  else if L.intake.cutTick != 0 && L.intake.cutTick + 1 < r.tick then L.setTwin { L.twin with fwd := L.twin.fwd ++ [r] }
  else L.applyRecord r

/-- CUTOFF_MARKER: the lane's own field input image is compared with the forwarded one (R210, R225). -/
def Lane.cutoffMarker (tick gs fio : Nat) (L : Lane) : Lane :=
  if !L.twin.follow || tick ≤ L.intake.cutTick then L
  else
    let L := if L.fio.image != fio then L.bump .ILU_FIO_DISAG else L
    L.setTwin { L.twin with marker := some (tick, gs, fio) }

/-- What a stream took into a tick, as compared by R227. -/
def tickSet (x : Stream) (k : Nat) : List (Nat × List Int × List Nat) :=
  (x.hist.filter (fun s => s.wtick == k)).map (fun s => (s.cnt, s.vals, s.qual))

/-- The cross-check of the two sets of a tick (R227). -/
def Lane.crossCheck (L : Lane) (k : Nat) : Lane :=
  foldTo 256 (fun (L : Lane) n =>
    let a := tickSet (L.stream n) k
    let b := tickSet (L.twin.own.getD n (.fresh L.intake.since)) k
    if !L.subEn n || (a.all b.contains && b.all a.contains) then L
    else (L.bump .TWN_XCHK_DIFF).setFlag .TWN_XCHK_MAP (n % 32) true (n / 32)) L

/-- FORWARD_SUBSTITUTION: with no marker for the tick at its cut-off the lane, having compared
the two sets (R227), runs it on its own (R226). [log 76 DEDUCED] -/
def Lane.substitute (L : Lane) : Lane :=
  if !L.twin.follow || L.twin.subst == some L.tick || L.intake.cutTick == L.tick || L.twin.marker.any (fun m => m.1 == L.tick) then L
  else
    let L := ((L.crossCheck L.tick).bump .TWN_FWD_SUBST).setFld .TWN_STAT 22 0 0
    L.useOwn.setTwin { L.twin with subst := some L.tick }

/-- The cut-off of the lane's own set on the unshifted grid, while it follows the forwarded one (R34). -/
def Lane.ownCutoff (L : Lane) : Lane :=
  if !L.twin.follow then L else
  let k := if L.standby then L.tick + 1 else L.tick
  let M := ({ L with intake := { L.intake with streams := L.twin.own, cutTick := L.twin.ownCut } } : Lane).cutStreams k
  L.setTwin { L.twin with own := M.intake.streams, ownCut := k }

/-- The set in use is judged: the own set of a substituted tick has been judged at its own cut-off (R226). -/
def Lane.judgeSet (L : Lane) : Lane :=
  if L.twin.follow && L.twin.subst == some L.tick && L.twin.ownCut == L.tick then
    { L with intake := { L.intake with cutTick := L.tick } }.intakeStat
  else L.cutStreams L.tick

/-- GOOSE states at the cut-off: the lane's own, or those of the active lane's marker with its field input image
(R199, R210, R224). -/
def Lane.latchGoose (L : Lane) : Lane :=
  let L := L.gsCutoff
  let L := L.setFlag .TWN_STAT 23 ((L.gsSub (L.fld .TWN_CFG 28 24)).valid)
  match L.twin.marker with
  | some (t, gs, fio) => if L.twin.follow && t == L.tick then { L with ilu := { L.ilu with gsLat := gs, fio := fio } } else L
  | none => L

/-- Records that waited for this cut-off are applied (R225). [log 76 DEDUCED] -/
def Lane.releaseRecords (L : Lane) : Lane :=
  let l := L.twin.fwd
  let k := L.tick + 1
  let L := L.setTwin { L.twin with fwd := l.filter (fun r => decide (k < r.tick)) }
  (l.filter (fun r => decide (r.tick ≤ k))).foldl (fun (L : Lane) r => L.applyRecord r) L

/-- Conditioning runs at Level 0 and 1 (R76). -/
def Lane.condition1 (L : Lane) : Lane := if 2 ≤ L.level then L else L.condPhase.markDone 4

/-- The cut-off of the traverse in progress (R65, R225): every stream is judged, GOOSE states are latched, the active
lane sends its marker, chains consume. -/
def Lane.refCutoff (L : Lane) : Lane :=
  let L := L.substitute
  let L := if L.twin.follow && L.twin.subst != some L.tick then L.crossCheck L.tick else L
  let L := L.judgeSet.latchGoose
  let L := if L.feeds then L.emitTwin (.marker L.tick L.ilu.gsLat L.ilu.fio) else L
  (L.condition1.releaseRecords).markDone 2

/-- INTAKE_CUTOFF: the reference cut-off, or that of the own set of a lane that follows the forwarded one. -/
def Lane.intakeCutoff (own : Bool) (L : Lane) : Lane :=
  if !L.inService || 3 ≤ L.level then L else if own then L.ownCutoff else L.refCutoff

/-! ### State transfer (R222, R223) -/

/-- Ranges without one interval. -/
def cutRange (a b : Nat) (l : List (Nat × Nat)) : List (Nat × Nat) :=
  l.flatMap (fun r =>
    if r.2 < a || b < r.1 then [r]
    else (if r.1 < a then [(r.1, a - 1)] else []) ++ (if b < r.2 then [(b + 1, r.2)] else []))

/-- Ranges in rising order, with one granule more. -/
def addGranule (g : Nat) : List (Nat × Nat) → List (Nat × Nat)
  | [] => [(g, g)]
  | r :: t => if g < r.1 then (g, g) :: r :: t else if g ≤ r.2 then r :: t else r :: addGranule g t

/-- The first `n` granules of ranges, and the rest. -/
def takeGranules (n : Nat) : List (Nat × Nat) → List (Nat × Nat) × List (Nat × Nat)
  | [] => ([], [])
  | r :: t =>
    let k := r.2 + 1 - r.1
    if n = 0 then ([], r :: t)
    else if n < k then ([(r.1, r.1 + n - 1)], (r.1 + n, r.2) :: t)
    else
      let u := takeGranules (n - k) t
      (r :: u.1, u.2)

/-- The granules of a range that no later tick than `t` is known to have written, as ranges. -/
def unwritten (w : NMap Nat) (t : Nat) (r : Nat × Nat) : List (Nat × Nat) :=
  (w.cells.filter (fun c => decide (t < c.2))).foldl (fun l c => cutRange c.1 c.1 l) [r]

/-- The granules in ranges. -/
def rangesLen (l : List (Nat × Nat)) : Nat := (l.map (fun r => r.2 + 1 - r.1)).sum

/-- The dirty set is replaced, and TWN_COPY_LEFT with it. -/
def Lane.setDirty (L : Lane) (l : List (Nat × Nat)) : Lane :=
  (L.setTwin { L.twin with dirty := l }).setFld .TWN_COPY_LEFT 24 0 (rangesLen l)

/-- One part of a granule's content takes its place in the state. [log 74 DESIGN CHOICE] -/
def Lane.install (L : Lane) : CopyPart → Lane
  | .stream n x => L.setStream n x
  | .chain c x => L.setChain c x
  | .slot n x => L.setSlot n x
  | .store i v => { L with fabric := { L.fabric with store := L.fabric.store.put i v } }
  | .line i x => L.setLine i x
  | .pub g x => L.setPub g x
  | .cmd c x => L.setCmdCh c x
  | .tmr i x => { L with ilu := { L.ilu with tmr := L.ilu.tmr.put i x } }
  | .ctr j x => { L with ilu := { L.ilu with ctr := L.ilu.ctr.put j x } }
  | .reg r i j v => L.setReg r v i j
  | .pclMem p a bs => L.setParcel p { L.parcel p with mem := memWrite (L.parcel p).mem a bs }
  | .mailCur p a bs => L.setParcel p { L.parcel p with mailCur := memWrite (L.parcel p).mailCur a bs }
  | .mailPub p a bs => L.setParcel p { L.parcel p with mailPub := memWrite (L.parcel p).mailPub a bs }
  | .crit p a bs => L.setParcel p { L.parcel p with critDone := memWrite (L.parcel p).critDone a bs }
  | .elOut n x => { L with fabric := { L.fabric with cur := L.fabric.cur.put n x } }
  | .matrix tm gb gbT trg flg bsp =>
    { L with trip := { L.trip with tm := tm, gb := gb, gbT := gbT, trg := trg, flg := flg, bsp := bsp } }
  | .wf n x => { L with cond := { L.cond with wfs := L.cond.wfs.put n x } }
  | .wfRing l q => { L with cond := { L.cond with ring := l, seq := q } }
  | .prog p x => L.setProg p x
  | .goose g x => { L with ilu := { L.ilu with gs := L.ilu.gs.put g x } }
  | .iluIn h g f => { L with ilu := { L.ilu with host := h, gsLat := g, fio := f } }
  | .pcl p x => L.setParcel p x

/-- The content of one item of a granule: `k` is the kind of state, `a` and `b` its indices. -/
def Lane.partOf (L : Lane) (k a b : Nat) : CopyPart :=
  match k with
  | 0 => .stream a (L.stream a)
  | 1 => .chain a (L.chain a)
  | 2 => .slot a (L.slot a)
  | 3 => .store a (L.fabric.store.getD a 0)
  | 4 => .line a (L.line a)
  | 5 => .pub a (L.pub a)
  | 6 => .cmd a (L.cmdCh a)
  | 7 => .tmr a (L.ilu.tmr.getD a ⟨0, false, false, none⟩)
  | 8 => .ctr a (L.ilu.ctr.getD a ⟨0, false, false⟩)
  | 9 => .reg (Reg.ofNat (a / 65536)) (a % 65536) b (L.reg (Reg.ofNat (a / 65536)) (a % 65536) b)
  | 10 => .pclMem a b (memRead (L.parcel a).mem b 1024)
  | 11 => .mailCur a b (memRead (L.parcel a).mailCur b 1024)
  | 12 => .mailPub a b (memRead (L.parcel a).mailPub b 1024)
  | 13 => .crit a b (memRead (L.parcel a).critDone b 1024)
  | 14 => .elOut a (L.elCur a)
  | 15 => .matrix L.trip.tm L.trip.gb L.trip.gbT L.trip.trg L.trip.flg L.trip.bsp
  | 16 => .wf a (L.cond.wfs.getD a .fresh)
  | 17 => .wfRing L.cond.ring L.cond.seq
  | 18 => .prog a (L.iluProg a)
  | 19 => .goose a (L.gsSub a)
  | 20 => .iluIn L.ilu.host L.ilu.gsLat L.ilu.fio
  | _ => .pcl a (L.parcel a)

/-- The content of a range of granules at the closure of a tick (R222). -/
def Lane.granules (L : Lane) (a b : Nat) : List (Nat × CopyPart) :=
  (List.range (b + 1 - a)).flatMap (fun i => (Config.granuleItems (a + i)).map (fun x => (a + i, L.partOf x.1 x.2.1 x.2.2)))

/-- The standby, in COPY or FREEZE. -/
def Lane.copying (L : Lane) : Bool := (L.pstate == psCopy || L.pstate == psFreeze) && !L.role

/-- COPY: granules arrive, and wait for a closure (R222). A frame that begins no later than the one before begins a
pass. [log 74 DESIGN CHOICE] -/
def Lane.copyFrame (first last tick : Nat) (parts : List (Nat × CopyPart)) (L : Lane) : Lane :=
  if !L.copying || last < first then L
  else
    let L := if L.twin.copyPos.any (fun p => decide (first ≤ p)) then L.setFld .TWN_COPY_PASS 7 0 (L.fld .TWN_COPY_PASS 7 0 + 1) else L
    L.setTwin { L.twin with copyPos := some first, arrived := L.twin.arrived ++ [(first, last, tick, parts)] }

/-- The active lane, in COPY or FREEZE. -/
def Lane.sending (L : Lane) : Bool := (L.pstate == psCopy || L.pstate == psFreeze) && L.holdsActive

/-- Ranges of granules are sent with their content. [log 74 DESIGN CHOICE] -/
def Lane.sendCopy (L : Lane) (l : List (Nat × Nat)) : Lane :=
  l.foldl (fun (L : Lane) r =>
    let L := L.emitTwin (.copy r.1 r.2 L.tick (L.granules r.1 r.2))
    L.setTwin { L.twin with arrived := L.twin.arrived ++ [(r.1, r.2, L.tick, [])] }) L

/-- A range of granules has been installed at a closure: those that were not written after they were read leave the dirty
set (R222). -/
def Lane.cleanRange (L : Lane) (a b tick : Nat) : Lane :=
  L.setDirty ((unwritten L.twin.written tick (a, b)).foldl (fun d r => cutRange r.1 r.2 d) L.twin.dirty)

/-- Granules written in a tick are noted, and are dirty until the two lanes' digests of them are found equal (R222). -/
def Lane.noteWritten (L : Lane) (tick : Nat) (l : List Nat) : Lane :=
  (L.setTwin { L.twin with written := l.foldl (fun m g => m.put g (max tick (m.getD g 0))) L.twin.written }).setDirty
    (l.foldl (fun d g => addGranule g (cutRange g g d)) L.twin.dirty)

/-- What the active lane has sent before this closure is installed at it, as the standby does (R222). -/
def Lane.settleSent (L : Lane) : Lane :=
  let l := L.twin.arrived
  l.foldl (fun (L : Lane) a => L.cleanRange a.1 a.2.1 a.2.2.1) (L.setTwin { L.twin with arrived := [] })

/-- At a closure the active lane sends the digests of the granules written in the tick, and in COPY the next granules of
the pass; a pass that is through is followed by one over the dirty set (R222). [log 74 DESIGN CHOICE] -/
def Lane.copyClose (L : Lane) : Lane :=
  if !L.sending then L
  else
    let f := L.fresh1
    let w := Config.granulesWritten f.1
    let L := (f.2.emitTwin (.pageDig f.2.tick w)).settleSent.noteWritten f.2.tick (w.map (·.1))
    if L.pstate != psCopy then L
    else
      let again := L.twin.pass.isEmpty && !L.twin.dirty.isEmpty
      let L := if again then L.setFld .TWN_COPY_PASS 7 0 (L.fld .TWN_COPY_PASS 7 0 + 1) else L
      let f := L.fresh1
      let r := takeGranules (min (20 + Config.copySpare f.1) ((2048 - L.twin.cells) / 8)) (if again then L.twin.dirty else L.twin.pass)
      (f.2.setTwin { f.2.twin with pass := r.2 }).sendCopy r.1

/-- PAGEDIG: granules written in a tick, each with whether the two lanes' digests of it are equal (R222).
[log 74 DESIGN CHOICE] -/
def Lane.pageDigests (tick : Nat) (l : List (Nat × Bool)) (L : Lane) : Lane :=
  if !(L.pstate == psCopy || L.pstate == psFreeze) then L else
  let L := L.noteWritten tick (l.map (·.1))
  L.setDirty ((l.filter (·.2)).foldl (fun d g => cutRange g.1 g.1 d) L.twin.dirty)

/-- At a closure the standby installs the granules that have arrived and have not been written since they were read; the
others stay dirty (R222). [log 74 DESIGN CHOICE] -/
def Lane.installGranules (L : Lane) : Lane :=
  if !L.copying then L else
  let l := L.twin.arrived
  let L := L.setTwin { L.twin with arrived := [] }
  l.foldl (fun (L : Lane) (a : Nat × Nat × Nat × List (Nat × CopyPart)) =>
    let clean := unwritten L.twin.written a.2.2.1 (a.1, a.2.1)
    let good := a.2.2.2.filter (fun p => clean.any (fun r => decide (r.1 ≤ p.1 ∧ p.1 ≤ r.2)))
    (good.foldl (fun (L : Lane) p => L.install p.2) L).cleanRange a.1 a.2.1 a.2.2.1) L

/-- FREEZE_START: after the closure of a tick with at most 36 dirty granules the next two ticks are freeze ticks (R223). -/
def Lane.freezeStart (tick : Nat) (L : Lane) : Lane :=
  if L.pstate != psCopy || L.tick != tick || 36 < rangesLen L.twin.dirty then L
  else (L.setPs psFreeze).setTwin { L.twin with freeze := some (L.tick + 1) }

/-- The edge of F, from which the active lane sends every granule still dirty, and the edge of F + 2: REPLICA (R223). -/
def Lane.freezeEdge (L : Lane) : Lane :=
  match L.twin.freeze with
  | some f =>
    if L.tick < f + 2 then (if L.tick = f && L.sending then L.sendCopy L.twin.dirty else L)
    else
      let x := { L.twin with freeze := none, dirty := [], pass := [], copyPos := none, arrived := [], written := ⟨[]⟩ }
      let L := (L.setTwin x).setReg .TWN_COPY_LEFT 0
      if L.pstate = psFreeze then (L.setPs psReplica).raise 9 0x08 (L.refEdge : Nat) else L
  | none => L

/-- STATE_TRANSFER_RESTART: 12 s without reaching the freeze (R220, R223). -/
def Lane.transferRestart (now : Int) (L : Lane) : Lane :=
  if L.pstate != psCopy || L.tick - L.twin.copyAt < 1152000 then L else L.enterCopy.raise 9 0x07 now

/-! ### Backsight (R229 to R231) -/

/-- The backsight digest of the tick (R229). [log 74 DESIGN CHOICE, log 75 DEDUCED] -/
def Lane.digest (L : Lane) : Nat :=
  let slots := (List.range 4096).filter (fun s => (L.desc s).any dEn)
  let lines := fun (p : TripLine → Bool) => bitsWhere (fun i => p (L.line i)) 16
  let flags := (List.range 233).map (fun w => (L.reg .ILU_FLAG (w + 21)).toNat)
  crc64 (
    leBytes 8 L.tick ++
    slots.flatMap (fun s => let o := L.elCur s; leBytes 4 o.val.toNat ++ leBytes 1 o.status ++ leBytes 3 o.tcnt) ++
    leBytes 2 (lines (·.trip)) ++ leBytes 2 (lines (·.sealed)) ++ leBytes 8 L.trip.gb ++ leBytes 4 L.trip.trg ++
    leBytes 8 L.trip.flg ++ leBytes 4 (L.reg .TRM_HF_LO).toNat ++ leBytes 4 (L.reg .TRM_HF_HI).toNat ++
    flags.flatMap (leBytes 4) ++ leBytes 1 (bitsWhere (fun i => L.pinImage i) 8) ++
    (List.range 16).flatMap (fun p => leBytes 4 (if L.pState p = pRunning then (L.parcel p).crc else (L.reg .LCT_PCL_STAT p).toNat)) ++
    ((List.range 64).filter L.cmdEn).flatMap (fun c => leBytes 4 (L.cmdCh c).tgt.toNat ++ leBytes 4 (L.cmdCh c).y.toNat) ++
    leBytes 1 (bnat (L.twin.subst == some L.tick)))

/-- DIGEST_SEND at T+9,800 ns, with that datum time and the applied rate (R230, R290).
[log 75 DEDUCED, log 78 DESIGN CHOICE] -/
def Lane.digestSend (L : Lane) : Lane :=
  if !L.inService || 3 ≤ L.level then L
  else if !L.paired then L.markDone 12
  else
    let d := L.digest
    let L := L.setTwin { L.twin with mine := some (L.tick, d) }
    (L.emitTwin (.digest L.tick d L.rateCur (L.twin.subst == some L.tick) (L.refEdge + 9800 : Nat))).markDone 12

/-- The twin offset in ns of R290, from the four timestamps of the frames in both directions, saturated. -/
def Lane.twinOffset (L : Lane) (t1 t2 t3 t4 : Int) : Int :=
  clampI (-2147483648) 2147483647 (((t2 - t1) - (t4 - t3)) / 2 - signed 32 (L.reg .DTM_TW_ASYM).toNat)

/-- The standby measures the twin offset and steers by the active lane's rate, with a correction of at most 5 ppm
(R290). [log 78 DESIGN CHOICE] -/
def Lane.twinMeasure (L : Lane) (t1 t2 t3 t4 : Int) (rate : Nat) : Lane :=
  if L.dstate != dTwin then L else
  let o := L.twinOffset t1 t2 t3 t4
  let far := decide (100 < o.natAbs)
  let f := L.fresh1
  let c := clampI (-(rateNominal * 5 / 1000000 : Nat)) (rateNominal * 5 / 1000000 : Nat) (Config.servoTarget f.1).toInt
  let L := f.2.setReg .DTM_TWIN_OFS (w32i o)
  let L := if far then L else L.setFlag .DTM_STAT 23 false
  { L with datum := { L.datum with servo := clampRate ((rate : Int) + c), twinRun := if far then L.datum.twinRun + 1 else 0 } }.writeTarget

/-- DIGEST: the twin's digest of a tick arrives, with its timestamps and rate (R230, R290). -/
def Lane.takeDigest (tick digest : Nat) (t1 t2 t3 t4 : Int) (rate : Nat) (synced hold : Bool) (L : Lane) : Lane :=
  if !L.paired then L
  else
    let L := (L.setTwin { L.twin with peer := some (tick, digest), missed := 0 }).twinMeasure t1 t2 t3 t4 rate
    if L.dstate = dTwin then L.showDatum synced hold else L

/-- A self-check begins (R231). -/
def Lane.selfCheck (L : Lane) : Lane :=
  if L.twin.check then L
  else (L.setTwin { L.twin with check := true }).setFlag .TWN_STAT 25 (!L.role)

/-- The active lane has lost its standby (R220). -/
def Lane.lostStandby (L : Lane) (now : Int) : Lane :=
  if L.paired && L.holdsActive then L.becomeAlone now else L

/-- BACKSIGHT_COMPARE: a lane's own digest of a tick and the twin's (R230, R231); the active lane, with two missing in
a row, is ALONE. A mismatch during a self-check is counted and starts nothing. A clean tick of a standby counts toward REQUAL (R240).
[log 75 DEDUCED] -/
def Lane.backsight (now : Int) (L : Lane) : Lane :=
  match L.twin.mine with
  | none => L
  | some (t, d) =>
    if !L.paired then L
    else
      match L.twin.peer.filter (fun p => p.1 == t) with
      | none =>
        let L := (L.bump .TWN_BSIGHT_MISS).setTwin { L.twin with missed := L.twin.missed + 1, mine := none }
        if 2 ≤ L.twin.missed then L.lostStandby now else L
      | some p =>
        let L := (L.bump .TWN_BSIGHT_CNT).setTwin { L.twin with mine := none }
        if L.pstate != psReplica then L
        else if p.2 = d then
          (if L.role || L.twin.subst == some t then L
           else L.setFld .TWN_STAT 22 0 (min 8388607 (L.fld .TWN_STAT 22 0 + 1)))
        else
          let L := (L.bump .TWN_BSIGHT_MISM).setFld .TWN_STAT 22 0 0
          if L.twin.check then L
          else ((L.emitTwin (.mismatch t)).raise 9 0x03 now (leBytes 8 t)).selfCheck

/-- MISMATCH: the twin found a mismatch (R231). -/
def Lane.takeMismatch (L : Lane) : Lane := if L.pstate = psReplica then (L.setFld .TWN_STAT 22 0 0).selfCheck else L

/-! ### Loss of the active lane (R232 to R238) -/

/-- A standby declares loss of the active lane: the declaration tick, and a realignment tick after it (R232, R233). -/
def Lane.declareLoss (L : Lane) (now : Int) : Lane :=
  if !L.paired || L.holdsActive || L.twin.loss.isSome then L
  else
    let t := tickOf (now - 600).toNat
    let L := L.setTwin { L.twin with loss := some t, realAt := some (t + 1), turn := none }
    L.raise 9 0x01 now (leBytes 8 t ++ leBytes 1 (bnat (L.flag .TWN_STAT 25)))

/-- LOSS_OF_ACTIVE: the active lane's digest of the tick that ended has not come while the channel is locked.
[log 76 DEDUCED] -/
def Lane.lossOfActive (now : Int) (L : Lane) : Lane :=
  let t := tickOf (now - 100).toNat - 1
  if !L.flag .TWN_STAT 27 || L.twin.peer.any (fun p => decide (t ≤ p.1)) then L else L.declareLoss now

/-- WITHDRAW received (R220, R232). -/
def Lane.takeWithdraw (now : Int) (L : Lane) : Lane := if L.holdsActive then L.lostStandby now else L.declareLoss now

/-- A realignment tick begins at an edge: the lane runs it unshifted on its own intake (R233, R234). [log 77 DEDUCED] -/
def Lane.realignEdge (L : Lane) : Lane :=
  let L := L.setTwin { L.twin with realign := false }
  match L.twin.realAt with
  | some k =>
    if L.tick < k then L
    else
      let L := L.setTwin { L.twin with realAt := none, realign := true }
      (L.stopFollow).setOffset false
  | none => L

/-- TAKEOVER at the edge of t + 2: ALONE, driving every active-only output (R233, R236). -/
def Lane.takeover (L : Lane) : Lane :=
  match L.twin.loss with
  | none => L
  | some t =>
    if L.tick < t + 2 || !L.inService || L.role then L
    else
      let L := (L.setTwin { L.twin with loss := none }).becomeAlone (L.refEdge : Nat)
      let L := (L.setFlag .TWN_STAT 28 true).bump .TWN_SWITCH_CNT
      (L.setNum64 .TWN_SWITCH_TK_LO .TWN_SWITCH_TK_HI L.tick).startDriving

/-- SIGHTLINE_LOCK_LOSS (R237, R238): a standby is DETACHED and runs unshifted on its own intake from the next edge; an
active lane is ALONE; a lane that is pairing goes back to where it was. -/
def Lane.lockLoss (now : Int) (L : Lane) : Lane :=
  if !L.flag .TWN_STAT 27 then L else
  let L := ((L.setFlag .TWN_STAT 27 false).setFlag .TWN_STAT 26 false).raise 9 0x04 now
  if L.pstate = psPairing then L.setPs L.twin.before
  else if !L.paired then L
  else if L.holdsActive then L.becomeAlone now
  else if L.twin.loss.isSome then L
  else
    let L := (L.becomeAlone now).setPs psDetached
    L.setTwin { L.twin with realAt := some (L.tick + 1) }

/-- SIGHTLINE_LOCK (R217). -/
def Lane.lockGain (L : Lane) : Lane := L.setFlag .TWN_STAT 27 true

/-- The witness subscription is VALID (R199, R237). -/
def Lane.witnessOk (L : Lane) : Bool := (L.gsSub (L.fld .TWN_CFG 28 24)).valid

/-- The lane becomes ALONE without a twin and drives from the second edge (R221, R237). -/
def Lane.aloneFrom (L : Lane) (why : Nat) (now : Int) : Lane :=
  let at2 := L.tick + 2
  let L := (L.becomeAlone now).setFlag .TWN_STAT 28 true
  (L.setTwin { L.twin with driveAt := some at2 }).raise 9 0x0A (edgeNs at2 : Nat) (leBytes 1 why)

/-- WITNESS_LOST (R237). -/
def Lane.witnessLost (now : Int) (L : Lane) : Lane :=
  if L.pstate = psDetached && !L.witnessOk then L.aloneFrom 1 now else L

/-- AWAIT_EXPIRY: 250 ms in service and no VALID witness (R221). -/
def Lane.awaitExpiry (now : Int) (L : Lane) : Lane :=
  if L.pstate = psAwait && decide (24000 ≤ L.tick - L.twin.svcAt) && !L.witnessOk then L.aloneFrom 2 now else L

/-- The edge from which a lane that became ALONE drives. -/
def Lane.driveEdge (L : Lane) : Lane :=
  match L.twin.driveAt with
  | some k => if L.tick < k then L else (L.setTwin { L.twin with driveAt := none }).startDriving
  | none => L

/-! ### Planned swaps and proof tests (R239 to R242) -/

/-- The swap tick: both lanes treat it as a realignment tick; the new active lane runs it unshifted on its own intake
and the old one shifted on the forwarded set (R239). -/
def Lane.turnEdge (L : Lane) : Lane :=
  if L.pstate != psReplica || L.twin.loss.isSome then L else
  let L := L.setTwin { L.twin with turn := some L.tick, realign := true }
  if L.role then (L.startFollow).setOffset true else ((L.stopFollow).setOffset false).forwardTick L.tick

/-- PLANNED_SWAP at the edge of a + 1: the roles are exchanged (R239). -/
def Lane.plannedSwap (L : Lane) : Lane :=
  match L.twin.turn with
  | none => L
  | some a =>
    if L.tick ≤ a || L.pstate != psReplica then L
    else
      let L := (L.setTwin { L.twin with turn := none }).raise 9 0x05 (L.refEdge : Nat) (leBytes 8 a)
      let L := (L.bump .TWN_SWITCH_CNT).setFld .TWN_STAT 22 0 0
      if L.role then ((L.setFlag .TWN_STAT 28 false).runOut).twinDatum (L.refEdge : Nat)
      else
        let L := (L.setFlag .TWN_STAT 28 true).leaveTwinTime (L.refEdge : Nat)
        (L.setNum64 .TWN_SWITCH_TK_LO .TWN_SWITCH_TK_HI L.tick).startPulses

/-- The next output in rotation after `i` of those a mask names, of 24. [log 81 DESIGN CHOICE] -/
def nextProof (mask i : Nat) : Option Nat :=
  ((List.range 24).map (fun k => (i + 1 + k) % 24)).find? (fun k => mask.testBit k)

/-- The level that output `i` of the proof mask is commanded to: a trip line, or from 16 on a field IO pin (R242). -/
def Lane.proofLevel (L : Lane) (i : Nat) : Bool := if i < 16 then L.lineLevel i else L.pinLevel (i - 16)

/-- OUTPUT_PROOF_TEST: the standby drives the next output in rotation to its opposite level for PTW ns from
T_s+6,000 ns, and reads it back as `level` (R242). [log 81 DESIGN CHOICE] -/
def Lane.proofTest (level : Bool) (now : Int) (L : Lane) : Lane :=
  if !L.inService || L.role || !L.paired || L.fld .TWN_PROOF_CFG 31 21 = 0 || L.tick < L.twin.proofAt + L.fld .TWN_PROOF_CFG 20 0
  then L
  else
    match nextProof L.img.proof (L.twin.proofIx.getD 23) with
    | none => L
    | some i =>
      let other := !L.proofLevel i
      let L := (L.setTwin { L.twin with proofIx := some i, proofAt := L.tick }).emit
        (.proof i other (L.refEdge + 6000) (L.fld .TWN_PROOF_CFG 31 21))
      if level = other then L
      else ((L.setFlag .TWN_PROOF_FAIL i true).setFlag .TWN_STAT 24 true).raise 9 0x09 now
        (leBytes 1 (bnat (decide (16 ≤ i))) ++ leBytes 1 (if 16 ≤ i then i - 16 else i))

/-! ### Meanings -/

/-- SAMPLED_VALUE_FRAME (R53 to R66). -/
def execSampledValueFrame (lane : LaneId) (port rx : Nat) (f : SvFrame) (s : State) : Host.Outcome State Fault Refusal :=
  onLane lane (Lane.svFrame port rx f) s

/-- BURST_FRAME (R56 to R66). -/
def execBurstFrame (lane : LaneId) (port rx : Nat) (f : BurstFrame) (s : State) : Host.Outcome State Fault Refusal :=
  onLane lane (Lane.burstFrame port rx f) s

/-- INTAKE_CUTOFF (R65, R225). -/
def execIntakeCutoff (lane : LaneId) (own : Bool) (s : State) : Host.Outcome State Fault Refusal :=
  onLane lane (Lane.intakeCutoff own) s

/-- INTAKE_RECORD (R224). -/
def execIntakeRecord (lane : LaneId) (h : TwinHead) (r : IntakeRec) (s : State) : Host.Outcome State Fault Refusal :=
  onLane lane (Lane.sightline 1 h (Lane.intakeRecord r)) s

/-- CUTOFF_MARKER (R225). -/
def execCutoffMarker (lane : LaneId) (h : TwinHead) (tick gs fio : Nat) (s : State) : Host.Outcome State Fault Refusal :=
  onLane lane (Lane.sightline 1 h (Lane.cutoffMarker tick gs fio)) s

/-- FORWARD_SUBSTITUTION (R226). -/
def execForwardSubstitution (lane : LaneId) (s : State) : Host.Outcome State Fault Refusal := onLane lane Lane.substitute s

/-- DIGEST_SEND (R230). -/
def execDigestSend (lane : LaneId) (s : State) : Host.Outcome State Fault Refusal := onLane lane Lane.digestSend s

/-- DIGEST (R230, R290). -/
def execDigest (lane : LaneId) (h : TwinHead) (tick digest : Nat) (t1 t2 t3 t4 : Int) (rate : Nat) (synced hold : Bool) (s : State) :
    Host.Outcome State Fault Refusal := 
  onLane lane (Lane.sightline 0 h (Lane.takeDigest tick digest t1 t2 t3 t4 rate synced hold)) s

/-- BACKSIGHT_COMPARE (R231). -/
def execBacksightCompare (lane : LaneId) (now : Int) (s : State) : Host.Outcome State Fault Refusal :=
  onLane lane (Lane.backsight now) s

/-- MISMATCH (R231). -/
def execMismatch (lane : LaneId) (h : TwinHead) (s : State) : Host.Outcome State Fault Refusal := 
  onLane lane (Lane.sightline 0 h Lane.takeMismatch) s

/-- WITHDRAW (R232). -/
def execWithdraw (lane : LaneId) (h : TwinHead) (now : Int) (s : State) : Host.Outcome State Fault Refusal :=
  onLane lane (Lane.sightline 0 h (Lane.takeWithdraw now)) s

/-- LOSS_OF_ACTIVE (R232). -/
def execLossOfActive (lane : LaneId) (now : Int) (s : State) : Host.Outcome State Fault Refusal :=
  onLane lane (Lane.lossOfActive now) s

/-- TAKEOVER (R233). -/
def execTakeover (lane : LaneId) (s : State) : Host.Outcome State Fault Refusal := onLane lane Lane.takeover s

/-- PAIRING_ATTEMPT (R217). -/
def execPairingAttempt (lane : LaneId) (f : PairFacts) (now : Int) (s : State) : Host.Outcome State Fault Refusal :=
  onLane lane (Lane.pairAttempt f now) s

/-- PAIRING_COMPLETE (R219). -/
def execPairingComplete (lane : LaneId) (peerInService : Bool) (now : Int) (s : State) : Host.Outcome State Fault Refusal :=
  onLane lane (Lane.pairComplete peerInService now) s

/-- SIGHTLINE_LOCK_LOSS (R237). -/
def execSightlineLockLoss (lane : LaneId) (now : Int) (s : State) : Host.Outcome State Fault Refusal :=
  onLane lane (Lane.lockLoss now) s

/-- SIGHTLINE_LOCK (R217). -/
def execSightlineLock (lane : LaneId) (s : State) : Host.Outcome State Fault Refusal := onLane lane Lane.lockGain s

/-- AWAIT_EXPIRY (R221). -/
def execAwaitExpiry (lane : LaneId) (now : Int) (s : State) : Host.Outcome State Fault Refusal :=
  onLane lane (Lane.awaitExpiry now) s

/-- WITNESS_LOST (R237). -/
def execWitnessLost (lane : LaneId) (now : Int) (s : State) : Host.Outcome State Fault Refusal :=
  onLane lane (Lane.witnessLost now) s

/-- COPY (R222). -/
def execCopy (lane : LaneId) (h : TwinHead) (first last tick : Nat) (parts : List (Nat × CopyPart)) (s : State) :
    Host.Outcome State Fault Refusal := 
  onLane lane (Lane.sightline 3 h (Lane.copyFrame first last tick parts)) s

/-- PAGEDIG (R222). -/
def execPagedig (lane : LaneId) (h : TwinHead) (tick : Nat) (granules : List (Nat × Bool)) (s : State) :
    Host.Outcome State Fault Refusal := 
  onLane lane (Lane.sightline 3 h (Lane.pageDigests tick granules)) s

/-- FREEZE_START (R223). -/
def execFreezeStart (lane : LaneId) (tick : Nat) (s : State) : Host.Outcome State Fault Refusal :=
  onLane lane (Lane.freezeStart tick) s

/-- STATE_TRANSFER_RESTART (R220). -/
def execStateTransferRestart (lane : LaneId) (now : Int) (s : State) : Host.Outcome State Fault Refusal :=
  onLane lane (Lane.transferRestart now) s

/-- PLANNED_SWAP (R239). -/
def execPlannedSwap (lane : LaneId) (s : State) : Host.Outcome State Fault Refusal := onLane lane Lane.plannedSwap s

/-- OUTPUT_PROOF_TEST (R242). -/
def execOutputProofTest (lane : LaneId) (level : Bool) (now : Int) (s : State) : Host.Outcome State Fault Refusal :=
  onLane lane (Lane.proofTest level now) s

end Sys2Proof.Machine
end

