-- ==== Sys2Proof/Machine/Level.lean ====
section
/-! DEFINITION. Entry to Level 2 and to the lane safe state, and what a lane reset keeps (R9, R33, R149, R163, R185,
R271, R275, R302, R347, R350, R400, R469). -/

namespace Sys2Proof.Machine

open Sys2Proof

/-- Every command pending on the lane is completed with ABORT, an open TL_RESET too (R302). -/
def Lane.abortPend (L : Lane) : Lane :=
  let ids := L.pend.map (·.id) ++ L.trip.jobs.map (·.id)
  let L : Lane := { L with pend := [], trip := { L.trip with jobs := [] } }
  ids.foldl (fun (L : Lane) (i : CmdId) => L.finish i 0x0013) L

/-- The lane is at Level 2 from this edge (R33, R132, R149, R163, R347, R350, R400). -/
def Lane.enterLevel2 (cause : Nat) (L : Lane) : Lane :=
  let now : Int := (L.refEdge : Nat)
  let old := L.level
  let L := ((L.setFld .LCT_TRAV_STAT 27 26 2).setFlag .LCT_TRAV_STAT 25 true).setFlag .FAB_STAT 29 false
  let L := L.raise 0 0x01 now (leBytes 1 old ++ leBytes 1 2 ++ leBytes 1 cause)
  let L := L.withdrawn
  let L := if L.dstate = dUnset then L else L.enterDatum dFrozen now
  let L := L.linesToSafe (fun i => L.flag .TRM_TL_CFG 26 i) 0 now
  let L := L.pubsStop 0 now
  let L := (L.iluStopAll.pulsesOff now).capsTrunc
  (L.flushStart none).setFld .PWR_PD 19 10 0

/-- The lane is in its safe state from this edge (R40, R149, R163, R185, R271, R302, R347). -/
def Lane.enterSafe (cause : Nat) (L : Lane) : Lane :=
  let now : Int := (L.refEdge : Nat)
  let stat := (L.reg .LCT_CLOSURE_STAT).toNat
  let L := ((L.setFld .LCT_TRAV_STAT 27 26 3).setFld .PWR_STAT 31 28 0xA).setFlag .FAB_STAT 29 false
  let L := L.raise 0 0x02 now (leBytes 1 cause ++ leBytes 3 0 ++ leBytes 4 stat)
  let L := L.withdrawn
  let L := (L.linesToSafe (fun _ => true) 1 now).pubsStop 1 now
  let L := (L.iluStopAll.pulsesOff now).capsTrunc
  let L := L.abortPend.unloadAll
  ((L.flushStart none).setFlag .SWM_STAT 31 false).cmdStat.matrixStop

/-- The level that holds from this edge, where a unit or a fault has asked for a higher one (R40). -/
def Lane.levelEdge (L : Lane) : Lane :=
  let t := L.trav
  let L : Lane := { L with trav := { t with toLevel := 0 } }
  if t.toLevel ≤ L.level then L
  else if t.toLevel = 2 then L.enterLevel2 t.cause
  else L.enterSafe t.cause

/-- Level 1 while another lane of the module is at Level 2, in its safe state, held or in reset; else Level 0 (R400). -/
def Lane.levelOthers (others : Bool) (L : Lane) : Lane :=
  let old := L.level
  let new := if others then 1 else 0
  if 2 ≤ old ∨ old = new then L
  else (L.setFld .LCT_TRAV_STAT 27 26 new).raise 0 0x01 (L.refEdge : Nat) (leBytes 1 old ++ leBytes 1 new ++ leBytes 1 5)

/-! ### Lane reset (R9) -/

/-- Registers a lane reset keeps: RWS, the published ILU flags until they are restored, the raw count, mapping and
rate of the datum and the identity it last followed, the wake registers, and PWR_PD, which shows the domains that are on
(R9, R61, R214, R275, R380). [log 29 DESIGN CHOICE, log 126 DESIGN CHOICE] -/
def laneKeeps (r : Reg) : Bool :=
  r.info.acc == .rws ||
  [Reg.DTM_RAW_LO, .DTM_RAW_HI, .DTM_NS_LO, .DTM_NS_HI, .DTM_NS_FRAC, .DTM_RATE_CUR_LO, .DTM_RATE_CUR_HI, .DTM_RATE_TGT_LO,
   .DTM_RATE_TGT_HI, .DTM_OFS_LO, .DTM_OFS_HI, .DTM_GM_LO, .DTM_GM_HI, .SWM_WAKE_CODE, .SWM_WAKE_STAT, .PWR_PD, .ILU_FLAG].contains r

/-- Frames of the host that the switch still held are dropped by it (R307). [log 29 DESIGN CHOICE] -/
def Lane.dropFrames (L : Lane) : Lane :=
  let l := L.net.bufs.vals.filterMap (fun b => b.host.map (fun h => (⟨h.1, h.2.1, h.2.2, 2, b.sent, b.ts⟩ : TxDone)))
  { L with net := { Net.fresh with txDone := L.net.txDone ++ l } }

/-- The field side of a field IO group lives on when its lane is reset (R374, R377). [log 29 DESIGN CHOICE] -/
def Fio.fieldOnly (x : Fio) : Fio :=
  { Fio.fresh with fSeq := x.fSeq, fBad := x.fBad, fGood := x.fGood, fOut := x.fOut, fSafe := x.fSafe, fHeld := x.fHeld,
                   fOver := x.fOver, fLow := x.fLow, fLast := x.fLast, sample := x.sample, level := x.level }

/-- The datum over a lane reset: raw count, mapping and rate stand, and what it last followed (R61, R275).
[log 29 DESIGN CHOICE, log 42 DEDUCED, log 126 DESIGN CHOICE] -/
def Datum.kept (D : Datum) (target : Nat) : Datum :=
  { Datum.fresh with ofs := D.ofs, maps := D.maps, servo := target, saved := D.saved, gmDs := D.gmDs }

/-- A STAGE in progress is lost (R415, R417). [log 29 DESIGN CHOICE] -/
def Lane.stageLost (L : Lane) : Lane :=
  match L.flash.job with
  | none => L
  | some j => { L with flash := { L.flash with job := none, staged := none } }.finish j.id 0x0013

/-- What stands in the lane's memories after a reset, and everything in MRAM, NOR and the key store; what is on its
way to the host complex (R9, R347, R350). [log 29 DESIGN CHOICE] -/
def Lane.afterReset (L : Lane) : Lane :=
  let st := L.dstate
  let lines := L.trip.lines.mapv (fun _ x => { TripLine.fresh with safe := x.safe, trip := x.trip })
  let N : Lane :=
    { Lane.fresh L.mac with
      regs := L.regs.keep laneKeeps
      trav := { Trav.fresh with resets := L.trav.resets, lastRaw := L.trav.lastRaw }
      intake := .fresh L.tick
      datum := L.datum.kept L.rateTgt
      trip := { Trip.fresh with lines := lines } }
  let N : Lane :=
    { N with
      net := L.dropFrames.net
      fio := L.fio.fieldOnly
      ilu := { Ilu.fresh with b0 := L.ilu.b0, b1 := L.ilu.b1, newer := L.ilu.newer, prog := L.ilu.prog }
      acq := { Acq.fresh with caps := L.acq.caps, out := L.acq.out }
      saved := L.saved, placed := L.placed, occ := L.occ, fin := L.fin, sent := L.sent }
  let N : Lane :=
    { N with
      copies := L.copies, critMram := L.critMram, keys := L.keys, flash := L.flash, hostGen := L.hostGen, imgPrev := L.imgPrev,
      free := L.free, reload := some (L.reload.getD false) }
  let N := N.setNum64 .LCT_TICK_NUM_LO .LCT_TICK_NUM_HI L.tick
  if st = dUnset then N else (N.setFld .DTM_STAT 31 29 dHoldover).showDatum false false

/-- A lane reset: the lane leaves its role, its lines go to SAFE, pending commands are aborted, the book is flushed,
and every register and store in its scope takes its reset value (R9, R73, R149, R220, R302, R347); a book that the lane's
start has not restored yet is not flushed. `kind` is the DATA of the event: 0 requested by PF0, 1 fault handling,
2 STBY_ONLY; a wider reset, 3, has an event of its own. [log 29 DESIGN CHOICE] -/
def Lane.reset (base kind : Nat) (now : Int) (L : Lane) : Lane :=
  let L := if kind ≤ 2 then L.raise 0 0x03 now (leBytes 1 kind) else L
  let booked := decide (7 ≤ L.fld .PWR_STAT 31 28)
  let L := if booked then L.raise 2 0x01 now else L
  let L := if L.inService ∧ L.level < 2 then L.sendWithdraw 6 now else L
  let L := (((L.linesToSafe (fun _ => true) 1 now).pubsStop 1 now).pulsesOff now).matrixStop
  let L := (L.capsTrunc.abortPend).stageLost
  let L := L.flush.foldl (fun (L : Lane) (f : Book × Option CmdId) => match f.2 with
    | some id => L.finish id 0
    | none => L) L
  let L := if L.dstate = dUnset then L
    else ({ L with datum := { L.datum with slew := none } } : Lane).freezeTarget now
  (if booked then L.flushBook base else L).afterReset

end Sys2Proof.Machine
end

