-- ==== Sys2Proof/Machine/Image.lean ====
section
/-! DEFINITION. Traverse images: what the lane checks at staging, and what an image changes at its apply tick (R39, R44,
R73, R91, R129, R134, R146, R153, R161, R193, R205, R213, R306, R324, R406, R416). -/

namespace Sys2Proof.Machine

open Sys2Proof

/-! ### The registers that mirror an image -/

/-- Registers with those that mirror an image taken from it. [log 135 DEDUCED] -/
def RegFile.withImage (f : RegFile) (img : RegFile) : RegFile :=
  img.cells.cells.foldl (fun (g : RegFile) c =>
    let k := Nat.unpair c.1
    let r := Reg.ofNat k.1
    let ij := Nat.unpair k.2
    if r.info.cfg then g.set r ij.1 ij.2 (c.2 &&& w32 r.info.im) else g) (f.keep (fun r => !r.info.cfg))

/-- The lane with an image's configuration in place of the one in force, and nothing else changed.
[log 3 DESIGN CHOICE] -/
def Lane.withImage (img : Image) (L : Lane) : Lane := { L with img := img, regs := L.regs.withImage img.regs }

/-- A set of registers reads the same in two lanes at an index. [log 125 DESIGN CHOICE] -/
def sameRegs (a b : Lane) (rs : List Reg) (i : Nat) (js : Nat := 1) : Bool :=
  rs.all (fun r => (List.range js).all (fun j => a.reg r i j == b.reg r i j))

/-! ### Checks at staging -/

/-- Where a path stands before a word: stack depth, PAGE, and the most steps taken (R205). -/
structure PathPt where
  depth : Nat
  page  : Bool
  steps : Nat
  deriving DecidableEq, Repr

/-- Two paths meet: depth and PAGE must agree. -/
def PathPt.meet (a b : PathPt) : Option PathPt :=
  if a.depth = b.depth ∧ a.page = b.page then some { a with steps := max a.steps b.steps } else none

/-- A path enters a word. -/
def enterWord (m : NMap PathPt) (w : Nat) (p : PathPt) : Option (NMap PathPt) :=
  match m.get? w with
  | none => some (m.put w p)
  | some q => (q.meet p).map (fun r => m.put w r)

/-- Steps on a path after an instruction of `c` steps, with those left idle at the end of an allotment of `n` (R191). -/
def stepsAfter (n used c : Nat) : Nat :=
  if n = 0 then used + c else if n < used % n + c then (used / n + 1) * n + c else used + c

/-- The flag an instruction writes, if it writes one. -/
def writesFlag : FOp → Option Nat
  | .st f | .stn f | .setf f | .rst f | .re f | .fe f => some f
  | _ => none

/-- What the check of a program keeps as it goes through its words: paths by word, the most steps at END, timers named,
counters named by CTU, by CTD. -/
structure IluCheck where
  at_  : NMap PathPt
  sw   : Nat
  tmrs : List Nat
  ups  : List Nat
  dns  : List Nat
  deriving DecidableEq, Repr

/-- A jump lands inside its program's range, in a word that some path reaches or not (R205). -/
def jumpOk (a len w : Nat) : FOp → Bool
  | .jc j | .jcn j => decide (a ≤ w + 1 + j ∧ w + 1 + j < a + len)
  | _ => true

/-- Every path condition at one word, with its successors entered (R205). -/
def iluPath (own a len n : Nat) (w : Nat) (o : FOp) (k : IluCheck) : Option IluCheck :=
  if !jumpOk a len w o then none else
  match k.at_.get? w with
  | none =>
    match writesFlag o with
    | some f => if own.testBit (f % 4096) && own.testBit (4096 + f % 4096) then some k else none
    | none => some k
  | some p =>
    let s := stepsAfter n p.steps (stepsOf o)
    let owned := match writesFlag o with
      | some f => own.testBit ((if p.page then 4096 else 0) + f % 4096)
      | none => true
    let go := fun (q : PathPt) (l : List Nat) =>
      if l.all (fun v => decide (a ≤ v ∧ v < a + len)) then
        l.foldl (fun (m : Option (NMap PathPt)) v => m.bind (fun m => enterWord m v q)) (some k.at_)
      else none
    if !owned || decide (n < stepsOf o) then none else
    match o with
    | .push => if 64 ≤ p.depth then none else (go ⟨p.depth + 1, p.page, s⟩ [w + 1]).map (fun m => { k with at_ := m })
    | .popa | .popo => if p.depth = 0 then none else (go ⟨p.depth - 1, p.page, s⟩ [w + 1]).map (fun m => { k with at_ := m })
    | .page0 => (go ⟨p.depth, false, s⟩ [w + 1]).map (fun m => { k with at_ := m })
    | .page1 => (go ⟨p.depth, true, s⟩ [w + 1]).map (fun m => { k with at_ := m })
    | .jc j | .jcn j => (go ⟨p.depth, p.page, s⟩ [w + 1, w + 1 + j]).map (fun m => { k with at_ := m })
    | .endScan => if p.depth = 0 then some { k with sw := max k.sw s } else none
    | _ => (go ⟨p.depth, p.page, s⟩ [w + 1]).map (fun m => { k with at_ := m })

/-- The allocation conditions at one word (R205). -/
def Lane.iluAlloc (L : Lane) (p : Nat) (o : FOp) (k : IluCheck) : Option IluCheck :=
  match o with
  | .ton i | .tof i | .tp i =>
    if L.allocTo .ILU_TMR_CFG i p && !k.tmrs.contains i then some { k with tmrs := i :: k.tmrs } else none
  | .ctu j => if L.allocTo .ILU_CTR_PV j p && !k.ups.contains j then some { k with ups := j :: k.ups } else none
  | .ctd j => if L.allocTo .ILU_CTR_PV j p && !k.dns.contains j then some { k with dns := j :: k.dns } else none
  | .crs j | .cld j => if L.allocTo .ILU_CTR_PV j p then some k else none
  | _ => some k

/-- Words `i` of a program from one on, in order; every jump is forward, so one pass meets every path. -/
def Lane.iluWords (L : Lane) (p own a len n : Nat) : Nat → IluCheck → Option IluCheck
  | 0, k => some k
  | m + 1, k =>
    let w := a + (len - (m + 1))
    match faruskDecode (L.progWord w) with
    | none => none
    | some o =>
      if w + 1 = a + len ∧ o ≠ .endScan then none
      else ((L.iluAlloc p o k).bind (iluPath own a len n w o)).bind (L.iluWords p own a len n m)

/-- S_w of a program, if every word of it passes (R205). -/
def Lane.iluSw (L : Lane) (p : Nat) : Option Nat :=
  let a := L.fld .ILU_PRG_CFG 13 0 p
  let len := L.fld .ILU_PRG_CFG 29 15 p
  let start : IluCheck := ⟨(⟨[]⟩ : NMap PathPt).put a ⟨0, false, 0⟩, 0, [], [], []⟩
  (L.iluWords p (L.ownMask p) a len (L.iluSteps p) len start).map (·.sw)

/-- A program of an image satisfies R205; `L` has the image's configuration. -/
def Lane.iluProgOk (L : Lane) (p : Nat) : Bool :=
  if !L.flag .ILU_PRG_CFG 31 p then true else
  let a := L.fld .ILU_PRG_CFG 13 0 p
  let len := L.fld .ILU_PRG_CFG 29 15 p
  let n := L.iluSteps p
  len != 0 && decide (a + len ≤ 16384) && decide (len ≤ L.iluN p * n) && (L.iluSw p).any (fun w => decide (w ≤ L.iluN p * n))

/-- The allotments of the enabled programs take at most the tick's 2,400 steps (R191). [log 175 DEDUCED] -/
def Lane.iluFits (L : Lane) : Bool :=
  decide ((((List.range 4).filter (fun p => L.flag .ILU_PRG_CFG 31 p)).map (fun p => L.iluSteps p)).sum ≤ 2400)

/-- Each flag has one owning program, and an image gives a program working flags only: output pins have their owner in
the field IO settings (R139, R192, R193). -/
def Lane.iluOwnOk (L : Lane) : Bool :=
  (List.range 4).all (fun p => (L.img.iluOwn.getD p []).all (fun r => decide (r.2 < r.1 ∨ (672 ≤ r.1 ∧ r.2 ≤ 8127)))) &&
  (List.range 4).all (fun p => (List.range 4).all (fun q => p == q || (L.ownMask p &&& L.ownMask q) == 0))

/-- Trip-matrix literals, of terms with EN clear too, name slots with ROUTE.TM set and defined sources only (R133,
R134). -/
def Lane.literalsOk (L : Lane) : Bool :=
  (List.range 256).all (fun n => (L.termLits n).all (fun w =>
    decide (bits w 31 28 ≤ 7) &&
    (!litSlot w || (let d := L.img.slots.getD (bits w 11 0) []; bit (dRoute d) 31))))

/-- No command channel's OMIN exceeds its OMAX (R151), no enabled stream has a member channel that is not enabled (R155),
and the settings of every enabled pulse pair lie within their limits (R157). -/
def Lane.outputsOk (L : Lane) : Bool :=
  (List.range 64).all (fun c => (val32 (L.reg .CMD_CH_OMIN c)).le (val32 (L.reg .CMD_CH_OMAX c))) &&
  (List.range 16).all (fun n => !L.flag .CMD_PS_CFG 31 n ||
    (List.range (L.fld .CMD_PS_CFG 4 0 n)).all (fun m => L.cmdEn (L.psMember n m))) &&
  (List.range 4).all (fun p => !L.flag .CMD_PP_CFG 31 p ||
    (let P := L.fld .CMD_PP_PER 23 0 p
     let D := L.fld .CMD_PP_DT 13 0 p
     let m := L.fld .CMD_PP_MP 14 0 p
     decide (60000 ≤ P ∧ P ≤ 12000000 ∧ 1200000000 % P = 0 ∧ D ≤ 12000 ∧ m ≤ 24000 ∧ 2 * (m + D) ≤ P) &&
     (L.flag .CMD_PP_CFG 30 p || D == 0)))

/-- The backstop settings of two lanes are the same (R146). [log 60 DEDUCED] -/
def sameBsp (a b : Lane) : Bool := (List.range 8).all (sameRegs a b [.TRM_BSP_CFG, .TRM_BSP_THR, .TRM_BSP_DST])

/-- The status with which the lane refuses an image, 0 if it accepts it (R134, R146, R193, R205, R306, R406).
[log 60 DEDUCED] -/
def Lane.imageReason (x : ImgLoad) (L : Lane) : Nat :=
  let N := L.withImage x.img
  let run := L.flash.running
  if !x.digestOk then 0x0010
  else if x.img.gen < run.genLo ∨ run.genHi < x.img.gen then 0x0202
  else if !x.proofOk then 0x000F
  else if L.flag .TRM_BSP_LOCK 0 && !sameBsp L N then 0x0006
  else if !N.literalsOk || !N.outputsOk || !N.iluOwnOk || !N.iluFits || !(List.range 4).all N.iluProgOk then 0x000D
  else 0

/-! ### At the apply tick -/

/-- Registers that describe a subscription. -/
def subRegs : List Reg :=
  [.INT_SUB_CFG, .INT_SUB_DMAC_LO, .INT_SUB_DMAC_HI, .INT_SUB_ID, .INT_SUB_RATE, .INT_SUB_DELAY, .INT_SUB_CONFREV, .INT_SUB_AUTH]

/-- A subscription is described alike. [log 125 DESIGN CHOICE] -/
def sameSub (a b : Lane) (n : Nat) : Bool :=
  sameRegs a b subRegs n && sameRegs a b [.INT_SUB_SVID] n 16 && a.subCh0 n == b.subCh0 n

/-- Streams whose subscription changes are emptied (R73). [log 125 DESIGN CHOICE] -/
def Lane.imageStreams (L old : Lane) : Lane :=
  let l := (List.range 256).filter (fun n => !sameSub old L n)
  if l.isEmpty then L
  else (l.foldl (fun (L : Lane) n => L.resetHistory n) L).raise 2 0x01 (L.refEdge : Nat)

/-- A chain is described alike, with the same FIR set, and the sources it can select keep their history (R91).
[log 125 DESIGN CHOICE] -/
def sameChain (a b : Lane) (c : Nat) : Bool :=
  let src := fun (s : Option (Nat × Nat)) => match s with
    | some (n, _) => sameSub a b n
    | none => true
  sameRegs a b [.CND_CH_CFG, .CND_CH_DEC, .CND_CH_OUT, .CND_CH_SEL, .CND_CH_GAIN, .CND_CH_OFS, .CND_CH_LAT] c &&
  a.firOf c == b.firOf c && a.chSource c false == b.chSource c false && src (b.chSource c false) &&
  (b.fld .CND_CH_CFG 26 25 c == 0 || (a.chSource c true == b.chSource c true && src (b.chSource c true))) &&
  (decide (c < 64) || sameRegs a b [.CND_WF_CFG, .CND_WF_THR, .CND_WF_ARM] (c - 64))

/-- Chains that change are reset. [log 125 DESIGN CHOICE] -/
def Lane.imageChains (L old : Lane) : Lane :=
  foldTo 68 (fun (L : Lane) c => if sameChain old L c then L else L.resetChain c (L.chain c).src) L

/-- Descriptors of the image take the place of those in force (R129). [log 125 DESIGN CHOICE] -/
def Lane.imageSlots (img : Image) (L : Lane) : Lane :=
  let gone := L.fabric.desc.cells.filter (fun c => (img.slots.get? c.1).isNone)
  let L := gone.foldl (fun (L : Lane) c => L.applyDesc c.1 []) L
  (img.slots.cells.foldl (fun (L : Lane) c => L.applyDesc c.1 c.2) L).fabSummary

/-- Lines, comparators, publications and GOOSE subscriptions that change begin afresh; at Level 2 a line that gains LVL2
goes to SAFE (R149). -/
def Lane.imageTrip (L old : Lane) : Lane :=
  let L := foldTo 16 (fun (L : Lane) i => if L.lineEn i then L else L.lineOff i) L
  let L := if L.level = 2 then L.linesToSafe (fun i => L.flag .TRM_TL_CFG 26 i) 0 (L.refEdge : Nat) else L
  let L := foldTo 8 (fun (L : Lane) b =>
    if sameRegs old L [.TRM_BSP_CFG, .TRM_BSP_THR, .TRM_BSP_DST] b then L
    else { L with trip := { L.trip with runs := L.trip.runs.del b } }) L
  let L := foldTo 4 (fun (L : Lane) g =>
    if L.flag .TRM_GP_CFG 31 g then L else { L with trip := { L.trip with pubs := L.trip.pubs.del g } }) L
  let L := foldTo 32 (fun (L : Lane) g =>
    if sameRegs old L [.ILU_GS_CFG, .ILU_GS_DMAC_LO, .ILU_GS_DMAC_HI, .ILU_GS_ID, .ILU_GS_CONFREV, .ILU_GS_AUTH] g &&
       sameRegs old L [.ILU_GS_REF] g 16 then L
    else { L with ilu := { L.ilu with gs := L.ilu.gs.del g } }) L
  if bit (L.img.regs.get .TRM_BSP_LOCK 0 0) 0 && !L.flag .TRM_BSP_LOCK 0 then
    (L.setFlag .TRM_BSP_LOCK 0 true).raise 5 0x01 (L.refEdge : Nat)
  else L

/-- A program's words, schedule and allocations are the same (R213). [log 125 DESIGN CHOICE] -/
def sameProg (a b : Lane) (p : Nat) : Bool :=
  let s := b.fld .ILU_PRG_CFG 13 0 p
  sameRegs a b [.ILU_PRG_CFG, .ILU_PRG_SCHED] p && a.iluSteps p == b.iluSteps p && a.ownMask p == b.ownMask p &&
  (List.range (b.fld .ILU_PRG_CFG 29 15 p)).all (fun k => a.progWord (s + k) == b.progWord (s + k)) &&
  (List.range 512).all (fun i => a.reg .ILU_TMR_CFG i == b.reg .ILU_TMR_CFG i || !(a.allocTo .ILU_TMR_CFG i p || b.allocTo .ILU_TMR_CFG i p)) &&
  (List.range 256).all (fun j => a.reg .ILU_CTR_PV j == b.reg .ILU_CTR_PV j || !(a.allocTo .ILU_CTR_PV j p || b.allocTo .ILU_CTR_PV j p))

/-- Flags that no program owns any more read 0 (R192), and programs that change take initial values unless KEEP is set, and run from their next scan (R207, R213).
[log 125 DESIGN CHOICE] -/
def Lane.imageIlu (L old : Lane) : Lane :=
  let L := foldTo 4 (fun (L : Lane) p =>
    let en := L.flag .ILU_PRG_CFG 31 p
    let was := old.iluState p
    if !en then (if was = 0 then L else (L.iluInit p).setReg .ILU_PRG_STAT 0 p)
    else if was != 0 && sameProg old L p then L
    else
      let L := if L.flag .ILU_PRG_CFG 30 p && was != 0 then L.setProg p { L.iluProg p with scan := false, stack := [], tmr := ⟨[]⟩, ctr := ⟨[]⟩ }
               else L.iluInit p
      L.setReg .ILU_PRG_STAT (w32 (2 * 2 ^ 30 + 2 ^ 29)) p) L
  let L := (L.setPubFlags (L.pubFlags &&& L.usedMask)).keepProg
  let en := bitsWhere (fun p => L.iluState p == 2) 4
  let steps := ((List.range 4).filter (fun p => L.flag .ILU_PRG_CFG 31 p)).map (fun p => L.iluSteps p)
  (L.setFld .ILU_STAT 27 24 en).setFld .ILU_STAT 23 12 steps.sum

/-- Channels, pairs and record definitions that change (R153, R161, R324). -/
def Lane.imageOutputs (L old : Lane) : Lane :=
  let L := foldTo 64 (fun (L : Lane) c => L.cmdEnable c) L
  let L := foldTo 4 (fun (L : Lane) p => L.pulseChange old p) L
  foldTo 16 (fun (L : Lane) d =>
    if sameRegs old L [.ACQ_RD_CFG, .ACQ_RD_TRG, .ACQ_RD_TRG2, .ACQ_RD_PRE, .ACQ_RD_FULL, .ACQ_RD_POST] d &&
       old.img.recs.get? d == L.img.recs.get? d then L
    else L.capRedefine d) L

/-- The traverse-image slot that the image in force does not hold (R416): true for the slot in bank 1. -/
def Lane.freeSlot (L : Lane) : Bool := !L.flag .LCT_TIMG_STAT 31

/-- Writing of the image in force to NOR begins; COMMITTED is clear until it has finished (R416). -/
def Lane.slotWrite (L : Lane) : Lane :=
  let F := L.flash
  let seq := (if L.freeSlot then F.slot0.seq else F.slot1.seq) + 1
  let x : ImgSlot := ⟨seq, true, false, false, L.img, true⟩
  let F := if L.freeSlot then { F with slot1 := x } else { F with slot0 := x }
  { L with flash := F }.setFlag .LCT_TIMG_STAT 30 false

/-- SLOT_WRITE_COMPLETE: COMMIT, then APPLIED, are set; the slot is the one in force (R416). -/
def Lane.slotDone (L : Lane) : Lane :=
  let F := L.flash
  let x := if L.freeSlot then F.slot1 else F.slot0
  if !x.eip then L
  else
    let x := { x with eip := false, commit := true, applied := true }
    let F := if L.freeSlot then { F with slot1 := x } else { F with slot0 := x }
    ({ L with flash := F }.setFlag .LCT_TIMG_STAT 31 L.freeSlot).setFlag .LCT_TIMG_STAT 30 true

/-- The slot that a start takes its image from: APPLIED set and the greater SEQ; none if neither (R416). -/
def Flash.imgSlot (F : Flash) : Option (Bool × ImgSlot) :=
  let ok := fun (x : ImgSlot) => x.applied && x.commit && !x.eip
  if ok F.slot1 && (!ok F.slot0 || decide (F.slot0.seq < F.slot1.seq)) then some (true, F.slot1)
  else if ok F.slot0 then some (false, F.slot0) else none

/-- Registers that report what the image in force amounts to: spans of chains (R78), enabled subscriptions, enabled
terms, S_w of each program (R205), and the port kept at Level 2, which comes with the image. [log 135 DEDUCED] -/
def Lane.imageStatus (L : Lane) : Lane :=
  let L := foldTo 68 (fun (L : Lane) c =>
    L.setReg .CND_CH_SPAN (w32 (if L.flag .CND_CH_CFG 31 c then L.chSpan c else 0)) c) L
  let L := foldTo 4 (fun (L : Lane) p =>
    L.setFld .ILU_PRG_BUDGET 15 0 (if L.flag .ILU_PRG_CFG 31 p then (L.iluSw p).getD 0 else 0) p) L
  let L := L.setFld .TRM_STAT 8 0 ((List.range 256).filter (fun n => L.flag .TRM_TERM_CFG 31 n)).length
  L.intakeCounts.setFld .SWM_STAT 25 24 (bits (L.img.regs.get .SWM_STAT 0 0) 25 24)

/-- An image takes effect at an edge (R44, R306). [log 60 DEDUCED] -/
def Lane.applyImage (img : Image) (L : Lane) : Lane :=
  let old := L
  let L := { L.withImage img with imgPrev := old.img }
  let L := (L.imageStreams old).imageChains old
  let L := (L.imageSlots img).imageTrip old
  let L := (L.imageIlu old).imageOutputs old
  let L := L.imageStatus.setFld .LCT_FW_STAT 23 16 img.gen
  L.slotWrite.raise 0 0x07 (L.refEdge : Nat) (leBytes 8 L.tick)

end Sys2Proof.Machine
end

