-- ==== Sys2Proof/Machine/Module.lean ====
section
/-! DEFINITION. Operations over the host complex's registers, its functions, and the module as a whole (R5 to R8, R294
to R296, R309, R373, R467). -/

namespace Sys2Proof.Machine

open Sys2Proof

/-! ### Host-complex registers -/

/-- A host-complex register's value. -/
def Hcx.reg (H : Hcx) (r : Reg) (i : Nat := 0) (j : Nat := 0) : Word := H.regs.get r i j

/-- The host complex with a register replaced. -/
def Hcx.setReg (H : Hcx) (r : Reg) (v : Word) (i : Nat := 0) (j : Nat := 0) : Hcx := { H with regs := H.regs.set r i j v }

/-- A field of a host-complex register. -/
def Hcx.fld (H : Hcx) (r : Reg) (hi lo : Nat) (i : Nat := 0) : Nat := bits (H.reg r i) hi lo

/-- One bit of a host-complex register. -/
def Hcx.flag (H : Hcx) (r : Reg) (b : Nat) (i : Nat := 0) : Bool := bit (H.reg r i) b

/-- The host complex with a field of a register replaced. -/
def Hcx.setFld (H : Hcx) (r : Reg) (hi lo v : Nat) (i : Nat := 0) : Hcx := H.setReg r (putBits (H.reg r i) hi lo v) i

/-- The host complex with one bit of a register replaced. -/
def Hcx.setFlag (H : Hcx) (r : Reg) (b : Nat) (v : Bool) (i : Nat := 0) : Hcx := H.setReg r (putBit (H.reg r i) b v) i

/-- A host-complex counter that wraps, plus `k`. -/
def Hcx.bump (H : Hcx) (r : Reg) (i : Nat := 0) (k : Nat := 1) : Hcx := H.setReg r (H.reg r i + w32 k) i

/-! ### Functions -/

/-- A function. -/
def Hcx.fn (H : Hcx) (f : Nat) : Fn := H.fns.getD f .fresh

/-- The host complex with a function replaced. -/
def Hcx.setFn (H : Hcx) (f : Nat) (x : Fn) : Hcx := { H with fns := H.fns.put f x }

/-- PF0 exists, and the virtual functions that VF Enable and NumVFs give (R295). [log 18 DESIGN CHOICE] -/
def Hcx.hasFn (H : Hcx) (f : Nat) : Bool := decide (f ≤ H.vfs ∧ f < 64)

/-- A function's register. -/
def Fn.reg (F : Fn) (r : Reg) (i : Nat := 0) (j : Nat := 0) : Word := F.regs.get r i j

/-- A function with a register replaced. -/
def Fn.setReg (F : Fn) (r : Reg) (v : Word) (i : Nat := 0) (j : Nat := 0) : Fn := { F with regs := F.regs.set r i j v }

/-- A field of a function's register. -/
def Fn.fld (F : Fn) (r : Reg) (hi lo : Nat) (i : Nat := 0) : Nat := bits (F.reg r i) hi lo

/-- One bit of a function's register. -/
def Fn.flag (F : Fn) (r : Reg) (b : Nat) (i : Nat := 0) : Bool := bit (F.reg r i) b

/-- A function with a field of a register replaced. -/
def Fn.setFld (F : Fn) (r : Reg) (hi lo v : Nat) (i : Nat := 0) : Fn := F.setReg r (putBits (F.reg r i) hi lo v) i

/-- A function with one bit of a register replaced. -/
def Fn.setFlag (F : Fn) (r : Reg) (b : Nat) (v : Bool) (i : Nat := 0) : Fn := F.setReg r (putBit (F.reg r i) b v) i

/-- A function's counter, plus one. -/
def Fn.bump (F : Fn) (r : Reg) (i : Nat := 0) : Fn := F.setReg r (F.reg r i + 1) i

/-- The function whose memory something is written to; none for what goes elsewhere. -/
def HostEmit.fn? : HostEmit → Option Nat
  | .write f _ _ => some f
  | .frame f _ _ => some f
  | .msg f _ _ _ => some f
  | .value _ => none
  | .nvme _ _ _ _ _ _ _ _ => none
  | .peer _ _ => none

/-- Sends something to the host; nothing reaches the memory of a function that is fenced (R314). -/
def Hcx.emit (H : Hcx) (e : HostEmit) : Hcx :=
  { H with sent := if e.fn?.any (fun f => (H.fn f).fld .FN_STAT 31 30 == 2) then H.sent else H.sent ++ [e] }

/-! ### Quotas (R317) -/

/-- A VF before its first SET_QUOTA has nothing. [log 102 DESIGN CHOICE] -/
def noQuota : Quota := ⟨.all ⟨0, 0, 0, [], 0, 0, 0⟩, 0, 0, 0⟩

/-- A VF's quota record in force. [log 102 DESIGN CHOICE] -/
def Hcx.quota (H : Hcx) (f : Nat) : Quota := H.quotas.getD f noQuota

/-- The record that will stand at a tick: the in-force one, or the accepted one with the latest apply tick not after
it (R318). -/
def Hcx.quotaAt (H : Hcx) (f tick : Nat) : Quota :=
  (H.quotaNext.filter (fun x => x.vf == f && decide (x.apply ≤ tick))).foldl (fun (b : Nat × Quota) x =>
    if b.1 ≤ x.apply then (x.apply, x.q) else b) (0, H.quota f) |>.2

/-- A quota record's octets (R317). -/
def quotaBytes (q : Quota) : List Byte :=
  LaneId.all.flatMap (fun l =>
    let x := q.lane.get l
    leBytes 2 x.slot0 ++ leBytes 2 x.slots ++ leBytes 2 x.parcels ++ leBytes 2 0 ++
    (List.range 8).flatMap (fun c => leBytes 2 (x.core.getD c 0)) ++ leBytes 12 x.chains ++
    leBytes 2 x.chan0 ++ leBytes 2 x.chans ++ leBytes 8 0) ++
  leBytes 4 q.extents ++ leBytes 4 q.entries ++ leBytes 1 q.vectors ++ List.replicate 55 0#8

/-! ### The module -/

/-- A lane. -/
def State.lane (s : State) (l : LaneId) : Lane := s.lanes.get l

/-- The module with one lane changed. -/
def State.mapLane (s : State) (l : LaneId) (f : Lane → Lane) : State := { s with lanes := s.lanes.set l (f (s.lanes.get l)) }

/-- The module with the host complex changed. -/
def State.hcx (s : State) (f : Hcx → Hcx) : State := { s with host := f s.host }

/-- The module with a function changed. -/
def State.mapFn (s : State) (f : Nat) (g : Fn → Fn) : State := s.hcx (fun H => H.setFn f (g (H.fn f)))

/-- Nothing sent yet by the command about to act. [log 10 DESIGN CHOICE] -/
def State.quiet (s : State) : State :=
  { s with lanes := s.lanes.mapv (fun _ L => { L with sent := [] }), host := { s.host with sent := [] } }

/-- A meaning that may change every part. -/
def onModule (f : State → State) (s : State) : Host.Outcome State Fault Refusal := .next (f s.quiet)

/-- The lowest-lettered lane in service, whose datum times host-complex and safety-lane events (R309).
[log 94 DEDUCED] -/
def State.timeLane (s : State) : Option LaneId := LaneId.all.find? (fun l => (s.lane l).inService)

/-- The LANE octet of the entry of a host-complex event (R309). [log 94 DEDUCED] -/
def State.timeNum (s : State) : Nat := match s.timeLane with
  | some l => l.num
  | none => 4

/-- Raises an event of a host-complex or safety-lane source (R309, R467). [log 94 DEDUCED] -/
def State.raiseHost (s : State) (src code : Nat) (now : Int) (data : List Byte := []) : State :=
  let info := hostEvent src code
  s.hcx (fun H => { H with occ := H.occ ++ [(⟨src, code, info.1, info.2, now, data⟩, s.timeNum)] })

/-- Both brake outputs are off: no switch is commanded closed (R362). -/
def Safety.braked (x : Safety) : Bool := x.cmd == 0

/-- A lane's link is fenced (R12). -/
def State.fenced (s : State) (l : LaneId) : Bool := s.host.flag .HCX_LANE_LINK l.num

end Sys2Proof.Machine
end

