-- ==== Sys2Proof/Machine/Descriptor.lean ====
section
/-! DEFINITION. Command descriptors: the fields of the 64 octets, the command that OPCODE, ARGS and buffer spell, and the
octets that must be zero (R301, R305, R317, R343, R349, R417, R423). -/

namespace Sys2Proof

open Sys2Proof.Machine

/-! ### The header (R301) -/

/-- OPCODE. -/
def CmdDesc.op (d : CmdDesc) : Nat := leAt d.bytes 0x00 1

/-- TAG. -/
def CmdDesc.tag (d : CmdDesc) : Nat := leAt d.bytes 0x02 2

/-- LANE: the whole octet, whose bits [7:3] are reserved. -/
def CmdDesc.lane (d : CmdDesc) : Nat := leAt d.bytes 0x04 1

/-- APPLY. -/
def CmdDesc.apply (d : CmdDesc) : Nat := leAt d.bytes 0x08 8

/-- ADDR. -/
def CmdDesc.addr (d : CmdDesc) : Nat := leAt d.bytes 0x10 8

/-- LEN. -/
def CmdDesc.len (d : CmdDesc) : Nat := leAt d.bytes 0x18 4

/-- The reserved header fields are 0: FLAGS, octets 0x05 to 0x07 and 0x1C to 0x1F. -/
def CmdDesc.headOk (d : CmdDesc) : Bool :=
  leAt d.bytes 0x01 1 == 0 && leAt d.bytes 0x05 3 == 0 && leAt d.bytes 0x1C 4 == 0

/-- `n` octets of ARGS at an offset of the descriptor. -/
def CmdDesc.arg (d : CmdDesc) (off n : Nat) : Nat := leAt d.bytes off n

/-! ### Buffers that are octets -/

/-- The octets in the buffer. -/
def CmdBuf.bytes : CmdBuf → List Byte
  | .octets l => l
  | _ => []

/-- The slots that an operation of KEY names. -/
def CmdBuf.keySlots : CmdBuf → List Nat
  | .slots _ l => l
  | _ => []

/-- A slot descriptor's 64 words (R126). -/
def descOf (b : List Byte) : Desc := (List.range 64).map (fun w => w32 (leAt b (4 * w) 4))

/-- The per-lane items of a quota record (R317). -/
def laneQuotaOf (b : List Byte) (l : LaneId) : LaneQuota :=
  let o := 0x30 * l.num
  ⟨leAt b o 2, leAt b (o + 2) 2, leAt b (o + 4) 2, (List.range 8).map (fun c => leAt b (o + 8 + 2 * c) 2), leAt b (o + 0x18) 9,
   leAt b (o + 0x24) 2, leAt b (o + 0x26) 2⟩

/-- A quota record (R317). -/
def quotaOf (b : List Byte) : Quota :=
  ⟨⟨laneQuotaOf b .a, laneQuotaOf b .b, laneQuotaOf b .c, laneQuotaOf b .d⟩, leAt b 0xC0 4, leAt b 0xC4 4, leAt b 0xC8 1⟩

/-- An attach record (R343). -/
def attachOf (b : List Byte) : AttachRec :=
  { sqDb := leAt b 0x00 8, cqDb := leAt b 0x08 8, nsid := leAt b 0x10 4, lbs := leAt b 0x14 1, sqN := leAt b 0x16 2,
    cqN := leAt b 0x18 2, mdts := leAt b 0x1A 2, size := leAt b 0x20 8, resvOk := leAt b 0x28 24 == 0 }

/-! ### Objects without a layout; a buffer that holds no such object fails its check (R306, R323, R417, R423) -/

/-- A saved record for operations of MIGRATE that read none. -/
def noSaved : SavedRec := ⟨noImg, 0, ⟨[]⟩, ⟨[]⟩, ⟨[]⟩, ⟨[]⟩, ⟨[]⟩, ⟨[]⟩, 0, false⟩

/-- The traverse image in a buffer. -/
def CmdBuf.img : CmdBuf → ImgLoad
  | .image x => x
  | _ => ⟨.empty, false, false, 0⟩

/-- The parcel image in a buffer. -/
def CmdBuf.pcl : CmdBuf → ParcelImg
  | .parcel x => x
  | _ => noImg

/-- The saved parcel record in a buffer. -/
def CmdBuf.savedRec : CmdBuf → SavedRec
  | .saved r => r
  | _ => noSaved

/-! ### OPCODE and ARGS (R305) -/

/-- PARCEL: parcel, operation, CLEAR and AUTOSTART. -/
def CmdDesc.parcelCmd (d : CmdDesc) : HostCmd :=
  let fl := d.arg 0x22 1
  .parcel (d.arg 0x20 1 % 16) (d.arg 0x21 1) (if d.arg 0x21 1 = 1 then d.buf.pcl else noImg) (decide (fl % 2 = 1)) (decide (fl / 2 % 2 = 1))

/-- MIGRATE: parcel, operation, target lane and parcel; SAVE's buffer length. -/
def CmdDesc.migrateCmd (d : CmdDesc) : HostCmd :=
  .migrate (d.arg 0x20 1 % 16) (d.arg 0x21 1) (d.arg 0x22 1 % 8) (d.arg 0x23 1 % 16) (if d.arg 0x21 1 = 5 then d.buf.savedRec else noSaved)
    (if d.arg 0x21 1 = 4 then d.len else 0)

/-- TIME by its operation; one that is not defined stands for the operation of its LANE. -/
def CmdDesc.timeCmd (d : CmdDesc) : HostCmd :=
  match d.arg 0x21 1 with
  | 1 => .setTod (signed 64 (d.arg 0x28 8))
  | 2 => .timeAccept (signed 64 (d.arg 0x28 8))
  | 3 => .timeReject
  | _ => if d.lane = 4 then .setTod 0 else .timeReject

/-- ARCHIVE by its operation (R343). LIST's buffer takes entries of 16 octets. -/
def CmdDesc.archiveCmd (d : CmdDesc) : HostCmd :=
  let x := d.arg 0x28 8
  match d.arg 0x21 1 with
  | 1 => .arcAttach (attachOf d.buf.bytes)
  | 2 => .arcDetach
  | 3 => .arcFormat (attachOf d.buf.bytes)
  | 4 => .arcRead x d.len
  | 5 => .arcWrite x d.buf.bytes
  | 6 => .arcAlloc
  | 7 => .arcClose x
  | 8 => .arcPin x
  | 9 => .arcUnpin x
  | 10 => .arcFree x
  | 11 => .arcList x (d.len / 16)
  | 12 => .arcTrigger (d.arg 0x24 2)
  | _ => if d.lane = 4 then .arcDetach else .arcTrigger 0

/-- FIELDBOOK by its operation, numbered in the order of R349; READ takes its first ENUM at 0x28 and as many entries as the
buffer holds. [log 164 PRESUMED] -/
def CmdDesc.bookCmd (d : CmdDesc) : HostCmd :=
  match d.arg 0x21 1 with
  | 1 => .fbRead (d.arg 0x28 4) (d.len / 48)
  | 2 => .fbFlush
  | 3 => .clearGen
  | 4 => .clearSafe
  | _ => .fbFlush

/-- KEY by its operation (R423). [log 164 PRESUMED] -/
def CmdDesc.keyCmd (d : CmdDesc) : HostCmd :=
  match d.arg 0x21 1, d.buf with
  | 1, .key k => .keyPut k
  | 1, _ => .keyPut ⟨0, false, 0, 0, 0, false, false, false⟩
  | 2, _ => .keyPrepare
  | 3, b => .keyRoll b.keySlots
  | 4, .slots n l => .keyDrop n l
  | 4, _ => .keyDrop false []
  | 5, .own r ok => .own r ok
  | 5, _ => .own 0 false
  | 6, _ => .keyRelease
  | 7, _ => .enterService
  | 8, _ => .leaveService
  | 9, _ => .retire
  | _, _ => if d.lane = 4 then .keyRelease else .keyPrepare

/-- FIRMWARE by its operation (R417). -/
def CmdDesc.fwCmd (d : CmdDesc) : HostCmd :=
  match d.arg 0x21 1, d.buf with
  | 1, .fw h k => .stage h k
  | 1, _ => .stage (fwFactory 0 0 0 false) none
  | 2, _ => .activate
  | _, _ => .raiseSvn

/-- The command that a descriptor spells; none where OPCODE is not defined (R305). -/
def CmdDesc.cmd (d : CmdDesc) : Option HostCmd :=
  match d.op with
  | 0x00 => some .nop
  | 0x01 => some (.loadImage d.buf.img)
  | 0x02 => some (.readSlot (d.arg 0x20 2 % 4096))
  | 0x03 => some (.writeSlot (d.arg 0x20 2 % 4096) (descOf d.buf.bytes))
  | 0x04 => some (.setQuota (d.arg 0x20 1 % 64) (quotaOf d.buf.bytes))
  | 0x05 => some d.parcelCmd
  | 0x06 => some d.migrateCmd
  | 0x07 => some (.setTarget (d.arg 0x20 1 % 64) (w32 (d.arg 0x24 4)))
  | 0x08 => some (.forceBits (d.arg 0x20 8) (d.arg 0x28 8))
  | 0x09 => some (.hostFlags (d.arg 0x20 8) (d.arg 0x28 8))
  | 0x0A => some (.tlReset (d.arg 0x20 2))
  | 0x0B => some (.iluCtrl (d.arg 0x20 1 % 4) (d.arg 0x21 1))
  | 0x0C => some .twinSwap
  | 0x0D => some d.timeCmd
  | 0x10 => some d.archiveCmd
  | 0x11 => some d.bookCmd
  | 0x12 => some d.keyCmd
  | 0x13 => some d.fwCmd
  | 0x14 => some (.fnReset (d.arg 0x20 1 % 64))
  | _ => none

/-- The bits of ARGS that are no reserved ones, by octet (R305, R343); those of operations of FIELDBOOK, KEY and FIRMWARE,
which the spec does not lay out, are all taken as used. [log 164 PRESUMED] -/
def CmdDesc.used (d : CmdDesc) : List (Nat × Nat) :=
  let whole := fun (off n : Nat) => (List.range n).map (fun i => (off + i, 255))
  match d.op with
  | 0x02 => [(0x20, 255), (0x21, 15)]
  | 0x03 => [(0x20, 255), (0x21, 15)]
  | 0x04 => [(0x20, 63)]
  | 0x05 => [(0x20, 15), (0x21, 255), (0x22, 3)]
  | 0x06 => [(0x20, 15), (0x21, 255), (0x22, 7), (0x23, 15)]
  | 0x07 => (0x20, 63) :: whole 0x24 4
  | 0x08 => whole 0x20 16
  | 0x09 => whole 0x20 16
  | 0x0A => whole 0x20 2
  | 0x0B => [(0x20, 3), (0x21, 255)]
  | 0x0C => [(0x21, 255)]
  | 0x0D => (0x21, 255) :: (if d.arg 0x21 1 = 3 then [] else whole 0x28 8)
  | 0x10 =>
    let o := d.arg 0x21 1
    (0x21, 255) :: (if o = 12 then whole 0x24 2 else if o ∈ [4, 5, 7, 8, 9, 10, 11] then whole 0x28 8 else [])
  | 0x11 => whole 0x20 32
  | 0x12 => whole 0x20 32
  | 0x13 => whole 0x20 32
  | 0x14 => [(0x20, 63)]
  | _ => []

/-- The operation in octet 0x21 is one that the opcode has. -/
def CmdDesc.opOk (d : CmdDesc) : Bool :=
  let o := d.arg 0x21 1
  match d.op with
  | 0x0C => o == 1
  | 0x0D => decide (1 ≤ o ∧ o ≤ 3)
  | 0x10 => decide (1 ≤ o ∧ o ≤ 12)
  | 0x11 => decide (1 ≤ o ∧ o ≤ 4)
  | 0x12 => decide (1 ≤ o ∧ o ≤ 9)
  | 0x13 => decide (1 ≤ o ∧ o ≤ 3)
  | _ => true

/-- Every reserved bit of ARGS is 0 and the operation is defined; otherwise the command is INVAL (R302, R305). -/
def CmdDesc.argsOk (d : CmdDesc) : Bool :=
  d.opOk && (List.range 32).all (fun i =>
    let m := ((d.used.find? (fun u => u.1 == 0x20 + i)).map (·.2)).getD 0
    d.arg (0x20 + i) 1 &&& (255 - m) == 0)

/-- The header of a fetched command. -/
def CmdDesc.head (d : CmdDesc) (f : Nat) (now : Int) : CmdHead := ⟨f, d.tag, d.lane, d.apply, d.addr, d.len, now⟩

/-! ### Transmit and receive descriptors (R307, R308) -/

/-- The buffer length of a transmit descriptor (R307). -/
def TxDesc.len (d : TxDesc) : Nat := leAt d.bytes 8 2

/-- The ports a transmit descriptor names. -/
def TxDesc.ports (d : TxDesc) : Nat := leAt d.bytes 10 1 % 16

/-- A transmit descriptor is well formed: LEN is 60 to 1,518 and the reserved octets are 0 (R307). [log 163 DEDUCED] -/
def TxDesc.good (d : TxDesc) : Bool := decide (60 ≤ d.len ∧ d.len ≤ 1518) && leAt d.bytes 11 21 == 0

/-- The address of a posted receive buffer (R308). -/
def RxDesc.addr (d : RxDesc) : Nat := leAt d.bytes 0 8

/-- The length of a posted receive buffer (R308). -/
def RxDesc.len (d : RxDesc) : Nat := leAt d.bytes 8 4

end Sys2Proof
end

