-- ==== Sys2Proof/Machine/Rings.lean ====
section
/-! DEFINITION. Functions and their rings: doorbells, credits, fences, completions, transmit and receive, events, MSI-X,
resets (R293 to R316). -/

namespace Sys2Proof.Machine

open Sys2Proof

/-! ### Ring states and indices (R296 to R300) -/

def rOff : Nat := 0
def rRun : Nat := 1
def rDrain : Nat := 2
def rFenced : Nat := 3

/-- A ring's state. -/
def Fn.ring (F : Fn) (r : Nat) : Nat := F.fld .FN_RING_STAT 31 30 r

/-- Entries of a ring. -/
def Fn.size (F : Fn) (r : Nat) : Nat := 2 ^ F.fld .FN_RING_CFG 27 24 r

/-- A ring's producer index. -/
def Fn.prod (F : Fn) (r : Nat) : Nat := F.fld .FN_RING_IDX 31 16 r

/-- A ring's consumer index. -/
def Fn.cons (F : Fn) (r : Nat) : Nat := F.fld .FN_RING_IDX 15 0 r

/-- `(a − b) mod 2^16` of two indices (R298). -/
def idxSub (a b : Nat) : Nat := (a + 65536 - b) % 65536

/-- Entries between producer and consumer. -/
def Fn.fill (F : Fn) (r : Nat) : Nat := idxSub (F.prod r) (F.cons r)

/-- Entries of a ring in flight. [log 133 DEDUCED] -/
def Fn.flight (F : Fn) (r : Nat) : Nat := F.fld .FN_RING_STAT 12 0 r

/-- Sets the entries in flight. -/
def Fn.setFlight (F : Fn) (r n : Nat) : Fn := F.setFld .FN_RING_STAT 12 0 n r

/-- Sets a ring's state; EVT_OPEN follows the event ring. -/
def Fn.setRing (F : Fn) (r st : Nat) : Fn :=
  let F := F.setFld .FN_RING_STAT 31 30 st r
  if r = 2 then F.setFlag .FN_STAT 29 (st == rRun) else F

/-- The address of a ring's entry by its index, for entries of `n` octets (R298). -/
def Fn.entryAddr (F : Fn) (r idx n : Nat) : Nat :=
  (F.reg .FN_RING_BASE_HI r).toNat * 2 ^ 32 + (F.reg .FN_RING_BASE_LO r).toNat + idx % F.size r * n

/-- The state of a function: 0 not enabled, 1 active, 2 fenced, 3 resetting. -/
def Fn.fstate (F : Fn) : Nat := F.fld .FN_STAT 31 30

/-- Outstanding commands. -/
def Fn.cmdOut (F : Fn) : Nat := F.fld .FN_STAT 12 0

/-- Credits held. -/
def Fn.outst (F : Fn) : Nat := F.fld .FN_OUTST 16 0

/-- A descriptor takes a credit. -/
def Fn.takeCredit (F : Fn) : Fn := F.setFld .FN_OUTST 16 0 (F.outst + 1)

/-- A descriptor gives its credit back. -/
def Fn.giveCredit (F : Fn) : Fn := F.setFld .FN_OUTST 16 0 (F.outst - 1)

/-- Credits not held by any function (R300). -/
def Hcx.creditFree (H : Hcx) : Nat := 65536 - (H.fns.vals.map (·.outst)).sum

/-- A function may hold one more credit: 256 are kept for each of the 64 functions, which may come to have a ring in RUN at
any moment, and the rest are shared (R300). [log 162 DEDUCED] -/
def Hcx.mayHold (H : Hcx) (f : Nat) : Bool :=
  let held := fun k => (H.fn k).outst + bnat (k == f)
  decide (((List.range 64).map (fun k => max 256 (held k))).sum ≤ 65536)

/-! ### Fences (R314) -/

/-- A function is fenced: every ring FENCED, the cause recorded, the event raised. -/
def State.fence (s : State) (f cause ring idx : Nat) (now : Int) : State :=
  let F := s.host.fn f
  if F.fstate = 2 || F.fstate = 3 then s else
  let F := foldTo 11 (fun (F : Fn) r => F.setRing r rFenced) F
  let F := F.setFld .FN_STAT 31 30 2
  let F := F.setReg .FN_ERR (w32 (cause % 16 * 2 ^ 28 + ring % 16 * 2 ^ 24 + idx % 65536))
  let s := s.hcx (fun H => (H.setFn f F).setFlag (if f < 32 then .HCX_FENCE_LO else .HCX_FENCE_HI) (f % 32) true)
  s.raiseHost 4 0x01 now (leBytes 1 f ++ leBytes 1 cause ++ leBytes 1 ring ++ leBytes 1 0 ++ leBytes 2 idx)

/-! ### Doorbells (R298) -/

/-- A doorbell of `width` octets. [log 17 DEDUCED] -/
def State.doorbell (f r : Nat) (v : Word) (width : Nat) (now : Int) (s : State) : State :=
  let F := s.host.fn f
  if !s.host.hasFn f || 11 ≤ r then s
  else if width != 4 || decide (65536 ≤ v.toNat) || F.ring r != rRun then s.mapFn f (fun F => F.bump .FN_DB_IGN)
  else
    let i := v.toNat
    let ok :=
      if r = 1 || r = 2 then
        decide (idxSub (F.prod r) i ≤ F.size r) && decide (idxSub i (F.cons r) ≤ F.fill r)
      else decide (idxSub i (F.cons r) ≤ F.size r)
    if !ok then s.fence f 3 r i now
    else if r = 1 || r = 2 then s.mapFn f (fun F => F.setFld .FN_RING_IDX 15 0 i r)
    else s.mapFn f (fun F => F.setFld .FN_RING_IDX 31 16 i r)

/-! ### Setting rings up (R297, R299) -/

/-- The first check of R297 that fails, by its number; 0 when all hold. -/
def Hcx.ringCheck (H : Hcx) (f r : Nat) (F : Fn) : Nat :=
  let q := H.quota f
  let used := ((List.range 11).filter (fun k => k != r && F.ring k != rOff)).map (fun k => F.size k)
  let lg := F.fld .FN_RING_CFG 27 24 r
  if F.fld .FN_RING_BASE_LO 11 0 r != 0 then 1
  else if lg < 6 || 12 < lg then 2
  else if r != 0 && decide ((if f = 0 then 64 else q.vectors) ≤ F.fld .FN_RING_CFG 21 16 r) then 3
  else if f != 0 && decide (q.entries < used.sum + F.size r) then 4
  else if 3 ≤ r && (decide (4 ≤ F.fld .FN_RING_FILT 18 16 r) ||
      (decide (r < 7) && decide (4 ≤ F.fld .FN_RING_FILT 30 27 r) && F.fld .FN_RING_FILT 30 27 r != 15)) then 5
  else 0

/-- A write to RING_CFG that sets EN: the ring is checked, and enters RUN or stays OFF (R297). -/
def State.ringEnable (f r : Nat) (v : Word) (s : State) : State :=
  let F := s.host.fn f
  if !s.host.hasFn f || 11 ≤ r || F.ring r != rOff || F.fstate != 1 || !bit v 31 then s
  else
    let F := F.setReg .FN_RING_CFG (v &&& 0x8F3F0000#32) r
    let e := s.host.ringCheck f r F
    if e != 0 then
      s.mapFn f (fun _ => (F.setFlag .FN_RING_CFG 31 false r).setReg .FN_ERR_CFG (w32 (r * 16 + e)))
    else
      let F := (F.setReg .FN_RING_IDX 0 r).setRing r rRun
      s.mapFn f (fun _ => { F with owed := F.owed.del r })

/-- A write to RING_CFG that clears EN: a running ring drains (R299). [log 133 DEDUCED] -/
def State.ringDrain (f r : Nat) (s : State) : State :=
  let F := s.host.fn f
  if !s.host.hasFn f || 11 ≤ r || F.ring r != rRun then s
  else s.mapFn f (fun F => (F.setFlag .FN_RING_CFG 31 false r).setRing r rDrain)

/-- A draining ring with no entry in flight is OFF (R299). [log 133 DEDUCED] -/
def State.drainComplete (f r : Nat) (s : State) : State :=
  let F := s.host.fn f
  if 11 ≤ r || F.ring r != rDrain || F.flight r != 0 then s else s.mapFn f (fun F => F.setRing r rOff)

/-- Other writes to the registers that set a ring up: without effect unless the ring is OFF (R297). -/
def State.ringWrite (f : Nat) (reg : Reg) (r : Nat) (v : Word) (s : State) : State :=
  if (s.host.fn f).ring r != rOff then s else s.mapFn f (fun F => F.setReg reg v r)

/-! ### Messages (R313) -/

/-- A vector's message goes out, or its PBA bit is set while it is masked. -/
def State.signal (s : State) (f v : Nat) : State :=
  let F := s.host.fn f
  if F.unmask.testBit v then
    s.hcx (fun H => H.emit (.msg f v ((F.reg .FN_MSIX v 1).toNat * 2 ^ 32 + (F.reg .FN_MSIX v 0).toNat) (F.reg .FN_MSIX v 2).toNat))
  else s.mapFn f (fun F => F.setFlag .FN_PBA (v % 32) true (v / 32))

/-- An entry has been written to a ring: it counts toward the ring's next message. -/
def Fn.owe (F : Fn) (r : Nat) (now : Int) : Fn :=
  let x := F.owed.getD r (0, now)
  { F with owed := F.owed.put r (x.1 + 1, x.2) }

/-- A ring's message is due: COUNT entries, or HOLDOFF since the first of them (R313). -/
def Fn.msgDue (F : Fn) (r : Nat) (now : Int) : Bool :=
  match F.owed.get? r with
  | none => false
  | some x => decide (max 1 (F.fld .FN_RING_MOD 31 16 r) ≤ x.1) || decide (x.2 + (F.fld .FN_RING_MOD 15 0 r : Nat) * 1000 ≤ now)

/-- MSIX_MESSAGE: a ring signals its vector. [log 100 PRESUMED] -/
def State.msixMessage (f r : Nat) (now : Int) (s : State) : State :=
  let F := s.host.fn f
  if r = 0 || 11 ≤ r || !(F.ring r == rRun || F.ring r == rDrain) || !F.msgDue r now then s
  else (s.mapFn f (fun F => { F with owed := F.owed.del r })).signal f (F.fld .FN_RING_CFG 21 16 r)

/-- A vector's mask bit is written; an unmasked vector sends the message that waits (R313). [log 100 PRESUMED] -/
def State.msixMask (f v : Nat) (masked : Bool) (s : State) : State :=
  let F := s.host.fn f
  if (if f = 0 then 64 else 8) ≤ v || !s.host.hasFn f then s
  else
    let u := if masked then (if F.unmask.testBit v then F.unmask - 2 ^ v else F.unmask)
             else (if F.unmask.testBit v then F.unmask else F.unmask + 2 ^ v)
    let s := s.mapFn f (fun F => { F with unmask := u })
    if masked || !F.flag .FN_PBA (v % 32) (v / 32) then s
    else (s.mapFn f (fun F => F.setFlag .FN_PBA (v % 32) false (v / 32))).signal f v

/-! ### Completions (R303) -/

/-- The PHASE of an entry: 1 in the first pass through a ring, 0 in the second, and so on (R303). -/
def Fn.phase (F : Fn) (r : Nat) : Nat := if F.prod r / F.size r % 2 = 0 then 1 else 0

/-- A completion entry's octets. -/
def doneBytes (d : Done) (phase head : Nat) : List Byte :=
  leBytes 2 d.id.tag ++ leBytes 1 d.id.op ++ leBytes 1 (128 * phase) ++ leBytes 2 d.status ++ leBytes 2 head ++
  leBytes 8 (if d.id.op = 0x10 then 0 else d.id.apply) ++ (d.result ++ List.replicate 16 0#8).take 16

/-- An entry goes to a ring that the module produces. -/
def State.writeEntry (s : State) (f r : Nat) (bytes : List Byte) (now : Int) : State :=
  let F := s.host.fn f
  let s := s.hcx (fun H => H.emit (.write f (F.entryAddr r (F.prod r) 32) bytes))
  s.mapFn f (fun F => ((F.setFld .FN_RING_IDX 31 16 (F.prod r + 1) r).bump .FN_RING_CNT r).owe r now)

/-- A ring that the module produces may be written, and has room. [log 98 DEDUCED, log 99 DEDUCED] -/
def Fn.takes (F : Fn) (r : Nat) : Bool := (F.ring r == rRun || F.ring r == rDrain) && decide (F.fill r < F.size r)

/-- A command is outstanding no longer; `inHost` when the host complex itself carried it out. [log 98 DEDUCED] -/
def Fn.commandOver (F : Fn) (inHost : Bool) : Fn :=
  let F := (F.setFld .FN_STAT 12 0 (F.cmdOut - 1)).giveCredit
  if inHost then F.setFlight 0 (F.flight 0 - 1) else F

/-- What a completion comes to: dropped, waiting for room, or written (R299, R303, R314, R315). [log 98 DEDUCED] -/
def State.complete (s : State) (d : Done) (inHost : Bool) (now : Int) : Option State :=
  let F := s.host.fn d.id.fn
  let stale := d.id.ep.any (fun e => e != F.epoch)
  if stale || F.fstate = 2 then some s
  else if !(F.ring 1 == rRun || F.ring 1 == rDrain) then
    some (if d.id.ep.isSome then s.mapFn d.id.fn (fun F => F.commandOver inHost) else s)
  else if !F.takes 1 then none
  else
    let s := s.writeEntry d.id.fn 1 (doneBytes d (F.phase 1) (F.cons 0)) now
    some (if d.id.ep.isSome then s.mapFn d.id.fn (fun F => (F.commandOver inHost).bump .FN_RING_CNT 0) else s)

/-- COMMAND_COMPLETION: the oldest command completed on a lane, or in the host complex, is written to its ring. -/
def State.commandCompletion (src : Option LaneId) (now : Int) (s : State) : State :=
  match src with
  | none =>
    match s.host.done with
    | [] => s
    | d :: t => (s.complete d true now).elim s (fun s => s.hcx (fun H => { H with done := t }))
  | some l =>
    if s.fenced l then s else
    match (s.lane l).fin with
    | [] => s
    | d :: t => (s.complete d false now).elim s (fun s => s.mapLane l (fun L => { L with fin := t }))

/-! ### Transmit and receive (R307, R308) -/

/-- A transmit frame is of an express class. -/
def txExpress (burst : Nat) (f : Frame) : Bool :=
  match f.tag with
  | some t => decide (5 ≤ t.pcp)
  | none => [0x88B8, 0x88BA, 0x88F7, burst].contains f.etype

/-- A host frame enters the lane's switch at IN; one that the switch takes no copy of is done at once (R307). -/
def Lane.hostFrame (f : Frame) (ports fn ring idx : Nat) (L : Lane) : Lane :=
  let raw := L.trav.lastRaw
  let cls := (f.tag.map (·.pcp)).getD 0
  let vid := (f.tag.map (·.vid)).getD (L.pvid 4)
  let before := L.net.nextBuf
  let host := some (fn, ring, idx)
  let L :=
    if !L.inService || !L.flag .SWM_STAT 31 then L
    else if ports != 0 then L.dispatch f 4 cls vid raw (ports % 16) false false none host
    else match L.route 4 raw cls vid f with
      | (M, some r) => M.dispatch f 4 r.cls vid raw r.mask r.demoted false r.hash host
      | (M, none) => M
  if L.net.nextBuf = before then { L with net := { L.net with txDone := L.net.txDone ++ [⟨fn, ring, idx, 2, 0, []⟩] } } else L

/-- Where a ring's lane lies. -/
def Fn.ringLane (F : Fn) (r : Nat) : LaneId := (LaneId.ofNum (F.fld .FN_RING_FILT 18 16 r)).getD .a

/-- A descriptor may be fetched from a ring (R300). [log 98 DEDUCED] -/
def Hcx.mayFetch (H : Hcx) (f r : Nat) : Bool :=
  let F := H.fn f
  H.hasFn f && F.ring r == rRun && decide (0 < F.fill r) && decide (F.flight r < F.size r) && H.mayHold f

/-- TRANSMIT_DESCRIPTOR: the next descriptor of a transmit ring is fetched. -/
def State.txDescriptor (f r : Nat) (d : TxDesc) (now : Int) (s : State) : State :=
  let F := s.host.fn f
  if r < 7 || 11 ≤ r || !s.host.mayFetch f r then s
  else
    let i := F.cons r
    let s := s.mapFn f (fun F => (F.setFld .FN_RING_IDX 15 0 (i + 1) r).takeCredit.setFlight r (F.flight r + 1))
    if !d.good then s.fence f 2 r i now
    else
      let l := F.ringLane r
      let bad := txExpress (s.lane l).burstEtype d.frame
      let s := s.mapFn f (fun F => { F with tx := F.tx.put r (F.tx.getD r [] ++ [(i, bad, l)]) })
      if bad then s
      else if s.fenced l then
        s.mapLane l (fun L => { L with net := { L.net with txDone := L.net.txDone ++ [⟨f, r, i, 2, 0, []⟩] } })
      else s.mapLane l (Lane.hostFrame { d.frame with len := d.len + 4 } d.ports f r i)

/-- The 32-bit datum ns of a raw count. -/
def Lane.stamp (L : Lane) (raw : Nat) : Nat := wrap 32 (nsOf (L.convert raw).1)

/-- The written-back octets 0x20 to 0x3F of a transmit descriptor. -/
def txBytes (status sent : Nat) (ts : List (Nat × Nat)) (stamp : Nat → Nat) : List Byte :=
  leBytes 1 status ++ leBytes 1 128 ++ leBytes 1 sent ++ List.replicate 13 0#8 ++
  (List.range 4).flatMap (fun p => leBytes 4 (((ts.find? (fun t => t.1 == p)).map (fun t => stamp t.2)).getD 0))

/-- TRANSMIT_WRITE_BACK: the oldest descriptor of a transmit ring is written back once its frame has left or was
refused or dropped (R307). -/
def State.txWriteBack (f r : Nat) (now : Int) (s : State) : State :=
  let F := s.host.fn f
  match F.tx.getD r [] with
  | [] => s
  | (i, bad, l) :: rest =>
    if !(F.ring r == rRun || F.ring r == rDrain) then s else
    let L := s.lane l
    let hit := fun (x : TxDone) => x.fn == f && x.ring == r && x.idx == i
    let put := fun (s : State) (bytes : List Byte) =>
      let s := s.hcx (fun H => H.emit (.write f (F.entryAddr r i 64 + 0x20) bytes))
      s.mapFn f (fun F =>
        let F := ((F.giveCredit.setFlight r (F.flight r - 1)).bump .FN_RING_CNT r).owe r now
        { F with tx := F.tx.put r rest })
    if bad then put s (txBytes 1 0 [] (fun _ => 0))
    else match L.net.txDone.find? hit with
      | none => s
      | some x =>
        let s := s.mapLane l (fun L => { L with net := { L.net with txDone := L.net.txDone.filter (fun y => !hit y) } })
        put s (txBytes x.status x.sent x.ts L.stamp)

/-- A receive ring's filter takes a frame from a lane (R308). [log 101 DESIGN CHOICE] -/
def Fn.rxTakes (F : Fn) (r : Nat) (l : LaneId) (mac : Nat) (f : Frame) : Bool :=
  let sel := F.fld .FN_RING_FILT 30 27 r
  F.ring r == rRun && F.flag .FN_RING_FILT 31 r && F.fld .FN_RING_FILT 18 16 r == l.num &&
  F.fld .FN_RING_FILT 15 0 r == f.etype && (sel == 15 || (decide (sel < 4) && f.dst == mac + sel))

/-- The first matching ring, functions in order and rings in order. [log 101 DESIGN CHOICE] -/
def Hcx.rxRing (H : Hcx) (l : LaneId) (mac : Nat) (f : Frame) : Option (Nat × Nat) :=
  ((List.range 64).flatMap (fun n => [3, 4, 5, 6].map (fun r => (n, r)))).find? (fun p =>
    H.hasFn p.1 && (H.fn p.1).rxTakes p.2 l mac f)

/-- The octets 0x20 to 0x2B written back to a posted descriptor (R308). -/
def rxBytes (len ingress cls vid stamp : Nat) : List Byte :=
  leBytes 1 0 ++ leBytes 1 128 ++ leBytes 2 len ++ leBytes 1 (ingress % 4 + cls % 8 * 16) ++ leBytes 1 0 ++ leBytes 2 (vid % 4096) ++
  leBytes 4 stamp

/-- RECEIVE_DELIVERY: the next frame that a lane delivers to IN goes to the next posted buffer, `d`, of the first
matching ring, or is dropped; while the function may hold no credit the descriptor is not fetched and the frame waits
(R300, R308). [log 101 DESIGN CHOICE, log 162 DEDUCED] -/
def State.receive (l : LaneId) (d : RxDesc) (now : Int) (s : State) : State :=
  if s.fenced l then s else
  match (s.lane l).takeIn with
  | none => s
  | some (M, b, it, cls) =>
    let stamp := M.stamp b.rx
    let fr := b.frame
    let t := s.mapLane l (fun _ => M)
    match s.host.rxRing l M.mac fr with
    | none => t.hcx (fun H => H.bump .HCX_RX_NOMATCH)
    | some (f, r) =>
      let F := s.host.fn f
      if F.fill r = 0 then t.mapFn f (fun F => F.bump .FN_RING_CNT r)
      else if !s.host.mayHold f then s
      else
        let i := F.cons r
        let s := t.mapFn f (fun F => F.setFld .FN_RING_IDX 15 0 (i + 1) r)
        if d.len < 1522 then s.fence f 2 r i now
        else
          let len := it.len - 4 - (if it.red.isSome then 6 else 0)
          let bytes := rxBytes len b.ingress cls ((fr.tag.map (·.vid)).getD 0) stamp
          let s := s.hcx (fun H => (H.emit (.frame f d.addr { fr with len := len, red := none })).emit
            (.write f (F.entryAddr r i 64 + 0x20) bytes))
          s.mapFn f (fun F => F.owe r now)

/-! ### Events (R309 to R312) -/

/-- An event entry's octets. -/
def eventBytes (src phase sev typ code rep : Nat) (time : Int) (lane : Nat) (data : List Byte) : List Byte :=
  leBytes 2 (src % 1024 + phase * 32768) ++ leBytes 1 sev ++ leBytes 1 typ ++ leBytes 2 code ++ leBytes 2 rep ++
  leBytes 4 (wrap 32 time) ++ leBytes 1 lane ++ List.replicate 3 0#8 ++ (data ++ List.replicate 16 0#8).take 16

/-- A beacon of a lane's datum: its second's edge in ns, the tick, CODE (R277, R309). -/
def beaconBytes (l : LaneId) (phase : Nat) (b : Nat × Nat × Nat) : List Byte :=
  eventBytes (l.srcBase + 1) phase 0 1 b.2.2 0 b.1 l.num (leBytes 8 b.1 ++ leBytes 8 b.2.1)

/-- Beacons that wait go first: those of the lanes, then that of the host-complex clock. -/
def State.waitingBeacons (s : State) (f : Nat) (now : Int) : State :=
  let s := LaneId.all.foldl (fun (s : State) l =>
    let F := s.host.fn f
    match (s.lane l).datum.beacons.get? f with
    | none => s
    | some b =>
      if !F.takes 2 || F.ring 2 != rRun then s
      else (s.writeEntry f 2 (beaconBytes l (F.phase 2) b) now).mapLane l (fun L =>
        ({ L with datum := { L.datum with beacons := L.datum.beacons.del f } } : Lane).bump .DTM_BEACON_CNT)) s
  let F := s.host.fn f
  match F.beacon with
  | none => s
  | some b =>
    if !F.takes 2 || F.ring 2 != rRun then s
    else (s.writeEntry f 2 (eventBytes 0 (F.phase 2) 0 1 b.2 0 b.1 4 (leBytes 8 (wrap 64 b.1))) now).mapFn f
      (fun F => { F with beacon := none })

/-- OVERFLOW_ENTRY: once an entry is free, beacons that wait and then an overflow entry are placed (R312). -/
def State.overflowEntry (f : Nat) (now : Int) (s : State) : State :=
  let s := s.waitingBeacons f now
  let F := s.host.fn f
  if F.lost = 0 || F.ring 2 != rRun || !F.takes 2 then s
  else (s.writeEntry f 2 (eventBytes 0 (F.phase 2) 0 2 0 0 now s.timeNum (leBytes 8 F.lost)) now).mapFn f
    (fun F => { F with lost := 0 })

/-- An event goes to a function's event ring, or is dropped and counted (R312). [log 99 DEDUCED] -/
def State.placeOn (s : State) (f lane : Nat) (o : Occ) (rep : Nat) (now : Int) : State :=
  if !s.host.hasFn f || (s.host.fn f).ring 2 != rRun then s else
  let s := s.overflowEntry f now
  let F := s.host.fn f
  if !F.takes 2 || F.lost != 0 then s.mapFn f (fun F => { F.bump .FN_EVT_DROP with lost := F.lost + 1 })
  else s.writeEntry f 2 (eventBytes o.src (F.phase 2) o.sev 0 o.code rep o.time lane o.data) now

/-- An event goes where its routing register sends it (R312). [log 99 DEDUCED] -/
def State.placeEvent (s : State) (lane : Nat) (o : Occ) (rep : Nat) (now : Int) : State :=
  let w := s.host.reg .HCX_EVT_ROUTE o.src
  let s := if bit w 0 then s else s.placeOn 0 lane o rep now
  if bit w 31 && bits w 29 24 != 0 then s.placeOn (bits w 29 24) lane o rep now else s

/-- EVENT_PLACEMENT: the oldest booked occurrence of a lane, or of the host complex, is placed. [log 109 DEDUCED] -/
def State.eventPlacement (book : Option LaneId) (now : Int) (s : State) : State :=
  match book with
  | none =>
    match s.host.placed with
    | [] => s
    | (o, l, rep) :: t => (s.hcx (fun H => { H with placed := t })).placeEvent l o rep now
  | some l =>
    if s.fenced l then s else
    match (s.lane l).placed with
    | [] => s
    | (o, rep) :: t =>
      (s.mapLane l (fun L => { L with placed := t })).placeEvent l.num { o with src := l.srcBase + o.src } rep now

/-- DATUM_BEACON: after the edge of tick 0 of a second the lane's beacon goes to every function whose event ring is
RUN, and sets the host-complex clock if the lane is the lowest-lettered in service (R277, R310). -/
def State.datumBeacon (l : LaneId) (s : State) : State :=
  let L := s.lane l
  let k := L.tick / 96000 * 96000
  if !L.inService || 3 ≤ L.level || 9 < L.tick % 96000 then s
  else
    let b := (edgeNs k, k, L.datum.secCode)
    let s := if s.timeLane = some l then s.hcx (fun H => { H with clock := edgeNs k, clockSrc := 0 }) else s
    if s.fenced l then s else
    foldTo 64 (fun (s : State) f =>
      if !s.host.hasFn f || (s.host.fn f).ring 2 != rRun then s
      else
        (s.mapLane l (fun L => { L with datum := { L.datum with beacons := L.datum.beacons.put f b } })).waitingBeacons f (edgeNs k : Nat)) s

/-- HOST_CLOCK_BEACON: with no lane in service, once per second; `clock` is the count of the host-complex clock
(R310). -/
def State.hostBeacon (clock : Int) (s : State) : State :=
  if s.timeLane.isSome || clock < s.host.clock then s
  else foldTo 64 (fun (s : State) f =>
    if !s.host.hasFn f || (s.host.fn f).ring 2 != rRun then s
    else (s.mapFn f (fun F => { F with beacon := some (clock, s.host.clockSrc) })).waitingBeacons f clock) s

/-! ### Resets (R315, R316) -/

/-- A frame of a function that is still in a switch no longer reports to its descriptor. -/
def Net.forget (n : Net) (f : Nat) : Net :=
  { n with bufs := n.bufs.mapv (fun _ b => if b.host.any (fun h => h.1 == f) then { b with host := none } else b),
           txDone := n.txDone.filter (fun x => x.fn != f) }

/-- A function reset starts: rings OFF, registers at reset, completions of earlier commands dropped (R315).
[log 105 DEDUCED] -/
def State.resetFn (s : State) (f : Nat) : State :=
  if !s.host.hasFn f then s else
  let F := s.host.fn f
  let G : Fn := { Fn.fresh with epoch := F.epoch + 1 }
  let G := (G.setFld .FN_STAT 31 30 3).setFld .FN_OUTST 16 0 F.outst
  let s := s.hcx (fun H => (H.setFn f G).setFlag (if f < 32 then .HCX_FENCE_LO else .HCX_FENCE_HI) (f % 32) false)
  { s with lanes := s.lanes.mapv (fun _ L =>
      { L with net := L.net.forget f, datum := { L.datum with beacons := L.datum.beacons.del f } }) }

/-- FUNCTION_RESET_COMPLETE: credits are released and the function is active (R315). [log 105 DEDUCED] -/
def State.resetFnDone (f : Nat) (now : Int) (s : State) : State :=
  let F := s.host.fn f
  if F.fstate != 3 then s
  else (s.mapFn f (fun F => (F.setFld .FN_STAT 31 30 1).setFld .FN_OUTST 16 0 0)).raiseHost 4 0x02 now (leBytes 1 f)

/-- A function reset of every function (R316). [log 131 DEDUCED] -/
def State.resetAllFns (s : State) : State := foldTo 64 (fun (s : State) f => s.resetFn f) s

/-- A write of VF Enable or NumVFs: functions come to exist or cease to (R295). -/
def State.vfEnable (n : Nat) (s : State) : State :=
  let n := min n 63
  let gone := (List.range 64).filter (fun f => decide (n < f ∧ f ≤ s.host.vfs))
  let s := gone.foldl (fun (s : State) f => s.resetFn f) s
  s.hcx (fun H => { H with vfs := n, fns := gone.foldl (fun (m : NMap Fn) f =>
    m.put f ((H.fn f).setFld .FN_OUTST 16 0 0 |>.setFld .FN_STAT 31 30 1)) H.fns })

/-- The PCIe link goes down (R316). -/
def State.pcieDown (now : Int) (s : State) : State :=
  (s.resetAllFns.hcx (fun H => H.setReg .HCX_PCIE_STAT 0)).raiseHost 3 0x01 now

/-- The PCIe link has trained (R293). -/
def State.pcieUp (speed width : Nat) (ecrc : Bool) (s : State) : State :=
  s.hcx (fun H => H.setReg .HCX_PCIE_STAT (w32 (speed % 16 * 2 ^ 28 + width % 16 * 2 ^ 24 + bnat ecrc * 65536)))

/-- A Function Level Reset; of PF0 it resets every function and clears VF Enable (R315, R316). -/
def State.flr (f : Nat) (s : State) : State := if f = 0 then s.resetAllFns.vfEnable 0 else s.resetFn f

end Sys2Proof.Machine
end

