-- ==== Sys2Proof/Machine/Archive.lean ====
section
/-! DEFINITION. The archive: extents and catalogue, staging, NVMe commands, and the ends of captures and occurrences
(R329, R334, R335, R337 to R349). -/

namespace Sys2Proof.Machine

open Sys2Proof

/-! ### States and extents (R338, R340 to R342) -/

def aDetached : Nat := 0
def aRecovering : Nat := 1
def aAttached : Nat := 2
def aFault : Nat := 3

/-- Extent states of a catalogue entry. -/
def eOpen : Nat := 1
def eClosed : Nat := 2
def ePinned : Nat := 3

/-- The archive with a change. -/
def Hcx.setArc (H : Hcx) (a : Archive) : Hcx := { H with arc := a }

/-- The archive's state. -/
def Hcx.arcState (H : Hcx) : Nat := H.fld .HCX_ARC_STAT 31 30

/-- E, the number of extents. -/
def Hcx.extents (H : Hcx) : Nat := H.fld .HCX_ARC_EXT 28 0

/-- E of a namespace of a usable size (R338). -/
def extentsOf (size : Nat) : Nat := min (size / 2 ^ 20) (2 ^ 28)

/-- C, the last extent of the catalogue (R338). -/
def catalogueExt (e : Nat) : Nat := ceilDiv (ceilDiv e 255 * 8192) (2 ^ 20)

/-- The first number from `k` on that a rising list of keys does not hold. -/
def firstGap : Nat → List (Nat × ArcEntry) → Nat
  | k, [] => k
  | k, c :: t => if k < c.1 then k else firstGap (max k (c.1 + 1)) t

/-- A page with a change to commit. -/
def Archive.touch (a : Archive) (ext : Nat) : Archive :=
  { a with dirty := if a.dirty.contains (ext / 255) then a.dirty else a.dirty ++ [ext / 255] }

/-- The catalogue with an entry replaced, or FREE. -/
def Archive.setEntry (a : Archive) (ext : Nat) (x : Option ArcEntry) : Archive :=
  { a with cat := match x with
             | some y => a.cat.put ext y
             | none => a.cat.del ext }.touch ext

/-- The pages whose commit is waiting or in flight. -/
def Archive.committing (a : Archive) : Nat :=
  ((a.todo ++ a.retry ++ a.out.vals.map (·.1)).filter (fun c => match c.why with
    | .page _ => true
    | _ => false)).length

/-- The archive registers follow it. -/
def Hcx.showArc (H : Hcx) : Hcx :=
  let e := H.extents
  let free := e - (catalogueExt e + 1) - H.arc.cat.cells.length
  (H.setReg .HCX_ARC_FREE (w32 (if H.arcState = aAttached then free else 0))).setReg .HCX_ARC_UNCOMMIT
    (w32 (H.arc.dirty.length + H.arc.committing))

/-- Two entries are of one record: an extent that host software allocated is a record of its own. -/
def sameRecord (x y : ArcEntry) : Bool :=
  x.fn == y.fn && x.src == y.src && x.recId == y.recId && (x.src != 4 || x.seq == y.seq)

/-- The CLOSED record of an owner with the lowest ALLOC_SEQ, by one of its entries (R341). -/
def Archive.oldest (a : Archive) (fn : Nat) : Option ArcEntry :=
  (a.cat.vals.filter (fun x => x.fn == fn && x.state == eClosed)).foldl (fun (m : Option ArcEntry) x =>
    match m with
    | some y => if x.seq < y.seq then some x else m
    | none => some x) none

/-- Pages that are to go in one commit; those tied to one of them before go with them. -/
def Archive.tie (a : Archive) (pages : List Nat) : Archive :=
  let near := a.tied.filter (fun g => g.any (fun p => pages.contains p))
  let rest := a.tied.filter (fun g => !g.any (fun p => pages.contains p))
  if pages.length ≤ 1 && near.isEmpty then a else { a with tied := (pages ++ near.flatten).dedup :: rest }

/-- The uncommitted pages that one commit of a page writes (R341). -/
def Archive.commitOf (a : Archive) (n : Nat) : List Nat :=
  (((a.tied.find? (fun g => g.contains n)).getD [n]).filter (fun p => a.dirty.contains p))

/-- Every extent of a CLOSED record becomes FREE, in one commit (R341). -/
def Archive.reclaim (a : Archive) (x : ArcEntry) : Archive :=
  let gone := a.cat.cells.filter (fun c => sameRecord x c.2 && c.2.state == eClosed)
  (gone.foldl (fun (a : Archive) c => a.setEntry c.1 none) a).tie (gone.map (fun c => c.1 / 255)).dedup

/-- A FREE extent within the owner's limit. -/
def Hcx.freeExtent (H : Hcx) (fn : Nat) : Option Nat :=
  let k := firstGap (catalogueExt H.extents + 1) H.arc.cat.cells
  let used := (H.arc.cat.vals.filter (fun x => x.fn == fn)).length
  if k < H.extents && (fn = 0 || decide (used < (H.quota fn).extents)) then some k else none

/-- An extent is allocated OPEN, after a reclaim where that is needed (R340, R341). -/
def Hcx.allocExtent (H : Hcx) (fn src recId : Nat) : Hcx × Option Nat :=
  let H := match H.freeExtent fn with
    | some _ => H
    | none => match H.arc.oldest fn with
      | some x => H.setArc (H.arc.reclaim x)
      | none => H
  match H.freeExtent fn with
  | none => (H, none)
  | some k =>
    let a := H.arc
    let a := a.setEntry k (some ⟨a.nextSeq, eOpen, fn, src, false, recId, 0⟩)
    (H.setArc { a with nextSeq := (a.nextSeq + 1) % 2 ^ 48 }, some k)

/-! ### NVMe commands (R337) -/

/-- The PCIe link is up: HCX_PCIE_STAT shows a width. While it is down, archiving stops (R22). -/
def Hcx.linkUp (H : Hcx) : Bool := H.fld .HCX_PCIE_STAT 27 24 != 0

/-- An NVMe command is put into the submission queue in BAR2 and the tail doorbell is rung (R337, R338).
[log 161 DESIGN CHOICE] -/
def Hcx.putNvme (H : Hcx) (r : AttachRec) (c : NvmeCmd) (again : Bool) : Hcx :=
  let a := H.arc
  let tail := (a.sqTail + 1) % r.sqN
  let H := H.setArc { a with out := a.out.put a.nextCid (c, again), nextCid := (a.nextCid + 1) % 65536, sqTail := tail }
  (H.emit (.nvme a.sqTail a.nextCid c.op r.nsid (c.off / 2 ^ r.lbs) (c.len / 2 ^ r.lbs - 1) c.fua c.bytes)).emit (.peer r.sqDb tail)

/-- Commands that wait are submitted, retries first, while the link is up and the queue has room: at most entries − 1 at a
time. -/
def Hcx.submitNvme : Nat → Hcx → Hcx
  | 0, H => H
  | n + 1, H =>
    match H.arc.attach with
    | none => H
    | some r =>
      if H.arcState = aFault || !H.linkUp || r.sqN ≤ H.arc.out.cells.length + 1 then H
      else match H.arc.retry, H.arc.todo with
        | c :: t, _ => ((H.setArc { H.arc with retry := t }).putNvme r c true).submitNvme n
        | [], c :: t => ((H.setArc { H.arc with todo := t }).putNvme r c false).submitNvme n
        | [], [] => H

/-- As many commands are submitted as the queue takes. -/
def Hcx.submitAll (H : Hcx) : Hcx := H.submitNvme (H.arc.todo.length + H.arc.retry.length)

/-- A 4,096-octet block of a record (R339). -/
def arcBlock (id : Nat) (data : List Byte) : List Byte :=
  let b := (data ++ List.replicate 4088 0#8).take 4088 ++ leBytes 4 id
  b ++ leBytes 4 (crc32 b)

/-- An interval cut into commands of at most `m` octets. -/
def nvmeCut (op : Nat) (fua : Bool) (why : ArcWhy) (m : Nat) : Nat → Nat → Nat → List Byte → List NvmeCmd
  | 0, _, _, _ => []
  | n + 1, off, len, bytes =>
    if len = 0 then []
    else
      let k := min (max 1 m) len
      ⟨op, off, k, fua, bytes.take k, why⟩ :: nvmeCut op fua why m n (off + k) (len - k) (bytes.drop k)

/-- Record data is discarded (R341, R342). -/
def State.arcDrop (s : State) (r : ArcRec) (now : Int) : State :=
  (s.hcx (fun H => H.bump .HCX_ARC_DROP)).raiseHost 5 0x02 now (leBytes 1 r.src ++ leBytes 7 0 ++ leBytes 8 r.id)

/-- A record in staging is replaced. -/
def Hcx.setWriting (H : Hcx) (r : ArcRec) : Hcx :=
  H.setArc { H.arc with writing := H.arc.writing.map (fun x => if x.id == r.id then r else x) }

/-- What is to be submitted next. -/
def Hcx.queueNvme (H : Hcx) (l : List NvmeCmd) : Hcx := H.setArc { H.arc with todo := H.arc.todo ++ l }

/-- A record being written gets its next extent and that extent's blocks are queued; with none to be had the record is
ended there with TRUNC; at its end it is flushed (R339 to R341). -/
def State.growRecord (s : State) (r : ArcRec) (now : Int) : State :=
  let blocks := ceilDiv r.bytes.length 4088
  let k := r.exts.length
  let flush : NvmeCmd := ⟨0, 0, 0, false, [], .flush r.id⟩
  if blocks ≤ k * 256 then s.hcx (fun H => H.queueNvme [flush])
  else match s.host.allocExtent 0 r.src r.id with
    | (H, none) =>
      let cut : ArcRec := { r with trunc := true, bytes := r.bytes.take (k * 256 * 4088) }
      ((s.hcx (fun _ => (H.setWriting cut).queueNvme [flush])).arcDrop r now)
    | (H, some e) =>
      let m := min 256 (blocks - k * 256)
      let mdts := ((H.arc.attach.map (·.mdts)).getD 16) * 4096
      let bytes := (List.range m).flatMap (fun i => arcBlock r.id ((r.bytes.drop ((k * 256 + i) * 4088)).take 4088))
      let cmds := nvmeCut 1 false (.data r.id) mdts m (e * 2 ^ 20) (m * 4096) bytes
      s.hcx (fun _ => (H.setWriting { r with exts := r.exts ++ [e], left := cmds.length }).queueNvme cmds)

/-- A staged record goes to the namespace. -/
def State.writeRecord (s : State) (r : ArcRec) (now : Int) : State :=
  (s.hcx (fun H => H.setArc { H.arc with writing := H.arc.writing ++ [r] })).growRecord r now

/-- Staged records are written while the archive is ATTACHED and the link is up; commands are submitted; the registers
follow. -/
def State.arcRun (s : State) (now : Int) : State :=
  let s :=
    if s.host.arcState != aAttached || !s.host.linkUp then s
    else
      let l := s.host.arc.staged
      let s := s.hcx (fun H => H.setArc { H.arc with staged := [] })
      l.foldl (fun (s : State) r => s.writeRecord r now) s
  s.hcx (fun H => H.submitAll.showArc)

/-- The staging area's fill. -/
def Archive.stagedLen (a : Archive) : Nat := ((a.staged ++ a.writing).map (·.bytes.length)).sum

/-- A record of a lane reaches the staging area, or is discarded where that is full (R340, R342). -/
def State.stageRecord (s : State) (r : ArcRec) (now : Int) : State :=
  if 2 ^ 31 < s.host.arc.stagedLen + r.bytes.length then
    (s.hcx (fun H => H.setFlag .HCX_ARC_STAT 29 true)).arcDrop r now
  else (s.hcx (fun H => (H.setArc { H.arc with staged := H.arc.staged ++ [r] }).setFlag .HCX_ARC_STAT 29 false)).arcRun now

/-- The archive changes state; HCX_ARC_STAT keeps the NVMe status of the last failure (R342). -/
def State.setArcState (s : State) (st : Nat) (status : Option Nat) (now : Int) : State :=
  (s.hcx (fun H =>
    let H := H.setFld .HCX_ARC_STAT 31 30 st
    match status with
    | some n => H.setFld .HCX_ARC_STAT 15 0 n
    | none => H)).raiseHost 5 0x01 now (leBytes 1 st ++ leBytes 1 0 ++ leBytes 2 (status.getD 0))

/-- A host-complex command completes. -/
def Hcx.finish (H : Hcx) (id : CmdId) (status : Nat) (result : List Byte := []) : Hcx :=
  { H with done := H.done ++ [⟨id, status, result⟩] }

/-- Functions' archive commands in progress end with a status. -/
def Hcx.endJobs (H : Hcx) (status : Nat) (result : List Byte) : Hcx :=
  let ids := H.arc.jobs.vals.map (·.id) ++ H.arc.recover.toList
  ids.foldl (fun (H : Hcx) i => H.finish i status result) (H.setArc { H.arc with jobs := ⟨[]⟩, recover := none })

/-- The archive fails: no further submissions (R342). -/
def State.arcFail (s : State) (status : Nat) (now : Int) : State :=
  let s := s.hcx (fun H => (H.endJobs 0x0104 (leBytes 2 status)).setArc
    { (H.endJobs 0x0104 []).arc with todo := [], retry := [], out := ⟨[]⟩ })
  s.setArcState aFault (some status) now

/-- The last block of a record is written and flushed: its extents are CLOSED (R340). -/
def Hcx.closeRecord (H : Hcx) (r : ArcRec) : Hcx :=
  let blocks := ceilDiv r.bytes.length 4088
  let a := r.exts.zipIdx.foldl (fun (a : Archive) (e : Nat × Nat) =>
    match a.cat.get? e.1 with
    | some x => a.setEntry e.1 (some { x with state := eClosed, trunc := r.trunc, fill := min 256 (blocks - e.2 * 256) })
    | none => a) H.arc
  H.setArc { a with writing := a.writing.filter (fun x => x.id != r.id) }

/-- One NVMe command has succeeded. -/
def State.nvmeOk (s : State) (c : NvmeCmd) (data : List Byte) (now : Int) : State :=
  match c.why with
  | .data id =>
    match s.host.arc.writing.find? (fun r => r.id == id) with
    | none => s
    | some r =>
      let r := { r with left := r.left - 1 }
      let s := s.hcx (fun H => H.setWriting r)
      if r.left = 0 then s.growRecord r now else s
  | .flush id =>
    match s.host.arc.writing.find? (fun r => r.id == id) with
    | some r => s.hcx (fun H => H.closeRecord r)
    | none => s
  | .page _ => s
  | .recover => s
  | .host j =>
    match s.host.arc.jobs.get? j with
    | none => s
    | some x =>
      let s := if c.op = 2 then s.hcx (fun H => H.emit (.write x.id.fn (x.addr + (c.off - x.base)) (data.take c.len))) else s
      if 1 < x.left then s.hcx (fun H => H.setArc { H.arc with jobs := H.arc.jobs.put j { x with left := x.left - 1 } })
      else
        s.hcx (fun H =>
          let H := (H.setArc { H.arc with jobs := H.arc.jobs.del j }).finish x.id 0
          if H.arcState = aDetached then
            H.setArc { Archive.fresh with staged := H.arc.staged, nextCid := H.arc.nextCid, nextJob := H.arc.nextJob } else H)

/-- A completion has been taken from the completion queue in BAR2, and the head doorbell is rung (R337).
[log 161 DESIGN CHOICE] -/
def Hcx.tookCqe (H : Hcx) : Hcx :=
  match H.arc.attach with
  | none => H
  | some r =>
    let head := (H.arc.cqHead + 1) % r.cqN
    (H.setArc { H.arc with cqHead := head }).emit (.peer r.cqDb head)

/-- NVME_COMPLETION: success; an error once, which is tried again; or an error of the retry, which is a FAULT (R342). -/
def State.nvmeCompletion (cid status : Nat) (data : List Byte) (now : Int) (s : State) : State :=
  match s.host.arc.out.get? cid with
  | none => s
  | some (c, again) =>
    let s := s.hcx (fun H => (H.setArc { H.arc with out := H.arc.out.del cid }).tookCqe)
    if status = 0 then (s.nvmeOk c data now).arcRun now
    else if again then s.arcFail status now
    else (s.hcx (fun H => H.setArc { H.arc with retry := H.arc.retry ++ [c] })).arcRun now

/-- NVME_OVERDUE: a completion is overdue by 1 s (R342). [log 108 DESIGN CHOICE] -/
def State.nvmeOverdue (cid : Nat) (now : Int) (s : State) : State :=
  if (s.host.arc.out.get? cid).isNone then s else s.arcFail 0 now

/-! ### The catalogue on the namespace (R338, R340) -/

/-- An entry's 16 octets. -/
def entryBytes (x : Option ArcEntry) : List Byte :=
  match x with
  | none => List.replicate 16 0#8
  | some e => leBytes 6 e.seq ++ leBytes 1 (e.state % 4 * 64 + e.fn % 64) ++ leBytes 1 (e.src % 8 + bnat e.trunc * 8) ++
      leBytes 6 e.recId ++ leBytes 2 (e.fill % 512)

/-- An extent's entry as it reads: extents 0 to C are PINNED and no function's. -/
def Hcx.entryOf (H : Hcx) (ext : Nat) : Option ArcEntry :=
  if ext ≤ catalogueExt H.extents then some ⟨0, ePinned, 0, 0, false, 0, 0⟩ else H.arc.cat.get? ext

/-- A page's 4,096 octets with its trailer, of the entries that `f` gives. -/
def pageOf (f : Nat → Option ArcEntry) (n seq : Nat) : List Byte :=
  let b := (List.range 255).flatMap (fun i => entryBytes (f (n * 255 + i))) ++ leBytes 8 seq ++ leBytes 4 n
  b ++ leBytes 4 (crc32 b)

/-- Where a slot of a page lies on the namespace (R338). -/
def slotOff (n : Nat) (slot : Bool) : Nat := 2 ^ 20 + n * 8192 + bnat slot * 4096

/-- A page is written, FUA, to the slot that does not hold its newest copy (R338). -/
def Hcx.commitPage (H : Hcx) (n : Nat) : Hcx :=
  let a := H.arc
  let newest := a.pageSeq.getD n (0, false)
  let seq := newest.1 + 1
  let c : NvmeCmd := ⟨1, slotOff n (!newest.2), 4096, true, pageOf H.entryOf n seq, .page n⟩
  H.setArc { a with dirty := a.dirty.filter (fun x => x != n), pageSeq := a.pageSeq.put n (seq, !newest.2), todo := a.todo ++ [c] }

/-- CATALOGUE_COMMIT: an uncommitted page is written, with those that go in one commit with it (R340, R341). -/
def State.catalogueCommit (n : Nat) (now : Int) (s : State) : State :=
  if s.host.arcState != aAttached || !s.host.linkUp || !s.host.arc.dirty.contains n then s
  else
    let l := s.host.arc.commitOf n
    let s := s.hcx (fun H =>
      let H := l.foldl Hcx.commitPage H
      H.setArc { H.arc with tied := H.arc.tied.filter (fun g => !g.contains n) })
    s.arcRun now

/-- The sequence of a page slot whose trailer holds: its page number and its CRC-32 (R338). -/
def slotSeq (n : Nat) (b : List Byte) : Option Nat :=
  if b.length = 4096 ∧ leAt b 4088 4 = n ∧ leAt b 4092 4 = crc32 (b.take 4092) then some (leAt b 4080 8) else none

/-- The copy of a page that stands: the slot with the valid CRC and the greater sequence (R338). -/
def standing (x : ArcRead) (n : Nat) : Option (Nat × Bool × List Byte) :=
  (x.pages.filter (fun p => p.1 == n)).foldl (fun (best : Option (Nat × Bool × List Byte)) p =>
    match slotSeq n p.2.2 with
    | none => best
    | some q => if best.any (fun b => decide (q ≤ b.1)) then best else some (q, p.2)) none

/-- The entry that 16 octets spell; none where they spell FREE. -/
def entryAt (b : List Byte) (off : Nat) : Option ArcEntry :=
  let k := leAt b (off + 6) 1
  let m := leAt b (off + 7) 1
  if k / 64 = 0 then none
  else some ⟨leAt b off 6, k / 64, k % 64, m % 8, decide (m / 8 % 2 = 1), leAt b (off + 8) 6, leAt b (off + 14) 2 % 512⟩

/-- The fill that the scan of an OPEN extent finds: through its last block whose ID and CRC-32 are valid (R339, R342). -/
def scanFill (x : ArcRead) (ext recId : Nat) : Nat :=
  let blocks := ((x.blocks.find? (fun b => b.1 == ext)).map (·.2)).getD []
  blocks.zipIdx.foldl (fun m (b : List Byte × Nat) =>
    if b.1.length = 4096 ∧ leAt b.1 4088 4 = recId % 2 ^ 32 ∧ leAt b.1 4092 4 = crc32 (b.1.take 4092) then b.2 + 1 else m) 0

/-- RECOVERY_COMPLETE: header and catalogue have been read, OPEN extents scanned; a page no copy of which stands makes the
catalogue invalid (R338, R342). [log 108 DESIGN CHOICE] -/
def State.recoveryComplete (hdrOk : Bool) (e : Nat) (x : ArcRead) (now : Int) (s : State) : State :=
  match s.host.arc.recover with
  | none => s
  | some id =>
    let s := s.hcx (fun H => H.setArc { H.arc with recover := none })
    let pages := (List.range (ceilDiv s.host.extents 255)).map (fun n => (n, standing x n))
    if !hdrOk || e != s.host.extents || pages.any (fun p => p.2.isNone) then
      (s.hcx (fun H => H.finish id 0x0103)).setArcState aFault none now
    else
      let lo := catalogueExt s.host.extents
      let found := pages.flatMap (fun p => match p.2 with
        | none => []
        | some c => (List.range 255).filterMap (fun i => (entryAt c.2.2 (i * 16)).map (fun y => (p.1 * 255 + i, y))))
      let found := found.filter (fun c => decide (lo < c.1 ∧ c.1 < s.host.extents))
      let s := s.hcx (fun H =>
        let a : Archive := { H.arc with cat := ⟨[]⟩, dirty := [], tied := [],
                                        pageSeq := pages.foldl (fun (m : NMap (Nat × Bool)) p => match p.2 with
                                          | some c => m.put p.1 (c.1, c.2.1)
                                          | none => m) ⟨[]⟩ }
        let a := found.foldl (fun (a : Archive) c =>
          if c.2.state = eOpen then
            a.setEntry c.1 (some { c.2 with state := eClosed, trunc := true, fill := scanFill x c.1 c.2.recId })
          else { a with cat := a.cat.put c.1 c.2 }) a
        let top := found.foldl (fun m c => max m c.2.seq) 0
        (H.setArc { a with nextSeq := (top + 1) % 2 ^ 48 }).finish id 0 (leBytes 8 H.extents))
      (s.setArcState aAttached none now).arcRun now

/-! ### ARCHIVE operations (R343) -/

/-- An attach record is valid. -/
def attachOk (r : AttachRec) : Bool :=
  (r.lbs == 9 || r.lbs == 12) && decide (2 ≤ r.sqN ∧ r.sqN ≤ 1024 ∧ 2 ≤ r.cqN ∧ r.cqN ≤ 1024 ∧ r.sqN ≤ r.cqN ∧ 16 ≤ r.mdts ∧ r.size ≤ 2 ^ 48) &&
  r.resvOk

/-- ATTACH: header and catalogue are read (R342). -/
def State.arcAttach (s : State) (id : CmdId) (r : AttachRec) (now : Int) : State :=
  if s.host.arcState != aDetached || s.host.arc.attach.isSome then s.hcx (fun H => H.finish id 0x0006)
  else if !attachOk r then s.hcx (fun H => H.finish id 0x000D)
  else
    let c := catalogueExt (extentsOf r.size)
    let reads := nvmeCut 2 false .recover (r.mdts * 4096) (c * 256 + 1) (2 ^ 20) (c * 2 ^ 20) []
    let s := s.hcx (fun H => (H.setArc { H.arc with attach := some r, recover := some id, sqTail := 0, cqHead := 0,
                                                    todo := ⟨2, 0, 4096, false, [], .recover⟩ :: reads }).setReg .HCX_ARC_EXT
      (w32 (extentsOf r.size)))
    (s.setArcState aRecovering none now).hcx Hcx.submitAll

/-- The archive lets go of the namespace: records being written and commands in progress end. -/
def State.arcRelease (s : State) (status : Nat) (now : Int) : State :=
  let lost := s.host.arc.writing
  let s := s.hcx (fun H =>
    let H := H.endJobs status []
    H.setArc { Archive.fresh with staged := H.arc.staged, nextCid := H.arc.nextCid, nextJob := H.arc.nextJob })
  lost.foldl (fun (s : State) r => s.arcDrop r now) s

/-- DETACH. [log 108 DESIGN CHOICE] -/
def State.arcDetach (s : State) (id : CmdId) (now : Int) : State :=
  let s := s.arcRelease 0x0101 now
  let s := if s.host.arcState = aDetached then s else s.setArcState aDetached none now
  s.hcx (fun H => (H.finish id 0).showArc)

/-- What FORMAT writes: each page of an empty catalogue with sequence 1 in one slot and no valid copy in the other, then the
header (R338, R342). -/
def formatCmds (r : AttachRec) (j : Nat) : List NvmeCmd :=
  let e := extentsOf r.size
  let own := fun x => if x ≤ catalogueExt e then some (⟨0, ePinned, 0, 0, false, 0, 0⟩ : ArcEntry) else none
  (List.range (ceilDiv e 255)).map (fun n =>
    ⟨1, slotOff n false, 8192, true, List.replicate 4096 0#8 ++ pageOf own n 1, .host j⟩) ++
  [⟨1, 0, 4096, true, Config.arcHeader e, .host j⟩]

/-- FORMAT: a new header and an empty catalogue, by NVMe writes. [log 108 DESIGN CHOICE] -/
def State.arcFormat (s : State) (id : CmdId) (r : AttachRec) (now : Int) : State :=
  if s.host.arcState != aDetached || s.host.arc.attach.isSome then s.hcx (fun H => H.finish id 0x0006)
  else if !attachOk r then s.hcx (fun H => H.finish id 0x000D)
  else
    let j := s.host.arc.nextJob
    let cmds := formatCmds r j
    let s := s.hcx (fun H => H.setArc { H.arc with
      attach := some r, sqTail := 0, cqHead := 0, nextJob := j + 1, jobs := H.arc.jobs.put j ⟨id, cmds.length, 0, 0⟩,
      todo := H.arc.todo ++ cmds })
    s.arcRun now

/-- The extents that an interval of octets touches. -/
def extentRange (off len : Nat) : List Nat := (List.range ((off + len - 1) / 2 ^ 20 - off / 2 ^ 20 + 1)).map (fun i => off / 2 ^ 20 + i)

/-- A function may act on an extent: PF0 on any that is not the archive's own, a VF on its own. -/
def Hcx.ownsExtent (H : Hcx) (fn ext : Nat) : Bool :=
  decide (catalogueExt H.extents < ext ∧ ext < H.extents) && (fn = 0 || (H.arc.cat.get? ext).any (fun x => x.fn == fn))

/-- The status of READ and WRITE before any access, 0 where they go on. -/
def Hcx.accessStatus (H : Hcx) (fn off len : Nat) (write : Bool) : Nat :=
  if H.arcState != aAttached then 0x0101
  else if len = 0 || decide (H.extents * 2 ^ 20 < off + len) || (write && (off % 4096 != 0 || len % 4096 != 0)) then 0x000D
  else
    let l := extentRange off len
    if write then
      if !l.all (fun e => (H.arc.cat.get? e).any (fun x => x.fn == fn)) then 0x0105
      else if !l.all (fun e => (H.arc.cat.get? e).any (fun x => x.state == eOpen)) then 0x0106 else 0
    else if fn != 0 && !l.all (fun e => H.ownsExtent fn e) then 0x0105 else 0

/-- READ and WRITE. -/
def State.arcAccess (s : State) (id : CmdId) (op off len addr : Nat) (bytes : List Byte) (now : Int) : State :=
  let st := s.host.accessStatus id.fn off len (op == 1)
  if st != 0 then s.hcx (fun H => H.finish id st)
  else
    let s := s.hcx (fun H =>
      let j := H.arc.nextJob
      let m := ((H.arc.attach.map (·.mdts)).getD 16) * 4096
      let cmds := nvmeCut op false (.host j) m (ceilDiv len m) off len bytes
      let a := if op = 1 then
          (extentRange off len).foldl (fun (a : Archive) e => match a.cat.get? e with
            | some x => a.setEntry e (some { x with src := 4, fill := max x.fill (min 256 ((off + len - e * 2 ^ 20) / 4096)) })
            | none => a) H.arc
        else H.arc
      H.setArc { a with nextJob := j + 1, jobs := a.jobs.put j ⟨id, cmds.length, addr, off⟩, todo := a.todo ++ cmds })
    s.arcRun now

/-- ALLOC. [log 108 DESIGN CHOICE] -/
def State.arcAlloc (s : State) (id : CmdId) (now : Int) : State :=
  if s.host.arcState != aAttached then s.hcx (fun H => H.finish id 0x0101)
  else match s.host.allocExtent id.fn 4 0 with
    | (H, none) => s.hcx (fun _ => H.finish id 0x0102)
    | (H, some k) => (s.hcx (fun _ => H.finish id 0 (leBytes 8 k))).arcRun now

/-- CLOSE 7, PIN 8, UNPIN 9, FREE 10: the states an extent may be in, and the state it comes to, none for FREE.
[log 108 DESIGN CHOICE] -/
def extentMove : Nat → List Nat × Option Nat
  | 7 => ([eOpen], some eClosed)
  | 8 => ([eClosed], some ePinned)
  | 9 => ([ePinned], some eClosed)
  | _ => ([eOpen, eClosed], none)

/-- CLOSE, PIN, UNPIN, FREE. -/
def State.arcMove (s : State) (id : CmdId) (op ext : Nat) (now : Int) : State :=
  let H := s.host
  if H.arcState != aAttached then s.hcx (fun H => H.finish id 0x0101)
  else if H.extents ≤ ext then s.hcx (fun H => H.finish id 0x000D)
  else if !H.ownsExtent id.fn ext then s.hcx (fun H => H.finish id 0x0105)
  else match H.arc.cat.get? ext with
    | none => s.hcx (fun H => H.finish id 0x0106)
    | some x =>
      if !(extentMove op).1.contains x.state || H.arc.writing.any (fun r => r.exts.contains ext) then
        s.hcx (fun H => H.finish id 0x0106)
      else
        let y := (extentMove op).2.map (fun st => { x with state := st })
        (s.hcx (fun H => (H.setArc (H.arc.setEntry ext y)).finish id 0)).arcRun now

/-- LIST: the entries of consecutive extents from the first on; those that a VF does not own read as FREE.
[log 108 DESIGN CHOICE] -/
def State.arcList (s : State) (id : CmdId) (first room addr : Nat) : State :=
  let H := s.host
  if H.arcState != aAttached then s.hcx (fun H => H.finish id 0x0101)
  else if H.extents ≤ first then s.hcx (fun H => H.finish id 0x000D)
  else
    let n := min room (H.extents - first)
    let bytes := (List.range n).flatMap (fun i =>
      let e := H.entryOf (first + i)
      entryBytes (if id.fn = 0 || H.ownsExtent id.fn (first + i) then e else none))
    s.hcx (fun H => (H.emit (.write id.fn addr bytes)).finish id 0 (leBytes 4 n))

/-! ### Ends of captures, occurrences and books (R329, R335, R344 to R349, R395) -/

/-- CAPTURE_END: a finished capture gets the module's next record ID and leaves the engine; what the output buffer
holds for the host complex is handed over while the lane link is open (R334, R335). -/
def State.captureEnd (l : LaneId) (d : Nat) (s : State) : State :=
  let now : Int := ((s.lane l).refEdge : Nat)
  let id := (s.host.reg .HCX_ARC_RECID_HI).toNat * 2 ^ 32 + (s.host.reg .HCX_ARC_RECID_LO).toNat
  let s :=
    if !(s.lane l).acq.caps.any (fun x => x.d == d && x.whole) then s
    else
      let next := (id + 1) % 2 ^ 48
      let s := s.mapLane l (fun L => L.capFinish l.num id d)
      s.hcx (fun H => (H.setReg .HCX_ARC_RECID_LO (w32 next)).setReg .HCX_ARC_RECID_HI (w32 (next / 2 ^ 32)))
  if s.fenced l then s else
  let go := (s.lane l).acq.out.filter (·.host)
  let s := s.mapLane l (fun L => { L with acq := { L.acq with
    out := L.acq.out.filterMap (fun r => if r.net.isSome then some { r with host := false } else if r.host then none else some r) } })
  go.foldl (fun (s : State) r => s.stageRecord ⟨r.id, l.num, bit (w32 (leAt r.bytes 4 4)) 7, r.bytes, [], 0⟩ now) s

/-- The oldest occurrence of the host complex is booked; a safety-class entry goes to NOR at once (R344, R395). -/
def Hcx.bookNext (H : Hcx) : Hcx :=
  match H.occ with
  | [] => H
  | (o, l) :: rest =>
    let r := H.book.enter 1024 3072 o.src o
    let nor := { H.nor with safe := r.book.safe, next := r.book.next }
    { H with occ := rest, book := r.book, nor := if o.safe then nor else H.nor,
             placed := H.placed ++ (r.place.map (fun n => (o, l, n))).toList }

/-- FIELD_BOOK_OCCURRENCE: the oldest occurrence of a lane, once its book has been restored, or of the host complex, is
booked (R344 to R347). [log 32 DEDUCED] -/
def State.bookOccurrence (book : Option LaneId) (s : State) : State :=
  match book with
  | none => s.hcx Hcx.bookNext
  | some l => s.mapLane l (fun L => L.bookNext l.srcBase)

/-- GENERAL_CLASS_NOR_SAVE: every 60 s the general class of the host complex's book is written to NOR (R395). -/
def Hcx.norSave (H : Hcx) : Hcx := { H with nor := { H.nor with gen := H.book.gen, next := H.book.next } }

/-- FIELDBOOK READ of a book: the entries whose sources `own` accepts, from a number on, at most `n`. -/
def bookRead (b : Book) (own : Nat → Bool) (from_ n : Nat) : List Byte :=
  (((b.since from_).filter (fun e => own e.src)).take (min n 4096)).flatMap (·.bytes)

end Sys2Proof.Machine
end

