-- ==== Sys2Proof/Machine/Firmware.lean ====
section
/-! DEFINITION. Flash banks, boot selection and staging (R405 to R417), and the key stores and their lifecycle (R421 to
R426). -/

namespace Sys2Proof.Machine

open Sys2Proof

/-! ### Markers and banks (R409 to R413) -/

/-- A disqualifying marker counts as set when any of its bits is 0. -/
def markBad (w : Word) : Bool := w != markErased

/-- A qualifying marker counts as set only when every bit is 0. -/
def markGood (w : Word) : Bool := w == markSet

/-- The ATTEMPT words set. -/
def fwAttempts (h : FwHeader) : Nat := bnat (markBad h.att0) + bnat (markBad h.att1) + bnat (markBad h.att2)

/-- MAGIC and HCRC are right (R410, R412). -/
def fwHeaderOk (h : FwHeader) : Bool := h.magic == fwMagic && h.hcrc == fwCrc h

/-- A bank is eligible but for the trial rule (R412). -/
def fwBootable (kind svn : Nat) (h : FwHeader) : Bool :=
  fwHeaderOk h && h.kind == kind && markGood h.commit && !markBad h.eip && !markBad h.retire && decide (svn ≤ h.svn) &&
  h.sigOk && h.bodyOk

/-- A trial bank whose three attempts are used without CONFIRM (R413). -/
def fwExhausted (h : FwHeader) : Bool := !markGood h.confirm && fwAttempts h == 3

/-- A bank is eligible (R412). -/
def fwEligible (kind svn : Nat) (h : FwHeader) : Bool := fwBootable kind svn h && !fwExhausted h

/-- A bank by its number. -/
def Flash.bank (F : Flash) (b : Nat) : FwHeader := if b = 0 then F.bank0 else F.bank1

/-- Flash with a bank replaced. -/
def Flash.setBank (F : Flash) (b : Nat) (h : FwHeader) : Flash := if b = 0 then { F with bank0 := h } else { F with bank1 := h }

/-- The bank that the running image did not come from (R414). [log 122 DEDUCED] -/
def Flash.otherBank (F : Flash) : Nat := 1 - F.run.getD 0

/-- The lowest ATTEMPT word that is clear, set. -/
def fwTry (h : FwHeader) : FwHeader :=
  if markGood h.confirm then h
  else if !markBad h.att0 then { h with att0 := markSet }
  else if !markBad h.att1 then { h with att1 := markSet }
  else { h with att2 := markSet }

/-- The boot ROM's choice: the eligible bank of greater SEQ, started with its attempt marked; and whether the other
bank would have been chosen but for its failed trial (R412, R413). -/
def Flash.boot (F : Flash) (kind : Nat) : Flash × Bool :=
  let ok := fun b => fwEligible kind F.fuseSvn (F.bank b)
  let pick : Option Nat :=
    if ok 1 && (!ok 0 || decide (F.bank0.seq < F.bank1.seq)) then some 1 else if ok 0 then some 0 else none
  match pick with
  | none => ({ F with run := none, staged := none, job := none }, false)
  | some b =>
    let o := F.bank (1 - b)
    let back := fwBootable kind F.fuseSvn o && fwExhausted o && decide ((F.bank b).seq < o.seq)
    let h := fwTry (F.bank b)
    ({ F.setBank b h with run := some b, running := h, staged := none, job := none }, back)

/-- Firmware sets CONFIRM at its point of success (R413). -/
def Flash.confirm (F : Flash) : Flash :=
  match F.run with
  | none => F
  | some b =>
    let h := { F.bank b with confirm := markSet }
    { F.setBank b h with running := h }

/-- The running image has been confirmed. -/
def Flash.confirmed (F : Flash) : Bool := F.run.any (fun b => markGood (F.bank b).confirm)

/-- A bank's register, as LCT_FW_BANK and HCX_FW_BANK show it. -/
def Flash.bankWord (F : Flash) (kind b : Nat) : Word :=
  let h := F.bank b
  let verified := F.staged == some b || F.run == some b
  w32 (bnat (fwEligible kind F.fuseSvn h) * 2 ^ 31 + bnat (markBad h.eip) * 2 ^ 30 + bnat (markGood h.commit) * 2 ^ 29 +
    bnat (markGood h.confirm) * 2 ^ 28 + fwAttempts h * 2 ^ 26 + bnat (markBad h.retire) * 2 ^ 25 + bnat verified * 2 ^ 24 +
    h.seq % 2 ^ 24)

/-- What LCT_FW_STAT and HCX_FW_STAT show beside FALLBACK, GEN and SGEN_BAD. -/
def Flash.statWord (F : Flash) (w : Word) : Word :=
  let w := putBits (putBits w 31 31 (F.run.getD 0)) 29 29 (bnat F.job.isSome)
  let w := putBits w 28 28 (bnat (F.job.any (·.susp)))
  putBits (putBits w 15 8 F.running.genHi) 7 0 F.running.genLo

/-- A lane's firmware registers follow its flash. -/
def Lane.showFw (L : Lane) : Lane :=
  let L := (L.setReg .LCT_FW_STAT (L.flash.statWord (L.reg .LCT_FW_STAT))).setReg .LCT_FW_BUILD (w32 L.flash.running.build)
  (L.setReg .LCT_FW_BANK (L.flash.bankWord 2 0) 0).setReg .LCT_FW_BANK (L.flash.bankWord 2 1) 1

/-- The host complex's firmware registers follow its flash. -/
def Hcx.showFw (H : Hcx) : Hcx :=
  let H := H.setReg .HCX_FW_STAT (H.flash.statWord (H.reg .HCX_FW_STAT))
  (H.setReg .HCX_FW_BANK (H.flash.bankWord 1 0) 0).setReg .HCX_FW_BANK (H.flash.bankWord 1 1) 1

/-- The lane's flash is replaced. -/
def Lane.setFlash (L : Lane) (F : Flash) : Lane := ({ L with flash := F } : Lane).showFw

/-- The host complex's flash is replaced. -/
def Hcx.setFlash (H : Hcx) (F : Flash) : Hcx := ({ H with flash := F } : Hcx).showFw

/-! ### STAGE, ACTIVATE, RAISE_SVN (R414, R415, R417) -/

/-- A header whose sector reads erased. -/
def fwBlank (h : FwHeader) : FwHeader :=
  { h with magic := 0xFFFFFFFF, sigOk := false, bodyOk := false, seq := 0, eip := markErased, commit := markErased,
           confirm := markErased, att0 := markErased, att1 := markErased, att2 := markErased, retire := markErased }

/-- The header of a STAGE as it is programmed: without markers, with the other bank's SEQ + 1 and the HCRC over it. -/
def fwProgram (h : FwHeader) (seq : Nat) (body : Bool) : FwHeader :=
  { h with seq := seq, hcrc := fwCrc { h with seq := seq }, bodyOk := body && h.bodyOk, eip := markErased, commit := markErased, confirm := markErased,
           att0 := markErased, att1 := markErased, att2 := markErased, retire := markErased }

/-- One step of R414 on the bank that a STAGE writes. [log 121 DEDUCED] -/
def Flash.stageStep (F : Flash) (j : StageJob) (step : Nat) : Flash :=
  let h := F.bank j.bank
  match step with
  | 1 => F.setBank j.bank { h with eip := markSet }
  | 2 => F.setBank j.bank { h with bodyOk := false }
  | 3 => F.setBank j.bank (fwBlank h)
  | 5 => F.setBank j.bank (fwProgram j.hdr ((F.bank (1 - j.bank)).seq + 1) true)
  | _ => F

/-- A STAGE runs on to the step at which it is still, or to its end. [log 121 DEDUCED] -/
def Flash.stageRun (F : Flash) (j : StageJob) (last : Nat) : Flash :=
  (List.range 7).foldl (fun (F : Flash) k => if j.step < k ∧ k ≤ last then F.stageStep j k else F) F

/-- Step 6 of R414 holds: the header as it reads back, the kind, SIG and DIGEST. -/
def fwVerified (kind : Nat) (h : FwHeader) : Bool := fwHeaderOk h && h.kind == kind && h.sigOk && h.bodyOk

/-- What a STAGE comes to: the status with which it completes, none while it is still in progress. -/
structure StageOut where
  flash  : Flash
  status : Option Nat
  deriving DecidableEq, Repr

/-- STAGE on a part (R414, R417): `genOk` is whether the image's windows take in the other parts' generations. A STAGE
sent again with the function and TAG of the one in progress goes on with that one. [log 121 DEDUCED] -/
def Flash.stage (F : Flash) (kind : Nat) (id : CmdId) (h : FwHeader) (halt : Option Nat) (genOk : Bool) : StageOut :=
  let goOn : Option (Flash × StageJob) :=
    match F.job with
    | none =>
      if !genOk || h.svn < F.fuseSvn then none
      else some ({ F with staged := none }, ⟨id, F.otherBank, 0, h, false, false⟩)
    | some j => if j.id.fn = id.fn ∧ j.id.tag = id.tag then some (F, j) else none
  match goOn with
  | none => ⟨F, some (if F.job.isSome then 0x0205 else if !genOk then 0x0202 else 0x0203)⟩
  | some (F, j) =>
    if j.susp then ⟨F, none⟩
    else match halt with
      | some k =>
        let k := min k 5
        ⟨{ F.stageRun j k with job := some { j with step := max j.step k, erasing := k == 1 || k == 2 } }, none⟩
      | none =>
        let G := F.stageRun j 6
        let ok := fwVerified kind (G.bank j.bank)
        ⟨{ G with job := none, staged := if ok then some j.bank else none }, some (if ok then 0 else 0x0010)⟩

/-- ACTIVATE (R417). -/
def Flash.activate (F : Flash) : Option Flash :=
  F.staged.map (fun b => F.setBank b { F.bank b with commit := markSet })

/-- RAISE_SVN (R417). -/
def Flash.raiseSvn (F : Flash) (kind : Nat) : Option Flash :=
  let o := F.bank F.otherBank
  if F.run.isSome && F.confirmed && fwEligible kind F.fuseSvn o && decide (F.running.svn ≤ o.svn) then
    some { F with fuseSvn := max F.fuseSvn F.running.svn }
  else none

/-- An erase in progress is suspended (R415). -/
def Flash.suspend (F : Flash) : Option Flash :=
  match F.job with
  | some j => if j.erasing && !j.susp then some { F with job := some { j with susp := true } } else none
  | none => none

/-- A suspended erase goes on (R415). -/
def Flash.resume (F : Flash) : Option Flash :=
  match F.job with
  | some j => if j.susp then some { F with job := some { j with susp := false } } else none
  | none => none

/-! ### Key cells and slots (R421, R424, R425) -/

/-- A key stored under a mask. -/
def keyCell (id alg : Nat) (key mask : BitVec 256) : KeyCell := ⟨id, alg, key ^^^ mask, mask, 0, 0, false⟩

/-- A key under a fresh mask: the new pair in the alternate copy, then in use (R425). -/
def KeyCell.remask (c : KeyCell) (mask : BitVec 256) : KeyCell :=
  if c.alt then { c with s1 := c.t1 ^^^ c.t2 ^^^ mask, s2 := mask, alt := false }
  else { c with t1 := c.s1 ^^^ c.s2 ^^^ mask, t2 := mask, alt := true }

/-- A slot with a position replaced. -/
def KeySlot.put (k : KeySlot) (next : Bool) (c : Option KeyCell) : KeySlot :=
  if next then { k with next := c } else { k with cur := c }

/-- A position of a slot. -/
def KeySlot.pos (k : KeySlot) (next : Bool) : Option KeyCell := if next then k.next else k.cur

/-- The lane with a key slot replaced. -/
def Lane.setKeySlot (L : Lane) (slot : Nat) (k : KeySlot) : Lane :=
  { L with keys := { L.keys with slots := if k.cur.isNone ∧ k.next.isNone then L.keys.slots.del slot else L.keys.slots.put slot k } }

/-- The lifecycle state that a store stands for: 0 BLANK, 1 PROVISIONED, 2 OWNED, 3 SERVICE, 4 RETIRED (R421, R426).
[log 124 DESIGN CHOICE] -/
def KeyStore.lifecycle (K : KeyStore) : Nat :=
  if !K.root then 4 else if K.nonce.isSome then 3 else if K.owner.isSome then 2 else if K.test then 0 else 1

/-- KEY_STAT: lifecycle, packages held for another measurement, slots with CUR valid. -/
def Lane.keyStat (L : Lane) : Word :=
  let n := (L.keys.slots.vals.filter (fun k => k.cur.isSome)).length
  w32 (L.keys.lifecycle * 2 ^ 29 + bnat (L.keys.recs.any (fun r => r.meas != L.flash.running.digest)) * 2 ^ 28 + min n 256)

/-- KEY_SLOT_STAT of a slot. -/
def Lane.slotKeyStat (L : Lane) (slot : Nat) : Word :=
  let k := L.keySlot slot
  let alg := fun (c : Option KeyCell) => (c.map (·.alg)).getD 0 % 4
  w32 (bnat k.cur.isSome * 2 ^ 31 + bnat k.next.isSome * 2 ^ 30 + alg k.cur * 2 ^ 28 + alg k.next * 2 ^ 26)

/-- A wrapped record is stored in place of one of the same measurement, slot and position. -/
def KeyStore.putRec (K : KeyStore) (r : KeyRec) : KeyStore :=
  { K with recs := K.recs.filter (fun x => !(x.meas == r.meas && x.slot == r.slot && x.next == r.next)) ++ [r] }

/-- The measurement of the verified image in the other bank, if there is one (R423). -/
def Lane.nextMeas (L : Lane) : Option Nat :=
  let h := L.flash.bank L.flash.otherBank
  if fwEligible 2 L.flash.fuseSvn h then some h.digest else none

/-- KEY PUT (R423): status and lane. Before OWNED no owner root verifies a signature; outside SERVICE there is no XPORT
key to unwrap with. [log 123 DEDUCED] -/
def Lane.keyPut (k : KeyPkg) (L : Lane) : Nat × Lane :=
  if 256 ≤ k.slot then (0x020A, L)
  else if L.keys.owner.isNone || !k.sigOk then (0x0207, L.bump .KEY_UNWRAP_ERR)
  else if L.keys.lifecycle != 3 || !k.wrapOk || (k.nextImg && L.nextMeas.isNone) then (0x0208, L.bump .KEY_UNWRAP_ERR)
  else
    let meas := if k.nextImg then L.nextMeas.getD 0 else L.flash.running.digest
    let L := { L with keys := L.keys.putRec ⟨meas, k.slot, k.next, k.keyId, k.alg, k.key⟩ }
    if k.nextImg then (0, L)
    else
      let m := L.fresh1
      (0, m.2.setKeySlot k.slot ((L.keySlot k.slot).put k.next (some (keyCell k.keyId k.alg k.key (Config.keyMask m.1)))))

/-- ROLL of one slot: NEXT becomes CUR and the old CUR is destroyed (R423). -/
def Lane.rollSlot (L : Lane) (slot : Nat) (now : Int) : Lane :=
  let meas := L.flash.running.digest
  let hit := fun (x : KeyRec) => x.meas == meas && x.slot == slot
  let recs := (L.keys.recs.filter (fun x => !(hit x && !x.next))).map (fun x => if hit x then { x with next := false } else x)
  let L := L.setKeySlot slot ⟨(L.keySlot slot).next, none⟩
  ({ L with keys := { L.keys with recs := recs } } : Lane).raise 11 0x01 now (leBytes 1 slot ++ leBytes 1 3)

/-- DROP of one slot's position (R423). -/
def Lane.dropSlot (L : Lane) (slot : Nat) (next : Bool) (now : Int) : Lane :=
  let meas := L.flash.running.digest
  let recs := L.keys.recs.filter (fun x => !(x.meas == meas && x.slot == slot && x.next == next))
  let L := L.setKeySlot slot ((L.keySlot slot).put next none)
  ({ L with keys := { L.keys with recs := recs } } : Lane).raise 11 0x01 now (leBytes 1 slot ++ leBytes 1 4)

/-- KEY ROLL or DROP at its apply edge; a named position that is empty, or a slot out of range, gives KSLOT.
[log 123 DEDUCED] -/
def Lane.keyRoll (id : CmdId) (slots : List Nat) (L : Lane) : Lane :=
  if slots.any (fun i => decide (256 ≤ i) || (L.keySlot i).next.isNone) then L.finish id 0x020A
  else (slots.foldl (fun (L : Lane) i => L.rollSlot i (L.refEdge : Nat)) L).finish id 0

/-- KEY DROP at its apply edge. [log 123 DEDUCED] -/
def Lane.keyDrop (id : CmdId) (next : Bool) (slots : List Nat) (L : Lane) : Lane :=
  if slots.any (fun i => decide (256 ≤ i) || ((L.keySlot i).pos next).isNone) then L.finish id 0x020A
  else (slots.foldl (fun (L : Lane) i => L.dropSlot i next (L.refEdge : Nat)) L).finish id 0

/-- A pass of re-masking over every key of a lane (R425). -/
def Lane.remaskCell (L : Lane) (slot : Nat) (next : Bool) : Lane :=
  match (L.keySlot slot).pos next with
  | none => L
  | some c =>
    let m := L.fresh1
    m.2.setKeySlot slot ((L.keySlot slot).put next (some (c.remask (Config.keyMask m.1))))

/-- KEY_REMASK (R425). -/
def Lane.remask (L : Lane) : Lane :=
  ((L.keys.slots.cells.map (·.1)).foldl (fun (L : Lane) i => (L.remaskCell i false).remaskCell i true) L).bump .KEY_REMASK

/-- At a lane start the group keys come from the records wrapped for the running measurement (R423, R425). -/
def Lane.restoreKeys (L : Lane) : Lane :=
  let L := { L with keys := { L.keys with slots := ⟨[]⟩ } }
  if L.keys.lifecycle != 3 then L
  else
    (L.keys.recs.filter (fun r => r.meas == L.flash.running.digest)).foldl (fun (L : Lane) r =>
      let m := L.fresh1
      m.2.setKeySlot r.slot ((L.keySlot r.slot).put r.next (some (keyCell r.id r.alg r.key (Config.keyMask m.1))))) L

/-- Packages of other measurements are erased when an image confirms (R423). -/
def Lane.eraseOldKeys (L : Lane) : Lane :=
  { L with keys := { L.keys with recs := L.keys.recs.filter (fun r => r.meas == L.flash.running.digest) } }

/-! ### Lifecycle (R426) -/

/-- Every store changes alike. -/
def State.mapKeys (s : State) (f : KeyStore → KeyStore) : State :=
  { s with lanes := s.lanes.mapv (fun _ L => { L with keys := f L.keys }), host := { s.host with keys := f s.host.keys } }

/-- A lifecycle transition: the classes bound to the state that is left are destroyed in every store.
[log 123 DEDUCED] -/
def State.lcTransition (s : State) (f : KeyStore → KeyStore) (now : Int) : State :=
  let old := s.host.keys.lifecycle
  let s := s.mapKeys f
  s.raiseHost 6 0x01 now (leBytes 1 old ++ leBytes 1 s.host.keys.lifecycle)

/-- The module is parked. -/
def State.parked (s : State) : Bool := s.power.mstate == .parked

/-- What a lifecycle command does, or none where it is refused with LCSTATE. [log 123 DEDUCED] -/
def State.lifecycle (s : State) (c : HostCmd) (now : Int) : Option State :=
  let st := s.host.keys.lifecycle
  match c with
  | .own root signed =>
    if st = 1 ∧ s.parked ∧ signed then some (s.lcTransition (fun K => { K with owner := some root, prov := false }) now) else none
  | .keyRelease =>
    if st = 2 ∧ s.parked then some (s.lcTransition (fun K => { K with owner := none }) now) else none
  | .enterService =>
    if st = 2 then
      let n := (s.lane .a).free
      let s := s.mapLane .a (fun L => { L with free := n + 1 })
      some (s.lcTransition (fun K => { K with nonce := some (Config.serviceNonce n) }) now)
    else none
  | .leaveService =>
    if st = 3 ∧ s.parked then
      some (s.lcTransition (fun K => { K with nonce := none, slots := ⟨[]⟩, recs := [] }) now)
    else none
  | .retire =>
    if s.parked then
      some (s.lcTransition (fun _ => { KeyStore.fresh with root := false, test := false }) now)
    else none
  | _ => none

/-- Factory provisioning of a BLANK module (R426). [log 124 DESIGN CHOICE] -/
def State.provision (now : Int) (s : State) : State :=
  if s.host.keys.lifecycle != 0 then s else s.lcTransition (fun K => { K with test := false, prov := true }) now

end Sys2Proof.Machine
end

