-- ==== Sys2Proof/Machine/Apply.lean ====
section
/-! DEFINITION. Commands that wait on a lane: their order, the configuration that will stand at an apply tick, what each
does at its apply edge, forwarding to the standby, migration (R44 to R48, R185, R239, R240, R318 to R323, R470). -/

namespace Sys2Proof.Machine

open Sys2Proof

/-- OPCODE of a command (R305). -/
def cmdOp : HostCmd → Nat
  | .nop => 0x00
  | .loadImage _ => 0x01
  | .readSlot _ => 0x02
  | .writeSlot _ _ => 0x03
  | .setQuota _ _ => 0x04
  | .parcel _ _ _ _ _ => 0x05
  | .migrate _ _ _ _ _ _ => 0x06
  | .setTarget _ _ => 0x07
  | .forceBits _ _ => 0x08
  | .hostFlags _ _ => 0x09
  | .tlReset _ => 0x0A
  | .iluCtrl _ _ => 0x0B
  | .twinSwap => 0x0C
  | .setTod _ => 0x0D
  | .timeAccept _ => 0x0D
  | .timeReject => 0x0D
  | .arcAttach _ => 0x10
  | .arcDetach => 0x10
  | .arcFormat _ => 0x10
  | .arcRead _ _ => 0x10
  | .arcWrite _ _ => 0x10
  | .arcAlloc => 0x10
  | .arcClose _ => 0x10
  | .arcPin _ => 0x10
  | .arcUnpin _ => 0x10
  | .arcFree _ => 0x10
  | .arcList _ _ => 0x10
  | .arcTrigger _ => 0x10
  | .fbRead _ _ => 0x11
  | .fbFlush => 0x11
  | .clearGen => 0x11
  | .clearSafe => 0x11
  | .keyPut _ => 0x12
  | .keyPrepare => 0x12
  | .keyRoll _ => 0x12
  | .keyDrop _ _ => 0x12
  | .own _ _ => 0x12
  | .keyRelease => 0x12
  | .enterService => 0x12
  | .leaveService => 0x12
  | .retire => 0x12
  | .stage _ _ => 0x13
  | .activate => 0x13
  | .raiseSvn => 0x13
  | .fnReset _ => 0x14

/-! ### Order and standing configuration (R47) -/

/-- One command is due before another of the same ring order: earlier tick, then lower function number. -/
def Pend.before (a b : Pend) : Bool :=
  decide (a.id.apply < b.id.apply) || (a.id.apply == b.id.apply && decide (a.id.fn < b.id.fn))

/-- A command in its place in the order of R47; among equals it is last. -/
def placePend (x : Pend) : List Pend → List Pend
  | [] => [x]
  | y :: t => if x.before y then x :: y :: t else y :: placePend x t

/-- Adds a command to those that wait. -/
def Lane.addPend (L : Lane) (x : Pend) : Lane := { L with pend := placePend x L.pend }

/-- What a waiting command makes of the configuration of its own lane as it will stand at tick `a`. -/
def Lane.stdOne (L : Lane) (a : Nat) (x : Pend) : Lane :=
  match x.cmd with
  | .loadImage x => { (L.withImage x.img).imageIlu L with fabric := { L.fabric with desc := x.img.slots } }
  | .writeSlot s d => { L with fabric := { L.fabric with desc := L.fabric.desc.put s d } }
  | .parcel p op img _ auto =>
    if !(pclFrom op).contains (L.pState p) then L
    else if op = 1 then L.loadParcel p img auto
    else if op = 5 then L.unload p
    else L.setPState p (pclTo op) false
  | .iluCtrl p op => if L.iluState p != iluFrom op then L else L.setFld .ILU_PRG_STAT 31 30 (if op = 2 then 2 else 1) p
  | .migrate p 2 _ _ _ _ =>
    if L.pState p != pRunning then L else if x.id.apply + 2 ≤ a then L.unload p else L.setPState p pFrozen false
  | .migrate p 6 _ _ _ _ => if L.pState p = pFrozen then L.unload p else L
  | .migrate _ 5 _ q r _ => if L.pState q = pUnloaded then (L.loadParcel q r.img false).setPState q pFrozen false else L
  | _ => L

/-- The migration of a source parcel. -/
def Hcx.migOf (H : Hcx) (l : LaneId) (p : Nat) : Option Mig := H.migs.find? (fun m => m.src == l && m.p == p)

/-- A waiting TRACK of a parcel: its target lane and parcel. -/
def Pend.tracks (x : Pend) (p : Nat) : Option (LaneId × Nat) :=
  match x.cmd with
  | .migrate p' 1 d q _ _ => if p' = p then (LaneId.ofNum d).map (fun t => (t, q)) else none
  | _ => none

/-- Where a parcel is being copied to, or will be by a TRACK that waits (R320). -/
def State.trackTo (s : State) (k : LaneId) (p : Nat) : Option (LaneId × Nat) :=
  match s.host.migOf k p with
  | some m => some (m.dst, m.q)
  | none => (s.lane k).pend.findSome? (fun x => x.tracks p)

/-- What a MIGRATE that waits on another lane, `k`, makes of a target parcel on this one (R319 to R321). -/
def State.stdFar (s : State) (l k : LaneId) (L : Lane) (a : Nat) (x : Pend) : Lane :=
  match x.cmd with
  | .migrate p 1 d q _ _ =>
    if LaneId.ofNum d = some l ∧ L.pState q = pUnloaded then
      (L.loadParcel q ((s.lane k).parcel p).image false).setPState q pFrozen false else L
  | .migrate p op _ _ _ _ =>
    match s.trackTo k p with
    | none => L
    | some t =>
      if t.1 ≠ l ∨ L.pState t.2 ≠ pFrozen then L
      else if op = 2 ∧ x.id.apply + 2 ≤ a then L.setPState t.2 pRunning false
      else if op = 3 then L.unload t.2 else L
  | _ => L

/-- A switch past its freeze tick, as it will have ended by tick `a` (R321). -/
def Lane.stdSwitch (L : Lane) (l : LaneId) (a : Nat) (m : Mig) : Lane :=
  if !m.froze || a < m.at_ + 2 then L
  else
    let L := if m.src = l ∧ L.pState m.p = pFrozen then L.unload m.p else L
    if m.dst = l ∧ L.pState m.q = pFrozen then L.setPState m.q pRunning false else L

/-- A command of another lane in its place among those that will have acted. -/
def placeFar (y : LaneId × Pend) : List (LaneId × Pend) → List (LaneId × Pend)
  | [] => [y]
  | z :: t => if y.2.before z.2 then y :: z :: t else z :: placeFar y t

/-- A lane's configuration as it will stand at a tick for a function's next command: every command accepted for an earlier
tick, and at the same tick those of the function and of lower-numbered ones (R47, R128, R150, R470).
[log 165 DEDUCED] -/
def State.std (s : State) (l : LaneId) (fn a : Nat) : Lane :=
  let due := fun (x : Pend) => decide (x.id.apply < a) || (x.id.apply == a && decide (x.id.fn ≤ fn))
  let own := ((s.lane l).pend.filter due).map (fun x => (l, x))
  let far := (LaneId.all.filter (fun k => k != l)).flatMap (fun k =>
    ((s.lane k).pend.filter (fun x => due x && cmdOp x.cmd == 0x06)).map (fun x => (k, x)))
  let L := s.host.migs.foldl (fun (L : Lane) m => L.stdSwitch l a m) (s.lane l)
  (far.foldl (fun t y => placeFar y t) own).foldl (fun (L : Lane) y =>
    if y.1 = l then L.stdOne a y.2 else s.stdFar l y.1 L a y.2) L

/-! ### At the apply edge (R44, R48) -/

/-- ACCEPT at its edge, with the step S fixed at acceptance: a standby follows its active lane (R288, R291).
[log 97 DEDUCED] -/
def Lane.applyAccept (id : CmdId) (step : Int) (L : Lane) : Lane :=
  if L.dstate != dStepPend then L.finish id 0x0006
  else if L.paired && !L.role then L.enterDatum dTwin (L.refEdge : Nat)
  else (L.acceptStep step (L.refEdge : Nat)).finish id 0 (leBytes 8 (wrap 64 step))

/-- REJECT at its edge (R288). [log 97 DEDUCED] -/
def Lane.applyReject (id : CmdId) (L : Lane) : Lane :=
  if L.dstate != dStepPend then L.finish id 0x0006
  else if L.paired && !L.role then L.enterDatum dTwin (L.refEdge : Nat)
  else (L.rejectStep (L.refEdge : Nat)).finish id 0

/-- FORCE_BITS at its edge (R138). -/
def Lane.forceBits (value mask : Nat) (L : Lane) : Lane :=
  L.setNum64 .TRM_HF_LO .TRM_HF_HI (mergeBits (L.num64 .TRM_HF_LO .TRM_HF_HI) (mask % 2 ^ 64) (value % 2 ^ 64))

/-- The copies kept of parcel images follow LOAD and UNLOAD (R187). -/
def Lane.noteCopy (L : Lane) (p op : Nat) (img : ParcelImg) (auto : Bool) : Lane :=
  if (decide (2 ≤ L.level) && pclNeedsCores op) || !(pclFrom op).contains (L.pState p) then L
  else if op = 1 then { L with copies := L.copies.put p (img, auto) }
  else if op = 5 then { L with copies := L.copies.del p }
  else L

/-- A command takes effect on its lane at its apply edge (R44); one that needs a unit the lane cannot use completes with
LEVEL (R48). [log 97 DEDUCED] -/
def Lane.applyCmd (id : CmdId) (c : HostCmd) (L : Lane) : Lane :=
  let down := decide (2 ≤ L.level)
  match c with
  | .loadImage x => (L.applyImage x.img).finish id 0
  | .writeSlot s d => if down then L.finish id 0x0004 else (L.applyDesc s d).fabSummary.finish id 0
  | .parcel p op img clear auto => (L.noteCopy p op img auto).pclApply id p op img clear auto
  | .setTarget ch v => if down then L.finish id 0x0004 else (L.setTarget ch v).finish id 0
  | .forceBits v m => if down then L.finish id 0x0004 else (L.forceBits v m).finish id 0
  | .hostFlags v m => L.hostFlags id v m
  | .tlReset lines => L.tlReset id lines
  | .iluCtrl p op => L.iluCtrl id p op
  | .twinSwap => if L.pstate = psReplica then L.turnEdge.finish id 0 else L.finish id 0x0006
  | .timeAccept e => L.applyAccept id e
  | .timeReject => L.applyReject id
  | .keyRoll slots => L.keyRoll id slots
  | .keyDrop next slots => L.keyDrop id next slots
  | .arcTrigger _ => L.finish id 0 (leBytes 8 id.apply)
  | _ => L.finish id 0

/-! ### Forwarding (R46) -/

/-- CMD: a standby takes a forwarded command and acknowledges it; an active lane that its preferred standby asks for a swap
proposes the swap tick, and forwards it as any command (R46, R239, R240). [log 132 DESIGN CHOICE] -/
def Lane.takeCmd (fn tag apply : Nat) (c : HostCmd) (L : Lane) : Lane :=
  let id : CmdId := ⟨fn, tag, cmdOp c, apply, none, true⟩
  if !L.paired then L
  else if L.role then
    (if c == .twinSwap && fn == 255 && decide (L.tick + 64 ≤ apply) && L.pstate == psReplica && !L.pend.any (fun x => x.cmd == .twinSwap) then
       (L.addPend ⟨id, c, false, true, false, false⟩).emitTwin (.cmd fn tag apply c) else L)
  else (L.addPend ⟨id, c, true, false, false, false⟩).emitTwin (.cmdAck fn tag)

/-- CMD_ACK: the standby has the command; where it is a committed swap, it has the commit (R239). -/
def Lane.cmdAck (fn tag : Nat) (L : Lane) : Lane :=
  { L with pend := L.pend.map (fun x =>
      if x.id.fn == fn && x.id.tag == tag && x.needs then { x with acked := true, needs := !(x.commit && x.cmd == .twinSwap) } else x) }

/-- CMD_COMMIT: the active lane has committed the command; the commit of a swap is acknowledged (R239). -/
def Lane.cmdCommit (fn tag : Nat) (L : Lane) : Lane :=
  let hit := fun (x : Pend) => x.id.fn == fn && x.id.tag == tag && x.fwd
  let swap := L.pend.any (fun x => hit x && x.cmd == .twinSwap)
  let L := { L with pend := L.pend.map (fun x => if hit x then { x with commit := true } else x) }
  if swap then L.emitTwin (.cmdAck fn tag) else L

/-- A command refused LATE (R45, R46). [log 80 DEDUCED] -/
def Lane.late (L : Lane) (id : CmdId) : Lane := (L.bumpSat .LCT_APPLY_LATE).finish id 0x0001

/-- COMMIT_DEADLINE, at the edge of a − 16: an acknowledged command is committed, any other discarded with LATE. A lane
whose pair has ended needs no commit. [log 80 DEDUCED] -/
def Lane.commitDeadline (L : Lane) : Lane :=
  let due := fun (x : Pend) => x.needs && !x.commit && decide (x.id.apply ≤ L.tick + 16)
  let paired := L.paired
  let go := L.pend.filter (fun x => due x && x.acked && paired)
  let lost := L.pend.filter (fun x => due x && !x.acked && paired)
  let L := { L with pend := (L.pend.filter (fun x => !(due x && !x.acked && paired))).map (fun x => if due x then { x with commit := true } else x) }
  let L := go.foldl (fun (L : Lane) x => L.emitTwin (.commit x.id.fn x.id.tag)) L
  lost.foldl (fun (L : Lane) x => L.late x.id) L

/-- STANDBY_COMMIT_TIMEOUT, at the edge of a − 8: a command without its commit is discarded. [log 80 DEDUCED] -/
def Lane.commitTimeout (L : Lane) : Lane :=
  { L with pend := L.pend.filter (fun x => !(x.fwd && !x.commit && decide (x.id.apply ≤ L.tick + 8))) }

/-- REQUALIFIED: a preferred standby that reverts and has counted REQUAL ticks asks the active lane for a swap, at tick `a`
or later (R239, R240). [log 132 DESIGN CHOICE] -/
def Lane.requalified (a : Nat) (L : Lane) : Lane :=
  if L.pstate != psReplica || L.role || !L.flag .TWN_CFG 30 || !L.flag .TWN_CFG 29 || L.fld .TWN_STAT 22 0 < L.fld .TWN_REQUAL 22 0 ||
     a < L.tick + 64 || L.pend.any (fun x => x.cmd == .twinSwap) then L
  else L.emitTwin (.swap a)

/-! ### Migration (R319 to R323) -/

/-- A migration record is replaced, or ends. -/
def Hcx.setMig (H : Hcx) (m : Mig) (x : Option Mig) : Hcx :=
  { H with migs := H.migs.filter (fun y => !(y.src == m.src && y.p == m.p)) ++ x.toList }

/-- A command completes on a lane. -/
def State.finishOn (s : State) (l : LaneId) (id : CmdId) (status : Nat) (result : List Byte := []) : State :=
  s.mapLane l (fun L => L.finish id status result)

/-- A target parcel shows a source's last published outputs, FROZEN (R319). -/
def Lane.freezeTarget_ (L : Lane) (q : Nat) (x : Parcel) (auto : Bool) : Lane :=
  let L := L.loadParcel q x.image auto
  let y := { L.parcel q with last := x.last, lastCmd := x.lastCmd, pubVals := x.pubVals, pubBits := x.pubBits, cycle := x.cycle }
  (L.setParcel q y).setPState q pFrozen false

/-- TRACK at its edge (R320). [log 104 DESIGN CHOICE] -/
def State.migTrack (s : State) (l : LaneId) (id : CmdId) (p : Nat) (dst : LaneId) (q : Nat) : State :=
  let x := (s.lane l).parcel p
  if s.host.migs.any (fun m => m.src == l && m.p == p) then s.finishOn l id 0x0014
  else if (s.lane l).pState p != pRunning || (s.lane dst).pState q != pUnloaded then s.finishOn l id 0x0006
  else
    let auto := (s.lane l).flag .LCT_PCL_CFG 31 p
    let s := s.mapLane dst (fun L => L.freezeTarget_ q x auto)
    let s := s.mapLane l (fun L => L.setParcel p { x with dirty := some (imgGranules x.image), ready := false })
    let sw := (s.lane l).pend.find? (fun x => match x.cmd with
      | .migrate p' 2 _ _ _ _ => p' == p
      | _ => false)
    let m : Mig := ⟨id.fn, l, p, dst, q, (s.lane l).tick, false, false, sw.map (·.id), (sw.map (·.id.apply)).getD 0, none, false, false, false⟩
    (s.hcx (fun H => { H with migs := H.migs ++ [m] })).finishOn l id 0

/-- A parcel's content is copied to the migration target, which stays FROZEN (R320, R321). [log 104 DESIGN CHOICE] -/
def State.migCopy (s : State) (m : Mig) : State :=
  let x := (s.lane m.src).parcel m.p
  s.mapLane m.dst (fun L =>
    L.setParcel m.q { x with dirty := none, ready := false, strands := [], halt := false, first := false, missed := false })

/-- SWITCH at its edge F (R321): abandoned with DIRTY, or the source is FROZEN and its content copied. -/
def State.migSwitch (s : State) (l : LaneId) (id : CmdId) (p : Nat) : State :=
  match s.host.migOf l p with
  | none => s.finishOn l id 0x0006
  | some m =>
    let stop := fun (st : Nat) => (s.hcx (fun H => H.setMig m (some { m with switch := none, go := none, at_ := 0 }))).finishOn l id st
    if (s.lane l).pState p != pRunning then stop 0x0006
    else if m.go != some true then stop 0x0012
    else
      let m' : Mig := { m with switch := some id, at_ := (s.lane l).tick, froze := true }
      let s := s.hcx (fun H => H.setMig m (some m'))
      (s.mapLane l (fun L => L.setPState p pFrozen (L.pFb p))).migCopy m'

/-- CANCEL at its edge: tracking ends and the target is UNLOADED (R320). -/
def State.migCancel (s : State) (l : LaneId) (id : CmdId) (p : Nat) : State :=
  match s.host.migOf l p with
  | none => s.finishOn l id 0x0006
  | some m =>
    if m.go = some true then s.finishOn l id 0x0006
    else
      let s := s.hcx (fun H => H.setMig m none)
      let s := s.mapLane m.dst (fun L => if L.pState m.q = pFrozen then L.unload m.q else L)
      (s.mapLane l (fun L => L.setParcel p { L.parcel p with dirty := none })).finishOn l id 0

/-- RESTORE at its edge: the target is FROZEN with the record's content (R323). [log 104 DESIGN CHOICE] -/
def Lane.migRestore (id : CmdId) (q : Nat) (r : SavedRec) (L : Lane) : Lane :=
  if L.pState q != pUnloaded then L.finish id 0x0006
  else if 2 ≤ L.level then L.finish id 0x0004
  else
    let L := L.loadParcel q r.img false
    let out := pageOut r.page
    let y := { L.parcel q with mem := r.mem, mailCur := r.mailCur, mailPub := r.mailPub, critDone := r.critDone, critWork := r.critDone,
                               last := r.page, page := r.page, lastCmd := r.cmd, pubVals := out.1, pubBits := out.2, cycle := r.cycle,
                               restored := false }
    let L := (L.setParcel q y).setPState q pFrozen false
    ({ L with copies := L.copies.put q (r.img, false) } : Lane).finish id 0

/-- RELEASE at its edge: a FROZEN source is UNLOADED (R319). -/
def Lane.migRelease (id : CmdId) (p : Nat) (L : Lane) : Lane :=
  if L.pState p != pFrozen then L.finish id 0x0006
  else
    let L := L.unload p
    ({ L with copies := L.copies.del p } : Lane).finish id 0

/-- A MIGRATE command at its edge; at Level 2 no parcel can be placed (R48, R470). -/
def State.migApply (s : State) (l : LaneId) (id : CmdId) (p op dst q : Nat) (r : SavedRec) : State :=
  match op with
  | 1 => s.migTrack l id p ((LaneId.ofNum dst).getD l) q
  | 2 => s.migSwitch l id p
  | 3 => s.migCancel l id p
  | 5 => s.mapLane l (Lane.migRestore id q r)
  | _ => s.mapLane l (Lane.migRelease id p)

/-- The target of a switch runs from the edge of F + 2 (R321). -/
def Lane.migRun (q f : Nat) (L : Lane) : Lane :=
  let img := (L.parcel q).image
  let img := { img with phase := f % max 1 img.n }
  let L := L.setParcel q { L.parcel q with img := some img, first := false, missed := false }
  let L := (L.setFld .LCT_PCL_SCHED 15 0 img.phase q).setPState q pRunning false
  { L with copies := L.copies.put q (img, L.flag .LCT_PCL_CFG 31 q) }

/-- One migration at an edge of a lane: from F + 2 on the source is UNLOADED and the target RUNNING (R321). -/
def State.migStep (s : State) (l : LaneId) (m : Mig) : State :=
  match m.switch with
  | none => s
  | some id =>
    if m.go != some true || (s.lane l).tick < m.at_ + 2 || !(m.src == l || m.dst == l) then s
    else if !m.out && (s.lane m.src).pState m.p != pFrozen then
      (s.hcx (fun H => H.setMig m (some { m with switch := none, go := none, froze := false, at_ := 0 }))).finishOn m.src id 0x0006
    else
      let off := m.src == l && !m.out
      let on := m.dst == l && !m.ran
      let s := if off then s.mapLane l (fun L => let L := L.unload m.p; { L with copies := L.copies.del m.p }) else s
      let s := if on then (s.mapLane l (Lane.migRun m.q (m.at_ + 2))).finishOn m.src id 0 (leBytes 8 (m.at_ + 2)) else s
      let m' : Mig := { m with out := m.out || off, ran := m.ran || on }
      s.hcx (fun H => H.setMig m (if m'.out && m'.ran then none else some m'))

/-- Every migration at an edge of a lane. -/
def State.migEdge (l : LaneId) (s : State) : State := s.host.migs.foldl (fun (s : State) (m : Mig) => s.migStep l m) s

/-- A migration of lane `l` is dropped: a switch that has frozen its source ends with ABORT, the copy at another lane is
unloaded, and another lane's source is tracked no more (R320, R321). -/
def State.migDrop (l : LaneId) (m : Mig) (s : State) : State :=
  let s := s.hcx (fun H => H.setMig m none)
  let s := match m.switch, m.froze with
    | some id, true => s.finishOn m.src id 0x0013
    | _, _ => s
  let s := if m.dst == l then s else s.mapLane m.dst (fun L => if L.pState m.q = pFrozen then L.unload m.q else L)
  if m.src == l then s else s.mapLane m.src (fun L => L.setParcel m.p { L.parcel m.p with dirty := none })

/-- Migrations of a lane that is reset, or that goes to its safe state, end, and a switch that has frozen its source completes
with ABORT; a target on another lane is UNLOADED (R302, R320). -/
def State.migAbort (l : LaneId) (s : State) : State :=
  (s.host.migs.filter (fun m => m.src == l || m.dst == l)).foldl (fun (s : State) (m : Mig) => s.migDrop l m) s

/-- The granules of a tracked parcel still to be copied (R320). -/
def Lane.migLeft (L : Lane) (p : Nat) : Nat := rangesLen ((L.parcel p).dirty.getD [])

/-- The decision of a switch at the closure of F − 1 (R321, R322): by the lane's own dirty set, and sent to the standby of a
pair; on a standby the one that its active lane sent; a standby whose own residue is too large goes to COPY on both lanes.
[log 104 DESIGN CHOICE] -/
def State.migDecide (l : LaneId) (told : List (Nat × Bool)) (s : State) : State :=
  s.host.migs.foldl (fun (s : State) (m : Mig) =>
    let L := s.lane l
    if m.src != l || m.switch.isNone || L.tick + 1 != m.at_ || m.go.isSome then s
    else
      let few := decide (L.migLeft m.p ≤ 32)
      let follows := L.paired && !L.role
      let go := if follows then told.any (fun x => x.1 == m.p && x.2) else few
      let s := s.hcx (fun H => H.setMig m (some { m with go := some go }))
      let s := if L.paired && L.role then s.mapLane l (fun L => L.emitTwin (.decision m.p m.at_ go)) else s
      if follows && go && !few then
        let copy := fun (L : Lane) => if L.pstate = psReplica then L.enterCopy else L
        (s.mapLane l copy).mapLane m.dst copy
      else s) s

/-- In a tick 18 granules or more of a tracked parcel go to its target (R320). -/
def Lane.migSend (p : Nat) (L : Lane) : Lane :=
  let f := L.fresh1
  let x := f.2.parcel p
  f.2.setParcel p { x with dirty := x.dirty.map (fun d => (takeGranules (18 + Config.copySpare f.1) d).2) }

/-- Every migration of a lane's parcels sends on, but for one whose switch has been decided; where nothing is left to send
the target holds the parcel's content; READY can be raised again once the dirty set has been larger than 32 granules
(R320). -/
def State.migSendAll (l : LaneId) (s : State) : State :=
  s.host.migs.foldl (fun (s : State) (m : Mig) =>
    if m.src == l && m.go.isNone then
      let s := s.mapLane l (Lane.migSend m.p)
      let s := if (s.lane l).migLeft m.p = 0 then s.migCopy m else s
      if m.ready && decide (32 < (s.lane l).migLeft m.p) then s.hcx (fun H => H.setMig m (some { m with ready := false })) else s
    else s) s

/-- TRACK_READY: at a closure a tracked parcel's dirty set has come to at most 32 granules, `left` of them (R320).
[log 104 DESIGN CHOICE] -/
def State.trackReady (l : LaneId) (p left : Nat) (now : Int) (s : State) : State :=
  match s.host.migOf l p with
  | none => s
  | some m =>
    if m.ready || 32 < left || left != (s.lane l).migLeft p then s
    else (s.hcx (fun H => H.setMig m (some { m with first := true, ready := true }))).mapLane l (fun L =>
      L.raise (16 + p) 0x05 now (leBytes 4 left))

/-- A section of a saved record: kind, length, data (R323). -/
def savedSection (kind : Nat) (data : List Byte) : List Byte := leBytes 8 kind ++ leBytes 8 data.length ++ data

/-- The octets of a memory from an address on. -/
def memOctets (m : ByteMem) (a n : Nat) : List Byte := (List.range n).map (fun i => memGet m (a + i))

/-- A saved record before its digest (R323): the image's octets are given. The region of data and stack is one, and stands
under kind 2. [log 104 DESIGN CHOICE] -/
def savedBody (p lane : Nat) (x : Parcel) (image : List Byte) : List Byte :=
  let img := x.image
  let body :=
    savedSection 1 image ++
    savedSection 2 (img.strands.zipIdx.flatMap (fun s => memOctets x.mem (s.2 * 2 ^ 32 + s.1.data.1) s.1.data.2)) ++
    savedSection 3 [] ++
    savedSection 4 (memOctets x.mailPub 0 (4096 * img.strands.length)) ++
    savedSection 5 (memOctets x.mem img.lpddr.1 img.lpddr.2) ++
    savedSection 6 (memOctets x.critDone img.crit.1 img.crit.2) ++
    savedSection 7 (memOctets x.last 0 0x108 ++ (List.range 64).flatMap (fun c => leBytes 4 (x.lastCmd.getD c 0).toNat))
  leBytes 4 1 ++ leBytes 4 (p % 16 + lane % 8 * 16) ++ leBytes 8 (0x40 + body.length + 48) ++ leBytes 4 x.cycle ++
    List.replicate 44 0#8 ++ body

/-- SAVE: a FROZEN parcel is written to the buffer; a buffer that is too short gets nothing (R323). -/
def State.migSave (s : State) (l : LaneId) (id : CmdId) (p len addr : Nat) : State :=
  let L := s.lane l
  if L.pState p != pFrozen then s.finishOn l id 0x0006
  else
    let b := savedBody p l.num (L.parcel p) (Config.imageOctets (Nat.pair L.mac L.free))
    let n := b.length + 48
    let s := s.mapLane l (fun L => { L with free := L.free + 1 })
    if len < n then s.finishOn l id 0x000D
    else (s.hcx (fun H => H.emit (.write id.fn addr (b ++ beBytes 48 (Config.sha384 b).toNat)))).finishOn l id 0 (leBytes 8 n)

/-! ### Commands of an edge (R44 to R47) -/

/-- A waiting command at its edge: one that was forwarded and not committed has no effect, nor has a swap whose commit
has not arrived (R46, R239). -/
def State.applyPend (s : State) (l : LaneId) (x : Pend) : State :=
  if x.needs && (!x.commit || x.cmd == .twinSwap) && (s.lane l).paired then s.mapLane l (fun L => L.late x.id)
  else if x.fwd && !x.commit then s
  else match x.cmd with
    | .migrate p op dst q r _ => s.migApply l x.id p op dst q r
    | c => s.mapLane l (Lane.applyCmd x.id c)

/-- A waiting LOAD_IMAGE whose staging and proof check have ended after the edge of tick a − 32 is refused LATE, at the first
edge after that (R45). [log 96 DEDUCED] -/
def Lane.lateImages (L : Lane) : Lane :=
  let late := fun (x : Pend) => match x.cmd with
    | .loadImage y => decide (x.id.apply ≤ y.ready + 32 ∧ y.ready < L.tick)
    | _ => false
  let ids := (L.pend.filter late).map (·.id)
  ids.foldl (fun (L : Lane) i => L.late i) { L with pend := L.pend.filter (fun x => !late x) }

/-- Commands whose apply tick has come take effect, in the order of R47; in a freeze tick they wait (R223).
[log 26 DEDUCED] -/
def State.applyEdge (l : LaneId) (s : State) : State :=
  let s := s.mapLane l Lane.lateImages
  let L := s.lane l
  if L.frozen then s
  else
    let due := L.pend.filter (fun x => decide (x.id.apply ≤ L.tick))
    let s := s.mapLane l (fun L => { L with pend := L.pend.filter (fun x => decide (L.tick < x.id.apply)) })
    due.foldl (fun (s : State) x => s.applyPend l x) s

/-- A lane takes its items of accepted quota records at the edge of their apply tick (R318). -/
def State.quotaEdge (l : LaneId) (s : State) : State :=
  let t := (s.lane l).tick
  s.hcx (fun H =>
    let next := H.quotaNext.map (fun x => if x.apply ≤ t then { x with left := x.left.filter (fun k => k != l) } else x)
    { H with quotaNext := next.filter (fun x => !(x.left.isEmpty && x.done)) })

/-- The completion of a SET_QUOTA has been written: the module items take effect (R318). -/
def Hcx.quotaDone (H : Hcx) (apply tag : Nat) : Hcx :=
  match H.quotaNext.find? (fun x => !x.done && x.apply == apply && x.tag == tag) with
  | none => H
  | some x =>
    { H with quotas := H.quotas.put x.vf x.q,
             quotaNext := (H.quotaNext.map (fun y => if y == x then { y with done := true } else y)).filter (fun y => !(y.left.isEmpty && y.done)) }

/-- A SET_QUOTA that waited on a lane is discarded with it (R302). -/
def Hcx.quotaAbort (H : Hcx) (l : LaneId) : Hcx :=
  { H with quotaNext := H.quotaNext.filter (fun x => x.done || x.lane != l) }

/-- The record in force on a lane (R318). -/
def Hcx.quotaOn (H : Hcx) (f : Nat) (l : LaneId) : LaneQuota :=
  match (H.quotaNext.filter (fun x => x.vf == f && !x.left.contains l)).getLast? with
  | some x => x.q.lane.get l
  | none => (H.quota f).lane.get l

/-- The function that owns a parcel of a lane: the VF whose quota holds it, else PF0 (R317). -/
def Hcx.ownerOf (H : Hcx) (l : LaneId) (p : Nat) : Nat :=
  ((List.range 64).find? (fun f => f != 0 && (H.quotaOn f l).parcels.testBit p)).getD 0

end Sys2Proof.Machine
end

