-- ==== Sys2Proof/Machine/Host.lean ====
section
/-! DEFINITION. Taking a function's command: the acceptance checks in their order, and what each command does once
accepted (R45, R46, R128, R150, R228, R239, R288, R295, R300 to R306, R317, R318, R320 to R323, R343, R349, R417, R423,
R470). -/

namespace Sys2Proof.Machine

open Sys2Proof

/-! ### What the opcodes say of themselves (R305, R343, R349, R417, R423) -/

/-- LANE values an opcode allows. -/
def laneOk (c : HostCmd) (lane : Nat) : Bool :=
  match c with
  | .nop => lane == 4
  | .setTod _ => lane == 4
  | .arcAttach _ => lane == 4
  | .arcDetach => lane == 4
  | .arcFormat _ => lane == 4
  | .arcRead _ _ => lane == 4
  | .arcWrite _ _ => lane == 4
  | .arcAlloc => lane == 4
  | .arcClose _ => lane == 4
  | .arcPin _ => lane == 4
  | .arcUnpin _ => lane == 4
  | .arcFree _ => lane == 4
  | .arcList _ _ => lane == 4
  | .own _ _ => lane == 4
  | .keyRelease => lane == 4
  | .enterService => lane == 4
  | .leaveService => lane == 4
  | .retire => lane == 4
  | .fnReset _ => lane == 4
  | .fbRead _ _ => decide (lane ≤ 4)
  | .fbFlush => decide (lane ≤ 4)
  | .clearGen => decide (lane ≤ 4)
  | .clearSafe => decide (lane ≤ 4)
  | .stage _ _ => decide (lane ≤ 4)
  | .activate => decide (lane ≤ 4)
  | .raiseSvn => decide (lane ≤ 4)
  | _ => decide (lane < 4)

/-- LEN limit of a command's buffer, where the spec gives one. -/
def lenLimit : HostCmd → Nat
  | .loadImage _ => 50331648
  | .readSlot _ => 384
  | .writeSlot _ _ => 256
  | .setQuota _ _ => 256
  | .parcel _ op _ _ _ => if op = 1 then 67108864 else 0
  | .migrate _ op _ _ _ _ => if op = 4 ∨ op = 5 then 201326592 else 0
  | .arcAttach _ => 64
  | .arcFormat _ => 64
  | .arcRead _ _ => 4294967295
  | .arcWrite _ _ => 4294967295
  | .arcList _ _ => 4294967295
  | .fbRead _ _ => 196608
  | .keyPut _ => 4294967295
  | .keyPrepare => 4294967295
  | .own _ _ => 4294967295
  | .stage _ _ => 16650240
  | _ => 0

/-- A VF may issue the command (R305, R343); its resources are checked next, and CLEAR_SAFE by R349. [log 97 DEDUCED] -/
def vfMay (fn : Nat) : HostCmd → Bool
  | .nop => true
  | .readSlot _ => true
  | .writeSlot _ _ => true
  | .parcel _ _ _ _ _ => true
  | .migrate _ _ _ _ _ _ => true
  | .arcRead _ _ => true
  | .arcWrite _ _ => true
  | .arcAlloc => true
  | .arcClose _ => true
  | .arcPin _ => true
  | .arcUnpin _ => true
  | .arcFree _ => true
  | .arcList _ _ => true
  | .fbRead _ _ => true
  | .fbFlush => true
  | .clearGen => true
  | .clearSafe => true
  | .fnReset f => f == fn
  | _ => false

/-- The command carries an apply tick. -/
def usesApply : HostCmd → Bool
  | .loadImage _ => true
  | .writeSlot _ _ => true
  | .setQuota _ _ => true
  | .parcel _ _ _ _ _ => true
  | .migrate _ op _ _ _ _ => op != 4
  | .setTarget _ _ => true
  | .forceBits _ _ => true
  | .hostFlags _ _ => true
  | .tlReset _ => true
  | .iluCtrl _ _ => true
  | .twinSwap => true
  | .timeAccept _ => true
  | .timeReject => true
  | .keyRoll _ => true
  | .keyDrop _ _ => true
  | _ => false

/-- The command changes what the lane computes (R228): quotas and keys do not. -/
def changesLane : HostCmd → Bool
  | .setQuota _ _ => false
  | .keyRoll _ => false
  | .keyDrop _ _ => false
  | c => usesApply c

/-- Ticks between acceptance and the earliest apply tick (R45, R239). [log 96 DEDUCED] -/
def leadTicks (c : HostCmd) : Nat := if c = .twinSwap then 64 else 32

/-! ### Quotas (R317, R318) -/

/-- The octets of core time of PF0's parcels on a core, in ns: parcels that no VF's quota holds. -/
def pfCore (std : Lane) (owned : Nat) (core : Nat) : Nat :=
  ((std.pcl.cells.filter (fun c => !owned.testBit c.1)).map (fun c =>
    ((c.2.image.strands.filter (fun s => s.core == core)).map (·.len)).sum)).sum

/-- The parcels that VFs' records hold on a lane at a tick. -/
def Hcx.vfParcels (H : Hcx) (l : LaneId) (a : Nat) : Nat :=
  (List.range 64).foldl (fun m f => if f = 0 then m else m ||| ((H.quotaAt f a).lane.get l).parcels) 0

/-- On each core the VFs' core time and the slices of PF0's parcels come to at most 6,000 ns (R317). -/
def Hcx.coresOk (H : Hcx) (l : LaneId) (a : Nat) (std : Lane) : Bool :=
  let owned := H.vfParcels l a
  (List.range 8).all (fun c =>
    decide ((((List.range 64).filter (· != 0)).map (fun f => (((H.quotaAt f a).lane.get l).core.getD c 0) * 100)).sum + pfCore std owned c ≤ 6000))

/-- Images of a VF's other parcels. -/
def othersOf (q : LaneQuota) (p : Nat) (std : Lane) : List ParcelImg :=
  (std.pcl.cells.filter (fun c => c.1 != p && q.parcels.testBit c.1)).map (·.2.image)

/-- The VF whose record will hold a parcel number at a tick, or 0 (R317). -/
def Hcx.ownerAt (H : Hcx) (l : LaneId) (a p : Nat) : Nat :=
  ((List.range 64).find? (fun f => f != 0 && ((H.quotaAt f a).lane.get l).parcels.testBit p)).getD 0

/-- An image fits the quota of the VF that holds its parcel on a lane, or is PF0's and fits within what the VFs leave
(R317). -/
def Hcx.imageQuota (H : Hcx) (l : LaneId) (a p : Nat) (img : ParcelImg) (std : Lane) : Bool :=
  let f := H.ownerAt l a p
  if f = 0 then H.coresOk l a (std.loadParcel p img false)
  else
    let q := (H.quotaAt f a).lane.get l
    quotaOk (some q) (othersOf q p std) p img

/-- Step 3: the resources that the command names lie within the function's quota as it will stand. [log 96 DEDUCED] -/
def State.quotaStep (s : State) (fn : Nat) (l : LaneId) (a : Nat) (c : HostCmd) : Bool :=
  let H := s.host
  let q := (H.quotaAt fn a).lane.get l
  let qd := fun (d : Nat) => (H.quotaAt fn a).lane.get ((LaneId.ofNum d).getD l)
  let slotIn := fun (n : Nat) => fn = 0 || decide (q.slot0 ≤ n ∧ n < q.slot0 + q.slots)
  match c with
  | .readSlot n => slotIn n
  | .writeSlot n _ => slotIn n
  | .parcel p op img _ _ =>
    (fn = 0 || q.parcels.testBit p) && (op != 1 || H.imageQuota l a p img (s.std l fn a))
  | .migrate p op d x r _ =>
    let std := s.std ((LaneId.ofNum d).getD l) fn a
    (fn = 0 || ((op == 5 || q.parcels.testBit p) && (!(op == 1 || op == 2 || op == 5) || (qd d).parcels.testBit x))) &&
    (op != 5 || H.imageQuota ((LaneId.ofNum d).getD l) a x r.img std) &&
    (op != 2 || H.imageQuota ((LaneId.ofNum d).getD l) a x ((s.std l fn a).parcel p).image (std.unload x))
  | _ => true

/-- A quota record is within the limits of R317. -/
def quotaValid (q : Quota) : Bool :=
  LaneId.all.all (fun l =>
    let x := q.lane.get l
    decide (x.slot0 ≤ 4095 ∧ x.slot0 + x.slots ≤ 4096 ∧ x.parcels < 65536 ∧ x.chains < 2 ^ 68 ∧ x.chan0 ≤ 2047 ∧
      x.chan0 + x.chans ≤ 2048) && x.core.all (fun n => decide (n ≤ 60))) &&
  decide (q.extents ≤ 268435456 ∧ 704 ≤ q.entries ∧ q.entries ≤ 45056 ∧ 1 ≤ q.vectors ∧ q.vectors ≤ 8)

/-- Two per-lane records overlap in slots or parcels. -/
def quotaClash (x y : LaneQuota) : Bool :=
  decide (x.slot0 < y.slot0 + y.slots ∧ y.slot0 < x.slot0 + x.slots ∧ 0 < x.slots ∧ 0 < y.slots) || (x.parcels &&& y.parcels) != 0

/-- What a VF uses on a lane lies inside a new record: enabled slots of its old range, parcels, slices, grants.
[log 102 DESIGN CHOICE] -/
def quotaUse (old new : LaneQuota) (std : Lane) : Bool :=
  (std.fabric.desc.cells.all (fun c =>
    !dEn c.2 || !decide (old.slot0 ≤ c.1 ∧ c.1 < old.slot0 + old.slots) || decide (new.slot0 ≤ c.1 ∧ c.1 < new.slot0 + new.slots))) &&
  (std.pcl.cells.filter (fun c => old.parcels.testBit c.1 && std.pState c.1 != pUnloaded)).all (fun c =>
    quotaOk (some new) (othersOf new c.1 std) c.1 c.2.image)

/-- The ticks from `a` on at which an accepted command changes what stands (R318). -/
def State.changeTicks (s : State) (a : Nat) : List Nat :=
  let cmds := LaneId.all.flatMap (fun l => (s.lane l).pend.flatMap (fun (x : Pend) => if cmdOp x.cmd = 6 then [x.id.apply, x.id.apply + 2] else [x.id.apply]))
  a :: ((cmds ++ s.host.quotaNext.map (fun (x : QuotaNext) => x.apply) ++ s.host.migs.map (fun (m : Mig) => m.at_ + 2)).filter (fun t => decide (a < t)))

/-- A record for a VF stands at a tick beside the other VFs' records and beside what the VF will use then (R318). -/
def State.quotaHolds (s : State) (H2 : Hcx) (vf a t : Nat) : Bool :=
  LaneId.all.all (fun l =>
    let std := s.std l 63 t
    let q := (H2.quotaAt vf t).lane.get l
    ((List.range 64).all (fun f => f = 0 || f == vf || !quotaClash q ((H2.quotaAt f t).lane.get l))) &&
    H2.coresOk l t std && quotaUse ((s.host.quotaAt vf a).lane.get l) q std)

/-- A SET_QUOTA stands against everything that will stand at its apply tick, and against every use accepted for a later
one (R318). [log 102 DESIGN CHOICE] -/
def State.quotaFits (s : State) (vf a : Nat) (q : Quota) : Bool :=
  let H := s.host
  let later := H.quotaNext.filter (fun x => x.vf != vf || decide (a < x.apply))
  let H2 := { H with quotas := H.quotas.put vf q, quotaNext := later }
  let F := H.fn vf
  let on := (List.range 11).filter (fun r => F.ring r != rOff)
  quotaValid q && decide (1 ≤ vf ∧ vf ≤ 63) &&
  (s.changeTicks a).all (fun t => s.quotaHolds H2 vf a t) &&
  decide ((H.arc.cat.vals.filter (fun x => x.fn == vf)).length ≤ q.extents) &&
  decide ((on.map (fun r => F.size r)).sum ≤ q.entries) &&
  on.all (fun r => r == 0 || decide (F.fld .FN_RING_CFG 21 16 r < q.vectors))

/-! ### Steps 5 to 7 for a command with an apply tick -/

/-- Step 5: the lane is a standby (R228, R291). -/
def Lane.standsBy (L : Lane) : Bool :=
  let p := if L.pstate = psPairing then L.twin.before else L.pstate
  !L.role && (p == psCopy || p == psFreeze || p == psReplica || p == psAwait)

/-- Step 6: LATE, FAR, FULL, or 0 (R45, R223). A traverse image that is staged too late is refused at that moment, by
`lateImages`. [log 96 DEDUCED] -/
def Lane.tickStatus (L : Lane) (c : HostCmd) (a : Nat) : Nat :=
  let n := L.tick
  if a < n + leadTicks c || L.twin.freeze.any (fun f => decide (a = f ∨ a = f + 1)) then 0x0001
  else if 16777215 < a - n then 0x0002
  else if 1024 ≤ L.pend.length then 0x0003
  else 0

/-- A parcel is in a migration, as source or target, or a TRACK of it waits (R320). -/
def State.migrating (s : State) (l : LaneId) (p : Nat) : Bool :=
  s.host.migs.any (fun m => (m.src == l && m.p == p) || (m.dst == l && m.q == p)) || (s.trackTo l p).isSome ||
  LaneId.all.any (fun k => (s.lane k).pend.any (fun x => match x.cmd with
    | .migrate _ 1 d q _ _ => LaneId.ofNum d == some l && q == p
    | _ => false))

/-- A SWITCH of a parcel waits, or is past its freeze tick. -/
def State.switching (s : State) (l : LaneId) (p : Nat) : Bool :=
  (s.host.migOf l p).any (fun m => m.switch.isSome) || (s.lane l).pend.any (fun x => match x.cmd with
    | .migrate p' 2 _ _ _ _ => p' == p
    | _ => false)

/-- Step 7 of TRACK (R320). -/
def State.trackStatus (s : State) (fn : Nat) (l : LaneId) (a p d q : Nat) : Nat :=
  match LaneId.ofNum d with
  | none => 0x000D
  | some t =>
    let src := s.std l fn a
    let dst := s.std t fn a
    if t = l then 0x000D
    else if s.migrating l p then 0x0014
    else if src.pState p != pRunning || dst.pState q != pUnloaded then 0x0006
    else if !dst.grantOk q (src.parcel p).image then 0x0011
    else if (s.lane l).standsBy || (s.lane t).standsBy then 0x0008
    else 0

/-- Step 7 of SWITCH: the parcel is tracked, or will be, to the target named, and F is a cycle-start tick (R321). -/
def State.switchStatus (s : State) (fn : Nat) (l : LaneId) (a p d q : Nat) : Nat :=
  match LaneId.ofNum d with
  | none => 0x000D
  | some t =>
    if s.trackTo l p != some (t, q) || s.switching l p then 0x0006
    else if !(s.std l fn a).cycleTick p a then 0x0007 else 0

/-- Step 7 of RESTORE: VERIFY, and the checks of R320 for the target (R323). -/
def State.restoreStatus (s : State) (fn : Nat) (l : LaneId) (a d q : Nat) (r : SavedRec) : Nat :=
  let std := s.std l fn a
  if (LaneId.ofNum d).isNone then 0x000D
  else if !r.ok || !r.img.ok then 0x0010
  else if s.migrating l q then 0x0014
  else if std.pState q != pUnloaded then 0x0006
  else if !std.grantOk q r.img then 0x0011 else 0

/-- Step 7: the status with which the arguments, or the rules of the opcode, refuse a command; 0 if none.
[log 96 DEDUCED] -/
def State.argStatus (s : State) (fn : Nat) (l : LaneId) (a : Nat) (c : HostCmd) : Nat :=
  let L := s.lane l
  let std := s.std l fn a
  match c with
  | .loadImage x => L.imageReason x
  | .writeSlot n d =>
    if 4096 ≤ n then 0x000D
    else if descReason std.fabric.desc std.chEn std.chTest (std.img.slots.getD n []) (s.quotaStep fn l a c) n d != 0 then 0x000E else 0
  | .setQuota vf q => if vf = 0 || 63 < vf then 0x000D else if s.quotaFits vf a q then 0 else 0x000B
  | .parcel p op img _ _ =>
    if 16 ≤ p || op = 0 || 7 < op then 0x000D
    else if !(pclFrom op).contains (std.pState p) then 0x0006
    else if op = 6 && !std.cycleTick p a then 0x0007
    else if op = 1 && !std.grantOk p img then 0x0011
    else if op = 1 && !img.ok then 0x0010
    else 0
  | .migrate p op d q r _ =>
    if 16 ≤ p || 16 ≤ q || op = 0 || op = 4 || 6 < op then 0x000D
    else match op with
      | 1 => s.trackStatus fn l a p d q
      | 2 => s.switchStatus fn l a p d q
      | 3 => if (s.trackTo l p).isNone then 0x0006 else 0
      | 5 => s.restoreStatus fn l a d q r
      | _ => if std.pState p != pFrozen then 0x0006 else 0
  | .setTarget ch _ =>
    if 64 ≤ ch then 0x000D else if std.fld .CMD_CH_CFG 30 28 ch != 0 then 0x0005 else 0
  | .tlReset lines => if 65536 ≤ lines then 0x000D else 0
  | .iluCtrl p op =>
    if 4 ≤ p || op = 0 || 3 < op then 0x000D else if std.iluState p != iluFrom op then 0x0006 else 0
  | .twinSwap => if L.pstate != psReplica then 0x0006 else 0
  | .timeAccept e =>
    let step := signed 64 (L.num64 .DTM_STEP_LO .DTM_STEP_HI)
    if L.dstate != dStepPend then 0x0006
    else if L.jump < (step - e).natAbs then 0x0009
    else if 100000000 < step.natAbs then 0x0002 else 0
  | .timeReject => if L.dstate != dStepPend then 0x0006 else 0
  | .keyRoll slots => if slots.any (fun i => decide (256 ≤ i)) then 0x020A else 0
  | .keyDrop _ slots => if slots.any (fun i => decide (256 ≤ i)) then 0x020A else 0
  | _ => 0

/-- The command as it waits: ACCEPT carries the step fixed at acceptance (R288). -/
def Lane.asPending (L : Lane) : HostCmd → HostCmd
  | .timeAccept _ => .timeAccept (signed 64 (L.num64 .DTM_STEP_LO .DTM_STEP_HI))
  | c => c

/-- What acceptance does beside making the command wait: a quota record is held beside the old one, a switch is set for
its freeze tick (R318, R321). -/
def State.onAccept (s : State) (l : LaneId) (id : CmdId) (c : HostCmd) : State :=
  match c with
  | .setQuota vf q => s.hcx (fun H => { H with quotaNext := H.quotaNext ++ [⟨vf, l, id.tag, q, id.apply, LaneId.all, false⟩] })
  | .migrate p op _ _ _ _ =>
    match op, s.host.migOf l p with
    | 2, some m => s.hcx (fun H => H.setMig m (some { m with switch := some id, at_ := id.apply, go := none }))
    | _, _ => s
  | _ => s

/-- An accepted command waits on its lane, and is forwarded to the standby of a pair (R44, R46). -/
def Lane.accept (id : CmdId) (c : HostCmd) (L : Lane) : Lane :=
  let c := L.asPending c
  let fwd := changesLane c && L.paired && L.role
  let L := L.addPend ⟨id, c, false, fwd, false, false⟩
  if fwd then L.emitTwin (.cmd id.fn id.tag id.apply c) else L

/-- A refusal by the host complex or the lane. -/
def State.refuse (s : State) (id : CmdId) (status : Nat) (result : List Byte := []) : State :=
  s.hcx (fun H => H.finish id status result)

/-- The code with which a slot write is refused, recorded in FAB_WR_LAST (R128). -/
def State.refuseSlot (s : State) (l : LaneId) (id : CmdId) (n : Nat) (d : Desc) : State :=
  let std := s.std l id.fn id.apply
  let code := descReason std.fabric.desc std.chEn std.chTest (std.img.slots.getD n []) (s.quotaStep id.fn l id.apply (.writeSlot n d)) n d
  (s.mapLane l (fun L => L.setReg .FAB_WR_LAST (w32 (code % 16 * 2 ^ 28 + n % 4096)))).refuse id 0x000E (leBytes 1 code)

/-- Steps 5 to 7 for a command that carries an apply tick. [log 96 DEDUCED] -/
def State.takeTimed (s : State) (l : LaneId) (id : CmdId) (argsOk : Bool) (c : HostCmd) : State :=
  let L := s.lane l
  let t := L.tickStatus c id.apply
  if changesLane c && L.standsBy then s.refuse id 0x0008
  else if t = 1 then (s.mapLane l (fun L => L.bumpSat .LCT_APPLY_LATE)).refuse id 1
  else if t != 0 then s.refuse id t
  else if !argsOk then s.refuse id 0x000D
  else
    let st := s.argStatus id.fn l id.apply c
    if st = 0x000E then (match c with
      | .writeSlot n d => s.refuseSlot l id n d
      | _ => s.refuse id st)
    else if st != 0 then s.refuse id st
    else (s.onAccept l id c).mapLane l (Lane.accept id c)

/-! ### Commands that ignore APPLY -/

/-- READ_SLOT (R305, R306, R468): descriptor, then state, and the slot's output of the last closure. -/
def State.readSlot (s : State) (l : LaneId) (id : CmdId) (n addr : Nat) : State :=
  let L := s.lane l
  if 4096 ≤ n then s.finishOn l id 0x000D
  else
    let bytes := descBytes (L.fabric.shownDesc.getD n []) 64 ++ (List.range 32).flatMap (fun i => leBytes 4 (L.stateWin n i).toNat)
    let o := L.elPrev n
    (s.hcx (fun H => H.emit (.write id.fn addr bytes))).finishOn l id 0
      (leBytes 4 o.val.toNat ++ leBytes 1 o.status ++ leBytes 3 o.tcnt)

/-- TRIGGER (R326, R343): the first tick whose edge follows the command's arrival. -/
def Lane.hostTrigger (id : CmdId) (defs : Nat) (L : Lane) : Lane :=
  let ok := (List.range 16).all (fun d => !defs.testBit d || L.flag .ACQ_RD_TRG2 16 d)
  if 65536 ≤ defs || !ok then L.finish id 0x000D
  else
    let t := L.tick + 1
    let L := { L with acq := { L.acq with host := L.acq.host ++ [(t, defs)] } }
    L.addPend ⟨{ id with apply := t }, .arcTrigger defs, false, false, false, false⟩

/-- FIELDBOOK on a lane's book (R348, R349). -/
def State.laneBook (s : State) (l : LaneId) (id : CmdId) (c : HostCmd) (addr : Nat) : State :=
  let L := s.lane l
  match c with
  | .fbRead from_ n =>
    let own := fun (src : Nat) => id.fn = 0 || (decide (l.srcBase + 16 ≤ src ∧ src < l.srcBase + 32) &&
      (s.host.quotaOn id.fn l).parcels.testBit (src - l.srcBase - 16))
    (s.hcx (fun H => H.emit (.write id.fn addr (bookRead L.book own from_ n)))).finishOn l id 0
  | .fbFlush => s.mapLane l (fun L => L.flushStart (some id))
  | .clearGen => s.mapLane l (fun L => ({ L with book := { L.book with gen := [] } }.showBook).finish id 0)
  | _ =>
    if id.fn != 0 || L.inService then s.finishOn l id 0x0110
    else s.mapLane l (fun L => ({ L with book := { L.book with safe := [] } }.showBook).finish id 0)

/-- FIELDBOOK on the host complex's book (R344, R349, R395). -/
def State.hostBook (s : State) (id : CmdId) (c : HostCmd) (addr : Nat) : State :=
  match c with
  | .fbRead from_ n => s.hcx (fun H =>
      (H.emit (.write id.fn addr (bookRead H.book (fun _ => id.fn = 0) from_ n))).finish id 0)
  | .fbFlush => s.hcx (fun H => ({ H with nor := H.book } : Hcx).finish id 0)
  | .clearGen => s.hcx (fun H => ({ H with book := { H.book with gen := [] } } : Hcx).finish id 0)
  | _ =>
    if id.fn = 0 ∧ s.parked ∧ s.safety.braked then s.hcx (fun H => ({ H with book := { H.book with safe := [] } } : Hcx).finish id 0)
    else s.refuse id 0x0110

/-- The generations that an image's windows must take in (R405, R417). [log 121 DEDUCED] -/
def State.stageWindows (s : State) (lane : Bool) (h : FwHeader) : Bool :=
  let inW := fun (lo hi g : Nat) => decide (lo ≤ g ∧ g ≤ hi)
  if lane then inW h.pmin h.pmax s.host.flash.running.genLo
  else
    inW h.spmin h.spmax s.safety.flash.running.genLo &&
    LaneId.all.all (fun l => !(s.lane l).inService || inW h.pmin h.pmax (s.lane l).img.gen)

/-- STAGE (R414, R417): the event is raised at its end (R467). [log 121 DEDUCED] -/
def State.stage (s : State) (lane : Option LaneId) (id : CmdId) (h : FwHeader) (halt : Option Nat) (now : Int) : State :=
  let ok := s.stageWindows lane.isSome h
  let done := fun (s : State) (F : Flash) (part : Nat) (st : Option Nat) =>
    if st = some 0 then s.raiseHost 8 0x02 now (leBytes 1 part ++ leBytes 1 (F.staged.getD 0)) else s
  match lane with
  | some l =>
    let r := (s.lane l).flash.stage 2 id h halt ok
    let s := s.mapLane l (fun L =>
      let L := L.setFlash r.flash
      match r.status with
      | some st => L.finish id st
      | none => L)
    done s r.flash l.num r.status
  | none =>
    let r := s.host.flash.stage 1 id h halt ok
    let s := s.hcx (fun H =>
      let H := H.setFlash r.flash
      match r.status with
      | some st => H.finish id st
      | none => H)
    done s r.flash 4 r.status

/-- FIRMWARE (R417). [log 122 DEDUCED] -/
def State.firmware (s : State) (lane : Option LaneId) (id : CmdId) (c : HostCmd) (now : Int) : State :=
  let flash := match lane with
    | some l => (s.lane l).flash
    | none => s.host.flash
  let put := fun (F : Option Flash) =>
    match lane, F with
    | some l, some F => s.mapLane l (fun L => (L.setFlash F).finish id 0)
    | some l, none => s.finishOn l id 0x0204
    | none, some F => s.hcx (fun H => (H.setFlash F).finish id 0)
    | none, none => s.refuse id 0x0204
  match c with
  | .stage h halt => s.stage lane id h halt now
  | .activate => put flash.activate
  | _ => put (flash.raiseSvn (if lane.isSome then 2 else 1))

/-- KEY PREPARE (R423): the XPORT public key for the image in the other bank goes to the buffer. -/
def State.keyPrepare (s : State) (l : LaneId) (id : CmdId) (addr : Nat) : State :=
  let L := s.lane l
  match L.nextMeas with
  | none => s.finishOn l id 0x0209
  | some m =>
    let k := Config.xportKey l.num m (L.keys.owner.getD 0) ((L.keys.nonce.map (·.toNat)).getD 0)
    (s.hcx (fun H => H.emit (.write id.fn addr (beBytes 96 k.toNat)))).finishOn l id 0

/-- FN_RESET (R305, R315): a VF that resets itself gets no completion. -/
def State.fnReset (s : State) (id : CmdId) (f : Nat) : State :=
  if 63 < f || !s.host.hasFn f then s.refuse id 0x000D
  else if f = id.fn then s.resetFn f
  else (s.resetFn f).refuse id 0

/-- A command of the host complex, LANE 4, past steps 1 to 3. -/
def State.takeHost (s : State) (h : CmdHead) (id : CmdId) (c : HostCmd) : State :=
  let now := h.now
  match c with
  | .setTod t => (s.hcx (fun H => { H with clock := t, clockSrc := 1, tod := some t })).refuse id 0
  | .arcAttach r => s.arcAttach id r now
  | .arcDetach => s.arcDetach id now
  | .arcFormat r => s.arcFormat id r now
  | .arcRead off len => s.arcAccess id 2 off len h.addr [] now
  | .arcWrite off bytes => s.arcAccess id 1 off bytes.length h.addr bytes now
  | .arcAlloc => s.arcAlloc id now
  | .arcClose e => s.arcMove id 7 e now
  | .arcPin e => s.arcMove id 8 e now
  | .arcUnpin e => s.arcMove id 9 e now
  | .arcFree e => s.arcMove id 10 e now
  | .arcList a b => s.arcList id a b h.addr
  | .fbRead a b => s.hostBook id (.fbRead a b) h.addr
  | .fbFlush => s.hostBook id .fbFlush h.addr
  | .clearGen => s.hostBook id .clearGen h.addr
  | .clearSafe => s.hostBook id .clearSafe h.addr
  | .stage x k => s.firmware none id (.stage x k) now
  | .activate => s.firmware none id .activate now
  | .raiseSvn => s.firmware none id .raiseSvn now
  | .fnReset f => s.fnReset id f
  | .nop => s.refuse id 0
  | c => match s.lifecycle c now with
    | some s => s.refuse id 0
    | none => s.refuse id 0x0206

/-- A lane's command that ignores APPLY, past steps 1 to 4. -/
def State.takeLane (s : State) (l : LaneId) (h : CmdHead) (id : CmdId) (c : HostCmd) : State :=
  match c with
  | .readSlot n => s.readSlot l id n h.addr
  | .migrate p _ _ _ _ len => if 16 ≤ p then s.finishOn l id 0x000D else s.migSave l id p len h.addr
  | .arcTrigger defs => s.mapLane l (Lane.hostTrigger id defs)
  | .keyPut k => s.mapLane l (fun L => let r := L.keyPut k; r.2.finish id r.1)
  | .keyPrepare => s.keyPrepare l id h.addr
  | .stage x k => s.firmware (some l) id (.stage x k) h.now
  | .activate => s.firmware (some l) id .activate h.now
  | .raiseSvn => s.firmware (some l) id .raiseSvn h.now
  | c => s.laneBook l id c h.addr

/-! ### Taking a command (R302) -/

/-- The lane a command is handed to: for RESTORE, which has no source lane here, its target lane, where it names one. -/
def handLane (c : HostCmd) (lane : Nat) : Option LaneId :=
  match c with
  | .migrate _ 5 d _ _ _ => (LaneId.ofNum d).or (LaneId.ofNum lane)
  | _ => LaneId.ofNum lane

/-- A command of a function is taken: the acceptance checks in their order, then what it does (R302). `ep` is the
function's reset count when the command holds a ring's credit. [log 95 DESIGN CHOICE] -/
def State.submit (h : CmdHead) (ep : Option Nat) (c : HostCmd) (argsOk : Bool) (s : State) : State :=
  let H := s.host
  let l := (handLane c h.lane).getD .a
  let onLane := (handLane c h.lane).isSome && decide (h.lane < 4)
  let L := s.lane l
  let a := if !usesApply c then 0 else if h.apply = 0 then L.tick + leadTicks c else h.apply
  let id : CmdId := ⟨h.fn, h.tag, cmdOp c, a, ep, false⟩
  let when_ := if usesApply c then a else L.tick
  if !H.hasFn h.fn then s
  else if !laneOk c h.lane || h.addr % 8 != 0 || lenLimit c < h.len then s.fence h.fn 1 0 ((H.fn h.fn).cons 0 + 65535) h.now
  else if h.fn != 0 && !vfMay h.fn c then s.refuse id 0x000C
  else if onLane && !s.quotaStep h.fn l when_ c then s.refuse id 0x000B
  else if onLane && s.fenced l then s.refuse id 0x000A
  else if usesApply c then s.takeTimed l id argsOk c
  else if !argsOk then s.refuse id 0x000D
  else if onLane then s.takeLane l h id c
  else s.takeHost h id c

/-- Commands that the host complex itself holds until they complete. -/
def Hcx.held (H : Hcx) : Nat := H.done.length + H.arc.jobs.cells.length + bnat H.arc.recover.isSome + bnat H.flash.job.isSome

/-- COMMAND_FETCH: the next descriptor of a command ring is fetched, when rings and credits allow, and its command
taken (R300 to R302). A command that the host complex itself holds is in flight until its completion.
[log 95 DESIGN CHOICE] -/
def State.commandFetch (f : Nat) (d : CmdDesc) (now : Int) (s : State) : State :=
  let F := s.host.fn f
  let room := (F.ring 1 == rRun || F.ring 1 == rDrain) && decide (F.cmdOut + F.fill 1 < F.size 1)
  if !s.host.mayFetch f 0 || F.size 0 ≤ F.cmdOut || !room then s
  else
    let i := F.cons 0
    let s := s.mapFn f (fun F => ((F.setFld .FN_RING_IDX 15 0 (i + 1) 0).takeCredit).setFld .FN_STAT 12 0 (F.cmdOut + 1))
    match d.cmd with
    | none => s.fence f 1 0 i now
    | some c =>
      if !d.headOk then s.fence f 1 0 i now
      else
        let t := s.submit (d.head f now) (some F.epoch) c d.argsOk
        if s.host.held < t.host.held then t.mapFn f (fun F => F.setFlight 0 (F.flight 0 + 1)) else t

/-- A command that its row gives whole is taken without a ring. [log 95 DESIGN CHOICE] -/
def State.direct (h : CmdHead) (c : HostCmd) (s : State) : State := s.submit h none c true

/-- COMMAND_COMPLETION, with the module items of a SET_QUOTA, which take effect when its completion is written (R303,
R318). -/
def State.completionRow (src : Option LaneId) (now : Int) (s : State) : State :=
  let queue := fun (s : State) => match src with
    | some l => (s.lane l).fin
    | none => s.host.done
  let t := s.commandCompletion src now
  match queue s with
  | [] => t
  | d :: _ =>
    if d.id.op = 4 ∧ (d.status = 0 ∨ d.status = 0x000A) ∧ (queue t).length < (queue s).length then
      t.hcx (fun H => H.quotaDone d.id.apply d.id.tag)
    else t

/-! ### Lane links (R12) -/

/-- LANE_LINK_TIMEOUT: the link is fenced; every outstanding command of the lane completes with LINKF, and those that
wait still take effect. [log 97 DEDUCED] -/
def State.linkTimeout (l : LaneId) (now : Int) (s : State) : State :=
  if s.fenced l then s else
  let L := s.lane l
  let frozen := fun (m : Mig) => m.src == l && m.froze
  let ids := (L.fin.map (·.id) ++ L.pend.map (·.id) ++ L.trip.jobs.map (·.id) ++ L.flush.filterMap (·.2) ++
    (L.flash.job.map (·.id)).toList ++ (s.host.migs.filter frozen).filterMap (·.switch)).filter (fun i => !i.quiet)
  let mute := fun (i : CmdId) => { i with quiet := true }
  let s := s.mapLane l (fun L =>
    { L with fin := [], pend := L.pend.map (fun x => { x with id := mute x.id }),
             trip := { L.trip with jobs := L.trip.jobs.map (fun j => { j with id := mute j.id }) },
             flush := L.flush.map (fun f => (f.1, f.2.map mute)),
             flash := { L.flash with job := L.flash.job.map (fun j => { j with id := mute j.id }) } })
  let s := s.hcx (fun H => { H with migs := H.migs.map (fun m => if frozen m then { m with switch := m.switch.map mute } else m) })
  let s := s.hcx (fun H => H.setFlag .HCX_LANE_LINK l.num true)
  let s := ids.foldl (fun (s : State) (i : CmdId) =>
    (if i.ep == some (s.host.fn i.fn).epoch then s.mapFn i.fn (fun F => F.setFlight 0 (F.flight 0 + 1)) else s).refuse i 0x000A) s
  s.raiseHost 1 0x01 now (leBytes 1 l.num)

/-- A fenced link is opened again by a reset of its lane or a warm module reset (R12). -/
def State.reopenLink (l : LaneId) (now : Int) (s : State) : State :=
  if !s.fenced l then s
  else (s.hcx (fun H => H.setFlag .HCX_LANE_LINK l.num false)).raiseHost 1 0x02 now (leBytes 1 l.num)

/-- CMD at State level: a forwarded SWITCH sets the standby's own switch (R46, R322). [log 95 DESIGN CHOICE] -/
def State.takeCmdRow (l : LaneId) (fn tag apply : Nat) (c : HostCmd) (s : State) : State :=
  let n := (s.lane l).pend.length
  let s := s.mapLane l (Lane.takeCmd fn tag apply c)
  if (s.lane l).pend.length = n then s else s.onAccept l ⟨fn, tag, cmdOp c, apply, none, true⟩ c

end Sys2Proof.Machine
end

