-- ==== Sys2Proof/Machine/SafetyLane.lean ====
section
/-! DEFINITION. The safety lane: seals, input pairs, brakes, holding test, diagnostics, status and its programming port
(R351 to R373, R420, R449). -/

namespace Sys2Proof.Machine

open Sys2Proof

/-! ### States and events (R368, R369, R373) -/

def sStart : Nat := 0
def sRun : Nat := 1
def sSafe : Nat := 2

/-- An event that the host complex has not received yet. -/
def Safety.event (x : Safety) (src code : Nat) (data : List Byte := []) : Safety :=
  { x with events := x.events ++ [(src, code, data)] }

/-- The value of a seal switch, SW1 to SW8; 0 before SEAL is read. -/
def Safety.sw (x : Safety) (n : Nat) : Nat := bits (x.seals.getD 0) (4 * n - 1) (4 * n - 4)

/-- The counts and length of a holding test's window, as its events carry them: 0 before it opens (R373).
[log 113 DEDUCED] -/
def Safety.htData (x : Safety) : List Byte :=
  match x.ht with
  | .window _ => leBytes 2 x.sp0 ++ leBytes 2 x.sp1 ++ leBytes 2 x.win
  | _ => leBytes 6 0

/-- The holding test ends with a result: 1 PASS, 2 FAIL, 3 ABORTED (R366). -/
def Safety.htEnd (x : Safety) (result : Nat) : Safety :=
  let y : Safety := { x with ht := .idle, result := result,
                             htfail := if result = 1 then false else if result = 2 then true else x.htfail }
  y.event 973 (result + 1) x.htData

/-- A holding test that runs is ABORTED. -/
def Safety.htAbort (x : Safety) : Safety := if x.ht = .idle then x else x.htEnd 3

/-- Every switch opens: the brakes are applied (R362). -/
def Safety.applyBrakes (x : Safety) : Safety :=
  if x.braked then x else ({ x with cmd := 0, since := 0, resetOk := false } : Safety).event 960 0x03

/-- The safe state, with its cause; only the first entry latches one (R369). [log 111 DEDUCED] -/
def Safety.toSafe (x : Safety) (cause : Nat) : Safety :=
  if x.st = sSafe then x
  else
    let x := x.applyBrakes.htAbort
    ({ x with st := sSafe, cause := cause } : Safety).event 960 0x02 (leBytes 1 cause)

/-- A diagnostic fails: the safe state with its cause (R368). [log 111 DEDUCED] -/
def Safety.fail (cause : Nat) (x : Safety) : Safety :=
  if x.st = sSafe then x else (x.event 962 0x01 (leBytes 1 cause)).toSafe cause

/-- DIAGNOSTIC_FAILURE: one of the causes of R368. [log 111 DEDUCED] -/
def Safety.diagnose (cause : Nat) (x : Safety) : Safety := if cause = 0 || 12 < cause then x else x.fail cause

/-! ### Seals (R353 to R355) -/

/-- SEAL_CRC (R354). -/
def sealCrc (w : Word) : Nat := crc16 (beBytes 4 w.toNat)

/-- Pair `i` is in use. -/
def Safety.used (x : Safety) (i : Nat) : Bool := (x.sw (3 + i / 4)).testBit (i % 4)

/-- Pair `i` is NC/NO. -/
def Safety.ncNo (x : Safety) (i : Nat) : Bool := (x.sw (1 + i / 4)).testBit (i % 4)

/-- S.BK1 is in use. -/
def Safety.bk1 (x : Safety) : Bool := (x.sw 7).testBit 0

/-- The holding test is enabled. -/
def Safety.htOn (x : Safety) : Bool := (x.sw 7).testBit 1

/-- Restart is manual: pair 6 is the reset pair. -/
def Safety.manual (x : Safety) : Bool := (x.sw 7).testBit 2

/-- The discrepancy time in ms. -/
def Safety.discMs (x : Safety) : Nat := [10, 20, 50, 100, 200, 500].getD (x.sw 5) 500

/-- Samples of the input filter: F ms at four samples each. -/
def Safety.filterN (x : Safety) : Nat := 4 * 2 ^ (x.sw 6 % 4)

/-- The switch-test interval in ms. -/
def Safety.testEvery (x : Safety) : Nat := [100, 1000, 10000, 60000].getD (x.sw 6 / 4) 60000

/-- The configuration is valid (R354). -/
def Safety.cfgOk (x : Safety) : Bool :=
  decide (x.sw 5 < 6) && (x.sw 3 != 0 || x.sw 4 != 0) && (!x.htOn || (x.used 7 && x.ncNo 7)) && (!x.manual || (x.used 6 && x.ncNo 6))

/-- SEAL_READ, once at power-up (R354). -/
def Safety.sealRead (w : Word) (x : Safety) : Safety :=
  if x.seals.isSome then x
  else
    let x := ({ x with seals := some w } : Safety).event 961 0x01 (leBytes 4 w.toNat ++ leBytes 2 (sealCrc w))
    if x.cfgOk then x else (x.event 961 0x02).fail 1

/-- SEAL_SAMPLE (R355). -/
def Safety.sealSample (w : Word) (x : Safety) : Safety :=
  if x.st = sSafe || x.seals.isNone || x.seals == some w then x else (x.event 961 0x03).fail 2

/-! ### Input pairs (R356 to R361) -/

/-- A pair. -/
def Safety.pair (x : Safety) (i : Nat) : Pair := x.pairs.getD i .fresh

/-- The safety lane with a pair replaced. -/
def Safety.setPair (x : Safety) (i : Nat) (p : Pair) : Safety := { x with pairs := x.pairs.put i p }

/-- Contact a of a pair is filtered in its demand state. -/
def Pair.aDem (p : Pair) : Bool := !p.a

/-- Contact b of a pair is filtered in its demand state. -/
def Pair.bDem (p : Pair) (ncNo : Bool) : Bool := if ncNo then p.b else !p.b

/-- One contact's sample (R358): the sample, the samples in a row of the other level, the filtered level.
[log 117 DESIGN CHOICE] -/
def filterStep (n : Nat) (last level blank filt : Bool) (run : Nat) : Bool × Nat × Bool :=
  let s := if blank then last else level
  if s == filt then (s, 0, filt) else if n ≤ run + 1 then (s, 0, s) else (s, run + 1, filt)

/-- S.TP0 and S.TP1 are driven, outside their off-pulses: not in the safe state (R357, R369). -/
def Safety.tpOn (x : Safety) : Bool := x.st != sSafe

/-- INPUT_SAMPLE: the levels of the contacts a and b of every pair, and whether each source's off-pulse blanks them; in
the safe state both sources are off and every sample is blanked (R358, R369). [log 117 DESIGN CHOICE] -/
def Safety.sample (a b : Nat) (blankA blankB : Bool) (x : Safety) : Safety :=
  let blankA := blankA || !x.tpOn
  let blankB := blankB || !x.tpOn
  foldTo 8 (fun (x : Safety) i =>
    if !x.used i then x
    else
      let p := x.pair i
      let fa := filterStep x.filterN p.sa (a.testBit i) blankA p.a p.ra
      let fb := filterStep x.filterN p.sb (b.testBit i) blankB p.b p.rb
      x.setPair i { p with sa := fa.1, ra := fa.2.1, a := fa.2.2, sb := fb.1, rb := fb.2.1, b := fb.2.2 }) x

/-- A fault is latched on pair `i`: on pair 7 it ends a holding test that runs (R360, R367). -/
def Safety.latchFault (x : Safety) (i : Nat) (p : Pair) (code : Nat) : Safety :=
  let x := (x.setPair i p).event (963 + i) code
  if i = 7 then x.htAbort else x

/-- TEST_PULSE: with a source off, closed contacts fed from it must read low and closed contacts of the other source
high; a source that does not switch off is a diagnostic failure (R357). [log 116 DEDUCED] -/
def Safety.testPulse (source a b : Nat) (off : Bool) (x : Safety) : Safety :=
  if !x.tpOn then x
  else if !off then x.fail 0xC
  else
    foldTo 8 (fun (x : Safety) i =>
      let p := x.pair i
      let own := if source = 0 then (p.a, a) else (p.b, b)
      let other := if source = 0 then (p.b, b) else (p.a, a)
      let bad := (own.1 && own.2.testBit i) || (other.1 && !other.2.testBit i)
      if !x.used i || !bad || (p.fault && p.pulse) then x
      else x.latchFault i { p with fault := true, pulse := true, step := 0, left := 0 } 0x04) x

/-- How a latched fault goes on in a cycle (R361): the pair, and the event it gives. [log 116 DEDUCED] -/
def Pair.clearing (p : Pair) (da db : Bool) (d : Nat) : Pair × Option Nat :=
  if !p.fault then (p, none)
  else if da && db then ({ p with step := 1, left := 0 }, none)
  else if !da && !db then
    (if p.step = 0 then (p, none) else ({ p with fault := false, pulse := false, step := 0, left := 0 }, some 5))
  else if p.step = 1 then ({ p with step := 2, left := 0 }, none)
  else if p.step = 2 then
    (if d ≤ p.left + 1 then ({ p with step := 0, left := 0 }, some (if p.pulse then 4 else 3)) else ({ p with left := p.left + 1 }, none))
  else (p, none)

/-- A pair in a cycle: its discrepancy timer, its latched fault, its demand (R359 to R361).
[log 114 DEDUCED, log 116 DEDUCED] -/
def Safety.pairCycle (x : Safety) (i : Nat) : Safety :=
  if !x.used i then x
  else
    let p := x.pair i
    let da := p.aDem
    let db := p.bDem (x.ncNo i)
    let timer := if da == db then none else some ((p.timer.map (· + 1)).getD 0)
    let r := ({ p with timer := timer } : Pair).clearing da db x.discMs
    let q := r.1
    let dem := !(x.manual && i == 6) && (da || db || q.fault)
    let x := x.setPair i { q with dem := dem }
    let x := match r.2 with
      | some c => x.event (963 + i) c
      | none => x
    if dem && !p.dem then x.event (963 + i) 0x01 else if p.dem && !dem then x.event (963 + i) 0x02 else x

/-- DISCREPANCY_TIMEOUT: the contacts of a pair still differ in the first cycle at or after D (R360).
[log 116 DEDUCED, log 118 DESIGN CHOICE] -/
def Safety.discrepancy (i : Nat) (x : Safety) : Safety :=
  let p := x.pair i
  if 8 ≤ i || !x.used i || p.fault || !p.timer.any (fun t => decide (x.discMs ≤ t)) then x
  else x.latchFault i { p with fault := true, pulse := false, step := 0, left := 0, dem := !(x.manual && i == 6) } 0x03

/-- A pair in use is in demand. [log 112 DEDUCED] -/
def Safety.demand (x : Safety) : Bool := (List.range 8).any (fun i => x.used i && (x.pair i).dem)

/-! ### Reset, holding test, brakes in a cycle (R362 to R367) -/

/-- The reset pair (R363): how long it has been in its demand state, and whether a press is accepted as it returns. A press
is spoiled by a demand, or by a fault on pair 6, in any of its cycles. [log 115 DEDUCED] -/
def Safety.pressCycle (x : Safety) : Safety :=
  if !x.manual then x
  else
    let p := x.pair 6
    let held := p.aDem || p.bDem (x.ncNo 6)
    match held, x.press with
    | true, none => { x with press := some 0, spoiled := x.demand || p.fault }
    | true, some t => { x with press := some (t + 1), spoiled := x.spoiled || x.demand || p.fault }
    | false, none => x
    | false, some t =>
      let ok := decide (100 ≤ t + 1 ∧ t + 1 ≤ 5000) && !x.spoiled && !x.demand && !p.fault
      let x : Safety := { x with press := none, spoiled := false }
      if ok then ({ x with resetOk := true } : Safety).event 960 0x05 else x.event 960 0x06

/-- Pair 7 in demand, by a contact or by a latched fault, requests a holding test (R359, R366). [log 113 DEDUCED] -/
def Safety.request (x : Safety) : Bool :=
  let p := x.pair 7
  x.htOn && (p.aDem || p.bDem (x.ncNo 7) || p.fault)

/-- The holding test in a cycle; `was` is pair 7's demand before it (R366, R367). [log 113 DEDUCED] -/
def Safety.htCycle (x : Safety) (was : Bool) : Safety :=
  match x.ht with
  | .idle =>
    if x.st = sRun && x.request && !was then
      let x : Safety := { x with ht := .waiting }
      x.event 973 0x01 x.htData
    else x
  | .waiting => if x.request then x else x.htEnd 3
  | .window t => { x with ht := .window (t + 1), win := min 65535 (t + 1) }

/-- HOLDING_TEST_WINDOW_OPEN: 200 ms after the brakes applied (R366). [log 113 DEDUCED] -/
def Safety.windowOpen (x : Safety) : Safety :=
  if x.ht = .waiting && x.braked && 200 ≤ x.since then { x with ht := .window 0, sp0 := 0, sp1 := 0, win := 0 } else x

/-- HOLDING_TEST_WINDOW_CLOSE: the request has ended, or 10 s have passed (R366). [log 113 DEDUCED] -/
def Safety.windowClose (x : Safety) : Safety :=
  match x.ht with
  | .window t => if x.request && t < 10000 then x else x.htEnd (if 1000 ≤ t then 1 else 3)
  | _ => x

/-- SPEED_PULSE: a rising edge counts in a test window; a count beyond L fails the test at once (R366). -/
def Safety.speedPulse (input : Nat) (x : Safety) : Safety :=
  match x.ht with
  | .window _ =>
    let x : Safety := if input = 0 then { x with sp0 := min 65535 (x.sp0 + 1) } else { x with sp1 := min 65535 (x.sp1 + 1) }
    if x.sw 8 < (if input = 0 then x.sp0 else x.sp1) then x.htEnd 2 else x
  | _ => x

/-- Every condition for release but the reset holds (R363). [log 114 DEDUCED] -/
def Safety.mayRelease (x : Safety) : Bool := x.st == sRun && !x.sag && !x.demand && !x.htfail && x.ht == .idle

/-- The brakes in a cycle: a demand applies them, and a reset accepted before it no longer counts; they are released when
every condition holds (R359, R363). [log 112 DEDUCED, log 115 DEDUCED] -/
def Safety.brakeCycle (x : Safety) : Safety :=
  if x.demand then { x.applyBrakes with resetOk := false }
  else if x.braked && x.mayRelease && (!x.manual || x.resetOk) then
    ({ x with cmd := if x.bk1 then 15 else 3, since := 0, testMs := 0 } : Safety).event 960 0x04
  else x

/-- The readback of each switch against what was commanded: wrong in two cycles in a row, a failure (R362). -/
def Safety.readback (x : Safety) (cmd rdbk : Nat) : Safety :=
  let x : Safety := { x with rdbk := rdbk % 16 }
  foldTo 4 (fun (x : Safety) i =>
    if 2 ≤ i && !x.bk1 then x
    else
      let n := if rdbk.testBit i == cmd.testBit i then 0 else x.diff.getD i 0 + 1
      let x : Safety := { x with diff := if n = 0 then x.diff.del i else x.diff.put i n }
      if n = 2 && x.st != sSafe then (x.event (971 + i / 2) 0x02).fail 9 else x) x

/-- A coil current is within its limits, or not yet to be judged (R365). -/
def Safety.coilOk (x : Safety) (b ma : Nat) : Bool :=
  if b = 1 && !x.bk1 then decide (ma ≤ 50)
  else if x.braked then decide (x.since < 200 ∨ ma ≤ 50)
  else
    let lo := if (x.sw 7).testBit 3 then 2000 else 500
    decide (x.since < 500 ∨ (lo ≤ ma ∧ ma ≤ if lo = 2000 then 4000 else 2000))

/-- COIL_CURRENT_FAILURE: a current has been outside its limits for 20 cycles (R365). [log 118 DESIGN CHOICE] -/
def Safety.coilFailure (b : Nat) (x : Safety) : Safety :=
  let n := if b = 0 then x.badCoil0 else x.badCoil1
  if 2 ≤ b || n < 20 || x.st = sSafe then x else (x.event (971 + b) 0x03).fail 0xA

/-- SAFETY_CYCLE: one 1 ms cycle, with the switches' readback, the coil currents in mA and the RAM errors corrected
since the last (R359 to R368). [log 114 DEDUCED, log 118 DESIGN CHOICE] -/
def Safety.cycle (rdbk coil0 coil1 ce : Nat) (x : Safety) : Safety :=
  let cmd := x.cmd
  let was := (x.pair 7).dem
  let before := x.demand
  let x : Safety := { x with uptime := (x.uptime + 1) % 2 ^ 32, since := x.since + 1, testMs := x.testMs + 1,
                             coil0 := min 65535 coil0, coil1 := min 65535 coil1, eccCe := satAdd32 x.eccCe ce }
  let x := if ce = 0 then x else x.event 962 0x02
  let x := foldTo 8 (fun (x : Safety) i => x.pairCycle i) x
  let x : Safety := if x.demand && !before then { x with demCnt := satAdd32 x.demCnt 1 } else x
  let x := (x.readback cmd rdbk).pressCycle
  let x := (x.htCycle was).brakeCycle
  { x with badCoil0 := if x.coilOk 0 coil0 then 0 else x.badCoil0 + 1, badCoil1 := if x.coilOk 1 coil1 then 0 else x.badCoil1 + 1 }

/-- SWITCH_TEST_ROUND: while released, every I; `bad` is a switch whose readback was wrong (R364).
[log 118 DESIGN CHOICE] -/
def Safety.switchTest (bad : Option Nat) (x : Safety) : Safety :=
  if x.st != sRun || x.braked || x.testMs < x.testEvery then x
  else
    let x : Safety := { x with testMs := 0 }
    match bad.filter (fun i => decide (i < 2) || (x.bk1 && decide (i < 4))) with
    | some i => (x.event (971 + i / 2) 0x02).fail 9
    | none =>
      let x : Safety := { x with testCnt := (x.testCnt + 1) % 2 ^ 32 }
      let x := x.event 971 0x01
      if x.bk1 then x.event 972 0x01 else x

/-! ### Start, sag (R369, R370, R404) -/

/-- SAFETY_START_COMPLETE: START to RUN once the diagnostics and the configuration check have passed (R369). -/
def Safety.startComplete (x : Safety) : Safety :=
  if x.st != sStart || x.held || x.sag || x.seals.isNone || !x.cfgOk || x.flash.run.isNone then x
  else ({ x with st := sRun } : Safety).event 960 0x01

/-- SAFETY_SAG: every brake switch opens (R370); a holding test ends (R366). [log 120 DEDUCED] -/
def Safety.sagged (x : Safety) : Safety :=
  if x.sag then x
  else
    let x := x.htAbort
    ({ x with cmd := 0, since := if x.braked then x.since else 0, resetOk := false, sag := true } : Safety).event 960 0x07

/-- The sequencer holds START while the module is parked; a safety lane in SAFE stays there (R404). -/
def Safety.park (x : Safety) : Safety :=
  if x.st = sSafe then x else { (x.applyBrakes.htAbort) with st := sStart, held := true, page := 0, hdr := none }

/-- The hold is released, and a page transfer is over (R404). -/
def Safety.unpark (x : Safety) : Safety := { x with held := false, page := 0, hdr := none }

/-! ### The programming port (R414, R420, R449) -/

/-- A page is refused: the transfer starts again from offset 0. [log 119 DEDUCED] -/
def Safety.pageBad (x : Safety) : Safety := { x with page := 0, hdr := none, pstOk := some false }

/-- PROGRAMMING_PAGE: a page of the image at an offset. The page at offset 0 holds the header; whether its SIG verifies
and the body matches its DIGEST is `h`'s. The bank
that is not executed from is written in the order of R414; after its last page the image is checked, and made bootable
if every check holds. [log 119 DEDUCED] -/
def Safety.programPage (offset : Nat) (h : FwHeader) (page : ProgPage) (x : Safety) : Safety :=
  if !x.held then x
  else if !pageCrcOk page offset || offset != x.page then x.pageBad
  else
    let F := x.flash
    let b := F.otherBank
    let hdr := if offset = 0 then fwRead page.octets h else x.hdr.getD h
    let F := if offset = 0 then F.setBank b { fwBlank (F.bank b) with eip := markSet } else F
    let next := offset + 256
    let x : Safety := { x with page := next, hdr := some hdr, flash := F, pstOk := some true }
    if next < 4096 + hdr.len then x
    else
      let n := fwProgram hdr ((F.bank (1 - b)).seq + 1) true
      if fwVerified 3 n && decide (F.fuseSvn ≤ n.svn) then
        { x with page := 0, hdr := none, flash := F.setBank b { n with commit := markSet } }
      else x.pageBad

/-! ### The status window (R372) -/

/-- SFS_STAT. -/
def Safety.statWord (x : Safety) : Word :=
  let dem := bitsWhere (fun i => x.used i && (x.pair i).dem) 8
  let flt := bitsWhere (fun i => x.used i && (x.pair i).fault) 8
  let wait := x.braked && x.mayRelease && x.manual && !x.resetOk
  w32 (x.st * 2 ^ 30 + bnat x.braked * 2 ^ 29 + bnat wait * 2 ^ 28 + bnat x.htfail * 2 ^ 27 + x.cause % 16 * 65536 + dem * 256 + flt)

/-- SFS_PAIRS. -/
def Safety.pairsWord (x : Safety) : Word :=
  w32 (((List.range 8).map (fun i =>
    let p := x.pair i
    if x.used i then
      (bnat p.aDem * 8 + bnat (p.bDem (x.ncNo i)) * 4 + bnat (p.fault && p.pulse) * 2 + 1) * 16 ^ i
    else 0)).sum)

/-- The window's registers but for SFS_SEQ. [log 21 DESIGN CHOICE] -/
def Safety.window (x : Safety) : List (Reg × Word) :=
  let w := x.seals.getD 0
  [(.SFS_ID, w32 (3 * 2 ^ 24 + x.flash.running.build % 65536 * 256)), (.SFS_STAT, x.statWord), (.SFS_SEAL, w),
   (.SFS_SEAL_CRC, w32 (if x.seals.isSome then sealCrc w else 0)), (.SFS_PAIRS, x.pairsWord),
   (.SFS_BK, w32 (bnat x.bk1 * 256 + x.cmd % 16 * 16 + x.rdbk % 16)), (.SFS_COIL, w32 (x.coil1 * 65536 + x.coil0)),
   (.SFS_HT, w32 (x.result * 2 ^ 30 + (match x.ht with
     | .window _ => 2 ^ 29
     | _ => 0) + x.win)),
   (.SFS_SP, w32 (x.sp1 * 65536 + x.sp0)), (.SFS_DEMCNT, w32 x.demCnt), (.SFS_TESTCNT, w32 x.testCnt),
   (.SFS_UPTIME, w32 x.uptime), (.SFS_ECC_CE, w32 x.eccCe)]

/-! ### The module's safety lane -/

/-- PD_S0 to PD_S3 are on. -/
def State.safetyOn (s : State) : Bool := s.host.fld .HCX_PD_STAT 15 12 == 15

/-- PD_H7 is on: the host complex receives the safety lane's status (R380). -/
def State.receiverOn (s : State) : Bool := s.host.flag .HCX_PD_STAT 11

/-- The safety lane changes, while it is powered. -/
def State.onSafety (f : Safety → Safety) (s : State) : State := if s.safetyOn then { s with safety := f s.safety } else s

/-- SAFETY_SAG, in hold-up (R370). [log 120 DEDUCED] -/
def State.safetySag (s : State) : State := if s.power.mstate = .holdUp then s.onSafety Safety.sagged else s

/-- The host complex copies the safety lane's window and stamps the events received (R372, R373). -/
def State.copyStatus (now : Int) (s : State) : State :=
  let x := s.safety
  let s := x.events.foldl (fun (s : State) e => s.raiseHost e.1 e.2.1 now e.2.2) s
  s.hcx (fun H => (x.window.foldl (fun (H : Hcx) r => H.setReg r.1 r.2) H).bump .SFS_SEQ)

/-- SAFETY_STATUS: the safety lane sends its status; without its receiver no copy is made, and events wait for it (R372,
R373, R380). After a sag the
safety domains go off once its event is sent, and the lane begins again from START (R370, R394).
[log 120 DEDUCED, log 176 DEDUCED] -/
def State.safetyStatus (now : Int) (s : State) : State :=
  if !s.safetyOn then s
  else
    let x := s.safety
    let s := if s.receiverOn then s.copyStatus now else s
    let left := if s.receiverOn then [] else x.events
    if x.sag then { s.hcx (fun H => H.setFld .HCX_PD_STAT 15 12 0) with safety := { Safety.fresh with flash := x.flash } }
    else { s with safety := { x with events := left } }

/-! ### Meanings -/

/-- SEAL_READ (R354). -/
def execSealRead (w : Word) (s : State) : Host.Outcome State Fault Refusal := onModule (State.onSafety (Safety.sealRead w)) s

/-- SEAL_SAMPLE (R355). -/
def execSealSample (w : Word) (s : State) : Host.Outcome State Fault Refusal := onModule (State.onSafety (Safety.sealSample w)) s

/-- INPUT_SAMPLE (R358). -/
def execInputSample (a b : Nat) (blankA blankB : Bool) (s : State) : Host.Outcome State Fault Refusal :=
  onModule (State.onSafety (Safety.sample a b blankA blankB)) s

/-- TEST_PULSE (R357). -/
def execTestPulse (source a b : Nat) (off : Bool) (s : State) : Host.Outcome State Fault Refusal :=
  onModule (State.onSafety (Safety.testPulse source a b off)) s

/-- SAFETY_CYCLE (R359). -/
def execSafetyCycle (rdbk coil0 coil1 ce : Nat) (s : State) : Host.Outcome State Fault Refusal :=
  onModule (State.onSafety (Safety.cycle rdbk coil0 coil1 ce)) s

/-- DISCREPANCY_TIMEOUT (R360). -/
def execDiscrepancyTimeout (pair : Nat) (s : State) : Host.Outcome State Fault Refusal :=
  onModule (State.onSafety (Safety.discrepancy pair)) s

/-- SWITCH_TEST_ROUND (R364). -/
def execSwitchTestRound (bad : Option Nat) (s : State) : Host.Outcome State Fault Refusal :=
  onModule (State.onSafety (Safety.switchTest bad)) s

/-- COIL_CURRENT_FAILURE (R365). -/
def execCoilCurrentFailure (brake : Nat) (s : State) : Host.Outcome State Fault Refusal :=
  onModule (State.onSafety (Safety.coilFailure brake)) s

/-- HOLDING_TEST_WINDOW_OPEN (R366). -/
def execHoldingTestWindowOpen (s : State) : Host.Outcome State Fault Refusal := onModule (State.onSafety Safety.windowOpen) s

/-- HOLDING_TEST_WINDOW_CLOSE (R366). -/
def execHoldingTestWindowClose (s : State) : Host.Outcome State Fault Refusal := onModule (State.onSafety Safety.windowClose) s

/-- SPEED_PULSE (R366). -/
def execSpeedPulse (input : Nat) (s : State) : Host.Outcome State Fault Refusal :=
  onModule (State.onSafety (Safety.speedPulse input)) s

/-- DIAGNOSTIC_FAILURE (R368). -/
def execDiagnosticFailure (cause : Nat) (s : State) : Host.Outcome State Fault Refusal :=
  onModule (State.onSafety (Safety.diagnose cause)) s

/-- WATCHDOG_MISS (R369). -/
def execWatchdogMiss (s : State) : Host.Outcome State Fault Refusal := onModule (State.onSafety (Safety.fail 7)) s

/-- SAFETY_START_COMPLETE (R369). -/
def execSafetyStartComplete (s : State) : Host.Outcome State Fault Refusal := onModule (State.onSafety Safety.startComplete) s

/-- SAFETY_SAG (R370). -/
def execSafetySag (s : State) : Host.Outcome State Fault Refusal := onModule State.safetySag s

/-- SAFETY_STATUS (R372). -/
def execSafetyStatus (now : Int) (s : State) : Host.Outcome State Fault Refusal := onModule (State.safetyStatus now) s

/-- PROGRAMMING_PAGE (R449). -/
def execProgrammingPage (offset : Nat) (h : FwHeader) (page : ProgPage) (s : State) : Host.Outcome State Fault Refusal :=
  onModule (State.onSafety (Safety.programPage offset h page)) s

end Sys2Proof.Machine
end

