-- ==== Sys2Proof/Machine/Resets.lean ====
section
/-! DEFINITION. Resets, hold-up and parking: what each keeps and what it sheds (R9, R347, R382, R392 to R397, R404,
R469). -/

namespace Sys2Proof.Machine

open Sys2Proof

/-! ### What a reset keeps (R9) -/

/-- The module power registers, held in PD_AON2. -/
def pwrRegs : List Reg :=
  [.HCX_PWR_STAT, .HCX_PWR_VIN, .HCX_PWR_VHOLD, .HCX_PWR_CAP, .HCX_SAG_CNT, .HCX_DIP_CNT, .HCX_FLUSH_LAST, .HCX_START_T,
   .HCX_PD_STAT, .HCX_TEMP]

/-- The safety-lane status window. -/
def sfsRegs : List Reg :=
  [.SFS_ID, .SFS_STAT, .SFS_SEQ, .SFS_SEAL, .SFS_SEAL_CRC, .SFS_PAIRS, .SFS_BK, .SFS_COIL, .SFS_HT, .SFS_SP, .SFS_DEMCNT,
   .SFS_TESTCNT, .SFS_UPTIME, .SFS_ECC_CE]

/-- The record ID, which is unique over the module's life (R334). -/
def idRegs : List Reg := [.HCX_ARC_RECID_LO, .HCX_ARC_RECID_HI]

/-- Host-complex registers that a warm module reset keeps. [log 30 DEDUCED] -/
def warmKeeps (r : Reg) : Bool := r.info.acc == .rws || pwrRegs.contains r || sfsRegs.contains r || idRegs.contains r

/-- Host-complex registers that a cold reset keeps. [log 30 DEDUCED] -/
def coldKeeps (r : Reg) : Bool := pwrRegs.contains r || idRegs.contains r

/-- A function over a warm module reset: fresh, and its earlier completions are dropped. -/
def Fn.afterWarm (F : Fn) : Fn := { Fn.fresh with epoch := F.epoch + 1 }

/-- Flash with no image running and no STAGE in progress. -/
def Flash.stopped (F : Flash) : Flash := { F with run := none, staged := none, job := none }

/-- The host complex after a warm module reset: occurrences not yet booked, NOR, keys, flash, clock and staged records
stand. [log 30 DEDUCED] -/
def Hcx.afterWarm (H : Hcx) : Hcx :=
  let N : Hcx := { Hcx.fresh with regs := H.regs.keep warmKeeps, fns := H.fns.mapv (fun _ F => F.afterWarm) }
  { N with clock := H.clock, clockSrc := H.clockSrc, tod := H.tod, occ := H.occ, book := H.nor, nor := H.nor,
           arc := { Archive.fresh with staged := H.arc.staged }, keys := H.keys, flash := H.flash.stopped, sent := H.sent }

/-- The host complex after a cold reset: what NOR, the key store and PD_AON2 hold. [log 30 DEDUCED] -/
def Hcx.afterCold (H : Hcx) : Hcx :=
  let N : Hcx := { Hcx.fresh with regs := H.regs.keep coldKeeps, fns := H.fns.mapv (fun _ F => F.afterWarm) }
  { N with book := H.nor, nor := H.nor, keys := H.keys, flash := H.flash.stopped, sent := H.sent }

/-- A lane after a cold reset: what MRAM, NOR and the key store hold; the rate starts from the flushed target, and the
identity last followed is the flushed one (R61, R292). [log 42 DEDUCED] -/
def Lane.afterCold (L : Lane) : Lane :=
  let N : Lane :=
    { Lane.fresh L.mac with
      saved := L.saved, copies := L.copies, critMram := L.critMram, hostGen := L.hostGen, free := L.free, sent := L.sent }
  let N : Lane :=
    { N with
      datum := { Datum.fresh with saved := L.datum.saved }
      ilu := { Ilu.fresh with b0 := L.ilu.b0, b1 := L.ilu.b1, newer := L.ilu.newer, prog := L.ilu.prog }
      keys := { L.keys with slots := ⟨[]⟩ }
      flash := L.flash.stopped
      fio := L.fio.fieldOnly
      reload := some true }
  match L.datum.saved with
  | none => N
  | some x =>
    let N := (N.setNum64 .DTM_RATE_CUR_LO .DTM_RATE_CUR_HI x.target).setNum64 .DTM_RATE_TGT_LO .DTM_RATE_TGT_HI x.target
    N.setNum64 .DTM_GM_LO .DTM_GM_HI x.gm

/-! ### Domains (R380) -/

/-- The host domains PD_H0 to PD_H7, as bits. -/
def State.hDomains (s : State) : Nat := s.host.fld .HCX_PD_STAT 11 4

/-- Every domain that any service needs is on: PD_AON0 to PD_AON3 and PD_S0 to PD_S3 (R402). -/
def State.anyService (s : State) : Bool := s.power.aonOff == 0 && s.host.fld .HCX_PD_STAT 15 12 == 15

/-- The module with the host domains set. -/
def State.setH (s : State) (v : Nat) : State := s.hcx (fun H => H.setFld .HCX_PD_STAT 11 4 v)

/-- The stage of a start (HCX_PWR_STAT.STAGE). -/
def State.stage_ (s : State) : Nat := s.host.fld .HCX_PWR_STAT 23 20

/-- The module with the stage set. -/
def State.setStage (s : State) (n : Nat) : State := s.hcx (fun H => H.setFld .HCX_PWR_STAT 23 20 n)

/-- The sequencer changes. -/
def State.pwr (s : State) (f : Power → Power) : State := { s with power := f s.power }

/-- The host complex is powered. -/
def State.hostOn (s : State) : Bool :=
  s.power.mstate == .starting || s.power.mstate == .service || s.power.mstate == .parked

/-! ### Resets -/

/-- A cold reset (R9): the whole module, the safety lane with it. The state it goes to is given. -/
def State.coldTo (m : MState) (s : State) : State :=
  let s : State := { s with lanes := s.lanes.mapv (fun _ L => L.afterCold), host := s.host.afterCold,
                            safety := { Safety.fresh with flash := s.safety.flash.stopped }, power := { Power.fresh with mstate := m } }
  let s := s.hcx (fun H => (H.setFld .HCX_PD_STAT 15 4 0).setFld .HCX_PWR_STAT 24 20 0)
  s.hcx (fun H => foldTo 5 (fun (H : Hcx) i => H.setReg .HCX_START_T 0xFFFF#32 i) H)

/-- COLD_RESET: the start sequence follows. -/
def State.coldReset (s : State) : State := s.coldTo .starting

/-- A reset of one lane: its link opens again, migrations and quota records that wait on it end, and its stage runs
when its turn comes (R9, R12, R302, R392). [log 131 DEDUCED] -/
def State.laneReset (l : LaneId) (kind : Nat) (now : Int) (s : State) : State :=
  let s := s.mapLane l (Lane.reset l.srcBase kind now)
  let s := ((s.reopenLink l now).hcx (fun H => H.quotaAbort l)).migAbort l
  s.pwr (fun P => { P with queue := P.queue.filter (fun k => k != l) ++ [l] })

/-- Some domain of the lane is on. -/
def Lane.powered (L : Lane) : Bool := L.fld .PWR_PD 19 0 != 0

/-- A narrower reset of the same tick is discarded: it leaves no event (R9). [log 147 DESIGN CHOICE] -/
def Lane.dropReset (now : Int) (L : Lane) : Lane :=
  { L with occ := L.occ.filter (fun o => !(o.src == 0 && o.code == 3 && tickOf o.time.toNat == tickOf now.toNat)) }

/-- What a warm module reset makes of a lane: one without power loses its registers without events. -/
def State.warmLane (now : Int) (s : State) (l : LaneId) : State :=
  if (s.lane l).powered then (s.mapLane l (Lane.dropReset now)).laneReset l 3 now else s.mapLane l Lane.afterReset

/-- The archive as a warm module reset leaves it: DETACHED, with an event where it was not, and records being written are
lost (R342, R467). -/
def State.arcWarm (s : State) (now : Int) : State :=
  let s := s.arcRelease 0x0101 now
  if s.host.arcState = aDetached then s else s.setArcState aDetached none now

/-- A warm module reset (R9): the host complex and every lane. [log 131 DEDUCED] -/
def State.warmReset (watchdog : Bool) (now : Int) (s : State) : State :=
  if !s.hostOn then s
  else
    let s := (s.raiseHost 2 (if watchdog then 1 else 2) now).arcWarm now
    let s := LaneId.all.foldl (State.warmLane now) s
    let s := s.hcx Hcx.afterWarm
    let s := s.pwr (fun P => { P with hcxUp := false, queue := if P.mstate = .parked then [] else LaneId.all,
                                      mstate := if P.mstate = .parked then .parked else .starting, reset := true })
    let s := s.hcx (fun H => foldTo 5 (fun (H : Hcx) i => H.setReg .HCX_START_T 0xFFFF#32 i) H)
    (s.hcx (fun H => H.setFlag .HCX_PWR_STAT 24 false)).setStage 3

/-- A write with the wrong KEY, or a request that is discarded (R392, R404). -/
def State.badKey (s : State) (offset why : Nat) (now : Int) : State :=
  s.raiseHost 7 0x04 now (leBytes 2 offset ++ leBytes 1 why)

/-- WARM_MODULE_RESET: a write to HCX_WARM_RESET. -/
def State.warmWrite (w : Word) (now : Int) (s : State) : State :=
  if !s.hostOn then s
  else if bits w 31 16 != 0x574D then s.badKey 0x7014 0 now
  else if bit w 0 then s.warmReset false now else s

/-- A cold or a warm module reset is in progress: the start that follows it has not ended (R9).
[log 147 DESIGN CHOICE] -/
def State.resetting (s : State) : Bool := s.power.mstate == .starting && s.power.reset

/-- LANE_RESET: a write to HCX_LANE_RESET, discarded while a wider reset is in progress and on a parked module; with
STBY_ONLY it is carried out on a standby in REPLICA only, else discarded with an event (R9, R392, R404).
[log 28 DEDUCED, log 147 DESIGN CHOICE] -/
def State.laneResetWrite (w : Word) (now : Int) (s : State) : State :=
  let l := (LaneId.ofNum (bits w 1 0)).getD .a
  let L := s.lane l
  if !s.hostOn then s
  else if bits w 31 16 != 0x4C52 then s.badKey 0x7010 0 now
  else if bit w 8 && !(L.pstate == psReplica && !L.role) then s.badKey 0x7010 1 now
  else if s.resetting || s.power.mstate == .parked then s
  else
    let s := s.mapLane l (fun L => { L with trav := { L.trav with resets := [] } })
    s.laneReset l (if bit w 8 then 2 else 0) now

/-- A lane that stays in its safe state after its third reset within 600 s (R469). [log 27 DEDUCED] -/
def Lane.holdSafe (now : Int) (L : Lane) : Lane :=
  let L := (L.setFld .PWR_STAT 31 28 0xA).setFld .LCT_TRAV_STAT 27 26 3
  ({ L with trav := { L.trav with held := true } }).raise 12 0x02 now (leBytes 1 0xA ++ leBytes 1 2)

/-- LANE_FAULT_HANDLING (R469): a lane in its safe state resets itself; after the third time within 600 s it stays
there, with its link fenced. It is carried out also while the start after a wider reset is in progress: R9 discards then
what is requested, and this is no request. [log 27 DEDUCED, log 28 DEDUCED, log 147 DESIGN CHOICE] -/
def State.laneFault (l : LaneId) (now : Int) (s : State) : State :=
  let L := s.lane l
  let recent := L.trav.resets.filter (fun t => decide (now - t < 600 * secNs))
  if L.fld .PWR_STAT 31 28 != 0xA || L.level != 3 || L.trav.held || s.power.mstate == .parked then s
  else
    let t := (s.mapLane l (fun L => { L with trav := { L.trav with resets := now :: recent } })).laneReset l 1 now
    if recent.length < 2 then t
    else
      ((t.mapLane l (Lane.holdSafe now)).pwr (fun P => { P with queue := P.queue.filter (fun k => k != l) })).linkTimeout l now

/-! ### Flush to MRAM (R395) -/

/-- The datum state that a flush writes. [log 42 DEDUCED] -/
def Lane.datumSave (L : Lane) (now : Int) : DatumSave :=
  ⟨now * 65536, L.rateTgt, L.datum.maps.head?, L.gmId, L.datum.meanTarget now L.datum.servo⟩

/-- The first `n` items of a lane's flush are written: datum state, committed critical state, field book.
[log 39 DEDUCED] -/
def Lane.flushItems (base n : Nat) (now : Int) (L : Lane) : Lane :=
  let L : Lane := if 1 ≤ n then { L with datum := { L.datum with saved := some (L.datumSave now) } } else L
  let L : Lane := if 2 ≤ n then
      { L with critMram := L.pcl.cells.foldl (fun (m : NMap (ParcelImg × ByteMem)) c =>
          if c.2.img.isSome && c.2.image.crit.2 != 0 then m.put c.1 (c.2.image, c.2.critDone) else m) ⟨[]⟩ }
    else L
  if 3 ≤ n then L.flushBook base else L

/-! ### Hold-up (R393 to R397) -/

/-- A lane at a sag: outputs secured, PD_x00, PD_x01 and PD_x03 left on. [log 34 DEDUCED, log 39 DEDUCED] -/
def Lane.sagged (now : Int) (L : Lane) : Lane :=
  let L := L.setReg .PWR_PD (L.reg .PWR_PD &&& 0xB#32)
  if !L.inService then L.setFld .PWR_STAT 31 28 0
  else
    let L := if L.level < 2 then L.sendWithdraw 7 now else L
    let L := (((L.linesToSafe (fun _ => true) 3 now).pubsStop 3 now).pulsesOff now).matrixStop
    let L : Lane := { L with ilu := { L.ilu with sag := true }, cores := ⟨[]⟩, net := Net.fresh }
    (L.setFlag .SWM_STAT 31 false).setFld .PWR_STAT 31 28 0

/-- SAG_DETECTED (R393, R394): outputs are secured and load is shed; the flush begins.
[log 30 DEDUCED, log 40 DEDUCED] -/
def State.sag (vin : Nat) (now : Int) (s : State) : State :=
  if s.power.mstate = .sleeping then s.coldTo .off
  else if !s.hostOn || 14700 ≤ vin then s
  else
    let flush := LaneId.all.filter (fun l => (s.lane l).inService)
    let s := s.hcx (fun H => (H.setReg .HCX_PWR_VIN (w32 vin)).setReg .HCX_SAG_CNT (w32 (satAdd32 (H.reg .HCX_SAG_CNT).toNat 1)))
    let s := s.raiseHost 7 0x01 now (leBytes 2 vin)
    let s : State := { s with lanes := s.lanes.mapv (fun _ L => L.sagged now) }
    let s := s.pcieDown now
    let s := (s.arcRelease 0x0101 now).hcx (fun H => H.setArc Archive.fresh)
    let s := s.setH (s.hDomains &&& 0xAA)
    s.pwr (fun P => { P with mstate := .holdUp, flush := flush, ret := false, sagAt := now, queue := [], hcxUp := false })

/-- DIP (R393). -/
def State.dip (s : State) : State :=
  if s.power.mstate = .off then s
  else s.hcx (fun H => H.setReg .HCX_DIP_CNT (w32 (satAdd32 (H.reg .HCX_DIP_CNT).toNat 1)))

/-- Every lane that flushes writes its first items. [log 39 DEDUCED] -/
def State.flushAll (items : LaneId → Nat) (s : State) : State :=
  let now := s.power.sagAt
  s.power.flush.foldl (fun (s : State) l => s.mapLane l (Lane.flushItems l.srcBase (items l) now)) s

/-- FLUSH_END (R396): every item is written, every domain goes off, and a cold reset follows.
[log 12 DESIGN CHOICE, log 39 DEDUCED] -/
def State.flushEnd (us : Nat) (s : State) : State :=
  if s.power.mstate != .holdUp then s
  else
    let ret := s.power.ret
    let s := s.flushAll (fun _ => 3)
    let s := s.hcx (fun H => H.setReg .HCX_FLUSH_LAST (w32 (2 ^ 31 + bnat ret * 2 ^ 30 + us % 65536)))
    s.coldTo .off

/-- HOLD_UP_ENERGY_END (R397): items not completed keep their previous copies. [log 39 DEDUCED] -/
def State.energyEnd (a b c d us : Nat) (s : State) : State :=
  if s.power.mstate != .holdUp then s
  else
    let ret := s.power.ret
    let s := s.flushAll (fun l => match l with
      | .a => a
      | .b => b
      | .c => c
      | .d => d)
    let s := s.hcx (fun H => H.setReg .HCX_FLUSH_LAST (w32 (bnat ret * 2 ^ 30 + us % 65536)))
    s.coldTo .off

/-- SUPPLY_RETURN (R396): it is noted, and shortens nothing. -/
def State.supplyReturn (vin : Nat) (s : State) : State :=
  if s.power.mstate != .holdUp then s
  else (s.hcx (fun H => H.setReg .HCX_PWR_VIN (w32 (min 65535 vin)))).pwr (fun P => { P with ret := true })

/-- SLEEP_SUPPLY_LOSS (R382). -/
def State.sleepLoss (s : State) : State := if s.power.mstate = .sleeping then s.coldTo .off else s

/-! ### Parking (R404) -/

/-- Registers that a parked lane keeps: RWS and those of the wake detector (R9, R269). [log 35 DEDUCED] -/
def parkKeeps (r : Reg) : Bool := r.info.acc == .rws || r == .SWM_WAKE_CODE || r == .SWM_WAKE_STAT

/-- A lane is parked: safe state, flush from the supply, domains off. [log 34 DEDUCED, log 35 DEDUCED] -/
def Lane.park (base : Nat) (now : Int) (L : Lane) : Lane :=
  if !L.powered then L
  else
    let L := if L.inService then (L.flushItems base 2 now).enterSafe 6 else L
    let L := if 7 ≤ L.fld .PWR_STAT 31 28 then L.flushBook base else L
    { L.afterCold with
      regs := L.regs.keep parkKeeps, reload := some (L.reload.getD false), fin := L.fin, placed := L.placed }

/-- The safety-lane status, as the host complex last copied it, shows the brakes applied. -/
def State.sfsApplied (s : State) : Bool := s.host.flag .SFS_STAT 29

/-- One lane is parked. [log 35 DEDUCED] -/
def State.parkOne (l : LaneId) (now : Int) (s : State) : State :=
  ((s.mapLane l (Lane.park l.srcBase now)).hcx (fun H => H.quotaAbort l)).migAbort l

/-- A lane that waits for its next edge to be parked is parked now. [log 35 DEDUCED] -/
def State.parkWaiting (s : State) (l : LaneId) : State :=
  if (s.lane l).trav.parkReq then s.parkOne l ((s.lane l).refEdge : Nat) else s

/-- Every lane leaves the start sequence; one in service is parked from its next edge, any other at once.
[log 35 DEDUCED] -/
def State.parkLanes (now : Int) (s : State) : State :=
  let s := LaneId.all.foldl (fun (s : State) l =>
    if (s.lane l).inService then s.mapLane l (fun L => { L with trav := { L.trav with parkReq := true } })
    else s.parkOne l now) s
  (s.pwr (fun P => { P with queue := [], mstate := .parked })).setStage 3

/-- PARK_ATTENDED: a write to HCX_PARK that asks for it. [log 35 DEDUCED] -/
def State.parkAttended (key : Nat) (now : Int) (s : State) : State :=
  if !s.hostOn then s
  else if key != 0x504B then s.badKey 0x7018 0 now
  else if !s.sfsApplied || s.power.mstate != .service then s.badKey 0x7018 1 now
  else { s.parkLanes now with safety := s.safety.park }

/-- PARK_SLEEPING: as attended, and the host complex and the safety lane go off; refused while the safety lane is in
SAFE. [log 35 DEDUCED] -/
def State.parkSleeping (key : Nat) (now : Int) (s : State) : State :=
  if !s.hostOn then s
  else if key != 0x504B then s.badKey 0x7018 0 now
  else if !s.sfsApplied || s.host.fld .SFS_STAT 31 30 == 2 || s.power.mstate == .starting then s.badKey 0x7018 1 now
  else
    let s := if s.power.mstate = .service then s.parkLanes now else s
    { s.coldTo .sleeping with lanes := s.lanes }

/-- UNPARK: the sequencer's hold is released and the lane stages start. [log 35 DEDUCED] -/
def State.unpark (key : Nat) (now : Int) (s : State) : State :=
  if !s.hostOn then s
  else if key != 0x504B then s.badKey 0x7018 0 now
  else if s.power.mstate != .parked then s
  else
    let s := LaneId.all.foldl State.parkWaiting s
    let s : State := { s with safety := s.safety.unpark,
                              lanes := s.lanes.mapv (fun _ L => L.setFlag .SWM_WAKE_STAT 31 false) }
    let s := s.hcx (fun H => foldTo 4 (fun (H : Hcx) i => H.setReg .HCX_START_T 0xFFFF#32 (i + 1)) H)
    (s.pwr (fun P => { P with mstate := .starting, queue := LaneId.all, reset := false })).setStage 3

/-- A write to HCX_PARK. -/
def State.parkWrite (w : Word) (now : Int) (s : State) : State :=
  match bits w 1 0 with
  | 1 => s.parkAttended (bits w 31 16) now
  | 2 => s.parkSleeping (bits w 31 16) now
  | 3 => s.unpark (bits w 31 16) now
  | _ => if s.hostOn && bits w 31 16 != 0x504B then s.badKey 0x7018 0 now else s

/-! ### Meanings -/

/-- COLD_RESET (R9). -/
def execColdReset (s : State) : Host.Outcome State Fault Refusal := onModule State.coldReset s

/-- WARM_MODULE_RESET (R9, R404). -/
def execWarmModuleReset (w : Word) (now : Int) (s : State) : Host.Outcome State Fault Refusal := onModule (State.warmWrite w now) s

/-- HOST_WATCHDOG_EXPIRY (R23). -/
def execHostWatchdogExpiry (now : Int) (s : State) : Host.Outcome State Fault Refusal := onModule (State.warmReset true now) s

/-- LANE_RESET (R392, R404). -/
def execLaneReset (w : Word) (now : Int) (s : State) : Host.Outcome State Fault Refusal := onModule (State.laneResetWrite w now) s

/-- LANE_FAULT_HANDLING (R469). -/
def execLaneFaultHandling (lane : LaneId) (now : Int) (s : State) : Host.Outcome State Fault Refusal :=
  onModule (State.laneFault lane now) s

/-- SAG_DETECTED (R393). -/
def execSagDetected (vin : Nat) (now : Int) (s : State) : Host.Outcome State Fault Refusal := onModule (State.sag vin now) s

/-- DIP (R393). -/
def execDip (s : State) : Host.Outcome State Fault Refusal := onModule State.dip s

/-- FLUSH_END (R396). -/
def execFlushEnd (us : Nat) (s : State) : Host.Outcome State Fault Refusal := onModule (State.flushEnd us) s

/-- HOLD_UP_ENERGY_END (R397). -/
def execHoldUpEnergyEnd (a b c d us : Nat) (s : State) : Host.Outcome State Fault Refusal :=
  onModule (State.energyEnd a b c d us) s

/-- SUPPLY_RETURN (R396). -/
def execSupplyReturn (vin : Nat) (s : State) : Host.Outcome State Fault Refusal := onModule (State.supplyReturn vin) s

/-- SLEEP_SUPPLY_LOSS (R382). -/
def execSleepSupplyLoss (s : State) : Host.Outcome State Fault Refusal := onModule State.sleepLoss s

/-- PARK_ATTENDED (R404). -/
def execParkAttended (key : Nat) (now : Int) (s : State) : Host.Outcome State Fault Refusal :=
  onModule (State.parkAttended key now) s

/-- PARK_SLEEPING (R404). -/
def execParkSleeping (key : Nat) (now : Int) (s : State) : Host.Outcome State Fault Refusal :=
  onModule (State.parkSleeping key now) s

/-- UNPARK (R404). -/
def execUnpark (key : Nat) (now : Int) (s : State) : Host.Outcome State Fault Refusal := onModule (State.unpark key now) s

end Sys2Proof.Machine
end

