-- ==== Sys2Proof/Machine/Start.lean ====
section
/-! DEFINITION. Start-up: power-good, stages, self-tests, boot selection, the generation check, domain faults and
temperatures (R269, R380 to R391, R405 to R417, R425, R454). -/

namespace Sys2Proof.Machine

open Sys2Proof

/-! ### Power-good, stages, hold-up charge (R382 to R387) -/

/-- POWER_GOOD: the start sequence begins. `capLow` is a capacitor below 10 V, which resets the module power registers
(R404). [log 12 DESIGN CHOICE, log 40 DEDUCED] -/
def State.powerGood (vin : Nat) (capLow : Bool) (s : State) : State :=
  if s.power.mstate != .off || vin < 16000 then s
  else
    let s := if capLow then s.hcx (fun H => { H with regs := H.regs.keep (fun r => !pwrRegs.contains r) }) else s
    let s := s.hcx (fun H => ((H.setReg .HCX_PWR_VIN (w32 (min 65535 vin))).setFld .HCX_PWR_STAT 24 20 0).setFld .HCX_PD_STAT 15 4 0)
    s.pwr (fun _ => Power.fresh)

/-- STAGE_START: the next of the stages S, H1 and H2 (R383, R384). [log 31 DEDUCED] -/
def State.stageStart (s : State) : State :=
  if s.power.mstate != .starting then s
  else match s.stage_ with
    | 0 => (s.hcx (fun H => H.setFld .HCX_PD_STAT 15 12 15)).setStage 1
    | 1 => (s.setH (s.hDomains ||| 0xAB)).setStage 2
    | 2 => (s.setH 0xFF).setStage 3
    | _ => s

/-- HOLD_LOW is set (R386). -/
def State.holdLow (now : Int) (s : State) : State :=
  (s.hcx (fun H => H.setFlag .HCX_PWR_STAT 25 true)).raiseHost 7 0x02 now (leBytes 2 (s.host.fld .HCX_PWR_CAP 15 0))

/-- HOLD_UP_CHARGE_MEASURE: C = 0.1 A × t / 30 V, t in µs giving C in µF (R386). -/
def State.chargeMeasure (t : Nat) (now : Int) (s : State) : State :=
  if s.power.mstate = .off then s
  else
    let c := t / 300
    let s := s.hcx (fun H => H.setReg .HCX_PWR_CAP (w32 (min 65535 c)))
    if c < 800 || 4400 < c then s.holdLow now else s

/-- HOLD_OK: the capacitor is at 46.0 V or more and the last measured C is at least 0.8 mF (R386). [log 40 DEDUCED] -/
def State.holdOk (vhold : Nat) (s : State) : State :=
  if s.power.mstate = .off || vhold < 46000 || s.host.fld .HCX_PWR_CAP 15 0 < 800 then s
  else s.hcx (fun H => (H.setReg .HCX_PWR_VHOLD (w32 (min 65535 vhold))).setFlag .HCX_PWR_STAT 26 true)

/-- HOLD_LOW_TIMEOUT: no HOLD_OK within 3,000 ms of power-good (R386). [log 2 DESIGN CHOICE] -/
def State.holdTimeout (now : Int) (s : State) : State :=
  if s.power.mstate != .starting || s.host.flag .HCX_PWR_STAT 26 || s.host.flag .HCX_PWR_STAT 25 then s else s.holdLow now

/-- SGEN_BAD: the safety GEN lies outside what the host firmware accepts (R408). -/
def State.showSgen (s : State) : State :=
  let h := s.host.flash.running
  let g := s.safety.flash.running.genLo
  s.hcx (fun H => H.setFlag .HCX_FW_STAT 27 (g < h.spmin || h.spmax < g))

/-- HOST_COMPLEX_READY: self-tests passed, firmware verified and running; or not, and the lanes start without it (R384,
R387, R408). [log 12 DESIGN CHOICE, log 31 DEDUCED] -/
def State.hostReady (ok : Bool) (ms : Nat) (now : Int) (s : State) : State :=
  if !(s.power.mstate == .starting || s.power.mstate == .parked) || s.stage_ < 3 || s.power.hcxUp || s.host.flag .HCX_PWR_STAT 24 then s
  else if !ok || s.host.flash.run.isNone || s.hDomains != 0xFF || !s.anyService then s.hcx (fun H => H.setFlag .HCX_PWR_STAT 24 true)
  else
    let s := (s.hcx (fun H => H.setReg .HCX_START_T (w32 (min 65535 ms)) 0)).showSgen
    (s.pwr (fun P => { P with hcxUp := true })).raiseHost 0 0x01 now (leBytes 4 (s.host.reg .HCX_ID).toNat)

/-! ### A lane stage (R385, R388 to R391) -/

/-- The phase of a lane's start. -/
def Lane.phase (L : Lane) : Nat := L.fld .PWR_STAT 31 28

/-- The lane with its phase set. -/
def Lane.setPhase (L : Lane) (p : Nat) : Lane := L.setFld .PWR_STAT 31 28 p

/-- A lane is in its stage and holds the next one back, until it is in service; one whose datum stays UNSET holds it until
it has found no source for its initial set (R276, R385). -/
def Lane.inStage (L : Lane) : Bool :=
  decide (1 ≤ L.phase ∧ L.phase ≤ 6) || (L.phase == 7 && (L.dstate != dUnset || !L.datum.tried))

/-- When no lane stage is left to run, STARTING ends. [log 31 DEDUCED] -/
def State.startDone (s : State) : State :=
  if s.power.mstate = .starting && s.power.queue.isEmpty && LaneId.all.all (fun l => !(s.lane l).inStage) then
    (s.pwr (fun P => { P with mstate := .service })).setStage 8
  else s

/-- A lane is held: its self-test results or its firmware allow no service (R385, R412). -/
def Lane.hold (now : Int) (L : Lane) : Lane :=
  let L := if L.phase < 7 then L.restoreBook else L
  (L.setPhase 9).raise 12 0x02 now (leBytes 1 9 ++ leBytes 1 0)

/-- LANE_START: the stage of the first lane in the queue begins, groups G1 to G4 are switched on and the self-tests
follow. -/
def State.laneStart (l : LaneId) (s : State) : State :=
  let hcx := s.power.hcxUp || s.host.flag .HCX_PWR_STAT 24
  let cap := s.host.flag .HCX_PWR_STAT 26 || s.host.flag .HCX_PWR_STAT 25
  if !(s.power.mstate == .starting || s.power.mstate == .service) || !s.anyService || s.power.queue.head? != some l || !hcx || !cap ||
     LaneId.all.any (fun k => (s.lane k).inStage) then s
  else
    let s := s.mapLane l (fun L => ((L.setReg .PWR_PD 0xFFFFF#32).setReg .PWR_STAT 0).setPhase 2)
    let s := s.pwr (fun P => { P with queue := P.queue.drop 1 })
    if s.power.mstate = .starting then s.setStage (4 + l.num) else s

/-- MEMORY_SELF_TEST_END: groups that fail beyond repair, groups repaired, and the spare rows and columns used, with an event
for each (R388, R391). [log 12 DESIGN CHOICE] -/
def Lane.memoryTest (fail repair rows cols ms : Nat) (now : Int) (L : Lane) : Lane :=
  if L.phase != 2 then L
  else
    let L := (L.setReg .PWR_MBIST_STAT (w32 (repair % 2048 * 65536 + fail % 2048))).setReg .PWR_MBIST_REPAIR
      (w32 (cols % 65536 * 65536 + rows % 65536))
    let L := ((L.setFld .PWR_BIST_MS 15 0 ms).setFlag .PWR_STAT 25 (repair % 2048 != 0)).setPhase 3
    if repair % 2048 = 0 then L
    else foldTo (rows % 65536 + cols % 65536) (fun (L : Lane) _ => L.raise 12 0x03 now (leBytes 4 (L.reg .PWR_MBIST_REPAIR).toNat)) L

/-- The level that failed memory groups allow: 0, 2 or 3 (R390). -/
def memResult (fail : Nat) : Nat := if fail % 16 != 0 then 3 else if fail % 2048 != 0 then 2 else 0

/-- The level that failed logic partitions other than the pipelines allow (R390). -/
def logicResult (fail : Nat) : Nat :=
  if fail.testBit 7 || fail.testBit 8 || fail.testBit 9 then 3 else if fail.testBit 5 || fail.testBit 6 || fail.testBit 10 then 2 else 0

/-- The pipelines as the self-test and their domains leave them: the map, and whether at most one has failed (R130, R390). -/
def Lane.judgePipes (L : Lane) : Lane × Bool :=
  let good := fun i => !L.flag .PWR_LBIST_FAIL i && L.flag .PWR_PD (11 + i)
  L.setPipes (good 0) (good 1) (good 2) (good 3) (good 4)

/-- LOGIC_SELF_TEST_END: the signatures of LB0 to LB4 and of LB5 to LB10 are compared with their benchmarks; the pipeline
map, and the level allowed (R130, R389, R390). A pipeline whose domain has gone off has failed.
[log 12 DESIGN CHOICE] -/
def Lane.logicTest (pipes others : List Nat) (ms : Nat) (now : Int) (L : Lane) : Lane :=
  if L.phase != 3 then L
  else
    let sigs := pipes ++ others
    let fail := bitsWhere (fun i => decide (sigs.getD i 0 ≠ (Config.benchmark i).toNat)) 11
    let L := foldTo 11 (fun (L : Lane) i => L.setNum64 .PWR_LBIST_SIG_LO .PWR_LBIST_SIG_HI (sigs.getD i 0) i) L
    let L := ((L.setReg .PWR_LBIST_FAIL (w32 (fail % 2048))).setFld .PWR_BIST_MS 31 16 ms).bump .PWR_BIST_CNT
    let p := L.judgePipes
    let L := p.1
    let mem := L.fld .PWR_MBIST_STAT 10 0
    let r := max (max (L.fld .PWR_STAT 27 26) (if p.2 then 0 else 2)) (max (memResult mem) (logicResult fail))
    let L := L.setFld .PWR_STAT 27 26 r
    let bad := mem != 0 || fail % 2048 != 0
    let L := L.raise 12 (if bad then 5 else 1) now (leBytes 4 (L.reg .PWR_MBIST_STAT).toNat ++ leBytes 2 (fail % 2048))
    if r = 3 then L.hold now else L.setPhase 4

/-! ### Boot and confirmation (R412, R413) -/

/-- A failed trial sent the part to its other bank. -/
def State.fellBack (s : State) (part : Nat) (back : Bool) (now : Int) : State :=
  if back then s.raiseHost 8 0x01 now (leBytes 1 part) else s

/-- The measurement of the running image, as KEY_MEAS shows it. [log 41 DESIGN CHOICE] -/
def Lane.showMeas (L : Lane) : Lane :=
  foldTo 12 (fun (L : Lane) w => L.setReg .KEY_MEAS (w32 (leAt (beBytes 48 L.flash.running.digest) (4 * w) 4)) w) L

/-- A lane's firmware boots. -/
def Lane.boot (now : Int) (L : Lane) : Lane × Bool :=
  let r := L.flash.boot 2
  let L := (L.setFlash r.1).setFlag .LCT_FW_STAT 30 r.2
  (if r.1.run.isNone then L.hold now else (L.restoreKeys.showMeas).setPhase 5, r.2)

/-- BOOT_SELECTION: parts 0 to 3 are lanes A to D, 4 the host complex, 5 the safety lane (R412, R413). -/
def State.bootSelection (part : Nat) (now : Int) (s : State) : State :=
  match LaneId.ofNum part with
  | some l =>
    if (s.lane l).phase != 4 then s
    else
      let r := (s.lane l).boot now
      (s.mapLane l (fun _ => r.1)).fellBack part r.2 now
  | none =>
    if part = 4 then
      (if s.power.hcxUp || !s.hostOn || s.stage_ < 2 || s.host.flash.run.isSome then s
       else
         let r := s.host.flash.boot 1
         (s.hcx (fun H => (H.setFlash r.1).setFlag .HCX_FW_STAT 30 r.2)).fellBack 4 r.2 now)
    else if part = 5 then
      (if !s.safetyOn || s.safety.st != sStart || s.safety.flash.run.isSome then s
       else
         let r := s.safety.flash.boot 3
         let x : Safety := { s.safety with flash := r.1 }
         let s : State := { s with safety := if r.1.run.isNone then x.fail 6 else x }
         if s.power.hcxUp then s.showSgen else s)
    else s

/-- BOOT_CONFIRM: a part has reached its point of success (R413, R423). -/
def State.bootConfirm (part : Nat) (s : State) : State :=
  match LaneId.ofNum part with
  | some l =>
    if (s.lane l).inService && decide ((s.lane l).level ≤ 1) then
      s.mapLane l (fun L => (L.setFlash L.flash.confirm).eraseOldKeys)
    else s
  | none =>
    if part = 4 then (if s.power.hcxUp then s.hcx (fun H => H.setFlash H.flash.confirm) else s)
    else if part = 5 && s.safety.st == sRun then { s with safety := { s.safety with flash := s.safety.flash.confirm } }
    else s

/-! ### The image step (R385, R407, R416) -/

/-- The generations agree, with the host GEN used: that of a host complex that is up, or the one recorded (R407).
[log 38 DEDUCED] -/
def State.generationsOk (s : State) (L : Lane) (img : Image) : Bool :=
  let run := L.flash.running
  let h := s.host.flash.running
  let built := decide (run.genLo ≤ img.gen ∧ img.gen ≤ run.genHi)
  if s.power.hcxUp then
    built && decide (h.pmin ≤ img.gen ∧ img.gen ≤ h.pmax ∧ run.pmin ≤ h.genLo ∧ h.genLo ≤ run.pmax)
  else built && L.hostGen.any (fun g => decide (run.pmin ≤ g ∧ g ≤ run.pmax))

/-- A slot write that a reset cut short has been noted. [log 37 DEDUCED] -/
def Lane.dropCutSlot (L : Lane) : Lane :=
  let clear := fun (x : ImgSlot) => if x.eip then { x with eip := false, commit := false, applied := false } else x
  { L with flash := { L.flash with slot0 := clear L.flash.slot0, slot1 := clear L.flash.slot1 } }

/-- The image in force is read and the restore from MRAM made; every line is at SAFE until the first traverse; a port that
the image enables and whose domain is off allows Level 2 (R149, R213, R306, R347, R385, R390). [log 37 DEDUCED] -/
def Lane.restore (slot : Option (Bool × ImgSlot)) (now : Int) (L : Lane) : Lane :=
  let img := (slot.map (fun x => x.2.img)).getD .empty
  let old := L
  let L := (L.withImage img).setFld .LCT_FW_STAT 23 16 img.gen
  let L := (((L.imageSlots img).imageTrip old).imageOutputs old).imageStatus
  let L := (L.iluRestore now).restoreBook
  let need := [0, 1, 2, 3].any (fun p => L.flag .SWM_PORT_CFG 31 p && !L.flag .PWR_PD (4 + p))
  let L := if need then L.setFld .PWR_STAT 27 26 (max 2 (L.fld .PWR_STAT 27 26)) else L
  let L := (L.setFlag .LCT_TIMG_STAT 31 (slot.any (fun x => x.1))).setFlag .LCT_TIMG_STAT 30 slot.isSome
  (((L.setFlag .SWM_STAT 31 true).linesToSafe (fun _ => true) 1 now).pubsStop 1 now).setPhase 7

/-- GENERATION_CHECK: a lane that fails it is to serve at Level 2 (R407). [log 37 DEDUCED, log 38 DEDUCED] -/
def State.generationCheck (l : LaneId) (now : Int) (s : State) : State :=
  let L := s.lane l
  if L.phase != 5 then s
  else
    let slot := L.flash.imgSlot
    let cut := L.flash.slot0.eip || L.flash.slot1.eip
    let read := slot.any (fun x => x.2.ok)
    let pass := read && s.generationsOk L ((slot.map (fun x => x.2.img)).getD .empty)
    let up := s.power.hcxUp
    let gen := s.host.flash.running.genLo
    s.mapLane l (fun L =>
      let L := if slot.isSome && !read then L.raise 0 0x08 now (leBytes 1 1) else L
      let L := if cut then (L.raise 0 0x08 now (leBytes 1 2)).dropCutSlot else L
      let L := (L.restore (slot.filter (fun x => x.2.ok)) now)
      if pass then (if up then { L with hostGen := some gen } else L)
      else (L.setFlag .PWR_STAT 24 true).raise 12 0x02 now (leBytes 1 5 ++ leBytes 1 1))

/-! ### Domain faults (R381, R390) -/

/-- The consequence of a lane domain's fault: 3 the safe state, 2 Level 2, 1 a port lost (R390). [log 33 DEDUCED] -/
def domainResult (d : Nat) : Nat := if d ≤ 3 ∨ d = 8 then 3 else if d ≤ 7 then 1 else 2

/-- A lane's domain is off after a fault: in service at the next edge, in a start as a failed self-test. A port that the
image enables is needed by it. [log 33 DEDUCED] -/
def Lane.domainFault (d : Nat) (now : Int) (L : Lane) : Lane :=
  let L := L.setFlag .PWR_PD d false
  let L := if d = 16 then L.pulsesOff now else L
  let r := domainResult d
  let ports := [4, 5, 6, 7].any (fun p => L.flag .PWR_PD p)
  let r := if r = 1 && !ports then 3 else r
  if L.inService then
    (if r = 1 then L.portLinkDown (d - 4) ⟨now, false⟩ else L.dropTo r 3 now)
  else if L.inStage || L.phase = 7 then
    let pipe := decide (11 ≤ d ∧ d ≤ 15)
    let p := if pipe && decide (4 ≤ L.phase) then L.judgePipes else (L, true)
    let L := p.1
    let r := if r = 1 then (if L.phase = 7 && L.flag .SWM_PORT_CFG 31 (d - 4) then 2 else 0)
             else if pipe && d != 15 then (if p.2 then 0 else 2) else r
    let L := L.setFld .PWR_STAT 27 26 (max r (L.fld .PWR_STAT 27 26))
    if r = 3 then L.hold now else L
  else L

/-- Where a domain's bit lies: a lane with its domain's number, or a bit of word 0. [log 33 DEDUCED] -/
def domainOf (word bit_ : Nat) : Option (LaneId × Nat) :=
  let k := word * 32 + bit_
  if k < 16 then none else (LaneId.ofNum ((k - 16) / 20)).map (fun l => (l, (k - 16) % 20))

/-- No service at all is left: every lane goes to its safe state (R402). -/
def State.allSafe (now : Int) (s : State) : State :=
  LaneId.all.foldl (fun (s : State) l => s.mapLane l (fun L => if L.inService then L.dropTo 3 3 now else L)) s

/-- DOMAIN_FAULT: the domain of a bit of HCX_PD_STAT is switched off (R381). [log 33 DEDUCED] -/
def State.domainFault (d : Nat) (now : Int) (s : State) : State :=
  if 96 ≤ d then s
  else
    let ev := fun (s : State) => s.raiseHost 7 0x03 now (leBytes 1 d)
    match domainOf (d / 32) (d % 32) with
    | some (l, x) =>
      if !(s.lane l).flag .PWR_PD x then s else ((ev s).mapLane l (Lane.domainFault x now)).startDone
    | none =>
      if d < 4 then
        (if s.power.mstate = .off || s.power.aonOff.testBit d then s
         else (((ev s).pwr (fun P => { P with aonOff := P.aonOff ||| 2 ^ d })).allSafe now))
      else if !s.host.flag .HCX_PD_STAT d then s
      else
        let s := (ev s).hcx (fun H => H.setFlag .HCX_PD_STAT d false)
        if 12 ≤ d then ({ s with safety := { Safety.fresh with flash := s.safety.flash.stopped } } : State).allSafe now
        else if d = 4 then s.pcieDown now
        else if d = 5 then s.pwr (fun P => { P with hcxUp := false })
        else s

/-! ### Temperatures (R454), wake (R269), keys and slots -/

/-- DIE_OVERTEMP: a lane's die temperature; at 125 °C the lane goes to its safe state. [log 137 DESIGN CHOICE] -/
def Lane.dieTemp (temp : Int) (now : Int) (L : Lane) : Lane :=
  let t := wrap 16 temp
  let peak := max (signed 16 (L.fld .PWR_TEMP 31 16)) (signed 16 t)
  let L := L.setReg .PWR_TEMP (w32 (wrap 16 peak * 65536 + t))
  if temp < 125 * 16 then L else (L.raise 12 0x04 now (leBytes 2 t)).dropTo 3 7 now

/-- TREF_ALARM: TREF above +75 °C raises an event, and again at each further 1 K.
[log 43 DEDUCED, log 137 DESIGN CHOICE] -/
def State.trefAlarm (tref now : Int) (s : State) : State :=
  let s := s.hcx (fun H => H.setFld .HCX_TEMP 31 16 (wrap 16 tref))
  if tref ≤ 75 * 16 then s.pwr (fun P => { P with hot := none })
  else if s.power.hot.all (fun h => decide (h + 1 ≤ tref / 16)) then
    (s.pwr (fun P => { P with hot := some (tref / 16) })).raiseHost 7 0x05 now (leBytes 2 (wrap 16 tref))
  else s

/-- A bit burst's bit by its length in µs: none outside the limits (R269). -/
def wakeBit (us : Nat) : Option Nat :=
  if 75 ≤ us ∧ us ≤ 125 then some 0 else if 250 ≤ us ∧ us ≤ 350 then some 1 else none

/-- The 16 bits of a pattern whose every element is within its limits, most significant bit first (R269).
[log 36 DEDUCED] -/
def wakeBits (w : WakePattern) : Option Nat :=
  let bits := w.bursts.map wakeBit
  if 900 ≤ w.start ∧ w.start ≤ 1100 ∧ w.bursts.length = 16 ∧ w.gaps.length = 17 ∧ 1000 ≤ w.silence &&
      w.gaps.all (fun g => decide (150 ≤ g ∧ g ≤ 250)) && bits.all (·.isSome) then
    some (bits.foldl (fun n b => n * 2 + b.getD 0) 0)
  else none

/-- The code of an accepted pattern: its CRC-4 holds and the code is not 0 (R269). [log 36 DEDUCED] -/
def wakeCode (w : WakePattern) : Option Nat :=
  (wakeBits w).bind (fun n => if crc4 (n / 16) = n % 16 ∧ n / 16 ≠ 0 then some (n / 16) else none)

/-- WAKE_PATTERN: at a parked module any pattern but a correct one with the lane's code is counted; that one wakes a
module that sleeps, and WOKE then names its lane (R269, R382). [log 36 DEDUCED] -/
def State.wakePattern (l : LaneId) (w : WakePattern) (s : State) : State :=
  let own := fun (L : Lane) => wakeCode w == some (L.fld .SWM_WAKE_CODE 11 0)
  if s.power.mstate != .sleeping && s.power.mstate != .parked then s
  else if !own (s.lane l) then
    s.mapLane l (fun L => L.setFld .SWM_WAKE_STAT 15 0 (min 65535 (L.fld .SWM_WAKE_STAT 15 0 + 1)))
  else if s.power.mstate == .parked then s
  else
    let s := LaneId.all.foldl State.parkWaiting s
    ({ s with lanes := s.lanes.mapv (fun k L => L.setFlag .SWM_WAKE_STAT 31 (k == l)) }).pwr (fun _ => Power.fresh)

/-- LPDDR_SCRUB: the scrub corrects cells and changes nothing that can be read (R388). [log 127 DEDUCED] -/
def Lane.scrub (L : Lane) : Lane := L

/-- ERASE_SUSPEND and ERASE_RESUME act on a part's flash; a lane counts its suspensions (R415). -/
def State.eraseStep (part : Nat) (f : Flash → Option Flash) (count : Bool) (s : State) : State :=
  match LaneId.ofNum part with
  | some l => s.mapLane l (fun L => match f L.flash with
    | some F => let L := L.setFlash F; if count then L.bump .LCT_FW_SUSP else L
    | none => L)
  | none => if part = 4 then s.hcx (fun H => ((f H.flash).map H.setFlash).getD H) else s

/-- DAILY_SLOT_CHECK: the digest of the slot in force is checked, and CHECK_FAIL shows the last check (R416). -/
def Lane.slotCheck (ok : Bool) (now : Int) (L : Lane) : Lane :=
  let F := L.flash
  let one := L.flag .LCT_TIMG_STAT 31
  let x := if one then F.slot1 else F.slot0
  let L := if L.inService && x.applied then L.setFlag .LCT_TIMG_STAT 29 (!ok) else L
  if !L.inService || !x.applied || ok then L
  else
    let F := if one then { F with slot1 := { x with ok := false } } else { F with slot0 := { x with ok := false } }
    ({ L with flash := F } : Lane).raise 0 0x08 now (leBytes 1 1)

/-! ### Meanings -/

/-- POWER_GOOD (R382, R384). -/
def execPowerGood (vin : Nat) (capLow : Bool) (s : State) : Host.Outcome State Fault Refusal :=
  onModule (State.powerGood vin capLow) s

/-- STAGE_START (R383). -/
def execStageStart (s : State) : Host.Outcome State Fault Refusal := onModule State.stageStart s

/-- DOMAIN_FAULT (R381). -/
def execDomainFault (domain : Nat) (now : Int) (s : State) : Host.Outcome State Fault Refusal :=
  onModule (State.domainFault domain now) s

/-- HOST_COMPLEX_READY (R384). -/
def execHostComplexReady (ok : Bool) (ms : Nat) (now : Int) (s : State) : Host.Outcome State Fault Refusal :=
  onModule (fun s => (State.hostReady ok ms now s).startDone) s

/-- LANE_START (R385). -/
def execLaneStart (lane : LaneId) (s : State) : Host.Outcome State Fault Refusal := onModule (State.laneStart lane) s

/-- MEMORY_SELF_TEST_END (R388). -/
def execMemorySelfTestEnd (lane : LaneId) (fail repair rows cols ms : Nat) (now : Int) (s : State) :
    Host.Outcome State Fault Refusal := onLane lane (Lane.memoryTest fail repair rows cols ms now) s

/-- LOGIC_SELF_TEST_END (R389, R390). -/
def execLogicSelfTestEnd (lane : LaneId) (pipes others : List Nat) (ms : Nat) (now : Int) (s : State) :
    Host.Outcome State Fault Refusal := onModule (fun s => (s.mapLane lane (Lane.logicTest pipes others ms now)).startDone) s

/-- BOOT_SELECTION (R412). -/
def execBootSelection (part : Nat) (now : Int) (s : State) : Host.Outcome State Fault Refusal :=
  onModule (fun s => (State.bootSelection part now s).startDone) s

/-- BOOT_CONFIRM (R413). -/
def execBootConfirm (part : Nat) (s : State) : Host.Outcome State Fault Refusal := onModule (State.bootConfirm part) s

/-- GENERATION_CHECK (R407). -/
def execGenerationCheck (lane : LaneId) (now : Int) (s : State) : Host.Outcome State Fault Refusal :=
  onModule (State.generationCheck lane now) s

/-- HOLD_UP_CHARGE_MEASURE (R386). -/
def execHoldUpChargeMeasure (t : Nat) (now : Int) (s : State) : Host.Outcome State Fault Refusal :=
  onModule (State.chargeMeasure t now) s

/-- HOLD_OK (R386). -/
def execHoldOk (vhold : Nat) (s : State) : Host.Outcome State Fault Refusal := onModule (State.holdOk vhold) s

/-- HOLD_LOW_TIMEOUT (R386). -/
def execHoldLowTimeout (now : Int) (s : State) : Host.Outcome State Fault Refusal := onModule (State.holdTimeout now) s

/-- DIE_OVERTEMP (R454). -/
def execDieOvertemp (lane : LaneId) (temp now : Int) (s : State) : Host.Outcome State Fault Refusal :=
  onLane lane (Lane.dieTemp temp now) s

/-- TREF_ALARM (R454). -/
def execTrefAlarm (tref now : Int) (s : State) : Host.Outcome State Fault Refusal := onModule (State.trefAlarm tref now) s

/-- LPDDR_SCRUB (R388). -/
def execLpddrScrub (lane : LaneId) (s : State) : Host.Outcome State Fault Refusal := onLane lane Lane.scrub s

/-- WAKE_PATTERN (R269). -/
def execWakePattern (lane : LaneId) (w : WakePattern) (s : State) : Host.Outcome State Fault Refusal :=
  onModule (State.wakePattern lane w) s

/-- ERASE_SUSPEND (R415). -/
def execEraseSuspend (part : Nat) (s : State) : Host.Outcome State Fault Refusal :=
  onModule (State.eraseStep part Flash.suspend true) s

/-- ERASE_RESUME (R415). -/
def execEraseResume (part : Nat) (s : State) : Host.Outcome State Fault Refusal :=
  onModule (State.eraseStep part Flash.resume false) s

/-- SLOT_WRITE_COMPLETE (R416). -/
def execSlotWriteComplete (lane : LaneId) (s : State) : Host.Outcome State Fault Refusal := onLane lane Lane.slotDone s

/-- DAILY_SLOT_CHECK (R416). -/
def execDailySlotCheck (lane : LaneId) (ok : Bool) (now : Int) (s : State) : Host.Outcome State Fault Refusal :=
  onLane lane (Lane.slotCheck ok now) s

/-- KEY_REMASK (R425). -/
def execKeyRemask (lane : LaneId) (s : State) : Host.Outcome State Fault Refusal := onLane lane Lane.remask s

end Sys2Proof.Machine
end

