-- ==== Sys2Proof/Machine/Edge.lean ====
section
/-! DEFINITION. The tick edge and the closure of a lane, its entry to service, and what its twin and its commands ask of
it between them (R30, R35, R38, R40, R44 to R46, R187, R221, R231, R276, R385, R400). -/

namespace Sys2Proof.Machine

open Sys2Proof

/-! ### The tick edge (R35) -/

/-- The tick number, the raw count and the datum move to the edge; what counts within a tick or a second begins anew.
[log 2 DESIGN CHOICE] -/
def Lane.edgeClock (L : Lane) : Lane :=
  let L := L.datumEdge.drainTwin
  let raw := (L.datum.maps.head?.map (·.e)).getD L.trav.lastRaw
  let L : Lane := { L with trav := { L.trav with done := 0, lastRaw := raw }, intake := { L.intake with gm := L.gmId } }
  if L.tick % 96000 = 0 then ({ L with intake := { L.intake with fps := 0 } } : Lane).setReg .INT_FPS (w32 L.intake.fps) else L

/-- Another lane of the module is at Level 2, in its safe state, held or in reset (R400). [log 26 DEDUCED] -/
def State.othersDown (s : State) (l : LaneId) : Bool :=
  LaneId.all.any (fun k => k != l && (!(s.lane k).inService || decide (2 ≤ (s.lane k).level)))

/-- The level that holds from this edge, then the twin's changes at an edge, and parcels that stop at it (R184, R185,
R470). [log 26 DEDUCED] -/
def Lane.edgeLevel (others : Bool) (L : Lane) : Lane :=
  if !L.inService then L
  else
    let L := (L.levelEdge).levelOthers others
    if !L.inService then L else (((L.realignEdge.roleEdge).freezeEdge).driveEdge).parcelEdge

/-- Units that begin their tick at the edge; an ILU fault latched before it, or Level 2, keeps every program STOPPED
(R208, R214). -/
def Lane.edgeUnits (L : Lane) : Lane :=
  if !L.inService then L
  else
    let L := ((L.chainEdge L.pclBit).cmdEdge.markDone 8).markDone 9
    let L := if L.flag .ILU_STAT 30 || decide (2 ≤ L.level) then L.iluEdge.iluStopAll else L.iluEdge
    let now : Int := (L.refEdge : Nat)
    let L := if L.level ≤ 2 then L.linesFromSafe now else L
    let L := if L.level ≤ 1 then L.pubsStart now else L
    L.showCores

/-- TICK_EDGE of a lane whose datum is set: a lane that is to be parked is parked at it (R404); else commands whose apply tick has come take effect between the level and the
units; what waits on a lane that enters its safe state ends (R35, R44, R277, R302, R318, R321). [log 2 DESIGN CHOICE] -/
def State.tickEdge (l : LaneId) (s : State) : State :=
  if (s.lane l).datum.maps.isEmpty then s
  else if (s.lane l).trav.parkReq then (s.mapLane l Lane.edgeClock).parkWaiting l
  else
    let s := s.mapLane l Lane.edgeClock
    let others := s.othersDown l
    let before := (s.lane l).level
    let s := s.mapLane l (Lane.edgeLevel others)
    let s := if before < 3 ∧ (s.lane l).level = 3 then (s.hcx (fun H => H.quotaAbort l)).migAbort l else s
    let s := ((s.applyEdge l).quotaEdge l).migEdge l
    s.mapLane l (fun L => L.edgeUnits.noteSecond)

/-! ### The closure (R38, R40) -/

/-- Units scheduled in the traverse, as bits of LCT_CLOSURE_STAT: at Level 2 intake, backstop, trip drivers and field IO
only; the backsight digest in a pair. [log 25 DEDUCED] -/
def Lane.scheduled (L : Lane) : Nat :=
  if 2 ≤ L.level then 0x44C else if L.paired then 0x1FFC else 0xFFC

/-- Units whose done flag is clear. `fail` names those that a hardware fault left so. [log 25 DEDUCED] -/
def Lane.missed (L : Lane) (fail : Nat) : Nat :=
  let done := if L.streamsDone then L.trav.done ||| 0x800 else L.trav.done
  bitsWhere (fun b => L.scheduled.testBit b && (fail.testBit b || !done.testBit b)) 13

/-- What the units wrote in the tick is published. -/
def Lane.closePublish (L : Lane) : Lane :=
  let L := L.keepSources.keepSelects L.pclBit
  let L := if L.level ≤ 1 then L.fabPublish else L
  let L := ((L.tripPublish.iluClose).cmdPublish).netPublish
  let L := ((L.parcelClose.copyHistory).acqClose).condStat
  L.installGranules.copyClose

/-- Hardware misses are recorded and have the consequences of R40. -/
def Lane.closeMiss (m : Nat) (L : Lane) : Lane :=
  if m = 0 then L
  else
    let now : Int := (L.refEdge + 10150 : Nat)
    let L := (L.setReg .LCT_CLOSURE_STAT (L.reg .LCT_CLOSURE_STAT ||| w32 m)).raise 0 0x04 now (leBytes 4 m)
    L.dropTo (if m.testBit 2 || m.testBit 3 then 3 else 2) 2 now

/-- CLOSURE. [log 25 DEDUCED] -/
def State.closure (l : LaneId) (fail : Nat) (x : ClosureIn) (s : State) : State :=
  let s := s.mapLane l (fun L => if L.inService then L.bump .ILU_ECC_CE 0 x.ce else L)
  let L := s.lane l
  if !L.inService || 3 ≤ L.level then s
  else
    let m := L.missed fail
    ((s.mapLane l (fun L => L.closePublish.closeMiss m)).migDecide l x.told).migSendAll l

/-! ### Entering service (R221, R385, R400) -/

/-- The first traverse is at the level that the self-test and the generation check allow; with a twin configured the lane
is in AWAIT, else it drives. -/
def Lane.toService (startMs : Nat) (L : Lane) : Lane :=
  let hold := L.flag .PWR_STAT 24
  let two := hold || L.fld .PWR_STAT 27 26 == 2
  let L := (L.setPhase 8).setFld .PWR_STAT 15 0 (min 65535 startMs)
  let L : Lane := { L with trav := { L.trav with done := 0, toLevel := 0 } }
  if two then L.enterLevel2 (if hold then 4 else 0)
  else if L.flag .TWN_CFG 31 then
    let L := ((L.setPs psAwait).setFlag .TWN_STAT 28 false)
    L.setTwin { L.twin with svcAt := L.tick + 1 }
  else ((L.setPs psAlone).setFlag .TWN_STAT 28 true).startDriving

/-- LANE_ENTER_SERVICE: with its datum set a lane enters service at its first tick edge; in RETIRED no lane does. -/
def State.enterService (l : LaneId) (startMs t : Nat) (s : State) : State :=
  let L := s.lane l
  if L.phase != 7 || L.dstate = dUnset || L.keys.lifecycle = 4 then s
  else
    let s := (s.mapLane l (Lane.toService startMs)).hcx (fun H => H.setReg .HCX_START_T (w32 (min 65535 t)) (l.num + 1))
    (s.tickEdge l).startDone

/-- INITIAL_SET, at the datum step of a start (R276). A lane that finds no source holds the start no longer (R385).
[log 31 DEDUCED, log 42 DEDUCED] -/
def State.initialSet (l : LaneId) (src : InitSources) (s : State) : State :=
  if (s.lane l).phase != 7 then s
  else
    let s := s.mapLane l (Lane.initialSet src (s.host.tod.map (fun _ => src.host)))
    s.startDone

/-! ### Parcels come back (R187) -/

/-- One parcel is loaded again, and started where AUTOSTART is set, with the critical state that a flush saved of this image.
[log 66 DEDUCED] -/
def Lane.reloadOne (L : Lane) (p : Nat) (img : ParcelImg) (auto : Bool) : Lane :=
  if L.pState p != pUnloaded then L
  else
    let L := L.loadParcel p img auto
    if !auto then L
    else
      let x := L.parcel p
      let x := match L.critMram.get? p with
        | some m => if m.1 = img ∧ img.crit.2 ≠ 0 then { x with critDone := m.2, critWork := m.2, restored := true } else x
        | none => x
      L.runParcel p x

/-- PARCEL_RELOAD: after a cold reset only once host software has confirmed the images. [log 66 DEDUCED] -/
def Lane.reloadParcels (confirmed : Bool) (L : Lane) : Lane :=
  match L.reload with
  | none => L
  | some cold =>
    if !L.inService || 2 ≤ L.level || (cold && !confirmed) then L
    else
      let L := L.copies.cells.foldl (fun (L : Lane) c => L.reloadOne c.1 c.2.1 c.2.2) L
      { L with reload := none }

/-! ### The divergence self-check (R231) -/

/-- A fault latch of the lane's units stands (R131, R132, R208). -/
def Lane.faultLatched (L : Lane) : Bool := L.flag .FAB_STAT 28 || L.flag .ILU_STAT 30

/-- SELF_CHECK_COMPLETE: the result of the lane's own scrub and comparison, which it fails with a fault latched, and the
twin's. [log 28 DEDUCED, log 77 DEDUCED] -/
def State.selfCheckDone (l : LaneId) (scrub peer : Bool) (now : Int) (s : State) : State :=
  let L := s.lane l
  if !L.twin.check then s
  else
    let own := scrub && !L.faultLatched
    let s := s.mapLane l (fun L => (L.setTwin { L.twin with check := false }).setFlag .TWN_STAT 25 false)
    if own && peer then s.mapLane l (fun L => if L.paired then L.enterCopy else L)
    else if own then s.mapLane l (fun L => L.lostStandby now)
    else if peer && L.role then s.mapLane l (fun L => L.dropTo 2 7 now)
    else s.laneReset l 1 now

/-! ### Forwarded commands (R46, R216) -/

/-- The class of a frame that carries a command: the swap that a preferred standby asks for is a CONTROL frame (R215). -/
def cmdClass (fn : Nat) (c : HostCmd) : Nat := if c == .twinSwap && fn == 255 then 0 else 2

/-- A sightline frame of a class is accepted. [log 79 DESIGN CHOICE] -/
def Lane.sightOk (cls : Nat) (h : TwinHead) (L : Lane) : Bool :=
  h.tagOk && !(L.twin.rxCtr.get? cls).any (fun c => decide (h.ctr ≤ c))

/-- CMD: a forwarded command arrives. -/
def State.cmdFrame (l : LaneId) (h : TwinHead) (fn tag apply : Nat) (c : HostCmd) (s : State) : State :=
  let cls := cmdClass fn c
  let ok := (s.lane l).sightOk cls h
  let s := s.mapLane l (Lane.sightline cls h (fun L => L))
  if ok then s.takeCmdRow l fn tag apply c else s

/-! ### Meanings -/

/-- TICK_EDGE (R35). -/
def execTickEdge (lane : LaneId) (s : State) : Host.Outcome State Fault Refusal := onModule (State.tickEdge lane) s

/-- CLOSURE (R38). -/
def execClosure (lane : LaneId) (fail : Nat) (x : ClosureIn) (s : State) : Host.Outcome State Fault Refusal :=
  onModule (State.closure lane fail x) s

/-- LANE_ENTER_SERVICE (R385). -/
def execLaneEnterService (lane : LaneId) (startMs t : Nat) (s : State) : Host.Outcome State Fault Refusal :=
  onModule (State.enterService lane startMs t) s

/-- INITIAL_SET (R276). -/
def execInitialSet (lane : LaneId) (src : InitSources) (s : State) : Host.Outcome State Fault Refusal :=
  onModule (State.initialSet lane src) s

/-- PARCEL_RELOAD (R187). -/
def execParcelReload (lane : LaneId) (confirmed : Bool) (s : State) : Host.Outcome State Fault Refusal :=
  onLane lane (Lane.reloadParcels confirmed) s

/-- SELF_CHECK_COMPLETE (R231). -/
def execSelfCheckComplete (lane : LaneId) (ownOk peerOk : Bool) (now : Int) (s : State) : Host.Outcome State Fault Refusal :=
  onModule (State.selfCheckDone lane ownOk peerOk now) s

/-- REQUALIFIED (R240). -/
def execRequalified (lane : LaneId) (a : Nat) (s : State) : Host.Outcome State Fault Refusal :=
  onLane lane (Lane.requalified a) s

/-- CMD (R46). -/
def execCmd (lane : LaneId) (h : TwinHead) (fn tag apply : Nat) (c : HostCmd) (s : State) :
    Host.Outcome State Fault Refusal := onModule (State.cmdFrame lane h fn tag apply c) s

/-- CMD_ACK (R46). -/
def execCmdAck (lane : LaneId) (h : TwinHead) (fn tag : Nat) (s : State) : Host.Outcome State Fault Refusal :=
  onLane lane (Lane.sightline 2 h (Lane.cmdAck fn tag)) s

/-- CMD_COMMIT (R46). -/
def execCmdCommit (lane : LaneId) (h : TwinHead) (fn tag : Nat) (s : State) : Host.Outcome State Fault Refusal :=
  onLane lane (Lane.sightline 2 h (Lane.cmdCommit fn tag)) s

/-- COMMIT_DEADLINE (R46). -/
def execCommitDeadline (lane : LaneId) (s : State) : Host.Outcome State Fault Refusal := onLane lane Lane.commitDeadline s

/-- STANDBY_COMMIT_TIMEOUT (R46). -/
def execStandbyCommitTimeout (lane : LaneId) (s : State) : Host.Outcome State Fault Refusal := onLane lane Lane.commitTimeout s

/-- LANE_LINK_TIMEOUT (R12). -/
def execLaneLinkTimeout (lane : LaneId) (now : Int) (s : State) : Host.Outcome State Fault Refusal :=
  onModule (State.linkTimeout lane now) s

/-- DATUM_BEACON (R277). -/
def execDatumBeacon (lane : LaneId) (s : State) : Host.Outcome State Fault Refusal := onModule (State.datumBeacon lane) s

/-- CAPTURE_END (R329, R335). -/
def execCaptureEnd (lane : LaneId) (rd : Nat) (s : State) : Host.Outcome State Fault Refusal := onModule (State.captureEnd lane rd) s

/-- TRACK_READY (R320). -/
def execTrackReady (lane : LaneId) (parcel left : Nat) (now : Int) (s : State) : Host.Outcome State Fault Refusal :=
  onModule (State.trackReady lane parcel left now) s

end Sys2Proof.Machine
end

