-- ==== Sys2Proof/Machine/HostRows.lean ====
section
/-! DEFINITION. The commands that reach the host complex: its rings, functions and messages, the archive, and each
opcode as a command of a function (R293 to R350, R384, R402, R417, R423, R426). -/

namespace Sys2Proof.Machine

open Sys2Proof

/-- The host complex is ready and every domain of host service is on (R384, R402). [log 32 DEDUCED] -/
def State.hostUp (s : State) : Bool := s.power.hcxUp && s.hDomains == 0xFF && s.anyService

/-- The PCIe endpoint is powered: it trains its link before host firmware runs (R384). -/
def State.endpointUp (s : State) : Bool := s.hostOn && s.hDomains.testBit 0 && s.anyService

/-- A meaning of host service: without it the command changes nothing. [log 32 DEDUCED] -/
def onHost (f : State → State) (s : State) : Host.Outcome State Fault Refusal :=
  .next (if s.hostUp then f s.quiet else s.quiet)

/-- A DMA read of an entry has failed: AER logs it and the function is fenced, while the ring is in use (R293, R314, R467). -/
def State.dmaFailed (f cause ring idx : Nat) (now : Int) (s : State) : State :=
  if !s.host.hasFn f || 11 ≤ ring || !((s.host.fn f).ring ring == rRun || (s.host.fn f).ring ring == rDrain) then s
  else
    let n := (s.lane .a).free
    let s := (s.mapLane .a (fun L => { L with free := n + 1 })).raiseHost 3 0x02 now (leBytes 8 (Config.aerStatus n).toNat)
    s.fence f cause ring idx now

/-- A function reset, of a function that exists. -/
def State.fnResetRow (f : Nat) (s : State) : State := if s.host.hasFn f then s.resetFn f else s

/-- FIELD_BOOK_OCCURRENCE: a lane books once its field book has been restored at its start; the host complex while PD_H7
is on (R347, R380). [log 32 DEDUCED, log 109 DEDUCED] -/
def State.bookOne (book : Option LaneId) (s : State) : State :=
  match book with
  | none => if s.hDomains.testBit 7 then s.bookOccurrence none else s
  | some l => if 7 ≤ (s.lane l).phase then s.bookOccurrence (some l) else s

/-! ### Meanings -/

/-- HOST_CLOCK_BEACON (R310). -/
def execHostClockBeacon (clock : Int) (s : State) : Host.Outcome State Fault Refusal :=
  onHost (State.hostBeacon clock) s

/-- DOORBELL (R298). -/
def execDoorbell (fn ring : Nat) (value : Word) (width : Nat) (now : Int) (s : State) :
    Host.Outcome State Fault Refusal := onHost (State.doorbell fn ring value width now) s

/-- COMMAND_FETCH (R300 to R302). -/
def execCommandFetch (fn : Nat) (d : CmdDesc) (now : Int) (s : State) : Host.Outcome State Fault Refusal :=
  onHost (State.commandFetch fn d now) s

/-- COMMAND_COMPLETION (R303). -/
def execCommandCompletion (src : Option LaneId) (now : Int) (s : State) : Host.Outcome State Fault Refusal :=
  onHost (State.completionRow src now) s

/-- TRANSMIT_DESCRIPTOR (R307). -/
def execTransmitDescriptor (fn ring : Nat) (d : TxDesc) (now : Int) (s : State) :
    Host.Outcome State Fault Refusal := onHost (State.txDescriptor fn ring d now) s

/-- TRANSMIT_WRITE_BACK (R307). -/
def execTransmitWriteBack (fn ring : Nat) (now : Int) (s : State) : Host.Outcome State Fault Refusal :=
  onHost (State.txWriteBack fn ring now) s

/-- RECEIVE_DELIVERY (R308). -/
def execReceiveDelivery (lane : LaneId) (d : RxDesc) (now : Int) (s : State) : Host.Outcome State Fault Refusal :=
  onHost (State.receive lane d now) s

/-- EVENT_PLACEMENT (R312). -/
def execEventPlacement (book : Option LaneId) (now : Int) (s : State) : Host.Outcome State Fault Refusal :=
  onHost (State.eventPlacement book now) s

/-- OVERFLOW_ENTRY (R312). -/
def execOverflowEntry (fn : Nat) (now : Int) (s : State) : Host.Outcome State Fault Refusal :=
  onHost (State.overflowEntry fn now) s

/-- MSIX_MESSAGE (R313). -/
def execMsixMessage (fn ring : Nat) (now : Int) (s : State) : Host.Outcome State Fault Refusal :=
  onHost (State.msixMessage fn ring now) s

/-- MSIX_UNMASK (R313). -/
def execMsixUnmask (fn vector : Nat) (s : State) : Host.Outcome State Fault Refusal :=
  onHost (State.msixMask fn vector false) s

/-- RING_ENABLE (R297). -/
def execRingEnable (fn ring : Nat) (value : Word) (s : State) : Host.Outcome State Fault Refusal :=
  onHost (State.ringEnable fn ring value) s

/-- RING_DRAIN (R299). -/
def execRingDrain (fn ring : Nat) (s : State) : Host.Outcome State Fault Refusal := onHost (State.ringDrain fn ring) s

/-- DRAIN_COMPLETE (R299). -/
def execDrainComplete (fn ring : Nat) (s : State) : Host.Outcome State Fault Refusal :=
  onHost (State.drainComplete fn ring) s

/-- DMA_READ_ERROR (R314). -/
def execDmaReadError (fn ring idx : Nat) (now : Int) (s : State) : Host.Outcome State Fault Refusal :=
  onHost (State.dmaFailed fn 4 ring idx now) s

/-- DMA_COMPLETION_TIMEOUT (R314). -/
def execDmaCompletionTimeout (fn ring idx : Nat) (now : Int) (s : State) : Host.Outcome State Fault Refusal :=
  onHost (State.dmaFailed fn 5 ring idx now) s

/-- FUNCTION_RESET (R315). -/
def execFunctionReset (fn : Nat) (s : State) : Host.Outcome State Fault Refusal := onHost (State.fnResetRow fn) s

/-- HCX_FN_RESET (R315). -/
def execHcxFnReset (fn : Nat) (s : State) : Host.Outcome State Fault Refusal := onHost (State.fnResetRow fn) s

/-- FUNCTION_LEVEL_RESET (R315, R316). -/
def execFunctionLevelReset (fn : Nat) (s : State) : Host.Outcome State Fault Refusal := onHost (State.flr fn) s

/-- FUNCTION_RESET_COMPLETE (R315). -/
def execFunctionResetComplete (fn : Nat) (now : Int) (s : State) : Host.Outcome State Fault Refusal :=
  onHost (State.resetFnDone fn now) s

/-- PCIE_LINK_DOWN (R316). -/
def execPcieLinkDown (now : Int) (s : State) : Host.Outcome State Fault Refusal :=
  onModule (fun s => if s.endpointUp then s.pcieDown now else s) s

/-- HOT_RESET (R316). -/
def execHotReset (s : State) : Host.Outcome State Fault Refusal := onHost (State.resetAllFns) s

/-- PCIE_LINK_UP (R293). -/
def execPcieLinkUp (speed width : Nat) (ecrc : Bool) (s : State) : Host.Outcome State Fault Refusal :=
  onModule (fun s => if s.endpointUp then s.pcieUp speed width ecrc else s) s

/-- VF_ENABLE (R295). -/
def execVfEnable (n : Nat) (s : State) : Host.Outcome State Fault Refusal := onHost (State.vfEnable n) s

/-- NVME_COMPLETION (R337, R342). -/
def execNvmeCompletion (cid status : Nat) (data : List Byte) (now : Int) (s : State) :
    Host.Outcome State Fault Refusal := onHost (State.nvmeCompletion cid status data now) s

/-- NVME_OVERDUE (R342). -/
def execNvmeOverdue (cid : Nat) (now : Int) (s : State) : Host.Outcome State Fault Refusal :=
  onHost (State.nvmeOverdue cid now) s

/-- CATALOGUE_COMMIT (R340). -/
def execCatalogueCommit (page : Nat) (now : Int) (s : State) : Host.Outcome State Fault Refusal :=
  onHost (State.catalogueCommit page now) s

/-- RECOVERY_COMPLETE (R342). -/
def execRecoveryComplete (hdrOk : Bool) (e : Nat) (entries : ArcRead) (now : Int) (s : State) :
    Host.Outcome State Fault Refusal := onHost (State.recoveryComplete hdrOk e entries now) s

/-- GENERAL_CLASS_NOR_SAVE (R395). -/
def execGeneralClassNorSave (s : State) : Host.Outcome State Fault Refusal := onHost (fun s => s.hcx Hcx.norSave) s

/-- FACTORY_PROVISIONING (R426). -/
def execFactoryProvisioning (now : Int) (s : State) : Host.Outcome State Fault Refusal :=
  onModule (State.provision now) s

/-- FIELD_BOOK_OCCURRENCE (R344 to R347). -/
def execFieldBookOccurrence (book : Option LaneId) (s : State) : Host.Outcome State Fault Refusal :=
  onModule (State.bookOne book) s

/-- NOP (R305). -/
def execNop (h : CmdHead) (s : State) : Host.Outcome State Fault Refusal := onHost (State.direct h .nop) s

/-- LOAD_IMAGE (R306). -/
def execLoadImage (h : CmdHead) (x : ImgLoad) (s : State) : Host.Outcome State Fault Refusal :=
  onHost (State.direct h (.loadImage x)) s

/-- READ_SLOT (R306). -/
def execReadSlot (h : CmdHead) (slot : Nat) (s : State) : Host.Outcome State Fault Refusal :=
  onHost (State.direct h (.readSlot slot)) s

/-- WRITE_SLOT (R128). -/
def execWriteSlot (h : CmdHead) (slot : Nat) (d : Desc) (s : State) : Host.Outcome State Fault Refusal :=
  onHost (State.direct h (.writeSlot slot d)) s

/-- SET_QUOTA (R318). -/
def execSetQuota (h : CmdHead) (vf : Nat) (q : Quota) (s : State) : Host.Outcome State Fault Refusal :=
  onHost (State.direct h (.setQuota vf q)) s

/-- PARCEL_LOAD (R470). -/
def execParcelLoad (h : CmdHead) (p : Nat) (img : ParcelImg) (auto : Bool) (s : State) :
    Host.Outcome State Fault Refusal := onHost (State.direct h (.parcel p 1 img false auto)) s

/-- PARCEL_START (R185). -/
def execParcelStart (h : CmdHead) (p : Nat) (s : State) : Host.Outcome State Fault Refusal :=
  onHost (State.direct h (.parcel p 2 noImg false false)) s

/-- PARCEL_STOP (R185). -/
def execParcelStop (h : CmdHead) (p : Nat) (s : State) : Host.Outcome State Fault Refusal :=
  onHost (State.direct h (.parcel p 3 noImg false false)) s

/-- PARCEL_RESTART (R185). -/
def execParcelRestart (h : CmdHead) (p : Nat) (clear : Bool) (s : State) : Host.Outcome State Fault Refusal :=
  onHost (State.direct h (.parcel p 4 noImg clear false)) s

/-- PARCEL_UNLOAD (R185). -/
def execParcelUnload (h : CmdHead) (p : Nat) (s : State) : Host.Outcome State Fault Refusal :=
  onHost (State.direct h (.parcel p 5 noImg false false)) s

/-- PARCEL_FREEZE (R185). -/
def execParcelFreeze (h : CmdHead) (p : Nat) (s : State) : Host.Outcome State Fault Refusal :=
  onHost (State.direct h (.parcel p 6 noImg false false)) s

/-- PARCEL_RESUME (R185). -/
def execParcelResume (h : CmdHead) (p : Nat) (s : State) : Host.Outcome State Fault Refusal :=
  onHost (State.direct h (.parcel p 7 noImg false false)) s

/-- MIGRATE_TRACK (R320). -/
def execMigrateTrack (h : CmdHead) (p target q : Nat) (s : State) : Host.Outcome State Fault Refusal :=
  onHost (State.direct h (.migrate p 1 target q noSaved 0)) s

/-- MIGRATE_SWITCH (R321). -/
def execMigrateSwitch (h : CmdHead) (p target q : Nat) (s : State) : Host.Outcome State Fault Refusal :=
  onHost (State.direct h (.migrate p 2 target q noSaved 0)) s

/-- MIGRATE_CANCEL (R320). -/
def execMigrateCancel (h : CmdHead) (p : Nat) (s : State) : Host.Outcome State Fault Refusal :=
  onHost (State.direct h (.migrate p 3 0 0 noSaved 0)) s

/-- MIGRATE_SAVE (R323). -/
def execMigrateSave (h : CmdHead) (p : Nat) (s : State) : Host.Outcome State Fault Refusal :=
  onHost (State.direct h (.migrate p 4 0 0 noSaved h.len)) s

/-- MIGRATE_RESTORE (R323). -/
def execMigrateRestore (h : CmdHead) (p target q : Nat) (r : SavedRec) (s : State) :
    Host.Outcome State Fault Refusal := onHost (State.direct h (.migrate p 5 target q r 0)) s

/-- MIGRATE_RELEASE (R323). -/
def execMigrateRelease (h : CmdHead) (p : Nat) (s : State) : Host.Outcome State Fault Refusal :=
  onHost (State.direct h (.migrate p 6 0 0 noSaved 0)) s

/-- SET_TARGET (R150). -/
def execSetTarget (h : CmdHead) (ch : Nat) (v : Word) (s : State) : Host.Outcome State Fault Refusal :=
  onHost (State.direct h (.setTarget ch v)) s

/-- FORCE_BITS (R135). -/
def execForceBits (h : CmdHead) (value mask : Nat) (s : State) : Host.Outcome State Fault Refusal :=
  onHost (State.direct h (.forceBits value mask)) s

/-- HOST_FLAGS (R196). -/
def execHostFlags (h : CmdHead) (value mask : Nat) (s : State) : Host.Outcome State Fault Refusal :=
  onHost (State.direct h (.hostFlags value mask)) s

/-- TL_RESET (R142). -/
def execTlReset (h : CmdHead) (lines : Nat) (s : State) : Host.Outcome State Fault Refusal :=
  onHost (State.direct h (.tlReset lines)) s

/-- ILU_STOP (R207). -/
def execIluStop (h : CmdHead) (p : Nat) (s : State) : Host.Outcome State Fault Refusal :=
  onHost (State.direct h (.iluCtrl p 1)) s

/-- ILU_START (R207). -/
def execIluStart (h : CmdHead) (p : Nat) (s : State) : Host.Outcome State Fault Refusal :=
  onHost (State.direct h (.iluCtrl p 2)) s

/-- ILU_CLEAR (R207). -/
def execIluClear (h : CmdHead) (p : Nat) (s : State) : Host.Outcome State Fault Refusal :=
  onHost (State.direct h (.iluCtrl p 3)) s

/-- TWIN_SWAP (R239). -/
def execTwinSwap (h : CmdHead) (s : State) : Host.Outcome State Fault Refusal := onHost (State.direct h .twinSwap) s

/-- SET_TOD (R310). -/
def execSetTod (h : CmdHead) (t : Int) (s : State) : Host.Outcome State Fault Refusal :=
  onHost (State.direct h (.setTod t)) s

/-- TIME_ACCEPT (R288). -/
def execTimeAccept (h : CmdHead) (e : Int) (s : State) : Host.Outcome State Fault Refusal :=
  onHost (State.direct h (.timeAccept e)) s

/-- TIME_REJECT (R288). -/
def execTimeReject (h : CmdHead) (s : State) : Host.Outcome State Fault Refusal :=
  onHost (State.direct h .timeReject) s

/-- ARCHIVE_ATTACH (R342). -/
def execArchiveAttach (h : CmdHead) (r : AttachRec) (s : State) : Host.Outcome State Fault Refusal :=
  onHost (State.direct h (.arcAttach r)) s

/-- ARCHIVE_DETACH (R342). -/
def execArchiveDetach (h : CmdHead) (s : State) : Host.Outcome State Fault Refusal :=
  onHost (State.direct h .arcDetach) s

/-- ARCHIVE_FORMAT (R342). -/
def execArchiveFormat (h : CmdHead) (r : AttachRec) (s : State) : Host.Outcome State Fault Refusal :=
  onHost (State.direct h (.arcFormat r)) s

/-- ARCHIVE_READ (R343). -/
def execArchiveRead (h : CmdHead) (off len : Nat) (s : State) : Host.Outcome State Fault Refusal :=
  onHost (State.direct h (.arcRead off len)) s

/-- ARCHIVE_WRITE (R343). -/
def execArchiveWrite (h : CmdHead) (off : Nat) (bytes : List Byte) (s : State) : Host.Outcome State Fault Refusal :=
  onHost (State.direct h (.arcWrite off bytes)) s

/-- ARCHIVE_ALLOC (R343). -/
def execArchiveAlloc (h : CmdHead) (s : State) : Host.Outcome State Fault Refusal :=
  onHost (State.direct h .arcAlloc) s

/-- ARCHIVE_CLOSE (R343). -/
def execArchiveClose (h : CmdHead) (ext : Nat) (s : State) : Host.Outcome State Fault Refusal :=
  onHost (State.direct h (.arcClose ext)) s

/-- ARCHIVE_PIN (R343). -/
def execArchivePin (h : CmdHead) (ext : Nat) (s : State) : Host.Outcome State Fault Refusal :=
  onHost (State.direct h (.arcPin ext)) s

/-- ARCHIVE_UNPIN (R343). -/
def execArchiveUnpin (h : CmdHead) (ext : Nat) (s : State) : Host.Outcome State Fault Refusal :=
  onHost (State.direct h (.arcUnpin ext)) s

/-- ARCHIVE_FREE (R343). -/
def execArchiveFree (h : CmdHead) (ext : Nat) (s : State) : Host.Outcome State Fault Refusal :=
  onHost (State.direct h (.arcFree ext)) s

/-- ARCHIVE_LIST (R343). -/
def execArchiveList (h : CmdHead) (first room : Nat) (s : State) : Host.Outcome State Fault Refusal :=
  onHost (State.direct h (.arcList first room)) s

/-- ARCHIVE_TRIGGER (R326). -/
def execArchiveTrigger (h : CmdHead) (defs : Nat) (s : State) : Host.Outcome State Fault Refusal :=
  onHost (State.direct h (.arcTrigger defs)) s

/-- FIELDBOOK_READ (R348). -/
def execFieldbookRead (h : CmdHead) (first count : Nat) (s : State) : Host.Outcome State Fault Refusal :=
  onHost (State.direct h (.fbRead first count)) s

/-- FIELDBOOK_FLUSH (R347). -/
def execFieldbookFlush (h : CmdHead) (s : State) : Host.Outcome State Fault Refusal :=
  onHost (State.direct h .fbFlush) s

/-- CLEAR_GEN (R349). -/
def execClearGen (h : CmdHead) (s : State) : Host.Outcome State Fault Refusal := onHost (State.direct h .clearGen) s

/-- CLEAR_SAFE (R349). -/
def execClearSafe (h : CmdHead) (s : State) : Host.Outcome State Fault Refusal := onHost (State.direct h .clearSafe) s

/-- KEY_PUT (R423). -/
def execKeyPut (h : CmdHead) (k : KeyPkg) (s : State) : Host.Outcome State Fault Refusal :=
  onHost (State.direct h (.keyPut k)) s

/-- KEY_PREPARE (R423). -/
def execKeyPrepare (h : CmdHead) (s : State) : Host.Outcome State Fault Refusal :=
  onHost (State.direct h .keyPrepare) s

/-- KEY_ROLL (R423). -/
def execKeyRoll (h : CmdHead) (slots : List Nat) (s : State) : Host.Outcome State Fault Refusal :=
  onHost (State.direct h (.keyRoll slots)) s

/-- KEY_DROP (R423). -/
def execKeyDrop (h : CmdHead) (next : Bool) (slots : List Nat) (s : State) : Host.Outcome State Fault Refusal :=
  onHost (State.direct h (.keyDrop next slots)) s

/-- OWN (R426). -/
def execOwn (h : CmdHead) (root : Nat) (signed : Bool) (s : State) : Host.Outcome State Fault Refusal :=
  onHost (State.direct h (.own root signed)) s

/-- KEY_RELEASE (R426). -/
def execKeyRelease (h : CmdHead) (s : State) : Host.Outcome State Fault Refusal :=
  onHost (State.direct h .keyRelease) s

/-- ENTER_SERVICE (R426). -/
def execEnterService (h : CmdHead) (s : State) : Host.Outcome State Fault Refusal :=
  onHost (State.direct h .enterService) s

/-- LEAVE_SERVICE (R426). -/
def execLeaveService (h : CmdHead) (s : State) : Host.Outcome State Fault Refusal :=
  onHost (State.direct h .leaveService) s

/-- RETIRE (R426). -/
def execRetire (h : CmdHead) (s : State) : Host.Outcome State Fault Refusal := onHost (State.direct h .retire) s

/-- STAGE (R414). -/
def execStage (h : CmdHead) (hdr : FwHeader) (halt : Option Nat) (s : State) : Host.Outcome State Fault Refusal :=
  onHost (State.direct h (.stage hdr halt)) s

/-- ACTIVATE (R417). -/
def execActivate (h : CmdHead) (s : State) : Host.Outcome State Fault Refusal := onHost (State.direct h .activate) s

/-- RAISE_SVN (R417). -/
def execRaiseSvn (h : CmdHead) (s : State) : Host.Outcome State Fault Refusal := onHost (State.direct h .raiseSvn) s

/-- FN_RESET (R315). -/
def execFnReset (h : CmdHead) (fn : Nat) (s : State) : Host.Outcome State Fault Refusal :=
  onHost (State.direct h (.fnReset fn)) s

end Sys2Proof.Machine
end

