-- ==== Sys2Proof/Machine/Registers.lean ====
section
/-! DEFINITION. Access to the registers over PCIe: which register an address names, what a read returns and latches,
and what a write does (R5 to R8, R294, R295, R297, R313, R459 to R464). -/

namespace Sys2Proof.Machine

open Sys2Proof

/-! ### Addresses (R294, R459, R460) -/

/-- Where a register lies: a lane's window, the host complex, or a function's page. -/
inductive RegPart
  | lane (l : LaneId)
  | host
  | page (fn : Nat)
  deriving DecidableEq, Repr

/-- A register by its place, its set and its indices. -/
structure RegRef where
  part : RegPart
  reg  : Reg
  i    : Nat
  j    : Nat
  deriving DecidableEq, Repr

/-- The window that a function's BAR0 address lies in, with the offset in it; none in reserved space. -/
def barAt (f addr : Nat) : Option (RegPart × Win × Nat) :=
  if f != 0 then (if addr < 0x10000 then some (.page f, .fn, addr) else none)
  else if addr < 0x10000 then some (.host, .hcx, addr)
  else if addr < 0x20000 then some (.page 0, .fn, addr - 0x10000)
  else if addr < 0x100000 then none
  else if addr < 0x110000 then some (.host, .sfs, addr - 0x100000)
  else if addr < 0x1000000 then none
  else (LaneId.ofNum (addr / 0x1000000 - 1)).map (fun l => (.lane l, .lane, addr % 0x1000000))

/-- The register at an address of a function's BAR0; none for an offset no table lists (R461). -/
def regRef (f addr : Nat) : Option RegRef :=
  match barAt f addr with
  | none => none
  | some (p, w, off) => (regAt w off).map (fun x => ⟨p, x.1, x.2.1, x.2.2⟩)

/-- The `_LO`, `_HI` pairs (R7). -/
def regPairs : List (Reg × Reg) :=
  [(.LCT_TICK_NUM_LO, .LCT_TICK_NUM_HI), (.LCT_APPLY_NEXT_LO, .LCT_APPLY_NEXT_HI), (.INT_SUB_DMAC_LO,
   .INT_SUB_DMAC_HI), (.CND_WF_LAST_LO, .CND_WF_LAST_HI), (.TRM_GB_LO, .TRM_GB_HI), (.TRM_FLG_LO, .TRM_FLG_HI),
   (.TRM_HF_LO, .TRM_HF_HI), (.TRM_GP_DMAC_LO, .TRM_GP_DMAC_HI), (.TRM_TERM_DST_GS_LO, .TRM_TERM_DST_GS_HI),
   (.TRM_TERM_DST_FLG_LO, .TRM_TERM_DST_FLG_HI), (.CMD_PS_DMAC_LO, .CMD_PS_DMAC_HI), (.LCT_PCL_TEPC_LO,
   .LCT_PCL_TEPC_HI), (.LCT_PCL_TVAL_LO, .LCT_PCL_TVAL_HI), (.LCT_PCL_STOPTK_LO, .LCT_PCL_STOPTK_HI),
   (.ILU_SNAP_TICK_LO, .ILU_SNAP_TICK_HI), (.ILU_GS_DMAC_LO, .ILU_GS_DMAC_HI), (.TWN_SWITCH_TK_LO,
   .TWN_SWITCH_TK_HI), (.DTM_RAW_LO, .DTM_RAW_HI), (.DTM_NS_LO, .DTM_NS_HI), (.DTM_RATE_CUR_LO,
   .DTM_RATE_CUR_HI), (.DTM_RATE_TGT_LO, .DTM_RATE_TGT_HI), (.DTM_OFS_LO, .DTM_OFS_HI), (.DTM_STEP_LO,
   .DTM_STEP_HI), (.DTM_GM_LO, .DTM_GM_HI), (.FN_RING_BASE_LO, .FN_RING_BASE_HI), (.HCX_FENCE_LO,
   .HCX_FENCE_HI), (.ACQ_NET_DMAC_LO, .ACQ_NET_DMAC_HI), (.HCX_ARC_RECID_LO, .HCX_ARC_RECID_HI),
   (.PWR_LBIST_SIG_LO, .PWR_LBIST_SIG_HI)]

/-- The `_HI` of a `_LO`. -/
def Reg.hi? (r : Reg) : Option Reg := (regPairs.find? (fun p => p.1 == r)).map (·.2)

/-- The `_LO` of a `_HI`. -/
def Reg.lo? (r : Reg) : Option Reg := (regPairs.find? (fun p => p.2 == r)).map (·.1)

/-! ### What a register reads as -/

/-- A host trigger, which waits on no apply tick that its command names. [log 22 DEDUCED] -/
def isTrigger : HostCmd → Bool
  | .arcTrigger _ => true
  | _ => false

/-- The earliest apply tick of the commands pending on a lane; all ones when none is (LCT_APPLY_NEXT).
[log 21 DESIGN CHOICE, log 22 DEDUCED] -/
def Lane.applyNext (L : Lane) : Nat :=
  let l := (L.pend.filter (fun p => !isTrigger p.cmd)).map (fun p => p.id.apply)
  match l with
  | [] => 2 ^ 64 - 1
  | x :: t => t.foldl min x

/-- Accepted commands not yet applied (LCT_APPLY_PEND). [log 21 DESIGN CHOICE, log 22 DEDUCED] -/
def Lane.applyPend (L : Lane) : Nat := (L.pend.filter (fun p => !isTrigger p.cmd)).length

/-- A coefficient, header or count of the FIR set that CND_COEF_SEL names. -/
def Lane.coefVal (L : Lane) : Word :=
  let i := L.fld .CND_COEF_SEL 8 0
  match L.img.firs.get? (L.fld .CND_COEF_SEL 12 9) with
  | none => 0
  | some x =>
    if i = 256 then w32 (x.typ % 4 * 2 ^ 30 + x.delay % 2 ^ 24)
    else if i = 257 then w32 (x.taps.length % 256)
    else if i < 255 then (x.taps.drop i).headD 0 else 0

/-- A timer's state as ILU_TMR_ST shows it. [log 130 DEDUCED] -/
def tmrWord (x : TmrSt) : Word := w32 (bnat x.q * 2 ^ 31 + bnat x.inPrev * 2 ^ 30 + x.et % 2 ^ 24)

/-- A counter's state as ILU_CTR_ST shows it. [log 130 DEDUCED] -/
def ctrWord (x : CtrSt) : Word := w32 (bnat x.up * 2 ^ 31 + bnat x.dn * 2 ^ 30 + x.cv % 2 ^ 16)

/-- The egress of a trunk hash entry, and whether it is away from its home port (SWM_HASH_VAL). -/
def Lane.hashVal (L : Lane) (e : Nat) : Word :=
  w32 (bnat (L.net.moved.contains e) * 2 + (L.net.trunkPort e - 2))

/-- The datum at a raw count, in 1/65,536 ns, while the lane has a mapping. [log 20 DESIGN CHOICE] -/
def Lane.nsNow (L : Lane) (raw : Nat) : Option Int :=
  match L.datum.maps with
  | [] => none
  | p :: _ => some ((L.datum.at48 p raw).fdiv (2 ^ 32))

/-- What a lane register reads as, at a raw count. [log 20 DESIGN CHOICE, log 21 DESIGN CHOICE] -/
def Lane.view (L : Lane) (raw : Nat) (r : Reg) (i j : Nat) : Word :=
  match r with
  | .DTM_RAW_LO => w32 raw
  | .DTM_RAW_HI => w32 (raw / 2 ^ 32)
  | .DTM_NS_LO => (L.nsNow raw).elim (L.reg r) (fun t => w32 (nsOf t).toNat)
  | .DTM_NS_HI => (L.nsNow raw).elim (L.reg r) (fun t => w32 ((nsOf t).toNat / 2 ^ 32))
  | .DTM_NS_FRAC => (L.nsNow raw).elim (L.reg r) (fun t => w32 (t % 65536).toNat)
  | .LCT_APPLY_NEXT_LO => w32 L.applyNext
  | .LCT_APPLY_NEXT_HI => w32 (L.applyNext / 2 ^ 32)
  | .LCT_APPLY_PEND => w32 L.applyPend
  | .CND_SKEW_VAL => w32i (L.img.skews.getD (L.fld .CND_SKEW_SEL 10 0) 0)
  | .CND_COEF_VAL => L.coefVal
  | .FAB_DESC_WIN => dWord ((L.desc (L.fld .FAB_SLOT_SEL 11 0)).getD []) i
  | .FAB_STATE_WIN => L.stateWin (L.fld .FAB_SLOT_SEL 11 0) i
  | .ILU_TMR_ST => tmrWord (L.ilu.tmr.getD i ⟨0, false, false, none⟩)
  | .ILU_CTR_ST => ctrWord (L.ilu.ctr.getD i ⟨0, false, false⟩)
  | .SWM_CELL_FREE => w32 L.net.free
  | .SWM_OVF_USED => w32 L.net.ovf
  | .SWM_HASH_VAL => L.hashVal (L.fld .SWM_HASH_SEL 7 0)
  | .SWM_FDB_VAL => fdbWord (L.img.fdb.getD (L.fld .SWM_FDB_SEL 11 0) []) i
  | .ACQ_FB_WIN => L.book.window (L.reg .ACQ_FB_CURSOR).toNat i j
  | .DTM_PORT_STAT => putBits (L.reg r i) 31 28 (L.portState i)
  | .KEY_STAT => L.keyStat
  | .KEY_SLOT_STAT => L.slotKeyStat (L.fld .KEY_SLOT_SEL 7 0)
  | .KEY_SLOT_CURID => w32 (((L.keySlot (L.fld .KEY_SLOT_SEL 7 0)).cur.map (·.id)).getD 0)
  | .KEY_SLOT_NEXTID => w32 (((L.keySlot (L.fld .KEY_SLOT_SEL 7 0)).next.map (·.id)).getD 0)
  | r => if r.info.acc = .wo then 0 else L.reg r i j

/-- A function register as it reads. [log 18 DESIGN CHOICE, log 21 DESIGN CHOICE] -/
def Hcx.viewFn (H : Hcx) (f : Nat) (r : Reg) (i j : Nat) : Word :=
  let F := H.fn f
  match r with
  | .FN_STAT => putBits (F.reg .FN_STAT) 21 16 f
  | .FN_CTRL => 0
  | .FN_QUOTA => w32 (leAt (quotaBytes (H.quota f)) (4 * i) 4)
  | .FN_RING_FILT => if i < 3 then 0 else F.reg r i
  | .FN_MSIX => if (if f = 0 then 64 else 8) ≤ i then 0 else if j = 3 then w32 (bnat (!F.unmask.testBit i)) else F.reg r i j
  | r => if r.info.acc = .wo then 0 else F.reg r i j

/-- HCX_PWR_STAT.MSTATE (R382); the states in which the host complex is not powered have no value. -/
def mstateNum : MState → Nat
  | .starting => 1 | .service => 2 | .holdUp => 3 | .parked => 4 | .off => 0 | .sleeping => 0

/-- HCX_PWR_STAT.MLEVEL: the best level of any lane; a lane out of service counts as one in its safe state.
[log 23 DEDUCED] -/
def State.mlevel (s : State) : Nat :=
  let lv := LaneId.all.map (fun l => if (s.lane l).inService then (s.lane l).level else 3)
  if lv.all (· == 0) then 0 else if lv.any (fun n => decide (n ≤ 1)) then 1 else if lv.any (· == 2) then 2 else 3

/-- The domains that are on, by word × 32 + bit of HCX_PD_STAT. -/
def State.domains (s : State) : Nat :=
  (15 - s.power.aonOff % 16) + s.host.fld .HCX_PD_STAT 15 4 * 16 +
    (LaneId.all.map (fun l => (s.lane l).fld .PWR_PD 19 0 * 2 ^ (16 + 20 * l.num))).sum

/-- What a register of the host complex or of the safety-lane status window reads as. [log 21 DESIGN CHOICE] -/
def State.viewHost (s : State) (r : Reg) (i j : Nat) : Word :=
  match r with
  | .HCX_CREDIT_FREE => w32 s.host.creditFree
  | .HCX_QUOTA_WIN => w32 (leAt (quotaBytes (s.host.quota (s.host.fld .HCX_QUOTA_SEL 5 0))) (4 * i) 4)
  | .HCX_LC => w32 (s.host.keys.lifecycle * 2 ^ 29)
  | .HCX_PWR_STAT => putBits (putBits (s.host.reg .HCX_PWR_STAT) 31 29 (mstateNum s.power.mstate)) 28 27 s.mlevel
  | .HCX_PD_STAT => w32 (s.domains / 2 ^ (32 * i))
  | r => if r.info.acc = .wo then 0 else s.host.reg r i j

/-- A register's value at a raw count of its lane. -/
def State.viewReg (s : State) (raw : Nat) (x : RegRef) : Word :=
  match x.part with
  | .lane l => if x.reg = .LCT_PCL_OWNER then w32 (s.host.ownerOf l x.i) else (s.lane l).view raw x.reg x.i x.j
  | .host => s.viewHost x.reg x.i x.j
  | .page f => if s.host.hasFn f then s.host.viewFn f x.reg x.i x.j else 0

/-! ### Reads (R7, R8, R461, R462, R464) -/

/-- The values latched by a read for the registers of a part. -/
def State.latchOf (s : State) : RegPart → NMap Word
  | .lane l => (s.lane l).latch
  | .host => s.host.latch
  | .page f => (s.host.fn f).latch

/-- The module with a part's latched values changed. [log 14 DEDUCED] -/
def State.setLatch (s : State) (p : RegPart) (m : NMap Word) : State :=
  match p with
  | .lane l => s.mapLane l (fun L => { L with latch := m })
  | .host => s.hcx (fun H => { H with latch := m })
  | .page f => s.mapFn f (fun F => { F with latch := m })

/-- A lane's window is out of reach: its lane link is fenced, or PD_x01 is off (R464). [log 19 DEDUCED] -/
def State.windowDark (s : State) (l : LaneId) : Bool := s.fenced l || !(s.lane l).flag .PWR_PD 1

/-- The `_HI` registers that a read of a `_LO` latches; DTM_NS_LO latches DTM_NS_FRAC too. [log 20 DESIGN CHOICE] -/
def Reg.latches (r : Reg) : List Reg := r.hi?.toList ++ (if r = .DTM_NS_LO then [.DTM_NS_FRAC] else [])

/-- A register that a read of another has latched gives the latched value once; a `_LO` latches its `_HI` (R7). -/
def State.readReg (s : State) (raw : Nat) (x : RegRef) : State × Word :=
  let key := x.reg.key x.i x.j
  let m := s.latchOf x.part
  match m.get? key with
  | some v => (s.setLatch x.part (m.del key), v)
  | none =>
    let m := x.reg.latches.foldl (fun (m : NMap Word) h => m.put (h.key x.i x.j) (s.viewReg raw ⟨x.part, h, x.i, x.j⟩)) m
    (if x.reg.latches.isEmpty then s else s.setLatch x.part m, s.viewReg raw x)

/-- A read of one aligned word. [log 16 DEDUCED] -/
def State.readWord (s : State) (f addr raw : Nat) : State × Word :=
  let dark := match barAt f addr with
    | some (.lane l, _, _) => s.windowDark l
    | _ => false
  if dark then (s, 0xFFFFFFFF#32)
  else match regRef f addr with
    | none => (s, 0)
    | some x => s.readReg raw x

/-- Octets `a` to `b − 1` of a word. [log 16 DEDUCED] -/
def wordOctets (w : Word) (a b : Nat) : Word := w32 ((w.toNat >>> (8 * a)) % 2 ^ (8 * (b - a)))

/-- A read of `width` octets, at most 8: each word it touches is read, the lower first, and gives the octets addressed
(R462). [log 15 DESIGN CHOICE, log 16 DEDUCED] -/
def State.readReg8 (f addr width raw : Nat) (s : State) : State :=
  let last := addr + min (max width 1) 8
  (List.range 3).foldl (fun (s : State) n =>
    let base := addr / 4 * 4 + 4 * n
    if last ≤ base then s else
    let r := s.readWord f base raw
    r.1.hcx (fun H => H.emit (.value (wordOctets r.2 (addr - base) (min 4 (last - base)))))) s

/-! ### Writes (R6 to R8, R297, R461, R462, R464) -/

/-- The domain of the lane block that a register is in; the service core for the blocks it holds itself, and the trip
drivers for the registers of the trip lines and the backstop (R380). [log 19 DEDUCED] -/
def Reg.domain (off : Nat) : Nat :=
  match off / 0x10000 with
  | 2 => 10 | 3 => 15 | 4 => 3 | 5 => 16 | 6 => 17 | 7 => 8 | 8 => 0 | 1 => 3
  | _ => 1

/-- The new value of a register that has no meaning of its own for a write (R6, R8). -/
def plainWrite (x : RegInfo) (old v : Word) : Word :=
  match x.acc with
  | .rw => (old &&& ~~~w32 x.wm) ||| (v &&& w32 x.wm)
  | .rws => (old &&& ~~~w32 x.wm) ||| (v &&& w32 x.wm)
  | .w1c => old &&& ~~~(v &&& w32 x.wm)
  | .ro => old
  | .wo => old
  | .rwl => old

/-- A write to a lane register. [log 19 DEDUCED] -/
def Lane.writeReg (f : Nat) (r : Reg) (i j : Nat) (v : Word) (now : Int) (L : Lane) : Lane :=
  match r with
  | .TRM_BSP_LOCK => L.bspLock f v now
  | .SWM_WAKE_TX => L.wakeTx v now
  | r =>
    match r.info.acc with
    | .ro => L
    | .wo => L
    | .rwl => L
    | _ => L.setReg r (plainWrite r.info (L.reg r i j) v) i j

/-- A write to a ring's base: `_LO` is staged, `_HI` commits both, while the ring is OFF (R7, R297).
[log 14 DEDUCED, log 103 DESIGN CHOICE] -/
def State.writeBase (f r : Nat) (hi : Bool) (v : Word) (s : State) : State :=
  let F := s.host.fn f
  let key := Reg.FN_RING_BASE_LO.key r 0
  if F.ring r != rOff then s
  else if !hi then s.mapFn f (fun F => { F with staged := F.staged.put key v })
  else
    s.mapFn f (fun F =>
      let lo := (F.staged.get? key).getD (F.reg .FN_RING_BASE_LO r)
      ({ F with staged := F.staged.del key } : Fn).setReg .FN_RING_BASE_LO lo r |>.setReg .FN_RING_BASE_HI v r)

/-- A write to RING_CFG: EN set checks and enables the ring, EN clear drains a running one (R297, R299).
[log 99 DEDUCED, log 103 DESIGN CHOICE] -/
def State.writeCfg (f r : Nat) (v : Word) (s : State) : State :=
  if bit v 31 then s.ringEnable f r v
  else if (s.host.fn f).ring r = rRun then s.ringDrain f r
  else s.ringWrite f .FN_RING_CFG r (v &&& 0x8F3F0000#32)

/-- A write to word `j` of an MSI-X table entry; the mask bit is bit 0 of word 3 (R313). -/
def State.writeMsix (f v j : Nat) (w : Word) (s : State) : State :=
  if (if f = 0 then 64 else 8) ≤ v then s
  else if j = 3 then s.msixMask f v (bit w 0)
  else s.mapFn f (fun F => F.setReg .FN_MSIX w v j)

/-- A write to a register of a function's page. [log 18 DESIGN CHOICE, log 103 DESIGN CHOICE] -/
def State.writeFn (f : Nat) (r : Reg) (i j : Nat) (v : Word) (width : Nat) (now : Int) (s : State) : State :=
  if !s.host.hasFn f then s
  else match r with
    | .FN_DB => s.doorbell f i v width now
    | .FN_CTRL => if bit v 0 then s.resetFn f else s
    | .FN_RING_BASE_LO => s.writeBase f i false v
    | .FN_RING_BASE_HI => s.writeBase f i true v
    | .FN_RING_CFG => s.writeCfg f i v
    | .FN_RING_MOD => s.mapFn f (fun F => F.setReg .FN_RING_MOD v i)
    | .FN_RING_FILT =>
      if i < 3 then s
      else s.mapFn f (fun F => F.setReg .FN_RING_FILT (v &&& (if i < 7 then 0xF807FFFF#32 else 0x70000#32)) i)
    | .FN_MSIX => s.writeMsix f i j v
    | _ => s

/-- A write to a register of the host complex. -/
def State.writeHost (r : Reg) (i j : Nat) (v : Word) (now : Int) (s : State) : State :=
  match r with
  | .HCX_FN_RESET => s.fnResetRow (bits v 5 0)
  | .HCX_LANE_RESET => s.laneResetWrite v now
  | .HCX_WARM_RESET => s.warmWrite v now
  | .HCX_PARK => s.parkWrite v now
  | r => if r.info.acc = .rw then s.hcx (fun H => H.setReg r (plainWrite r.info (H.reg r i j) v) i j) else s

/-- A write of one aligned word; `width` is that of the access, which doorbells look at. [log 14 DEDUCED] -/
def State.writeWord (s : State) (f addr : Nat) (v : Word) (width : Nat) (now : Int) : State :=
  match regRef f addr with
  | none => s
  | some x =>
    match x.part with
    | .lane l =>
      if s.windowDark l || !(s.lane l).flag .PWR_PD (Reg.domain x.reg.info.off) then s
      else s.mapLane l (Lane.writeReg f x.reg x.i x.j v now)
    | .host => s.writeHost x.reg x.i x.j v now
    | .page g => s.writeFn g x.reg x.i x.j v width now

/-- The address lies in a doorbell, which looks at the access's width itself. [log 17 DEDUCED] -/
def isDoorbell (f addr : Nat) : Bool := ((regRef f (addr / 4 * 4)).map (·.reg)) == some .FN_DB

/-- A write of `width` octets: one aligned word, or two for an aligned write of 8 octets, the lower first; any other has
no effect, but for a doorbell, which counts it (R298, R462). [log 15 DESIGN CHOICE, log 16 DEDUCED, log 17 DEDUCED] -/
def State.writeRegs (f addr width value : Nat) (now : Int) (s : State) : State :=
  if isDoorbell f addr then s.writeWord f (addr / 4 * 4) (w32 value) (if addr % 4 = 0 then width else 0) now
  else if width = 4 ∧ addr % 4 = 0 then s.writeWord f addr (w32 value) 4 now
  else if width = 8 ∧ addr % 8 = 0 then
    (s.writeWord f addr (w32 value) 4 now).writeWord f (addr + 4) (w32 (value / 2 ^ 32)) 4 now
  else s

/-! ### Meanings -/

/-- REGISTER_READ_LO (R7, R462, R464): a read of a register; a `_LO` latches its `_HI`. [log 15 DESIGN CHOICE] -/
def execRegisterReadLo (fn addr width raw : Nat) (s : State) : Host.Outcome State Fault Refusal :=
  onHost (State.readReg8 fn addr width raw) s

/-- REGISTER_WRITE_HI (R7): a write of a writable `_HI` commits both halves. [log 15 DESIGN CHOICE] -/
def execRegisterWriteHi (fn addr width value : Nat) (now : Int) (s : State) : Host.Outcome State Fault Refusal :=
  onHost (State.writeRegs fn addr width value now) s

/-- REGISTER_WRITE (R6, R8, R461, R462, R464): a write acts by the register's access type. [log 15 DESIGN CHOICE] -/
def execRegisterWrite (fn addr width value : Nat) (now : Int) (s : State) : Host.Outcome State Fault Refusal :=
  onHost (State.writeRegs fn addr width value now) s

end Sys2Proof.Machine
end

