-- ==== Sys2Proof/Machine/Dispatch.lean ====
section
/-! DEFINITION. Which meaning each command has: one arm for each constructor, each a direct call. -/

namespace Sys2Proof.Machine

open Sys2Proof

/-- A command's effect on everything but the queue. -/
def exec (i : Instr) (s : State) : Host.Outcome State Fault Refusal :=
  match i with
  | .tickEdge lane => Sys2Proof.Machine.execTickEdge lane s
  | .sampledValueFrame lane port rx f => Sys2Proof.Machine.execSampledValueFrame lane port rx f s
  | .burstFrame lane port rx f => Sys2Proof.Machine.execBurstFrame lane port rx f s
  | .gooseFrame lane port rx f => Sys2Proof.Machine.execGooseFrame lane port rx f s
  | .switchForward lane port raw f fcsOk started => Sys2Proof.Machine.execSwitchForward lane port raw f fcsOk started s
  | .pfcRepeat lane port cls => Sys2Proof.Machine.execPfcRepeat lane port cls s
  | .pfcResume lane port cls => Sys2Proof.Machine.execPfcResume lane port cls s
  | .egressTransmit lane port tx => Sys2Proof.Machine.execEgressTransmit lane port tx s
  | .pfcFrame lane port raw times => Sys2Proof.Machine.execPfcFrame lane port raw times s
  | .pauseFrame lane port => Sys2Proof.Machine.execPauseFrame lane port s
  | .preemptionVerify lane port ok now => Sys2Proof.Machine.execPreemptionVerify lane port ok now s
  | .portLinkDown lane port x => Sys2Proof.Machine.execPortLinkDown lane port x s
  | .portLinkUp lane port raw master now => Sys2Proof.Machine.execPortLinkUp lane port raw master now s
  | .trunkMoveBack lane entry raw => Sys2Proof.Machine.execTrunkMoveBack lane entry raw s
  | .addressAgeing lane mac vid raw => Sys2Proof.Machine.execAddressAgeing lane mac vid raw s
  | .supervisionFrameSend lane raw => Sys2Proof.Machine.execSupervisionFrameSend lane raw s
  | .supervisionFrame lane port raw node => Sys2Proof.Machine.execSupervisionFrame lane port raw node s
  | .nodeForget lane node raw => Sys2Proof.Machine.execNodeForget lane node raw s
  | .entryForget lane src seq raw => Sys2Proof.Machine.execEntryForget lane src seq raw s
  | .wakePattern lane w => Sys2Proof.Machine.execWakePattern lane w s
  | .wakeTx lane w now => Sys2Proof.Machine.execWakeTx lane w now s
  | .intakeCutoff lane own => Sys2Proof.Machine.execIntakeCutoff lane own s
  | .streamLost lane sub => Sys2Proof.Machine.execStreamLost lane sub s
  | .streamRecovered lane sub => Sys2Proof.Machine.execStreamRecovered lane sub s
  | .backstopLatch lane => Sys2Proof.Machine.execBackstopLatch lane s
  | .elementStage lane stage fault ce => Sys2Proof.Machine.execElementStage lane stage fault ce s
  | .inputBlockCopy lane => Sys2Proof.Machine.execInputBlockCopy lane s
  | .tripMatrixLatch lane => Sys2Proof.Machine.execTripMatrixLatch lane s
  | .gooseRepeat lane pub => Sys2Proof.Machine.execGooseRepeat lane pub s
  | .sliceStart lane core parcel => Sys2Proof.Machine.execSliceStart lane core parcel s
  | .sliceEnd lane core parcel steps cycles => Sys2Proof.Machine.execSliceEnd lane core parcel steps cycles s
  | .done lane parcel strand steps cycles => Sys2Proof.Machine.execDone lane parcel strand steps cycles s
  | .cmdWr lane parcel strand channel value steps => Sys2Proof.Machine.execCmdWr lane parcel strand channel value steps s
  | .historyApertureRead lane parcel strand channel age steps => Sys2Proof.Machine.execHistoryApertureRead lane parcel strand channel age steps s
  | .guardViolation lane parcel strand code addr steps => Sys2Proof.Machine.execGuardViolation lane parcel strand code addr steps s
  | .parcelTrap lane parcel strand cause tval steps => Sys2Proof.Machine.execParcelTrap lane parcel strand cause tval steps s
  | .iluSlice lane ce => Sys2Proof.Machine.execIluSlice lane ce s
  | .iluFault lane cause now => Sys2Proof.Machine.execIluFault lane cause now s
  | .ld lane p f => Sys2Proof.Machine.execLd lane p f s
  | .ldn lane p f => Sys2Proof.Machine.execLdn lane p f s
  | .and lane p f => Sys2Proof.Machine.execAnd lane p f s
  | .andn lane p f => Sys2Proof.Machine.execAndn lane p f s
  | .or lane p f => Sys2Proof.Machine.execOr lane p f s
  | .orn lane p f => Sys2Proof.Machine.execOrn lane p f s
  | .xor lane p f => Sys2Proof.Machine.execXor lane p f s
  | .xorn lane p f => Sys2Proof.Machine.execXorn lane p f s
  | .st lane p f => Sys2Proof.Machine.execSt lane p f s
  | .stn lane p f => Sys2Proof.Machine.execStn lane p f s
  | .set lane p f => Sys2Proof.Machine.execSet lane p f s
  | .rst lane p f => Sys2Proof.Machine.execRst lane p f s
  | .re lane p f => Sys2Proof.Machine.execRe lane p f s
  | .fe lane p f => Sys2Proof.Machine.execFe lane p f s
  | .ton lane p t => Sys2Proof.Machine.execTon lane p t s
  | .tof lane p t => Sys2Proof.Machine.execTof lane p t s
  | .tp lane p t => Sys2Proof.Machine.execTp lane p t s
  | .ctu lane p c => Sys2Proof.Machine.execCtu lane p c s
  | .ctd lane p c => Sys2Proof.Machine.execCtd lane p c s
  | .crs lane p c => Sys2Proof.Machine.execCrs lane p c s
  | .cld lane p c => Sys2Proof.Machine.execCld lane p c s
  | .faruskNop lane p => Sys2Proof.Machine.execFaruskNop lane p s
  | .push lane p => Sys2Proof.Machine.execPush lane p s
  | .popa lane p => Sys2Proof.Machine.execPopa lane p s
  | .popo lane p => Sys2Proof.Machine.execPopo lane p s
  | .page0 lane p => Sys2Proof.Machine.execPage0 lane p s
  | .page1 lane p => Sys2Proof.Machine.execPage1 lane p s
  | .endScan lane p => Sys2Proof.Machine.execEndScan lane p s
  | .jc lane p k => Sys2Proof.Machine.execJc lane p k s
  | .jcn lane p k => Sys2Proof.Machine.execJcn lane p k s
  | .readback lane levels => Sys2Proof.Machine.execReadback lane levels s
  | .fieldIoExchange lane => Sys2Proof.Machine.execFieldIoExchange lane s
  | .publishedStreamFrame lane stream => Sys2Proof.Machine.execPublishedStreamFrame lane stream s
  | .digestSend lane => Sys2Proof.Machine.execDigestSend lane s
  | .closure lane fail x => Sys2Proof.Machine.execClosure lane fail x s
  | .laneFaultHandling lane now => Sys2Proof.Machine.execLaneFaultHandling lane now s
  | .periodStart lane pair t0 => Sys2Proof.Machine.execPeriodStart lane pair t0 s
  | .talExpiry lane sub => Sys2Proof.Machine.execTalExpiry lane sub s
  | .intakeRecord lane h r => Sys2Proof.Machine.execIntakeRecord lane h r s
  | .cutoffMarker lane h tick gs fio => Sys2Proof.Machine.execCutoffMarker lane h tick gs fio s
  | .forwardSubstitution lane => Sys2Proof.Machine.execForwardSubstitution lane s
  | .digest lane h tick digest t1 t2 t3 t4 rate synced hold => Sys2Proof.Machine.execDigest lane h tick digest t1 t2 t3 t4 rate synced hold s
  | .backsightCompare lane now => Sys2Proof.Machine.execBacksightCompare lane now s
  | .mismatch lane h => Sys2Proof.Machine.execMismatch lane h s
  | .selfCheckComplete lane ownOk peerOk now => Sys2Proof.Machine.execSelfCheckComplete lane ownOk peerOk now s
  | .withdraw lane h now => Sys2Proof.Machine.execWithdraw lane h now s
  | .lossOfActive lane now => Sys2Proof.Machine.execLossOfActive lane now s
  | .takeover lane => Sys2Proof.Machine.execTakeover lane s
  | .pairingAttempt lane f now => Sys2Proof.Machine.execPairingAttempt lane f now s
  | .pairingComplete lane peerInService now => Sys2Proof.Machine.execPairingComplete lane peerInService now s
  | .sightlineLockLoss lane now => Sys2Proof.Machine.execSightlineLockLoss lane now s
  | .sightlineLock lane => Sys2Proof.Machine.execSightlineLock lane s
  | .awaitExpiry lane now => Sys2Proof.Machine.execAwaitExpiry lane now s
  | .witnessLost lane now => Sys2Proof.Machine.execWitnessLost lane now s
  | .copy lane h first last tick parts => Sys2Proof.Machine.execCopy lane h first last tick parts s
  | .pagedig lane h tick granules => Sys2Proof.Machine.execPagedig lane h tick granules s
  | .freezeStart lane tick => Sys2Proof.Machine.execFreezeStart lane tick s
  | .stateTransferRestart lane now => Sys2Proof.Machine.execStateTransferRestart lane now s
  | .cmd lane h fn tag apply c => Sys2Proof.Machine.execCmd lane h fn tag apply c s
  | .cmdAck lane h fn tag => Sys2Proof.Machine.execCmdAck lane h fn tag s
  | .cmdCommit lane h fn tag => Sys2Proof.Machine.execCmdCommit lane h fn tag s
  | .commitDeadline lane => Sys2Proof.Machine.execCommitDeadline lane s
  | .standbyCommitTimeout lane => Sys2Proof.Machine.execStandbyCommitTimeout lane s
  | .plannedSwap lane => Sys2Proof.Machine.execPlannedSwap lane s
  | .requalified lane a => Sys2Proof.Machine.execRequalified lane a s
  | .outputProofTest lane level now => Sys2Proof.Machine.execOutputProofTest lane level now s
  | .twinOffsetAlarm lane now => Sys2Proof.Machine.execTwinOffsetAlarm lane now s
  | .announce lane m ds utc now => Sys2Proof.Machine.execAnnounce lane m ds utc now s
  | .sync lane m rx tx origin twoStep => Sys2Proof.Machine.execSync lane m rx tx origin twoStep s
  | .followUp lane m origin => Sys2Proof.Machine.execFollowUp lane m origin s
  | .pdelayReq lane m rx tx => Sys2Proof.Machine.execPdelayReq lane m rx tx s
  | .pdelayResp lane m rx t2 twoStep => Sys2Proof.Machine.execPdelayResp lane m rx t2 twoStep s
  | .pdelayRespFollowUp lane m t3 => Sys2Proof.Machine.execPdelayRespFollowUp lane m t3 s
  | .ptpMessageIgnored lane port => Sys2Proof.Machine.execPtpMessageIgnored lane port s
  | .syncTransmit lane port tx => Sys2Proof.Machine.execSyncTransmit lane port tx s
  | .announceTransmit lane port => Sys2Proof.Machine.execAnnounceTransmit lane port s
  | .pdelayReqTransmit lane port tx => Sys2Proof.Machine.execPdelayReqTransmit lane port tx s
  | .holdoverAnnounceStop lane => Sys2Proof.Machine.execHoldoverAnnounceStop lane s
  | .ppsPulse lane raw => Sys2Proof.Machine.execPpsPulse lane raw s
  | .announceTimeout lane now => Sys2Proof.Machine.execAnnounceTimeout lane now s
  | .qualificationComplete lane cand now => Sys2Proof.Machine.execQualificationComplete lane cand now s
  | .switchEnd lane now => Sys2Proof.Machine.execSwitchEnd lane now s
  | .stepDetected lane now => Sys2Proof.Machine.execStepDetected lane now s
  | .slewEnd lane now => Sys2Proof.Machine.execSlewEnd lane now s
  | .initialSet lane src => Sys2Proof.Machine.execInitialSet lane src s
  | .datumUnsetEvent lane => Sys2Proof.Machine.execDatumUnsetEvent lane s
  | .datumBeacon lane => Sys2Proof.Machine.execDatumBeacon lane s
  | .hostClockBeacon clock => Sys2Proof.Machine.execHostClockBeacon clock s
  | .doorbell fn ring value width now => Sys2Proof.Machine.execDoorbell fn ring value width now s
  | .commandFetch fn d now => Sys2Proof.Machine.execCommandFetch fn d now s
  | .commandCompletion src now => Sys2Proof.Machine.execCommandCompletion src now s
  | .transmitDescriptor fn ring d now => Sys2Proof.Machine.execTransmitDescriptor fn ring d now s
  | .transmitWriteBack fn ring now => Sys2Proof.Machine.execTransmitWriteBack fn ring now s
  | .receiveDelivery lane d now => Sys2Proof.Machine.execReceiveDelivery lane d now s
  | .eventPlacement book now => Sys2Proof.Machine.execEventPlacement book now s
  | .overflowEntry fn now => Sys2Proof.Machine.execOverflowEntry fn now s
  | .msixMessage fn ring now => Sys2Proof.Machine.execMsixMessage fn ring now s
  | .msixUnmask fn vector => Sys2Proof.Machine.execMsixUnmask fn vector s
  | .ringEnable fn ring value => Sys2Proof.Machine.execRingEnable fn ring value s
  | .ringDrain fn ring => Sys2Proof.Machine.execRingDrain fn ring s
  | .drainComplete fn ring => Sys2Proof.Machine.execDrainComplete fn ring s
  | .dmaReadError fn ring idx now => Sys2Proof.Machine.execDmaReadError fn ring idx now s
  | .dmaCompletionTimeout fn ring idx now => Sys2Proof.Machine.execDmaCompletionTimeout fn ring idx now s
  | .functionReset fn => Sys2Proof.Machine.execFunctionReset fn s
  | .hcxFnReset fn => Sys2Proof.Machine.execHcxFnReset fn s
  | .functionLevelReset fn => Sys2Proof.Machine.execFunctionLevelReset fn s
  | .functionResetComplete fn now => Sys2Proof.Machine.execFunctionResetComplete fn now s
  | .pcieLinkDown now => Sys2Proof.Machine.execPcieLinkDown now s
  | .hotReset => Sys2Proof.Machine.execHotReset s
  | .laneLinkTimeout lane now => Sys2Proof.Machine.execLaneLinkTimeout lane now s
  | .hostWatchdogExpiry now => Sys2Proof.Machine.execHostWatchdogExpiry now s
  | .registerReadLo fn addr width raw => Sys2Proof.Machine.execRegisterReadLo fn addr width raw s
  | .registerWriteHi fn addr width value now => Sys2Proof.Machine.execRegisterWriteHi fn addr width value now s
  | .registerWrite fn addr width value now => Sys2Proof.Machine.execRegisterWrite fn addr width value now s
  | .bspLock lane fn w now => Sys2Proof.Machine.execBspLock lane fn w now s
  | .nop h => Sys2Proof.Machine.execNop h s
  | .loadImage h x => Sys2Proof.Machine.execLoadImage h x s
  | .readSlot h slot => Sys2Proof.Machine.execReadSlot h slot s
  | .writeSlot h slot d => Sys2Proof.Machine.execWriteSlot h slot d s
  | .setQuota h vf q => Sys2Proof.Machine.execSetQuota h vf q s
  | .parcelLoad h p img auto => Sys2Proof.Machine.execParcelLoad h p img auto s
  | .parcelStart h p => Sys2Proof.Machine.execParcelStart h p s
  | .parcelStop h p => Sys2Proof.Machine.execParcelStop h p s
  | .parcelRestart h p clear => Sys2Proof.Machine.execParcelRestart h p clear s
  | .parcelUnload h p => Sys2Proof.Machine.execParcelUnload h p s
  | .parcelFreeze h p => Sys2Proof.Machine.execParcelFreeze h p s
  | .parcelResume h p => Sys2Proof.Machine.execParcelResume h p s
  | .parcelReload lane confirmed => Sys2Proof.Machine.execParcelReload lane confirmed s
  | .migrateTrack h p target q => Sys2Proof.Machine.execMigrateTrack h p target q s
  | .trackReady lane parcel left now => Sys2Proof.Machine.execTrackReady lane parcel left now s
  | .migrateSwitch h p target q => Sys2Proof.Machine.execMigrateSwitch h p target q s
  | .migrateCancel h p => Sys2Proof.Machine.execMigrateCancel h p s
  | .migrateSave h p => Sys2Proof.Machine.execMigrateSave h p s
  | .migrateRestore h p target q r => Sys2Proof.Machine.execMigrateRestore h p target q r s
  | .migrateRelease h p => Sys2Proof.Machine.execMigrateRelease h p s
  | .setTarget h ch v => Sys2Proof.Machine.execSetTarget h ch v s
  | .forceBits h value mask => Sys2Proof.Machine.execForceBits h value mask s
  | .hostFlags h value mask => Sys2Proof.Machine.execHostFlags h value mask s
  | .tlReset h lines => Sys2Proof.Machine.execTlReset h lines s
  | .iluStop h p => Sys2Proof.Machine.execIluStop h p s
  | .iluStart h p => Sys2Proof.Machine.execIluStart h p s
  | .iluClear h p => Sys2Proof.Machine.execIluClear h p s
  | .twinSwap h => Sys2Proof.Machine.execTwinSwap h s
  | .setTod h t => Sys2Proof.Machine.execSetTod h t s
  | .timeAccept h e => Sys2Proof.Machine.execTimeAccept h e s
  | .timeReject h => Sys2Proof.Machine.execTimeReject h s
  | .archiveAttach h r => Sys2Proof.Machine.execArchiveAttach h r s
  | .archiveDetach h => Sys2Proof.Machine.execArchiveDetach h s
  | .archiveFormat h r => Sys2Proof.Machine.execArchiveFormat h r s
  | .archiveRead h off len => Sys2Proof.Machine.execArchiveRead h off len s
  | .archiveWrite h off bytes => Sys2Proof.Machine.execArchiveWrite h off bytes s
  | .archiveAlloc h => Sys2Proof.Machine.execArchiveAlloc h s
  | .archiveClose h ext => Sys2Proof.Machine.execArchiveClose h ext s
  | .archivePin h ext => Sys2Proof.Machine.execArchivePin h ext s
  | .archiveUnpin h ext => Sys2Proof.Machine.execArchiveUnpin h ext s
  | .archiveFree h ext => Sys2Proof.Machine.execArchiveFree h ext s
  | .archiveList h first room => Sys2Proof.Machine.execArchiveList h first room s
  | .archiveTrigger h defs => Sys2Proof.Machine.execArchiveTrigger h defs s
  | .fieldbookRead h first count => Sys2Proof.Machine.execFieldbookRead h first count s
  | .fieldbookFlush h => Sys2Proof.Machine.execFieldbookFlush h s
  | .clearGen h => Sys2Proof.Machine.execClearGen h s
  | .clearSafe h => Sys2Proof.Machine.execClearSafe h s
  | .keyPut h k => Sys2Proof.Machine.execKeyPut h k s
  | .keyPrepare h => Sys2Proof.Machine.execKeyPrepare h s
  | .keyRoll h slots => Sys2Proof.Machine.execKeyRoll h slots s
  | .keyDrop h next slots => Sys2Proof.Machine.execKeyDrop h next slots s
  | .own h root signed => Sys2Proof.Machine.execOwn h root signed s
  | .keyRelease h => Sys2Proof.Machine.execKeyRelease h s
  | .enterService h => Sys2Proof.Machine.execEnterService h s
  | .leaveService h => Sys2Proof.Machine.execLeaveService h s
  | .retire h => Sys2Proof.Machine.execRetire h s
  | .stage h hdr halt => Sys2Proof.Machine.execStage h hdr halt s
  | .activate h => Sys2Proof.Machine.execActivate h s
  | .raiseSvn h => Sys2Proof.Machine.execRaiseSvn h s
  | .fnReset h fn => Sys2Proof.Machine.execFnReset h fn s
  | .captureEnd lane rd => Sys2Proof.Machine.execCaptureEnd lane rd s
  | .bufferFull lane => Sys2Proof.Machine.execBufferFull lane s
  | .recordTransferFrame lane => Sys2Proof.Machine.execRecordTransferFrame lane s
  | .nvmeCompletion cid status data now => Sys2Proof.Machine.execNvmeCompletion cid status data now s
  | .nvmeOverdue cid now => Sys2Proof.Machine.execNvmeOverdue cid now s
  | .catalogueCommit page now => Sys2Proof.Machine.execCatalogueCommit page now s
  | .recoveryComplete hdrOk e entries now => Sys2Proof.Machine.execRecoveryComplete hdrOk e entries now s
  | .fieldBookOccurrence book => Sys2Proof.Machine.execFieldBookOccurrence book s
  | .fieldBookFlushEnd lane => Sys2Proof.Machine.execFieldBookFlushEnd lane s
  | .sealRead w => Sys2Proof.Machine.execSealRead w s
  | .sealSample w => Sys2Proof.Machine.execSealSample w s
  | .inputSample a b blankA blankB => Sys2Proof.Machine.execInputSample a b blankA blankB s
  | .testPulse source a b off => Sys2Proof.Machine.execTestPulse source a b off s
  | .safetyCycle rdbk coil0 coil1 ce => Sys2Proof.Machine.execSafetyCycle rdbk coil0 coil1 ce s
  | .discrepancyTimeout pair => Sys2Proof.Machine.execDiscrepancyTimeout pair s
  | .switchTestRound bad => Sys2Proof.Machine.execSwitchTestRound bad s
  | .coilCurrentFailure brake => Sys2Proof.Machine.execCoilCurrentFailure brake s
  | .holdingTestWindowOpen => Sys2Proof.Machine.execHoldingTestWindowOpen s
  | .holdingTestWindowClose => Sys2Proof.Machine.execHoldingTestWindowClose s
  | .speedPulse input => Sys2Proof.Machine.execSpeedPulse input s
  | .diagnosticFailure cause => Sys2Proof.Machine.execDiagnosticFailure cause s
  | .watchdogMiss => Sys2Proof.Machine.execWatchdogMiss s
  | .safetyStartComplete => Sys2Proof.Machine.execSafetyStartComplete s
  | .safetySag => Sys2Proof.Machine.execSafetySag s
  | .safetyStatus now => Sys2Proof.Machine.execSafetyStatus now s
  | .programmingPage offset h page => Sys2Proof.Machine.execProgrammingPage offset h page s
  | .fieldIoFrameToField lane err => Sys2Proof.Machine.execFieldIoFrameToField lane err s
  | .fieldIoFrameFromField lane rx now => Sys2Proof.Machine.execFieldIoFrameFromField lane rx now s
  | .fieldIoFrameTimeout lane toField now => Sys2Proof.Machine.execFieldIoFrameTimeout lane toField now s
  | .outputOverload lane pin => Sys2Proof.Machine.execOutputOverload lane pin s
  | .overloadRetry lane pin stillBad => Sys2Proof.Machine.execOverloadRetry lane pin stillBad s
  | .powerGood vin capLow => Sys2Proof.Machine.execPowerGood vin capLow s
  | .stageStart => Sys2Proof.Machine.execStageStart s
  | .domainFault domain now => Sys2Proof.Machine.execDomainFault domain now s
  | .hostComplexReady ok ms now => Sys2Proof.Machine.execHostComplexReady ok ms now s
  | .laneStart lane => Sys2Proof.Machine.execLaneStart lane s
  | .memorySelfTestEnd lane fail repair rows cols ms now => Sys2Proof.Machine.execMemorySelfTestEnd lane fail repair rows cols ms now s
  | .logicSelfTestEnd lane pipes others ms now => Sys2Proof.Machine.execLogicSelfTestEnd lane pipes others ms now s
  | .generationCheck lane now => Sys2Proof.Machine.execGenerationCheck lane now s
  | .laneEnterService lane startMs t => Sys2Proof.Machine.execLaneEnterService lane startMs t s
  | .holdUpChargeMeasure t now => Sys2Proof.Machine.execHoldUpChargeMeasure t now s
  | .holdOk vhold => Sys2Proof.Machine.execHoldOk vhold s
  | .holdLowTimeout now => Sys2Proof.Machine.execHoldLowTimeout now s
  | .sagDetected vin now => Sys2Proof.Machine.execSagDetected vin now s
  | .dip => Sys2Proof.Machine.execDip s
  | .flushEnd us => Sys2Proof.Machine.execFlushEnd us s
  | .supplyReturn vin => Sys2Proof.Machine.execSupplyReturn vin s
  | .sleepSupplyLoss => Sys2Proof.Machine.execSleepSupplyLoss s
  | .coldReset => Sys2Proof.Machine.execColdReset s
  | .warmModuleReset w now => Sys2Proof.Machine.execWarmModuleReset w now s
  | .laneReset w now => Sys2Proof.Machine.execLaneReset w now s
  | .parkAttended key now => Sys2Proof.Machine.execParkAttended key now s
  | .parkSleeping key now => Sys2Proof.Machine.execParkSleeping key now s
  | .unpark key now => Sys2Proof.Machine.execUnpark key now s
  | .trefAlarm tref now => Sys2Proof.Machine.execTrefAlarm tref now s
  | .dieOvertemp lane temp now => Sys2Proof.Machine.execDieOvertemp lane temp now s
  | .lpddrScrub lane => Sys2Proof.Machine.execLpddrScrub lane s
  | .bootSelection part now => Sys2Proof.Machine.execBootSelection part now s
  | .bootConfirm part => Sys2Proof.Machine.execBootConfirm part s
  | .eraseSuspend part => Sys2Proof.Machine.execEraseSuspend part s
  | .eraseResume part => Sys2Proof.Machine.execEraseResume part s
  | .slotWriteComplete lane => Sys2Proof.Machine.execSlotWriteComplete lane s
  | .dailySlotCheck lane ok now => Sys2Proof.Machine.execDailySlotCheck lane ok now s
  | .keyRemask lane => Sys2Proof.Machine.execKeyRemask lane s
  | .pfcPauseExpiry lane port cls raw => Sys2Proof.Machine.execPfcPauseExpiry lane port cls raw s
  | .pcieLinkUp speed width ecrc => Sys2Proof.Machine.execPcieLinkUp speed width ecrc s
  | .vfEnable n => Sys2Proof.Machine.execVfEnable n s
  | .holdUpEnergyEnd a b c d us => Sys2Proof.Machine.execHoldUpEnergyEnd a b c d us s
  | .generalClassNorSave => Sys2Proof.Machine.execGeneralClassNorSave s
  | .factoryProvisioning now => Sys2Proof.Machine.execFactoryProvisioning now s
  | .fieldSupplyLow lane low => Sys2Proof.Machine.execFieldSupplyLow lane low s

end Sys2Proof.Machine
end

