-- ==== Sys2Proof/Safety.lean ====
section
/-! DEFINITION. What the statements about runs are put in terms of: which part a command acts on, what the safety lane
must keep, and when a command meets the conditions under which it acts. -/

namespace Sys2Proof

open Sys2Proof.Machine

/-- The lane a command acts on, for the commands that reach one lane and nothing else (R10, R14). -/
def Instr.laneOf : Instr → Option LaneId
  | .tickEdge _ => none
  | .sampledValueFrame l _ _ _ => some l
  | .burstFrame l _ _ _ => some l
  | .gooseFrame l _ _ _ => some l
  | .switchForward l _ _ _ _ _ => some l
  | .pfcRepeat l _ _ => some l
  | .pfcResume l _ _ => some l
  | .egressTransmit l _ _ => some l
  | .pfcFrame l _ _ _ => some l
  | .pauseFrame l _ => some l
  | .preemptionVerify l _ _ _ => some l
  | .portLinkDown l _ _ => some l
  | .portLinkUp l _ _ _ _ => some l
  | .trunkMoveBack l _ _ => some l
  | .addressAgeing l _ _ _ => some l
  | .supervisionFrameSend l _ => some l
  | .supervisionFrame l _ _ _ => some l
  | .nodeForget l _ _ => some l
  | .entryForget l _ _ _ => some l
  | .wakePattern _ _ => none
  | .wakeTx l _ _ => some l
  | .intakeCutoff l _ => some l
  | .streamLost l _ => some l
  | .streamRecovered l _ => some l
  | .backstopLatch l => some l
  | .elementStage l _ _ _ => some l
  | .inputBlockCopy l => some l
  | .tripMatrixLatch l => some l
  | .gooseRepeat l _ => some l
  | .sliceStart l _ _ => some l
  | .sliceEnd l _ _ _ _ => some l
  | .done l _ _ _ _ => some l
  | .cmdWr l _ _ _ _ _ => some l
  | .historyApertureRead l _ _ _ _ _ => some l
  | .guardViolation l _ _ _ _ _ => some l
  | .parcelTrap l _ _ _ _ _ => some l
  | .iluSlice l _ => some l
  | .iluFault l _ _ => some l
  | .ld l _ _ => some l
  | .ldn l _ _ => some l
  | .and l _ _ => some l
  | .andn l _ _ => some l
  | .or l _ _ => some l
  | .orn l _ _ => some l
  | .xor l _ _ => some l
  | .xorn l _ _ => some l
  | .st l _ _ => some l
  | .stn l _ _ => some l
  | .set l _ _ => some l
  | .rst l _ _ => some l
  | .re l _ _ => some l
  | .fe l _ _ => some l
  | .ton l _ _ => some l
  | .tof l _ _ => some l
  | .tp l _ _ => some l
  | .ctu l _ _ => some l
  | .ctd l _ _ => some l
  | .crs l _ _ => some l
  | .cld l _ _ => some l
  | .faruskNop l _ => some l
  | .push l _ => some l
  | .popa l _ => some l
  | .popo l _ => some l
  | .page0 l _ => some l
  | .page1 l _ => some l
  | .endScan l _ => some l
  | .jc l _ _ => some l
  | .jcn l _ _ => some l
  | .readback l _ => some l
  | .fieldIoExchange l => some l
  | .publishedStreamFrame l _ => some l
  | .digestSend l => some l
  | .closure _ _ _ => none
  | .laneFaultHandling _ _ => none
  | .periodStart l _ _ => some l
  | .talExpiry l _ => some l
  | .intakeRecord l _ _ => some l
  | .cutoffMarker l _ _ _ _ => some l
  | .forwardSubstitution l => some l
  | .digest l _ _ _ _ _ _ _ _ _ _ => some l
  | .backsightCompare l _ => some l
  | .mismatch l _ => some l
  | .selfCheckComplete _ _ _ _ => none
  | .withdraw l _ _ => some l
  | .lossOfActive l _ => some l
  | .takeover l => some l
  | .pairingAttempt l _ _ => some l
  | .pairingComplete l _ _ => some l
  | .sightlineLockLoss l _ => some l
  | .sightlineLock l => some l
  | .awaitExpiry l _ => some l
  | .witnessLost l _ => some l
  | .copy l _ _ _ _ _ => some l
  | .pagedig l _ _ _ => some l
  | .freezeStart l _ => some l
  | .stateTransferRestart l _ => some l
  | .cmd _ _ _ _ _ _ => none
  | .cmdAck l _ _ _ => some l
  | .cmdCommit l _ _ _ => some l
  | .commitDeadline l => some l
  | .standbyCommitTimeout l => some l
  | .plannedSwap l => some l
  | .requalified l _ => some l
  | .outputProofTest l _ _ => some l
  | .twinOffsetAlarm l _ => some l
  | .announce l _ _ _ _ => some l
  | .sync l _ _ _ _ _ => some l
  | .followUp l _ _ => some l
  | .pdelayReq l _ _ _ => some l
  | .pdelayResp l _ _ _ _ => some l
  | .pdelayRespFollowUp l _ _ => some l
  | .ptpMessageIgnored l _ => some l
  | .syncTransmit l _ _ => some l
  | .announceTransmit l _ => some l
  | .pdelayReqTransmit l _ _ => some l
  | .holdoverAnnounceStop l => some l
  | .ppsPulse l _ => some l
  | .announceTimeout l _ => some l
  | .qualificationComplete l _ _ => some l
  | .switchEnd l _ => some l
  | .stepDetected l _ => some l
  | .slewEnd l _ => some l
  | .initialSet _ _ => none
  | .datumUnsetEvent l => some l
  | .datumBeacon _ => none
  | .hostClockBeacon _ => none
  | .doorbell _ _ _ _ _ => none
  | .commandFetch _ _ _ => none
  | .commandCompletion _ _ => none
  | .transmitDescriptor _ _ _ _ => none
  | .transmitWriteBack _ _ _ => none
  | .receiveDelivery _ _ _ => none
  | .eventPlacement _ _ => none
  | .overflowEntry _ _ => none
  | .msixMessage _ _ _ => none
  | .msixUnmask _ _ => none
  | .ringEnable _ _ _ => none
  | .ringDrain _ _ => none
  | .drainComplete _ _ => none
  | .dmaReadError _ _ _ _ => none
  | .dmaCompletionTimeout _ _ _ _ => none
  | .functionReset _ => none
  | .hcxFnReset _ => none
  | .functionLevelReset _ => none
  | .functionResetComplete _ _ => none
  | .pcieLinkDown _ => none
  | .hotReset => none
  | .laneLinkTimeout _ _ => none
  | .hostWatchdogExpiry _ => none
  | .registerReadLo _ _ _ _ => none
  | .registerWriteHi _ _ _ _ _ => none
  | .registerWrite _ _ _ _ _ => none
  | .bspLock l _ _ _ => some l
  | .nop _ => none
  | .loadImage _ _ => none
  | .readSlot _ _ => none
  | .writeSlot _ _ _ => none
  | .setQuota _ _ _ => none
  | .parcelLoad _ _ _ _ => none
  | .parcelStart _ _ => none
  | .parcelStop _ _ => none
  | .parcelRestart _ _ _ => none
  | .parcelUnload _ _ => none
  | .parcelFreeze _ _ => none
  | .parcelResume _ _ => none
  | .parcelReload l _ => some l
  | .migrateTrack _ _ _ _ => none
  | .trackReady _ _ _ _ => none
  | .migrateSwitch _ _ _ _ => none
  | .migrateCancel _ _ => none
  | .migrateSave _ _ => none
  | .migrateRestore _ _ _ _ _ => none
  | .migrateRelease _ _ => none
  | .setTarget _ _ _ => none
  | .forceBits _ _ _ => none
  | .hostFlags _ _ _ => none
  | .tlReset _ _ => none
  | .iluStop _ _ => none
  | .iluStart _ _ => none
  | .iluClear _ _ => none
  | .twinSwap _ => none
  | .setTod _ _ => none
  | .timeAccept _ _ => none
  | .timeReject _ => none
  | .archiveAttach _ _ => none
  | .archiveDetach _ => none
  | .archiveFormat _ _ => none
  | .archiveRead _ _ _ => none
  | .archiveWrite _ _ _ => none
  | .archiveAlloc _ => none
  | .archiveClose _ _ => none
  | .archivePin _ _ => none
  | .archiveUnpin _ _ => none
  | .archiveFree _ _ => none
  | .archiveList _ _ _ => none
  | .archiveTrigger _ _ => none
  | .fieldbookRead _ _ _ => none
  | .fieldbookFlush _ => none
  | .clearGen _ => none
  | .clearSafe _ => none
  | .keyPut _ _ => none
  | .keyPrepare _ => none
  | .keyRoll _ _ => none
  | .keyDrop _ _ _ => none
  | .own _ _ _ => none
  | .keyRelease _ => none
  | .enterService _ => none
  | .leaveService _ => none
  | .retire _ => none
  | .stage _ _ _ => none
  | .activate _ => none
  | .raiseSvn _ => none
  | .fnReset _ _ => none
  | .captureEnd _ _ => none
  | .bufferFull l => some l
  | .recordTransferFrame l => some l
  | .nvmeCompletion _ _ _ _ => none
  | .nvmeOverdue _ _ => none
  | .catalogueCommit _ _ => none
  | .recoveryComplete _ _ _ _ => none
  | .fieldBookOccurrence _ => none
  | .fieldBookFlushEnd l => some l
  | .sealRead _ => none
  | .sealSample _ => none
  | .inputSample _ _ _ _ => none
  | .testPulse _ _ _ _ => none
  | .safetyCycle _ _ _ _ => none
  | .discrepancyTimeout _ => none
  | .switchTestRound _ => none
  | .coilCurrentFailure _ => none
  | .holdingTestWindowOpen => none
  | .holdingTestWindowClose => none
  | .speedPulse _ => none
  | .diagnosticFailure _ => none
  | .watchdogMiss => none
  | .safetyStartComplete => none
  | .safetySag => none
  | .safetyStatus _ => none
  | .programmingPage _ _ _ => none
  | .fieldIoFrameToField l _ => some l
  | .fieldIoFrameFromField l _ _ => some l
  | .fieldIoFrameTimeout l _ _ => some l
  | .outputOverload l _ => some l
  | .overloadRetry l _ _ => some l
  | .powerGood _ _ => none
  | .stageStart => none
  | .domainFault _ _ => none
  | .hostComplexReady _ _ _ => none
  | .laneStart _ => none
  | .memorySelfTestEnd l _ _ _ _ _ _ => some l
  | .logicSelfTestEnd _ _ _ _ _ => none
  | .generationCheck _ _ => none
  | .laneEnterService _ _ _ => none
  | .holdUpChargeMeasure _ _ => none
  | .holdOk _ => none
  | .holdLowTimeout _ => none
  | .sagDetected _ _ => none
  | .dip => none
  | .flushEnd _ => none
  | .supplyReturn _ => none
  | .sleepSupplyLoss => none
  | .coldReset => none
  | .warmModuleReset _ _ => none
  | .laneReset _ _ => none
  | .parkAttended _ _ => none
  | .parkSleeping _ _ => none
  | .unpark _ _ => none
  | .trefAlarm _ _ => none
  | .dieOvertemp l _ _ => some l
  | .lpddrScrub l => some l
  | .bootSelection _ _ => none
  | .bootConfirm _ => none
  | .eraseSuspend _ => none
  | .eraseResume _ => none
  | .slotWriteComplete l => some l
  | .dailySlotCheck l _ _ => some l
  | .keyRemask l => some l
  | .pfcPauseExpiry l _ _ _ => some l
  | .pcieLinkUp _ _ _ => none
  | .vfEnable _ => none
  | .holdUpEnergyEnd _ _ _ _ _ => none
  | .generalClassNorSave => none
  | .factoryProvisioning _ => none
  | .fieldSupplyLow l _ => some l

/-- The commands of the safety lane itself (R351 to R373). -/
def Instr.ofSafetyLane : Instr → Bool
  | .sealRead _ | .sealSample _ | .inputSample _ _ _ _ | .testPulse _ _ _ _ | .safetyCycle _ _ _ _ | .discrepancyTimeout _
  | .switchTestRound _ | .coilCurrentFailure _ | .holdingTestWindowOpen | .holdingTestWindowClose | .speedPulse _
  | .diagnosticFailure _ | .watchdogMiss | .safetyStartComplete | .safetySag | .safetyStatus _ | .programmingPage _ _ _ => true
  | _ => false

/-- The commands that may change the safety lane: its own, and those of cold reset and power, of parking, of boot, of a
power domain, and register writes, by which the module is parked (R9, R369, R370, R404). -/
def Instr.reachesSafety : Instr → Bool
  | .tickEdge _ => false
  | .sampledValueFrame _ _ _ _ => false
  | .burstFrame _ _ _ _ => false
  | .gooseFrame _ _ _ _ => false
  | .switchForward _ _ _ _ _ _ => false
  | .pfcRepeat _ _ _ => false
  | .pfcResume _ _ _ => false
  | .egressTransmit _ _ _ => false
  | .pfcFrame _ _ _ _ => false
  | .pauseFrame _ _ => false
  | .preemptionVerify _ _ _ _ => false
  | .portLinkDown _ _ _ => false
  | .portLinkUp _ _ _ _ _ => false
  | .trunkMoveBack _ _ _ => false
  | .addressAgeing _ _ _ _ => false
  | .supervisionFrameSend _ _ => false
  | .supervisionFrame _ _ _ _ => false
  | .nodeForget _ _ _ => false
  | .entryForget _ _ _ _ => false
  | .wakePattern _ _ => false
  | .wakeTx _ _ _ => false
  | .intakeCutoff _ _ => false
  | .streamLost _ _ => false
  | .streamRecovered _ _ => false
  | .backstopLatch _ => false
  | .elementStage _ _ _ _ => false
  | .inputBlockCopy _ => false
  | .tripMatrixLatch _ => false
  | .gooseRepeat _ _ => false
  | .sliceStart _ _ _ => false
  | .sliceEnd _ _ _ _ _ => false
  | .done _ _ _ _ _ => false
  | .cmdWr _ _ _ _ _ _ => false
  | .historyApertureRead _ _ _ _ _ _ => false
  | .guardViolation _ _ _ _ _ _ => false
  | .parcelTrap _ _ _ _ _ _ => false
  | .iluSlice _ _ => false
  | .iluFault _ _ _ => false
  | .ld _ _ _ => false
  | .ldn _ _ _ => false
  | .and _ _ _ => false
  | .andn _ _ _ => false
  | .or _ _ _ => false
  | .orn _ _ _ => false
  | .xor _ _ _ => false
  | .xorn _ _ _ => false
  | .st _ _ _ => false
  | .stn _ _ _ => false
  | .set _ _ _ => false
  | .rst _ _ _ => false
  | .re _ _ _ => false
  | .fe _ _ _ => false
  | .ton _ _ _ => false
  | .tof _ _ _ => false
  | .tp _ _ _ => false
  | .ctu _ _ _ => false
  | .ctd _ _ _ => false
  | .crs _ _ _ => false
  | .cld _ _ _ => false
  | .faruskNop _ _ => false
  | .push _ _ => false
  | .popa _ _ => false
  | .popo _ _ => false
  | .page0 _ _ => false
  | .page1 _ _ => false
  | .endScan _ _ => false
  | .jc _ _ _ => false
  | .jcn _ _ _ => false
  | .readback _ _ => false
  | .fieldIoExchange _ => false
  | .publishedStreamFrame _ _ => false
  | .digestSend _ => false
  | .closure _ _ _ => false
  | .laneFaultHandling _ _ => false
  | .periodStart _ _ _ => false
  | .talExpiry _ _ => false
  | .intakeRecord _ _ _ => false
  | .cutoffMarker _ _ _ _ _ => false
  | .forwardSubstitution _ => false
  | .digest _ _ _ _ _ _ _ _ _ _ _ => false
  | .backsightCompare _ _ => false
  | .mismatch _ _ => false
  | .selfCheckComplete _ _ _ _ => false
  | .withdraw _ _ _ => false
  | .lossOfActive _ _ => false
  | .takeover _ => false
  | .pairingAttempt _ _ _ => false
  | .pairingComplete _ _ _ => false
  | .sightlineLockLoss _ _ => false
  | .sightlineLock _ => false
  | .awaitExpiry _ _ => false
  | .witnessLost _ _ => false
  | .copy _ _ _ _ _ _ => false
  | .pagedig _ _ _ _ => false
  | .freezeStart _ _ => false
  | .stateTransferRestart _ _ => false
  | .cmd _ _ _ _ _ _ => false
  | .cmdAck _ _ _ _ => false
  | .cmdCommit _ _ _ _ => false
  | .commitDeadline _ => false
  | .standbyCommitTimeout _ => false
  | .plannedSwap _ => false
  | .requalified _ _ => false
  | .outputProofTest _ _ _ => false
  | .twinOffsetAlarm _ _ => false
  | .announce _ _ _ _ _ => false
  | .sync _ _ _ _ _ _ => false
  | .followUp _ _ _ => false
  | .pdelayReq _ _ _ _ => false
  | .pdelayResp _ _ _ _ _ => false
  | .pdelayRespFollowUp _ _ _ => false
  | .ptpMessageIgnored _ _ => false
  | .syncTransmit _ _ _ => false
  | .announceTransmit _ _ => false
  | .pdelayReqTransmit _ _ _ => false
  | .holdoverAnnounceStop _ => false
  | .ppsPulse _ _ => false
  | .announceTimeout _ _ => false
  | .qualificationComplete _ _ _ => false
  | .switchEnd _ _ => false
  | .stepDetected _ _ => false
  | .slewEnd _ _ => false
  | .initialSet _ _ => false
  | .datumUnsetEvent _ => false
  | .datumBeacon _ => false
  | .hostClockBeacon _ => false
  | .doorbell _ _ _ _ _ => false
  | .commandFetch _ _ _ => false
  | .commandCompletion _ _ => false
  | .transmitDescriptor _ _ _ _ => false
  | .transmitWriteBack _ _ _ => false
  | .receiveDelivery _ _ _ => false
  | .eventPlacement _ _ => false
  | .overflowEntry _ _ => false
  | .msixMessage _ _ _ => false
  | .msixUnmask _ _ => false
  | .ringEnable _ _ _ => false
  | .ringDrain _ _ => false
  | .drainComplete _ _ => false
  | .dmaReadError _ _ _ _ => false
  | .dmaCompletionTimeout _ _ _ _ => false
  | .functionReset _ => false
  | .hcxFnReset _ => false
  | .functionLevelReset _ => false
  | .functionResetComplete _ _ => false
  | .pcieLinkDown _ => false
  | .hotReset => false
  | .laneLinkTimeout _ _ => false
  | .hostWatchdogExpiry _ => false
  | .registerReadLo _ _ _ _ => false
  | .registerWriteHi _ _ _ _ _ => true
  | .registerWrite _ _ _ _ _ => true
  | .bspLock _ _ _ _ => false
  | .nop _ => false
  | .loadImage _ _ => false
  | .readSlot _ _ => false
  | .writeSlot _ _ _ => false
  | .setQuota _ _ _ => false
  | .parcelLoad _ _ _ _ => false
  | .parcelStart _ _ => false
  | .parcelStop _ _ => false
  | .parcelRestart _ _ _ => false
  | .parcelUnload _ _ => false
  | .parcelFreeze _ _ => false
  | .parcelResume _ _ => false
  | .parcelReload _ _ => false
  | .migrateTrack _ _ _ _ => false
  | .trackReady _ _ _ _ => false
  | .migrateSwitch _ _ _ _ => false
  | .migrateCancel _ _ => false
  | .migrateSave _ _ => false
  | .migrateRestore _ _ _ _ _ => false
  | .migrateRelease _ _ => false
  | .setTarget _ _ _ => false
  | .forceBits _ _ _ => false
  | .hostFlags _ _ _ => false
  | .tlReset _ _ => false
  | .iluStop _ _ => false
  | .iluStart _ _ => false
  | .iluClear _ _ => false
  | .twinSwap _ => false
  | .setTod _ _ => false
  | .timeAccept _ _ => false
  | .timeReject _ => false
  | .archiveAttach _ _ => false
  | .archiveDetach _ => false
  | .archiveFormat _ _ => false
  | .archiveRead _ _ _ => false
  | .archiveWrite _ _ _ => false
  | .archiveAlloc _ => false
  | .archiveClose _ _ => false
  | .archivePin _ _ => false
  | .archiveUnpin _ _ => false
  | .archiveFree _ _ => false
  | .archiveList _ _ _ => false
  | .archiveTrigger _ _ => false
  | .fieldbookRead _ _ _ => false
  | .fieldbookFlush _ => false
  | .clearGen _ => false
  | .clearSafe _ => false
  | .keyPut _ _ => false
  | .keyPrepare _ => false
  | .keyRoll _ _ => false
  | .keyDrop _ _ _ => false
  | .own _ _ _ => false
  | .keyRelease _ => false
  | .enterService _ => false
  | .leaveService _ => false
  | .retire _ => false
  | .stage _ _ _ => false
  | .activate _ => false
  | .raiseSvn _ => false
  | .fnReset _ _ => false
  | .captureEnd _ _ => false
  | .bufferFull _ => false
  | .recordTransferFrame _ => false
  | .nvmeCompletion _ _ _ _ => false
  | .nvmeOverdue _ _ => false
  | .catalogueCommit _ _ => false
  | .recoveryComplete _ _ _ _ => false
  | .fieldBookOccurrence _ => false
  | .fieldBookFlushEnd _ => false
  | .sealRead _ => true
  | .sealSample _ => true
  | .inputSample _ _ _ _ => true
  | .testPulse _ _ _ _ => true
  | .safetyCycle _ _ _ _ => true
  | .discrepancyTimeout _ => true
  | .switchTestRound _ => true
  | .coilCurrentFailure _ => true
  | .holdingTestWindowOpen => true
  | .holdingTestWindowClose => true
  | .speedPulse _ => true
  | .diagnosticFailure _ => true
  | .watchdogMiss => true
  | .safetyStartComplete => true
  | .safetySag => true
  | .safetyStatus _ => true
  | .programmingPage _ _ _ => true
  | .fieldIoFrameToField _ _ => false
  | .fieldIoFrameFromField _ _ _ => false
  | .fieldIoFrameTimeout _ _ _ => false
  | .outputOverload _ _ => false
  | .overloadRetry _ _ _ => false
  | .powerGood _ _ => false
  | .stageStart => false
  | .domainFault _ _ => true
  | .hostComplexReady _ _ _ => false
  | .laneStart _ => false
  | .memorySelfTestEnd _ _ _ _ _ _ _ => false
  | .logicSelfTestEnd _ _ _ _ _ => false
  | .generationCheck _ _ => false
  | .laneEnterService _ _ _ => false
  | .holdUpChargeMeasure _ _ => false
  | .holdOk _ => false
  | .holdLowTimeout _ => false
  | .sagDetected _ _ => true
  | .dip => false
  | .flushEnd _ => true
  | .supplyReturn _ => true
  | .sleepSupplyLoss => true
  | .coldReset => true
  | .warmModuleReset _ _ => false
  | .laneReset _ _ => false
  | .parkAttended _ _ => true
  | .parkSleeping _ _ => true
  | .unpark _ _ => true
  | .trefAlarm _ _ => false
  | .dieOvertemp _ _ _ => false
  | .lpddrScrub _ => false
  | .bootSelection _ _ => true
  | .bootConfirm _ => true
  | .eraseSuspend _ => false
  | .eraseResume _ => false
  | .slotWriteComplete _ => false
  | .dailySlotCheck _ _ _ => false
  | .keyRemask _ => false
  | .pfcPauseExpiry _ _ _ _ => false
  | .pcieLinkUp _ _ _ => false
  | .vfEnable _ => false
  | .holdUpEnergyEnd _ _ _ _ _ => true
  | .generalClassNorSave => false
  | .factoryProvisioning _ => false
  | .fieldSupplyLow _ _ => false

namespace Machine

/-- A lane as a command finds it: nothing sent yet. -/
def State.now (s : State) (l : LaneId) : Lane := { s.lane l with sent := [] }

/-- The module with one lane replaced and everything else as it was. -/
def State.put (s : State) (l : LaneId) (L : Lane) : State := { s with lanes := s.lanes.set l L }

/-- The newest event that the lane raised: lane-relative source, code, time and DATA (R344). -/
abbrev Lane.Raised (L : Lane) (src code : Nat) (time : Int) (data : List Byte := []) : Prop :=
  L.occ.getLast? = some ⟨src, code, (laneEvent src code).1, (laneEvent src code).2, time, data⟩

/-- A program has a scan in progress that has not ended, and its allotment in the tick has `n` steps left (R191). -/
abbrev Lane.CanStep (L : Lane) (p n : Nat) : Prop :=
  L.iluRuns = true ∧ L.frozen = false ∧ L.iluState p = 2 ∧ (L.iluProg p).scan = true ∧
  L.flag .ILU_PRG_STAT 27 p = false ∧ (L.iluProg p).spent + n ≤ L.iluSteps p

/-- The brakes are applied unless the safety lane runs (R363, R369). -/
abbrev Safety.Held (x : Safety) : Prop := x.st = sRun ∨ x.cmd = 0

/-- The checks of R302 that come before the role and the apply tick let a function's command through to a lane (steps 1 to
4); `a` is the tick at which its resources are judged. -/
abbrev State.LetsThrough (s : State) (h : CmdHead) (c : HostCmd) (l : LaneId) (a : Nat) : Prop :=
  s.host.hasFn h.fn = true ∧ laneOk c h.lane = true ∧ h.addr % 8 = 0 ∧ h.len ≤ lenLimit c ∧
  (h.fn = 0 ∨ vfMay h.fn c = true) ∧ h.lane < 4 ∧ handLane c h.lane = some l ∧ s.quotaStep h.fn l a c = true ∧
  s.fenced l = false

/-- The same checks let a command of LANE 4 through to the host complex. -/
abbrev State.TakesHost (s : State) (h : CmdHead) (c : HostCmd) : Prop :=
  s.host.hasFn h.fn = true ∧ h.lane = 4 ∧ laneOk c 4 = true ∧ h.addr % 8 = 0 ∧ h.len ≤ lenLimit c ∧
  (h.fn = 0 ∨ vfMay h.fn c = true)

/-- The on-time that a period's shape gives H before dead time, with P steps in the period (R159). -/
def HShape.onTime (p : Int) : HShape → Int
  | .off => 0
  | .on => p
  | .until_ r => r

/-- What a run of carrier periods comes to: on-time issued, carry left, steps discarded. -/
structure IssueRun where
  issued : Int
  carry  : Int
  disc   : Int
  deriving DecidableEq, Repr

/-- Carrier periods one after another, each with the carry and the end state of H that the one before it left (R159). -/
def issueRun (p dt mp : Int) : List Int → Bool → Int → IssueRun
  | [], _, c => ⟨0, c, 0⟩
  | rq :: t, h, c =>
    let i := issue rq c p dt mp h
    let r := issueRun p dt mp t (i.shape == .on) i.carry
    ⟨i.shape.onTime p + r.issued, r.carry, i.disc + r.disc⟩


end Machine

end Sys2Proof
end

