-- ==== Sys2Proof/Certificates/Slice0/Obligations.lean ====
section
/-! DEFINITION. The statements about the model, each from the rules its docstring names. -/

open Sys2Proof Sys2Proof.Machine

/-- For every command c, queue rest and state s whose queue is c followed by rest, one step is exec of c on s with the
queue rest; on an empty queue the module idles (assumption log 2). (spec/95_what_each_step_holds.md). -/
def Obligations.StepRunsFrontCommand : Prop :=
  (∀ (c : Instr) (rest : List Instr) (s : State), s.pending = c :: rest → step s = exec c { s with pending := rest }) ∧
  ∀ s : State, s.pending = [] → step s = .next s

/-- For every command c and state s, exec c s is a next state, never a fault or a refusal, and the queue of waiting
commands in it is that of s. (R8, spec/95_what_each_step_holds.md). -/
def Obligations.EveryCommandAnswersNext : Prop :=
  ∀ (c : Instr) (s : State), ∃ t, exec c s = .next t ∧ t.pending = s.pending

/-- For every command c that acts on one lane l (Instr.laneOf), every next state of c has the host complex, the safety
lane, the power state and every other lane exactly as before. (R10, R14). -/
def Obligations.LaneCommandsStayInTheirLane : Prop :=
  ∀ (c : Instr) (l : LaneId) (s t : State), c.laneOf = some l → exec c s = .next t →
    t.host = s.host ∧ t.safety = s.safety ∧ t.power = s.power ∧ ∀ k, k ≠ l → t.lane k = s.lane k

/-- For every command c: if it is not one of those of the safety lane itself, of cold reset and power, of parking, of
boot, of a power domain or of a register write (Instr.reachesSafety), or is a fault of a domain other than PD_S0 to
PD_S3, or the boot of another part, every next state has the safety lane, and so every brake switch, as before; if it
is one of the safety lane itself (Instr.ofSafetyLane), its failures and its safe state among them, every next state
has every protection lane as before. (R24). -/
def Obligations.FaultsStayOutOfTheSafetyLane : Prop :=
  ∀ (c : Instr) (s t : State), exec c s = .next t →
    (c.reachesSafety = false → t.safety = s.safety) ∧
    (∀ d now, c = .domainFault d now → d < 12 ∨ 16 ≤ d → t.safety = s.safety) ∧
    (∀ part now, c = .bootSelection part now → part ≠ 5 → t.safety = s.safety) ∧
    (c.ofSafetyLane = true → ∀ l, t.lane l = s.now l)

/-- In every state in which the safety lane is in RUN or has every brake switch commanded open, every step leads to a
state of which the same holds. (R363, R369). -/
def Obligations.BrakesHeldOutsideRun : Prop :=
  ∀ s t : State, s.safety.Held → step s = .next t → t.safety.Held

/-- When the safety lane is in SAFE, every step leaves it in SAFE with the same cause and the brakes applied if they
were, or as at power-up, with nothing kept but its flash. (R369, R404). -/
def Obligations.SafeStateIsLatched : Prop :=
  ∀ s t : State, s.safety.st = sSafe → step s = .next t →
    (t.safety.st = sSafe ∧ t.safety.cause = s.safety.cause ∧ (s.safety.cmd = 0 → t.safety.cmd = 0)) ∨
    t.safety = { Safety.fresh with flash := t.safety.flash }

/-- At State.reset the safety lane is in START, every brake switch is commanded open, so the invariant of
BrakesHeldOutsideRun holds, and the queue is empty. (R369, R372). -/
def Obligations.HeldAtReset : Prop :=
  State.reset.safety.Held ∧ State.reset.safety.st = sStart ∧ State.reset.safety.cmd = 0 ∧ State.reset.pending = []

/-- SV_FRAME completes at an open port of a lane in service that neither follows a forwarded set nor forwards its own:
a sampled-value frame from the lane's own address, one that no subscription matches, and one with a format error are
each counted in their register and nothing else changes but the frame count; of any other every smpSynch above 2 is
counted, then one whose authentication fails is counted and taken no further, and the ASDUs of the rest are taken in
order and, when one was accepted, the frame counter of the subscription goes up. Completes, with the next state given:
SAMPLED_VALUE_FRAME. (R53, R54, R55, R59, R60). -/
def Obligations.SampledValueIntake : Prop :=
  ∀ (s : State) (l : LaneId) (port rx : Nat) (f : SvFrame),
    let L := s.now l
    let K : Lane := { L with intake := { L.intake with fps := L.intake.fps + 1 } }
    L.intakeOpen port = true → L.twin.follow = false → L.feeds = false →
    (K.isOwnMac f.src = true → exec (.sampledValueFrame l port rx f) s = .next (s.put l (K.bump .INT_OWNDROP))) ∧
    (K.isOwnMac f.src = false → K.matchSv port f = none →
      exec (.sampledValueFrame l port rx f) s = .next (s.put l (K.bump .INT_UNMATCHED))) ∧
    ∀ n, K.isOwnMac f.src = false → K.matchSv port f = some n →
      (∀ c, K.svDrop n f = some c → exec (.sampledValueFrame l port rx f) s = .next (s.put l (K.fmtErr n c))) ∧
      (K.svDrop n f = none →
        let C := K.countSynch f
        (C.authKey (C.fld .INT_SUB_AUTH 31 30 n) (C.fld .INT_SUB_AUTH 7 0 n) f.ext = none →
          exec (.sampledValueFrame l port rx f) s = .next (s.put l (C.bump .INT_SUB_AUTHFAIL n))) ∧
        ∀ next, C.authKey (C.fld .INT_SUB_AUTH 31 30 n) (C.fld .INT_SUB_AUTH 7 0 n) f.ext = some next →
          ∀ M taken, (C.convert rx).2.takeAsdus n f next (C.convert rx).1 0 f.asdus = (M, taken) →
            exec (.sampledValueFrame l port rx f) s =
              .next (s.put l (if taken then M.bump .INT_SUB_FRAMES n else M)))

/-- BURST_FRAME completes at an open port of a lane in service that neither follows a forwarded set nor forwards its
own: a burst frame from the lane's own address, one that no subscription matches, one with a format error and one
whose authentication fails are counted in their register and change nothing else but the frame count; any other is
judged for a key change and for duplicates and its samples are taken. Completes, with the next state given:
BURST_FRAME. (R53, R54, R57, R58, R59). -/
def Obligations.BurstIntake : Prop :=
  ∀ (s : State) (l : LaneId) (port rx : Nat) (f : BurstFrame),
    let L := s.now l
    let K : Lane := { L with intake := { L.intake with fps := L.intake.fps + 1 } }
    L.intakeOpen port = true → L.twin.follow = false → L.feeds = false →
    (K.isOwnMac f.src = true → exec (.burstFrame l port rx f) s = .next (s.put l (K.bump .INT_OWNDROP))) ∧
    (K.isOwnMac f.src = false → K.matchBurst port f = none →
      exec (.burstFrame l port rx f) s = .next (s.put l (K.bump .INT_UNMATCHED))) ∧
    ∀ n, K.isOwnMac f.src = false → K.matchBurst port f = some n →
      (∀ c, K.burstDrop n f = some c → exec (.burstFrame l port rx f) s = .next (s.put l (K.fmtErr n c))) ∧
      (K.burstDrop n f = none →
        (K.authKey (K.fld .INT_SUB_AUTH 31 30 n) (K.fld .INT_SUB_AUTH 7 0 n) (K.burstExt n f) = none →
          exec (.burstFrame l port rx f) s = .next (s.put l (K.bump .INT_SUB_AUTHFAIL n))) ∧
        ∀ next, K.authKey (K.fld .INT_SUB_AUTH 31 30 n) (K.fld .INT_SUB_AUTH 7 0 n) (K.burstExt n f) = some next →
          exec (.burstFrame l port rx f) s = .next (s.put l (K.acceptBurst n rx f next)))

/-- SV_FRAME and BURST_FRAME complete at a lane that forwards its intake: the frame has its ordinary effect, and one
INTAKE record goes on the sightline for each thing it added to the stream; they complete at a lane that follows a
forwarded set: the frame acts on the lane's own set, and the set in use and its cut-off tick stay as they were.
INTAKE_CUTOFF completes at a lane in service below its safe state: it runs the reference cut-off, or that of the
lane's own set. STREAM_LOST and STREAM_RECOVERED complete for a stream that entered LOST, or recovered: one entry is
taken off and event 0x01 of its subscription is raised with DATA the subscription, with INT_SUB_LOSTCNT raised by one,
or event 0x02. Completes, with the next state given: SAMPLED_VALUE_FRAME, BURST_FRAME, INTAKE_CUTOFF, STREAM_LOST,
STREAM_RECOVERED. (R34, R65, R67, R224, R225). -/
def Obligations.IntakeForwardsAndCloses : Prop :=
  ∀ (s : State) (l : LaneId) (port rx n : Nat) (f : SvFrame) (g : BurstFrame),
    let L := s.now l
    let x := L.stream n
    let own : Lane := { L with intake := { L.intake with streams := L.twin.own, cutTick := L.twin.ownCut } }
    (L.twin.follow = false → L.feeds = true → L.matchSv port f = some n →
      exec (.sampledValueFrame l port rx f) s = .next (s.put l
        (((L.takeSv port rx f).newRecords n x).foldl (fun M r => M.emitTwin (.intake r)) (L.takeSv port rx f)))) ∧
    (L.twin.follow = false → L.feeds = true → L.matchBurst port g = some n →
      exec (.burstFrame l port rx g) s = .next (s.put l
        (((L.takeBurst port rx g).newRecords n x).foldl (fun M r => M.emitTwin (.intake r)) (L.takeBurst port rx g)))) ∧
    (L.twin.follow = true → ∃ t, exec (.sampledValueFrame l port rx f) s = .next t ∧
      (t.lane l).intake.streams = L.intake.streams ∧ (t.lane l).intake.cutTick = L.intake.cutTick ∧
      (t.lane l).twin.own = (own.takeSv port rx f).intake.streams) ∧
    (L.twin.follow = true → ∃ t, exec (.burstFrame l port rx g) s = .next t ∧
      (t.lane l).intake.streams = L.intake.streams ∧ (t.lane l).intake.cutTick = L.intake.cutTick ∧
      (t.lane l).twin.own = (own.takeBurst port rx g).intake.streams) ∧
    (L.inService = true → L.level < 3 → exec (.intakeCutoff l true) s = .next (s.put l L.ownCutoff)) ∧
    (L.inService = true → L.level < 3 → exec (.intakeCutoff l false) s = .next (s.put l L.refCutoff)) ∧
    (x.lostEvt ≠ 0 → exec (.streamLost l n) s = .next (s.put l
      (((L.setStream n { x with lostEvt := x.lostEvt - 1 }).bump .INT_SUB_LOSTCNT n).raise
        (64 + n / 4) (0x01 + 256 * (n % 4)) L.cutNs (leBytes 1 n)))) ∧
    (x.recEvt ≠ 0 → exec (.streamRecovered l n) s = .next (s.put l
      ((L.setStream n { x with recEvt := x.recEvt - 1 }).raise
        (64 + n / 4) (0x02 + 256 * (n % 4)) L.cutNs (leBytes 1 n))))

/-- SWITCH_FORWARD completes on every port that forwards: every frame is counted as received; one over 1,522 octets,
one with a wrong FCS, one of the lane's own back from an HSR ring and one of a VLAN that the port is no member of are
counted in their registers and go no further, but that a frame of TC6 or TC7 whose copies had begun leaves stomped;
any other has its source learned if it is of TC0 to TC4 on PX1 or PX2, and goes to the ports the lookup gives, less
what duplicate discard takes from a frame of the redundancy pair, or nowhere when the lookup gives none. Completes,
with the next state given: SWITCH_FORWARD. (R245, R250, R251, R252, R262, R263). -/
def Obligations.SwitchForwardsFrames : Prop :=
  ∀ (s : State) (l : LaneId) (port raw : Nat) (f : Frame) (started : Nat),
    let L := s.now l
    let K := L.bump .SWM_PORT_RXFRM port
    let cls := K.classOf port f
    let vid := K.vidOf port f
    L.forwards port = true → port < 4 →
    (1522 < f.len → ∀ ok, exec (.switchForward l port raw f ok started) s = .next (s.put l (K.bump .SWM_PORT_OVERSIZE port))) ∧
    (f.len ≤ 1522 → cls < 6 ∨ started % 16 = 0 →
      exec (.switchForward l port raw f false started) s = .next (s.put l (K.bump .SWM_PORT_RXERR port))) ∧
    (f.len ≤ 1522 → 6 ≤ cls → started % 16 ≠ 0 →
      exec (.switchForward l port raw f false started) s = .next (s.put l
        (((List.range 4).filter (fun p => started.testBit p)).foldl (fun (N : Lane) p => N.emit (.stomped p f))
          ((K.bump .SWM_PORT_RXERR port).bump .SWM_STOMP)))) ∧
    let back : Prop := K.red = 2 ∧ port < 2 ∧ L.mac ≤ f.src ∧ f.src < L.mac + 4
    (f.len ≤ 1522 → back →
      exec (.switchForward l port raw f true started) s = .next (s.put l (K.bump .SWM_RED_DUP))) ∧
    (f.len ≤ 1522 → ¬ back →
      ((K.vlanPorts vid).testBit port = false →
        exec (.switchForward l port raw f true started) s = .next (s.put l (K.bump .SWM_PORT_RXDROP port))) ∧
      ((K.vlanPorts vid).testBit port = true →
        let M : Lane := if cls < 5 ∧ 2 ≤ port then { K with net := K.net.learn f.src vid port raw } else K
        ∀ N found, M.route port raw cls vid f = (N, found) →
          (found = none → exec (.switchForward l port raw f true started) s = .next (s.put l N)) ∧
          ∀ o, found = some o →
            let sent := fun (P : Lane) (mask : Nat) =>
              Host.Outcome.next (φ := Fault) (ρ := Refusal)
                (s.put l (P.dispatch f port o.cls vid raw mask o.demoted false o.hash none))
            (2 ≤ port ∨ N.red = 0 → exec (.switchForward l port raw f true started) s = sent N o.mask) ∧
            (port < 2 → N.red ≠ 0 → f.red = none → exec (.switchForward l port raw f true started) s =
              sent N (if N.red = 1 then without o.mask (1 - port) else o.mask)) ∧
            ∀ t, port < 2 → N.red ≠ 0 → f.red = some t →
              (f.etype = 0x88F7 → exec (.switchForward l port raw f true started) s = sent N o.mask) ∧
              (f.etype ≠ 0x88F7 → exec (.switchForward l port raw f true started) s =
                sent (N.redFilter port raw f t o.mask true).1 (N.redFilter port raw f t o.mask true).2)))

/-- EGRESS_TRANSMIT completes on every kept port with link up whose scheduler picks a class with a copy queued:
spilled copies come back on chip, the head is sent as the copy stands, its buffer is released with its timestamp,
further copies may come back, the arbiter advances, IN takes frames again where its count allows, and the transmit
count goes up; a PTP message leaves with the correction and the state its departure gives it. Completes, with the next
state given: EGRESS_TRANSMIT. (R254, R255, R256). -/
def Obligations.SwitchSendsAndReleases : Prop :=
  ∀ (s : State) (l : LaneId) (port tx c : Nat) (w : Nat × Nat) (it : QItem) (t : List QItem) (b : Buf),
    let L := s.now l
    let n := L.net.fetchBack port c
    port < 4 → L.flag .SWM_PORT_STAT 31 port = true → L.portKept port = true → L.nextClass port = some (c, w) →
    n.queue port c = it :: t → n.bufs.get? it.buf = some b →
    let n' := ((n.setQueue port c t).release it (some (port, tx))).fetchBack port c
    let K := ({ L with net := { n' with wrr := n'.wrr.put port w } } : Lane).inResume.bump .SWM_PORT_TXFRM port
    let f := asSent b it
    ((∀ m d o q a, f.body ≠ .ptp m d o q a) → exec (.egressTransmit l port tx) s = .next (s.put l (K.emit (.frame port f)))) ∧
    ∀ m d o q a, f.body = .ptp m d o q a →
      exec (.egressTransmit l port tx) s = .next (s.put l
        ((K.ptpLeaves port tx m q a).2.emit (.frame port { f with body := .ptp (K.ptpLeaves port tx m q a).1 d o q none })))

/-- PFC_REPEAT, PFC_RESUME, PFC_FRAME, PAUSE_FRAME and PFC_PAUSE_EXPIRY complete. While XOFF is in force and the
ingress count is above LWM a port repeats its PFC frame with 65,535 quanta; when the count has come down to LWM it
sends one with 0 quanta and XOFF ends; a received PFC frame with one TC3 or TC4 time pauses or resumes that class, one
for another priority and every PAUSE frame only counts in SWM_PORT_PAUSEIGN; a pause ends when its quanta have run.
Completes, with the next state given: PFC_REPEAT, PFC_RESUME, PFC_FRAME, PAUSE_FRAME, PFC_PAUSE_EXPIRY. (R258, R259,
R260). -/
def Obligations.PriorityPause : Prop :=
  ∀ (s : State) (l : LaneId) (port cls raw quanta : Nat),
    let L := s.now l
    let low := (L.waterMarks port cls).2.1
    (port < 4 → L.xoff port cls = true → low < L.net.ingressCount port cls →
      exec (.pfcRepeat l port cls) s = .next (s.put l (L.sendPfc port cls 65535))) ∧
    (port < 4 → L.xoff port cls = true → L.net.ingressCount port cls ≤ low →
      exec (.pfcResume l port cls) s = .next (s.put l ((L.setFlag .SWM_PORT_STAT (8 + cls) false port).sendPfc port cls 0))) ∧
    (port < 4 → L.portKept port = true → cls = 3 ∨ cls = 4 →
      let K := (L.bump .SWM_PORT_PFCRX port).setFlag .SWM_PORT_STAT (16 + cls) (quanta != 0) port
      exec (.pfcFrame l port raw [(cls, quanta)]) s = .next (s.put l
        { K with net := { K.net with pause := if quanta = 0 then K.net.pause.del (qIdx port cls)
                                              else K.net.pause.put (qIdx port cls) (raw, quanta) } })) ∧
    (port < 4 → L.portKept port = true → cls ≠ 3 → cls ≠ 4 →
      exec (.pfcFrame l port raw [(cls, quanta)]) s = .next (s.put l (L.bump .SWM_PORT_PAUSEIGN port))) ∧
    exec (.pauseFrame l port) s = .next (s.put l (L.bump .SWM_PORT_PAUSEIGN port)) ∧
    ∀ r q, L.net.pause.get? (qIdx port cls) = some (r, q) → q * 1536 ≤ rawSince raw r * 25 →
      exec (.pfcPauseExpiry l port cls raw) s = .next (s.put l
        { L.setFlag .SWM_PORT_STAT (16 + cls) false port with
          net := { L.net with pause := L.net.pause.del (qIdx port cls) } })

/-- PORT_LINK_DOWN, PORT_LINK_UP, PREEMPTION_VERIFY and TRUNK_MOVE_BACK complete. A port that declares link down shows
it, counts it and raises event 0x01, with a frame it cuts off counted in SWM_STOMP, and a trunk port moves its hash
entries to the other and discards its queues; a port that declares link up shows it and its PMA role, the one found
with AN and MS without, counts it and raises 0x02; a verify exchange sets the preemption bit, or clears it with event
0x03; a moved entry goes home when its home port has held link up for 1 s and no frame of its flows is queued on PX1
or PX2. Completes, with the next state given: PREEMPTION_VERIFY, PORT_LINK_DOWN, PORT_LINK_UP, TRUNK_MOVE_BACK. (R244,
R257, R265). -/
def Obligations.LinksAndTrunk : Prop :=
  ∀ (s : State) (l : LaneId) (port raw entry : Nat) (role : Bool) (now : Int) (x : LinkDown),
    let L := s.now l
    let shown := ((L.setFlag .SWM_PORT_STAT 31 false port).setFlag .SWM_PORT_STAT 29 false port).showLinks
    let down := ((if x.cut then shown.bump .SWM_STOMP else shown).bump .SWM_PORT_LINKDN port).raise 8 0x01 x.now (leBytes 1 port)
    (port < 2 → L.flag .SWM_PORT_STAT 31 port = true →
      exec (.portLinkDown l port x) s = .next (s.put l down)) ∧
    (port = 2 ∨ port = 3 → L.flag .SWM_PORT_STAT 31 port = true →
      exec (.portLinkDown l port x) s = .next (s.put l
        (({ down with net := down.net.moveFrom port } : Lane).flushPort port))) ∧
    (port < 4 → L.flag .SWM_PORT_STAT 31 port = false → L.flag .SWM_PORT_CFG 31 port = true →
      let isMaster := if L.flag .SWM_PORT_CFG 29 port then role else L.flag .SWM_PORT_CFG 30 port
      let K := (((L.setFlag .SWM_PORT_STAT 31 true port).setFlag .SWM_PORT_STAT 30 isMaster port).showLinks).bump
        .SWM_PORT_LINKDN port
      exec (.portLinkUp l port raw role now) s = .next (s.put l
        (({ K with net := { K.net with upAt := K.net.upAt.put port raw } } : Lane).raise 8 0x02 now (leBytes 1 port)))) ∧
    (L.flag .SWM_PORT_CFG 28 port = true →
      exec (.preemptionVerify l port true now) s = .next (s.put l (L.setFlag .SWM_PORT_STAT 29 true port)) ∧
      exec (.preemptionVerify l port false now) s = .next (s.put l
        ((L.setFlag .SWM_PORT_STAT 29 false port).raise 8 0x03 now (leBytes 1 port)))) ∧
    ∀ r, L.net.moved.contains entry = true → L.flag .SWM_PORT_STAT 31 (2 + entry % 2) = true →
      (∀ p, p = 2 ∨ p = 3 → ∀ c, c < 8 → ∀ i ∈ L.net.queue p c, i.hash ≠ some entry) →
      L.net.upAt.get? (2 + entry % 2) = some r → rawMs 1000 ≤ rawSince raw r →
      exec (.trunkMoveBack l entry raw) s = .next (s.put l
        { L with net := { L.net with moved := L.net.moved.filter (· != entry) } })

/-- ADDRESS_AGEING, ENTRY_FORGET and NODE_FORGET complete in every state: the table then holds what it held, in order,
less those entries of the address, source and number, or node named that are 300 s, 400 ms or 60 s old.
SUPERVISION_FRAME_SEND completes on a forwarding lane of a redundancy pair when 2,000 ms have run: the frame goes into
both ports of the pair. SUPERVISION_FRAME completes on a port of the pair that forwards: its node is refreshed, or
added while the table has room. SWM_WAKE_TX completes on a kept port without link, and with FORCE on one with link,
which first goes down: the pattern is sent. WAKE_PATTERN completes in a sleeping module with the code of the lane that
hears it: the module starts and only that lane shows WOKE; any other pattern of a sleeping or parked module is
counted. Completes, with the next state given: ADDRESS_AGEING, SUPERVISION_FRAME_SEND, SUPERVISION_FRAME, NODE_FORGET,
ENTRY_FORGET, WAKE_PATTERN, WAKE_TX. (R251, R262, R269, R270). -/
def Obligations.TablesForgetSupervisionAndWake : Prop :=
  ∀ (s : State) (l : LaneId) (mac vid src seq node port raw : Nat) (w : Word) (now : Int) (p : WakePattern),
    let L := s.now l
    exec (.addressAgeing l mac vid raw) s = .next (s.put l { L with net := { L.net with
      learned := L.net.learned.filter (fun x => x.mac ≠ mac ∨ x.vid ≠ vid ∨ rawSince raw x.raw < rawMs 300000) } }) ∧
    exec (.entryForget l src seq raw) s = .next (s.put l { L with net := { L.net with
      seen := L.net.seen.filter (fun x => x.src ≠ src ∨ x.seq ≠ seq ∨ rawSince raw x.raw < rawMs 400) } }) ∧
    (let left := L.net.nodes.filter (fun x => x.1 ≠ node ∨ rawSince raw x.2 < rawMs 60000)
     exec (.nodeForget l node raw) s = .next (s.put l
      (({ L with net := { L.net with nodes := left } } : Lane).setReg .SWM_RED_NODES (w32 left.length)))) ∧
    (L.red ≠ 0 → L.flag .SWM_STAT 31 = true → (∀ r, L.net.supRaw = some r → rawMs 2000 ≤ rawSince raw r) →
      let K : Lane := { L with net := { L.net with supRaw := some raw } }
      exec (.supervisionFrameSend l raw) s = .next (s.put l
        (K.sendOwn { dst := 0x01154E000100, src := L.portMac 0, tag := none, etype := supervisionType, len := 64, ecn := none,
                     red := none, body := .supervision (L.portMac 0) } (K.typeClass 0 supervisionType) 3))) ∧
    (L.red ≠ 0 → port < 2 → L.forwards port = true →
      let known := ∃ x ∈ L.net.nodes, x.1 = node
      let showing := fun (nodes : List (Nat × Nat)) => Host.Outcome.next (φ := Fault) (ρ := Refusal)
        (s.put l (({ L with net := { L.net with nodes := nodes } } : Lane).setReg .SWM_RED_NODES (w32 nodes.length)))
      (known → exec (.supervisionFrame l port raw node) s =
        showing (L.net.nodes.map (fun x => if x.1 = node then (node, raw) else x))) ∧
      (¬ known → L.net.nodes.length < 512 →
        exec (.supervisionFrame l port raw node) s = showing (L.net.nodes ++ [(node, raw)])) ∧
      (¬ known → 512 ≤ L.net.nodes.length → exec (.supervisionFrame l port raw node) s = showing L.net.nodes)) ∧
    (L.portKept (bits w 17 16) = true → L.flag .SWM_PORT_STAT 31 (bits w 17 16) = false →
      exec (.wakeTx l w now) s = .next (s.put l (L.emit (.wake (bits w 17 16) (bits w 11 0))))) ∧
    (L.portKept (bits w 17 16) = true → L.flag .SWM_PORT_STAT 31 (bits w 17 16) = true → bit w 31 = true →
      exec (.wakeTx l w now) s = .next (s.put l
        ((L.portLinkDown (bits w 17 16) ⟨now, false⟩).emit (.wake (bits w 17 16) (bits w 11 0))))) ∧
    (s.power.mstate = .sleeping → wakeCode p = some ((s.lane l).fld .SWM_WAKE_CODE 11 0) →
      ∃ t, exec (.wakePattern l p) s = .next t ∧ t.power = Power.fresh ∧
        ∀ k, (t.lane k).flag .SWM_WAKE_STAT 31 = (k == l)) ∧
    (s.power.mstate = .sleeping ∨ s.power.mstate = .parked →
      wakeCode p ≠ some ((s.lane l).fld .SWM_WAKE_CODE 11 0) →
      ∃ t, exec (.wakePattern l p) s = .next t ∧ t.power = s.power ∧
        (t.lane l).fld .SWM_WAKE_STAT 15 0 = min 65535 ((s.lane l).fld .SWM_WAKE_STAT 15 0 + 1))

/-- BACKSTOP_LATCH completes at a lane in service below its safe state: it runs the eight comparators and asserts each
enabled line, not held at SAFE and not tripped, that has backstop demand. TRIP_MATRIX_LATCH completes at Level 0 and
1, outside a freeze tick: it evaluates the terms, keeps what they drive, drives the sixteen lines, latches the four
publications and sends the frames that wait in the order G0 to G3 unless they are stopped, and writes the header words
of the parcels' blocks. Done flags 3 and 6 are set. Completes, with the next state given: BACKSTOP_LATCH,
TRIP_MATRIX_LATCH. (R138, R140, R145, R149, R173). -/
def Obligations.LatchesRunTheirPhases : Prop :=
  ∀ (s : State) (l : LaneId), let L := s.now l
    L.inService = true → L.level < 3 →
    (exec (.backstopLatch l) s = .next (s.put l
      ((foldTo 16 (fun (K : Lane) i =>
          if K.lineEn i = true ∧ (K.line i).safe = none ∧ (K.line i).trip = false ∧ K.bspDemand i = true
          then K.assertLine i 0 (K.refEdge + 900 : Nat) else K)
        (foldTo 8 (fun (K : Lane) b => K.bspTick b) L)).markDone 3))) ∧
    (L.level < 2 → L.frozen = false →
      let d := L.evalTerms.2
      let M := L.evalTerms.1
      let T := { M.trip with tm := d.tl, gb := d.gb, gbT := d.gb - (d.gb &&& d.gbN), trg := d.trg, flg := d.flg }
      let N := foldTo 16 (fun (K : Lane) i => K.latchLine d.tl i) ({ M with trip := T } : Lane)
      let O := if N.level = 2 ∨ N.trip.stop = true then N
               else pubDrain (List.range 4) (if N.frozen = true then N else foldTo 4 (fun (K : Lane) g => K.pubLatch g) N)
      exec (.tripMatrixLatch l) s = .next (s.put l (O.markDone 6).blockTrip))

/-- When a lane in service below its safe state has taken the backstop latch, each of its lines that is enabled, not
held at SAFE and routed a backstop bit of this tick is tripped, and no line that was tripped before has been released.
Completes, with the next state given: BACKSTOP_LATCH. (R140, R145). -/
def Obligations.BackstopDemandTrips : Prop :=
  ∀ (s t : State) (l : LaneId), (s.lane l).inService = true → (s.lane l).level < 3 →
    exec (.backstopLatch l) s = .next t → ∀ i, i < 16 →
    ((t.lane l).lineEn i = true → ((t.lane l).line i).safe = none → (t.lane l).bspDemand i = true →
      ((t.lane l).line i).trip = true) ∧
    (((s.lane l).line i).trip = true → ((t.lane l).line i).trip = true)

/-- READBACK completes at a lane in service: a line read back at its commanded level has no mismatch counted; a line
read back at the other level has one more, at most 2, its bit in TRM_TL_RDBK is set when this is the second or a later
one in a row, and no line's commanded level changes. Completes, with the next state given: READBACK. (R143). -/
def Obligations.ReadbackFindsMismatch : Prop :=
  ∀ (s : State) (l : LaneId) (levels : Nat), let L := s.now l
    L.inService = true →
    ∃ t, exec (.readback l levels) s = .next t ∧ ∀ i, i < 16 →
      (t.lane l).lineLevel i = L.lineLevel i ∧
      (levels.testBit i = L.lineLevel i → ((t.lane l).line i).mism = 0) ∧
      (levels.testBit i ≠ L.lineLevel i → ((t.lane l).line i).mism = min 2 ((L.line i).mism + 1) ∧
        (1 ≤ (L.line i).mism → (t.lane l).flag .TRM_TL_RDBK i = true))

/-- TRM_BSP_LOCK completes: a write of 1 to TRM_BSP_LOCK.LOCK by PF0 on a lane whose lock is clear sets it at once and
raises event 0x01; a write by another function, a write of 0 and a write while the lock is set change nothing.
Completes, with the next state given: BSP_LOCK. (R146). -/
def Obligations.BackstopLockIsPf0s : Prop :=
  ∀ (s : State) (l : LaneId) (fn : Nat) (w : Word) (now : Int), let L := s.now l
    (fn = 0 → bit w 0 = true → L.flag .TRM_BSP_LOCK 0 = false →
      exec (.bspLock l fn w now) s = .next (s.put l ((L.setFlag .TRM_BSP_LOCK 0 true).raise 5 0x01 now))) ∧
    (fn ≠ 0 ∨ bit w 0 = false ∨ L.flag .TRM_BSP_LOCK 0 = true → exec (.bspLock l fn w now) s = .next (s.put l L))

/-- GOOSE_REPEAT completes for a publication that is enabled, running, begun and due, has not sent in this tick and
waits for nothing: it waits as a repeat, and leaves at the latch of the tick, or at once in the order G0 to G3 when
the latch has run; with no lower publication waiting or due it is then sent, with the next sqNum and the smaller of
twice the interval and HB as its next. PUBLISHED_STREAM_FRAME completes for a stream of the tick at Level 0 or 1 that
is not yet served: it is served, and where the lane drives and TC4 of IN is below its high watermark it counts a frame
and its saturated members and sends at class TC4. Completes, with the next state given: GOOSE_REPEAT,
PUBLISHED_STREAM_FRAME. (R148, R155, R156, R162). -/
def Obligations.PublicationsAndStreamsSend : Prop :=
  ∀ (s : State) (l : LaneId) (g k : Nat), let L := s.now l
    (let x := L.pub g
     let M := L.setPub g { x with want := 2 }
     L.flag .TRM_GP_CFG 31 g = true → L.trip.stop = false → x.begun = true → x.next ≤ L.tick → x.sentAt ≠ L.tick → x.want = 0 →
      (L.trav.done.testBit 6 = false → exec (.gooseRepeat l g) s = .next (s.put l M)) ∧
      (L.trav.done.testBit 6 = true → exec (.gooseRepeat l g) s = .next (s.put l (pubDrain (List.range 4) M))) ∧
      (L.trav.done.testBit 6 = true → g = 0 →
        let every := min (2 * x.every) (L.fld .TRM_GP_HB 19 0 g)
        exec (.gooseRepeat l g) s = .next (s.put l (pubDrain [1, 2, 3]
          (M.sendPub g { x with want := 0, sq := nextNum x.sq, every := every, next := L.tick + every } every))))) ∧
    (L.level < 2 → L.inService = true → k < 16 → L.psDue k = true → L.cmds.served.testBit k = false →
      let K : Lane := { L with cmds := { L.cmds with served := L.cmds.served + 2 ^ k } }
      (K.drives = false → exec (.publishedStreamFrame l k) s = .next (s.put l K)) ∧
      (K.drives = true → K.net.ingressCount 4 4 < (K.waterMarks 4 4).1 →
        let f := K.psFrame k
        let sats := ((List.range (K.fld .CMD_PS_CFG 4 0 k)).filter (fun m => (K.psValue (K.psMember k m)).2.2)).length
        exec (.publishedStreamFrame l k) s = .next (s.put l
          (((K.bump .CMD_PS_TXCNT k).bump .CMD_PS_SATCNT k sats).sendOwn
            { dst := f.dst, src := f.src, tag := f.tag, etype := 0x88BA, len := svLen f, ecn := none, red := none,
              body := .sv f } 4 (((K.bump .CMD_PS_TXCNT k).bump .CMD_PS_SATCNT k sats).fld .CMD_PS_CFG 28 25 k)))))

/-- PERIOD_START completes for an enabled pair on a driving lane in service at Level 0 or 1 with its command domain
on, at a period boundary t0 not before the pair's next start: the pair keeps the carry that the issued on-time of R159
gives and t0 + P as its next start, H ends the period on when it is on for all of it, the edges of R160 are sent (in
single mode with L off at t0 if it was on), CMD_PP_PERCNT goes up by one, CMD_PP_DISC by the steps discarded, and
CMD_PP_SUPON or CMD_PP_SUPOFF by one for a suppression of its kind. Completes, with the next state given:
PERIOD_START. (R157, R158, R159, R160). -/
def Obligations.CarrierPeriodIsIssued : Prop :=
  ∀ (s : State) (l : LaneId) (p t0 : Nat), let L := s.now l
    let x := (L.pulse p).upTo t0
    let P := L.fld .CMD_PP_PER 23 0 p
    let y := val32 (L.cmdCh (L.fld .CMD_PP_CFG 5 0 p)).y
    let d := if y.lt Dy.zero then Dy.zero else if (Dy.ofInt 1).lt y then Dy.ofInt 1 else y
    let i := issue (rnd64 (d.mul (Dy.ofInt P))).nearEven x.carry P (L.fld .CMD_PP_DT 13 0 p) (L.fld .CMD_PP_MP 14 0 p) x.hPrev
    L.flag .CMD_PP_CFG 31 p = true → L.level < 2 → L.inService = true → L.flag .PWR_PD 16 = true → L.drives = true → P ≠ 0 →
    t0 % 1200000000 % P = 0 → (L.pulse p).start ≤ t0 →
    ∃ t, exec (.periodStart l p t0) s = .next t ∧
      ((t.lane l).pulse p).carry = i.carry ∧ ((t.lane l).pulse p).start = t0 + P ∧ ((t.lane l).pulse p).run = true ∧
      ((t.lane l).pulse p).hPrev = (i.shape == .on) ∧
      (t.lane l).sent = [.gate p ((if L.flag .CMD_PP_CFG 30 p = false ∧ x.l = true then [⟨t0, false, false⟩] else []) ++
        gateEdges (L.flag .CMD_PP_CFG 30 p) x.hPrev t0 (L.fld .CMD_PP_DT 13 0 p) i.shape)] ∧
      (t.lane l).reg .CMD_PP_PERCNT p = L.reg .CMD_PP_PERCNT p + 1 ∧
      (t.lane l).reg .CMD_PP_DISC p = L.reg .CMD_PP_DISC p + w32 i.disc.toNat ∧
      (t.lane l).reg .CMD_PP_SUPON p = L.reg .CMD_PP_SUPON p + w32 (bnat i.supOn) ∧
      (t.lane l).reg .CMD_PP_SUPOFF p = L.reg .CMD_PP_SUPOFF p + w32 (bnat i.supOff)

/-- ELEMENT_STAGE completes at Level 0 and 1: a stage window evaluates its slots in order, except in a freeze tick,
counts corrected ECC errors, and after stage 4 sets done flag 5 and counts a shadowed tick, which a freeze tick is
not; a fault of stages 1 to 3 of cause other than 1 sets FAB_STAT.FAULT with its cause, raises event 0x01 and asks for
Level 2 at the next edge. Completes, with the next state given: ELEMENT_STAGE. (R98, R131, R132). -/
def Obligations.StageWindowEvaluates : Prop :=
  ∀ (s : State) (l : LaneId) (g ce : Nat) (f : FabFault), let L := s.now l
    let E := if L.frozen then L else (L.stageSlots g).foldl (fun K p => K.evalSlot g p.1 p.2) L
    L.level < 2 →
    (g < 4 → let K := E.bump .FAB_ECC_CE 0 ce
      exec (.elementStage l g none ce) s = .next (s.put l
        (if g = 3 then (if K.shadows = true then K.bump .FAB_SHADOW_CNT else K).markDone 5 else K))) ∧
    (g < 3 → f.cause ≠ 1 →
      let K := E.bump .FAB_ECC_CE 0 ce
      exec (.elementStage l g (some f) ce) s = .next (s.put l
        ((((K.setFlag .FAB_STAT 28 true).setFld .FAB_STAT 27 26 f.cause).raise 4 0x01
          (((K.setFlag .FAB_STAT 28 true).setFld .FAB_STAT 27 26 f.cause).refEdge +
            ((K.setFlag .FAB_STAT 28 true).setFld .FAB_STAT 27 26 f.cause).stageEnd g : Nat)
          (leBytes 1 f.cause ++ leBytes 1 f.pipe ++ leBytes 2 f.slot)).dropTo 2 1
          (((K.setFlag .FAB_STAT 28 true).setFld .FAB_STAT 27 26 f.cause).refEdge +
            ((K.setFlag .FAB_STAT 28 true).setFld .FAB_STAT 27 26 f.cause).stageEnd g : Nat))))

/-- INPUT_BLOCK_COPY completes at a lane in service at Level 0 or 1 outside a freeze tick: each running parcel whose
cycle starts in the tick gets its input block. SLICE_START completes: the strand that may run is put on its powered
core with the regions of its grant, or the core is left idle. SLICE_END completes for a core in its slice: the strand
runs the instructions left to it, its cycles are counted and it leaves the core with its registers as they stand. DONE
completes when the instruction that a running strand has come to is a write to DONE: its cycle ends. Completes, with
the next state given: INPUT_BLOCK_COPY, SLICE_START, SLICE_END, DONE. (R168, R170, R172, R173, R178). -/
def Obligations.ParcelSlices : Prop :=
  ∀ (s : State) (l : LaneId) (core p k steps cycles : Nat) (g : List Region) (r : StrandRegs) (y : Strand),
    let L := s.now l
    let R := L.strandSteps p k steps
    (L.level < 2 → L.frozen = false → L.inService = true →
      exec (.inputBlockCopy l) s = .next (s.put l (foldTo 16 (fun (K : Lane) q =>
        if K.pState q = pRunning ∧ K.pIncyc q = false ∧ K.cycleTick q K.tick = true then K.beginCycle q else K) L))) ∧
    ((L.parcel p).strandOn core = some k → L.canRun p k = true → L.coreOn core = true → (L.parcel p).strand k = some y →
      exec (.sliceStart l core p) s = .next (s.put l
        (let K := L.setParcel p ((L.parcel p).setStrand k { y with begun := true })
         ({ K with cores := K.cores.put core ⟨p, k, grantRegions (L.parcel p).image k⟩ } : Lane)))) ∧
    ((L.parcel p).strandOn core = none →
      exec (.sliceStart l core p) s = .next (s.put l { L with cores := L.cores.del core })) ∧
    (L.cores.get? core = some ⟨p, k, g⟩ →
      exec (.sliceEnd l core p steps cycles) s = .next (s.put l
        (let K := R.useCycles p k cycles
         ({ K with cores := K.cores.del core } : Lane)))) ∧
    ((L.running p k).isSome = true → R.strandNext p k = some (.done r, y) →
      exec (.done l p k steps cycles) s = .next (s.put l
        ((R.putStrand p k (R.parcel p) { y with regs := r, done := true }).useCycles p k cycles)))

/-- A store to CMD_WR by strand 0 of a channel the parcel owns writes that channel; one by another strand or of
another channel is violation 0x06 or 0x05; an aperture read of a granted channel answers the entry of the tick TICK -
age, or eight zero octets with HIST_RANGE beyond 1,024 - N, and any other is violation 0x04. CMD_WR,
HISTORY_APERTURE_READ, GUARD_VIOLATION and PARCEL_TRAP complete when the instruction that a running strand has come to
is the one they name: the values are kept for publication, the registers take the entry, and a violation or trap halts
the parcel with its code or cause. Completes, with the next state given: CMD_WR, HISTORY_APERTURE_READ,
GUARD_VIOLATION, PARCEL_TRAP. (R174, R175, R176, R179, R184). -/
def Obligations.ParcelAccesses : Prop :=
  ∀ (s : State) (l : LaneId) (p k c age steps a b : Nat) (v : Word) (ws : List (Nat × Word)) (rng : Bool)
    (r : StrandRegs) (y : Strand) (pmp : List Region) (put : Nat → StrandRegs),
    let L := s.now l
    let x := L.parcel p
    (c < 64 →
      let out := L.actOut p k pmp (.store (0x08000200 + c * 4) 4 v.toNat r)
      (k = 0 → L.ownsCmd p c = true → out = .cmd [(c, v)] r) ∧
      (k = 0 → L.ownsCmd p c = false → out = .viol 0x05 (0x08000200 + c * 4)) ∧
      (k ≠ 0 → out = .viol 0x06 (0x08000200 + c * 4))) ∧
    (c < 2048 → age < 1024 →
      let at8 := 0x20000000 + c * 0x2000 + age * 8
      let out := L.actOut p k pmp (.load at8 8 put)
      (x.image.hist = true → L.pN p ≤ 1024 → x.image.chans.contains c = true → age ≤ 1024 - L.pN p →
        out = .aper at8 false (put (leAt (L.histEntry c (L.tick - L.fld .LCT_PCL_STAT 15 0 p - age)) 0 8))) ∧
      (x.image.hist = true → L.pN p ≤ 1024 → x.image.chans.contains c = true → 1024 - L.pN p < age →
        out = .aper at8 true (put 0)) ∧
      (x.image.hist = false ∨ 1024 < L.pN p ∨ x.image.chans.contains c = false → out = .viol 0x04 at8)) ∧
    let R := L.strandSteps p k steps
    (R.strandNext p k = some (.cmd ws r, y) → (c, v) ∈ ws →
      exec (.cmdWr l p k c v steps) s = .next (s.put l
        (R.putStrand p k { R.parcel p with cmdWr := ws.foldl (fun m w => m.put w.1 w.2) (R.parcel p).cmdWr } { y with regs := r }))) ∧
    (R.strandNext p k = some (.viol a (0x08000200 + c * 4), y) → a = 0x05 ∨ a = 0x06 →
      exec (.cmdWr l p k c v steps) s = .next (s.put l (R.haltParcel 2 p k a y.regs.pc (0x08000200 + c * 4)))) ∧
    (R.strandNext p k = some (.aper (0x20000000 + c * 0x2000 + age * 8) rng r, y) →
      exec (.historyApertureRead l p k c age steps) s = .next (s.put l
        (R.putStrand p k { R.parcel p with histRng := (R.parcel p).histRng || rng } { y with regs := r }))) ∧
    (R.strandNext p k = some (.viol 0x04 (0x20000000 + c * 0x2000 + age * 8), y) →
      exec (.historyApertureRead l p k c age steps) s = .next (s.put l
        (R.haltParcel 2 p k 0x04 y.regs.pc (0x20000000 + c * 0x2000 + age * 8)))) ∧
    (R.strandNext p k = some (.viol a b, y) →
      exec (.guardViolation l p k a b steps) s = .next (s.put l (R.haltParcel 2 p k a y.regs.pc b))) ∧
    (R.strandNext p k = some (.trap a b, y) →
      exec (.parcelTrap l p k a b steps) s = .next (s.put l (R.haltParcel 1 p k a y.regs.pc b)))

/-- GUARD_VIOLATION and PARCEL_TRAP complete when the instruction that a running strand has come to is that violation
or trap: its parcel is marked to halt, LCT_PCL_TRAP of the parcel gives kind, strand and code, LCT_PCL_STOPTK the
tick, one event is raised, the memory stays as the instructions before left it, and the published values and bits, the
command targets last published and the critical state of every parcel stay as they were before the command. (R175,
R184). -/
def Obligations.HaltedParcelKeepsOutputs : Prop :=
  ∀ (s : State) (l : LaneId) (p k n a b : Nat) (y : Strand) (trap : Bool),
    let L := s.now l
    let R := L.strandSteps p k n
    R.strandNext p k = some (if trap then .trap a b else .viol a b, y) →
    ∃ t, exec (if trap then .parcelTrap l p k a b n else .guardViolation l p k a b n) s = .next t ∧
    let M := t.lane l
    (M.parcel p).halt = true ∧
    bits (M.reg .LCT_PCL_TRAP p) 31 28 = (if trap then 1 else 2) ∧ bits (M.reg .LCT_PCL_TRAP p) 27 25 = k % 8 ∧
    bits (M.reg .LCT_PCL_TRAP p) 15 0 = a % 65536 ∧ M.reg .LCT_PCL_STOPTK_LO p = w32 L.tick ∧
    M.occ.length = L.occ.length + 1 ∧
    ∀ q, (M.parcel q).mem = (R.parcel q).mem ∧
      (M.parcel q).pubVals = (L.parcel q).pubVals ∧ (M.parcel q).pubBits = (L.parcel q).pubBits ∧
      (M.parcel q).lastCmd = (L.parcel q).lastCmd ∧ (M.parcel q).critDone = (L.parcel q).critDone

/-- For a program that has a step left LD, LDN, AND, ANDN, OR, ORN, XOR, XORN, NOP, PAGE0, PAGE1, JC and JCN complete:
LD and LDN load the flag or its complement; AND to XORN combine it with ACC; NOP changes nothing; PAGE0 and PAGE1 set
PAGE; JC and JCN add k to the PC when ACC is 1 or 0; PC passes the word, one step is charged, and nothing else
changes. PUSH completes on fewer than 64 bits: it pushes ACC; POPA and POPO complete on a stack that is not empty:
they pop a bit and AND or OR it with ACC; END completes with an empty stack: it ends the scan's execution (ENDED set).
PUSH at 64 bits, a pop of nothing and END with bits left latch an ILU fault of cause 2, and the scan goes on no
further. Completes, with the next state given: LD, LDN, AND, ANDN, OR, ORN, XOR, XORN, FARUSK_NOP, PUSH, POPA, POPO,
PAGE0, PAGE1, END, JC, JCN. (R191, R200, R201, R208). -/
def Obligations.FaruskLogicStackAndEnd : Prop :=
  ∀ (s : State) (l : LaneId) (p f k : Nat) (b : Bool) (st : List Bool), let L := s.now l
    let x := (L.iluProg p).charge 1
    let fault := (L.setProg p { L.iluProg p with scan := false }).iluFault 2 (L.stepNs (L.iluProg p).spent)
    L.CanStep p 1 →
    exec (.ld l p f) s = .next (s.put l (L.setProg p { x with acc := x.flag f })) ∧
    exec (.ldn l p f) s = .next (s.put l (L.setProg p { x with acc := !x.flag f })) ∧
    exec (.and l p f) s = .next (s.put l (L.setProg p { x with acc := x.acc && x.flag f })) ∧
    exec (.andn l p f) s = .next (s.put l (L.setProg p { x with acc := x.acc && !x.flag f })) ∧
    exec (.or l p f) s = .next (s.put l (L.setProg p { x with acc := x.acc || x.flag f })) ∧
    exec (.orn l p f) s = .next (s.put l (L.setProg p { x with acc := x.acc || !x.flag f })) ∧
    exec (.xor l p f) s = .next (s.put l (L.setProg p { x with acc := xor x.acc (x.flag f) })) ∧
    exec (.xorn l p f) s = .next (s.put l (L.setProg p { x with acc := xor x.acc (!x.flag f) })) ∧
    exec (.faruskNop l p) s = .next (s.put l (L.setProg p x)) ∧
    exec (.page0 l p) s = .next (s.put l (L.setProg p { x with page := false })) ∧
    exec (.page1 l p) s = .next (s.put l (L.setProg p { x with page := true })) ∧
    exec (.jc l p k) s = .next (s.put l (L.setProg p { x with pc := if x.acc then x.pc + k else x.pc })) ∧
    exec (.jcn l p k) s = .next (s.put l (L.setProg p { x with pc := if x.acc then x.pc else x.pc + k })) ∧
    (x.stack.length < 64 →
      exec (.push l p) s = .next (s.put l (L.setProg p { x with stack := x.acc :: x.stack }))) ∧
    (64 ≤ x.stack.length → exec (.push l p) s = .next (s.put l fault)) ∧
    (x.stack = b :: st → exec (.popa l p) s = .next (s.put l (L.setProg p { x with acc := b && x.acc, stack := st }))) ∧
    (x.stack = b :: st → exec (.popo l p) s = .next (s.put l (L.setProg p { x with acc := b || x.acc, stack := st }))) ∧
    (x.stack = b :: st → exec (.endScan l p) s = .next (s.put l fault)) ∧
    (x.stack = [] → exec (.popa l p) s = .next (s.put l fault) ∧ exec (.popo l p) s = .next (s.put l fault)) ∧
    (x.stack = [] → exec (.endScan l p) s = .next (s.put l ((L.setProg p x).setFlag .ILU_PRG_STAT 27 true p)))

/-- For a program that has a step left and owns the flag ST, STN, SET, RST, RE and FE complete: ST and STN store ACC
or its complement, SET and RST set or clear the flag if ACC is 1, RE and FE leave the edge in ACC and ACC in the flag;
with a flag it does not own each instruction latches an ILU fault of cause 3, writes no flag, and the scan goes on no
further. Completes, with the next state given: ST, STN, SET, RST, RE, FE. (R193, R201, R202, R208). -/
def Obligations.FaruskStores : Prop :=
  ∀ (s : State) (l : LaneId) (p f : Nat), let L := s.now l
    let x := (L.iluProg p).charge 1
    let m := x.flag f
    L.CanStep p 1 →
    ((L.ownMask p).testBit (x.addr f) = true →
    exec (.st l p f) s = .next (s.put l (L.setProg p (x.setFlag f x.acc))) ∧
    exec (.stn l p f) s = .next (s.put l (L.setProg p (x.setFlag f (!x.acc)))) ∧
    exec (.set l p f) s = .next (s.put l (L.setProg p (x.setFlag f (x.acc || m)))) ∧
    exec (.rst l p f) s = .next (s.put l (L.setProg p (x.setFlag f (!x.acc && m)))) ∧
    exec (.re l p f) s = .next (s.put l (L.setProg p ({ x with acc := x.acc && !m }.setFlag f x.acc))) ∧
    exec (.fe l p f) s = .next (s.put l (L.setProg p ({ x with acc := !x.acc && m }.setFlag f x.acc)))) ∧
    ((L.ownMask p).testBit (x.addr f) = false →
      ∀ c, c = Instr.st l p f ∨ c = .stn l p f ∨ c = .set l p f ∨ c = .rst l p f ∨ c = .re l p f ∨ c = .fe l p f →
      exec c s = .next (s.put l
        ((L.setProg p { L.iluProg p with scan := false }).iluFault 3 (L.stepNs (L.iluProg p).spent))))

/-- TON, TOF and TP complete for a program with three steps left and a timer of its own: the ticks since the timer's
last execution, at most 16,777,215, advance ET toward PT as the mode says, Q follows, IN_PREV takes ACC, T_LAST the
scan's first tick, and ACC takes Q. Completes, with the next state given: TON, TOF, TP. (R203, R205). -/
def Obligations.FaruskTimers : Prop :=
  ∀ (s : State) (l : LaneId) (p i : Nat), let L := s.now l
    let x := (L.iluProg p).charge 3
    let pt := L.fld .ILU_TMR_CFG 23 0 i
    let d := fun (m : TmrSt) => min (x.start - m.tLast.getD (x.tick0.getD x.start)) 16777215
    let run := fun (m : TmrSt) => min (m.et + d m) pt
    let upd := fun (et : Nat) (q : Bool) =>
      ({ x with tmr := x.tmr.put i ⟨et, q, x.acc, some x.start⟩, acc := q } : IluProg)
    L.CanStep p 3 → L.allocTo .ILU_TMR_CFG i p = true →
    (let m := L.timerOf x i false
     let et := if x.acc = false then 0 else if m.inPrev = true then run m else m.et
     exec (.ton l p i) s = .next (s.put l (L.setProg p (upd et (x.acc && decide (pt ≤ et)))))) ∧
    (let m := L.timerOf x i true
     let et := if x.acc = true then 0 else if m.inPrev = false then run m else m.et
     exec (.tof l p i) s = .next (s.put l (L.setProg p (upd et (x.acc || decide (et < pt)))))) ∧
    (let m := L.timerOf x i false
     let et := if m.q = true then run m else m.et
     let q := if m.q = true then decide (et < pt) else x.acc && !m.inPrev && decide (et = 0) && decide (0 < pt)
     exec (.tp l p i) s = .next (s.put l (L.setProg p (upd (if q = false ∧ x.acc = false then 0 else et) q))))

/-- CTU, CTD, CRS and CLD complete for a program with two steps left and a counter of its own: CTU counts up at a rise
of ACC, at most to 65,535, and leaves CV >= PV in ACC; CTD counts down, at least to 0, and leaves CV = 0 in ACC; CRS
and CLD set CV to 0 or PV if ACC is 1; the edge memories take ACC; each instruction leaves the scan's copy of the
counter to the next one, so instructions on one counter take effect in program order. A CV of at most 65,535 stays so.
After CLEAR, after the load of another program and at a start that restores no snapshot CV and both edge memories are
0. Completes, with the next state given: CTU, CTD, CRS, CLD. (R204). -/
def Obligations.FaruskCounters : Prop :=
  ∀ (s : State) (l : LaneId) (p j : Nat) (id : CmdId) (now : Int), let L := s.now l
    let x := (L.iluProg p).charge 2
    let c := L.counterOf x j
    let pv := L.fld .ILU_CTR_PV 15 0 j
    L.allocTo .ILU_CTR_PV j p = true →
    (L.CanStep p 2 →
    (let cv := if x.acc = true ∧ c.up = false then min (c.cv + 1) 65535 else c.cv
     exec (.ctu l p j) s = .next (s.put l (L.setProg p
      { x with ctr := x.ctr.put j ⟨cv, x.acc, c.dn⟩, acc := decide (pv ≤ cv) }))) ∧
    (let cv := if x.acc = true ∧ c.dn = false then c.cv - 1 else c.cv
     exec (.ctd l p j) s = .next (s.put l (L.setProg p
      { x with ctr := x.ctr.put j ⟨cv, c.up, x.acc⟩, acc := decide (cv = 0) }))) ∧
    exec (.crs l p j) s = .next (s.put l (L.setProg p
      { x with ctr := x.ctr.put j { c with cv := if x.acc = true then 0 else c.cv } })) ∧
    exec (.cld l p j) s = .next (s.put l (L.setProg p
      { x with ctr := x.ctr.put j { c with cv := if x.acc = true then pv else c.cv } })) ∧
    (c.cv ≤ 65535 → ∀ i ∈ [Instr.ctu l p j, .ctd l p j, .crs l p j, .cld l p j], ∃ t, exec i s = .next t ∧
      ((t.lane l).counterOf ((t.lane l).iluProg p) j).cv ≤ 65535)) ∧
    (L.flag .ILU_STAT 30 = false → L.level < 2 → L.iluState p = 1 →
      (L.iluCtrl id p 3).counterOf ((L.iluCtrl id p 3).iluProg p) j = ⟨0, false, false⟩) ∧
    (L.iluInit p).counterOf ((L.iluInit p).iluProg p) j = ⟨0, false, false⟩ ∧
    (L.bestSnap = none → (L.iluRestore now).counterOf ((L.iluRestore now).iluProg p) j = ⟨0, false, false⟩)

/-- From a state in which program p of a lane has spent no more than its STEPS in the tick, every Farusk instruction
and every ILU slice of the lane leaves it so. (R191, R206). -/
def Obligations.StepsStayInTheAllotment : Prop :=
  ∀ (s t : State) (l : LaneId) (p q f : Nat) (ce : List Nat) (c : Instr),
    c ∈ [Instr.ld l q f, .ldn l q f, .and l q f, .andn l q f, .or l q f, .orn l q f, .xor l q f, .xorn l q f, .st l q f,
      .stn l q f, .set l q f, .rst l q f, .re l q f, .fe l q f, .ton l q f, .tof l q f, .tp l q f, .ctu l q f, .ctd l q f,
      .crs l q f, .cld l q f, .faruskNop l q, .push l q, .popa l q, .popo l q, .page0 l q, .page1 l q, .endScan l q,
      .jc l q f, .jcn l q f, .iluSlice l ce] →
    ((s.lane l).iluProg p).spent ≤ (s.lane l).iluSteps p → exec c s = .next t →
    ((t.lane l).iluProg p).spent ≤ (t.lane l).iluSteps p

/-- ILU_SLICE completes: outside a freeze tick it begins the scans that fall due in the tick, adds six stall steps and
one count for each corrected error and then runs the parts of P0 to P3 in that order, and in a freeze tick it only
counts the corrections. ILU_FAULT completes at a lane in service with none latched: it sets FAULT and raises event
0x01 with the cause, and for cause 1 asks for Level 2; with one latched it changes nothing. Completes, with the next
state given: ILU_SLICE, ILU_FAULT. (R191, R206, R208). -/
def Obligations.IluSlicesAndFaults : Prop :=
  ∀ (s : State) (l : LaneId) (ce : List Nat) (cause : Nat) (now : Int), let L := s.now l
    (L.frozen = false → exec (.iluSlice l ce) s = .next (s.put l
      (let K := ce.foldl (fun (K : Lane) p =>
         (K.setProg p { K.iluProg p with stall := (K.iluProg p).stall + 6 }).bump .ILU_ECC_CE)
         ((((L.scanDue 0).scanDue 1).scanDue 2).scanDue 3)
       (((K.progSlice 0).progSlice 1).progSlice 2).progSlice 3))) ∧
    (L.frozen = true → exec (.iluSlice l ce) s = .next (s.put l (L.bump .ILU_ECC_CE 0 ce.length))) ∧
    (L.inService = true → L.flag .ILU_STAT 30 = false → exec (.iluFault l cause now) s = .next (s.put l
      (let K := (L.setFlag .ILU_STAT 30 true).raise 7 0x01 now (leBytes 1 cause)
       if cause = 1 then K.dropTo 2 7 now else K)))  ∧
    (L.flag .ILU_STAT 30 = true → exec (.iluFault l cause now) s = .next (s.put l L))

/-- GOOSE_FRAME completes at an open port: a frame from the lane's own address, one that no subscription matches, that
fails a check or its authentication, or that is not new is counted in its register; a new one sets members, VALID, the
deadline and the state registers. TAL_EXPIRY completes for a subscription with an expiry to report: it carries out an
expiry that is past its deadline and reports one entry with stNum and sqNum. Completes, with the next state given:
GOOSE_FRAME, TAL_EXPIRY. (R54, R197, R198, R199). -/
def Obligations.GooseIntake : Prop :=
  ∀ (s : State) (l : LaneId) (port rx g : Nat) (f : GooseFrame), let L := s.now l
    let K : Lane := { L with intake := { L.intake with fps := L.intake.fps + 1 } }
    let hit := (List.range 32).find? (fun g => K.gsMatches port f g)
    (L.intakeOpen port = true → K.isOwnMac f.src = true →
      exec (.gooseFrame l port rx f) s = .next (s.put l (K.bump .INT_OWNDROP))) ∧
    (L.intakeOpen port = true → K.isOwnMac f.src = false →
      (hit = none → exec (.gooseFrame l port rx f) s = .next (s.put l (K.bump .INT_UNMATCHED))) ∧
      (hit = some g → K.gsAccept g f = false → exec (.gooseFrame l port rx f) s = .next (s.put l (K.bump .ILU_GS_DROP g))) ∧
      (hit = some g → K.gsAccept g f = true → K.gsAuth g f = none →
        exec (.gooseFrame l port rx f) s = .next (s.put l (K.bump .ILU_GS_AUTHFAIL g))) ∧
      ∀ next, hit = some g → K.gsAccept g f = true → K.gsAuth g f = some next →
        ((K.gsSub g).isNew f = false → exec (.gooseFrame l port rx f) s = .next (s.put l (K.bump .ILU_GS_DUP g))) ∧
        ((K.gsSub g).isNew f = true → exec (.gooseFrame l port rx f) s = .next (s.put l (K.gsTake g rx f next)))) ∧
    (let E := L.gsExpire g
     (E.gsSub g).evt ≠ 0 → exec (.talExpiry l g) s = .next (s.put l
       ((E.setGs g { E.gsSub g with evt := (E.gsSub g).evt - 1 }).raise (192 + g) 0x01 E.cutNs (E.gsSub g).evtData)))

/-- FIELD_IO_EXCHANGE, FIELD_IO_FRAME_TO_FIELD, FIELD_IO_FRAME_FROM_FIELD and FIELD_IO_FRAME_TIMEOUT complete at a
lane that exchanges frames. The exchange takes the pin image with the fault bit as bit 8, or zeros after three bad
frames, puts out the output image and sets done flag 10. The lane sends its output image and FSAFE levels with its
SEQ, which then advances by one; as received with the bits that the line inverts, a frame with a right CRC and the SEQ
expected sets the field outputs and, unless FSAFE is held still after it, the FSAFE levels; one with a wrong CRC or
SEQ leaves the outputs, and the third in a row holds FSAFE. The field side samples the pins, an input level following
two equal samples and an output read back as it is, and sends its frame; as received, one with a right CRC and a SEQ
one or two behind sets the pin image, any other is bad. A frame overdue is bad on the side that waits. Completes, with
the next state given: FIELD_IO_EXCHANGE, FIELD_IO_FRAME_TO_FIELD, FIELD_IO_FRAME_FROM_FIELD, FIELD_IO_FRAME_TIMEOUT.
(R375, R376, R377, R378). -/
def Obligations.FieldIoFrames : Prop :=
  ∀ (s : State) (l : LaneId) (err : Word) (rx : FieldRx) (now : Int), let L := s.now l
    let x := L.fio
    let K := L.fioSent
    let w := L.fioFrame ^^^ err
    let seq := bits w 31 30
    let good := min 16 (x.fGood + 1)
    let F := x.sampled L.outPins rx.pins
    let v := F.frame ^^^ rx.err
    let age := (x.txSeq + 4 - bits v 31 30) % 4
    L.fioRuns = true →
    exec (.fieldIoExchange l) s = .next (s.put l (({ L with fio := { x with
      image := (if x.zeroed then 0 else x.pin) + bnat (L.flag .LCT_FIO_STAT 31) * 256, out := L.outImage } } : Lane).markDone 10)) ∧
    (fioCrcOk w = true → (∀ e, x.fSeq = some e → e = seq) →
      ∃ t, exec (.fieldIoFrameToField l err) s = .next t ∧
        (t.lane l).fio.fOut = bits w 29 22 ∧
        (t.lane l).fio.fSafe = (if x.fHeld = true ∧ good < 16 then x.fSafe else bits w 21 14) ∧
        ((t.lane l).fio.fHeld = true ↔ x.fHeld = true ∧ good < 16) ∧
        (t.lane l).fio.fSeq = some ((seq + 1) % 4) ∧ (t.lane l).fio.fBad = 0 ∧
        (t.lane l).fio.fGood = good ∧ (t.lane l).fio.txSeq = (x.txSeq + 1) % 4) ∧
    (fioCrcOk w = false ∨ (∃ e, x.fSeq = some e ∧ e ≠ seq) →
      ∃ t, exec (.fieldIoFrameToField l err) s = .next t ∧
        (t.lane l).fio.fOut = x.fOut ∧ (t.lane l).fio.fBad = min 3 (x.fBad + 1) ∧ (t.lane l).fio.fGood = 0 ∧
        (t.lane l).fio.txSeq = (x.txSeq + 1) % 4 ∧
        ((t.lane l).fio.fHeld = true ↔ x.fHeld = true ∨ 2 ≤ x.fBad)) ∧
    (fioCrcOk v = true → age = 1 ∨ age = 2 → ∃ t, exec (.fieldIoFrameFromField l rx now) s = .next t ∧
      (t.lane l).fio.sample = rx.pins ∧ (t.lane l).fio.level = F.level ∧
      (t.lane l).fio.pin = bits v 29 22 ∧ (t.lane l).fio.rxBad = 0 ∧ (t.lane l).fio.rxGood = min 16 (x.rxGood + 1)) ∧
    (fioCrcOk v = false ∨ age = 0 ∨ age = 3 →
      exec (.fieldIoFrameFromField l rx now) s = .next (s.put l (({ L with fio := F } : Lane).fioBad now))) ∧
    exec (.fieldIoFrameTimeout l false now) s = .next (s.put l (L.fioBad now)) ∧
    exec (.fieldIoFrameTimeout l true now) s = .next (s.put l
      { K with fio := K.fio.fieldBad (K.fio.fSeq.map (fun e => (e + 1) % 4)) })

/-- OUTPUT_OVERLOAD completes at an output pin that is not already off: it is marked, and the field side drives no pin
so marked; OVERLOAD_RETRY completes at a marked pin: with the overload gone the mark goes, with it still there nothing
changes; FIELD_SUPPLY_LOW completes in every state: the field supply is shown as low or not and nothing else of the
group changes, and while it is low the field side drives nothing. Completes, with the next state given:
OUTPUT_OVERLOAD, OVERLOAD_RETRY, FIELD_SUPPLY_LOW. (R378, R446). -/
def Obligations.FieldOutputsProtectThemselves : Prop :=
  ∀ (s : State) (l : LaneId) (pin : Nat) (low : Bool), let L := s.now l
    (L.outPins.testBit pin = true → L.fio.fOver.testBit pin = false →
      exec (.outputOverload l pin) s = .next (s.put l { L with fio := { L.fio with fOver := L.fio.fOver + 2 ^ pin } })) ∧
    (L.fio.fOver.testBit pin = true →
      exec (.overloadRetry l pin false) s = .next (s.put l { L with fio := { L.fio with fOver := L.fio.fOver - 2 ^ pin } })) ∧
    exec (.overloadRetry l pin true) s = .next (s.put l L) ∧
    (∃ t, exec (.fieldSupplyLow l low) s = .next t ∧ (t.lane l).fio = { L.fio with fLow := low } ∧
      (low = true → (t.lane l).fio.drives = 0)) ∧
    (L.fio.fOver.testBit pin = true → L.fio.drives.testBit pin = false)

/-- A frame whose tag fails, or whose counter is not greater than that of the last accepted frame of its class, raises
TWN_LINK_ERR by one and has no other effect, for all ten kinds of frame that arrive. (R216). -/
def Obligations.SightlineDiscards : Prop :=
  ∀ (s : State) (l : LaneId) (h : TwinHead) (cls : Nat) (r : IntakeRec) (a b c d : Nat) (t1 t2 t3 t4 now : Int) (u v : Bool)
    (parts : List (Nat × CopyPart)) (gr : List (Nat × Bool)) (hc : HostCmd) (f : Instr),
    (f = .intakeRecord l h r ∧ cls = 1 ∨ f = .cutoffMarker l h a b c ∧ cls = 1 ∨
     f = .digest l h a b t1 t2 t3 t4 c u v ∧ cls = 0 ∨ f = .mismatch l h ∧ cls = 0 ∨ f = .withdraw l h now ∧ cls = 0 ∨
     f = .cmd l h a b c hc ∧ cls = cmdClass a hc ∨ f = .cmdAck l h a b ∧ cls = 2 ∨ f = .cmdCommit l h a b ∧ cls = 2 ∨
     f = .copy l h a b c parts ∧ cls = 3 ∨ f = .pagedig l h d gr ∧ cls = 3) →
    (h.tagOk = false ∨ ∃ last, (s.lane l).twin.rxCtr.get? cls = some last ∧ h.ctr ≤ last) →
    ∃ t, exec f s = .next t ∧ t.lane l = (s.now l).bump .TWN_LINK_ERR ∧ t.safety = s.safety ∧ t.power = s.power ∧
      ∀ k, k ≠ l → (t.lane k).regs = (s.lane k).regs

/-- INTAKE, CUTOFF_MARKER, COPY, PAGEDIG, CMD_ACK and CMD_COMMIT complete when the frame is accepted at a lane in the
role that takes it, its counter kept: a record of a later tick than the next waits, one of the tick gathered is
applied and one of a tick already cut off is counted late; a marker of a tick to come is kept with its field input
image compared; granules that arrive in COPY or FREEZE wait for a closure, and a page not after the last begins a new
pass; a page of digests makes its granules dirty but for those whose digest is equal, and sets the ticks written;
acknowledgements and commits mark the command they name, and the commit of a swap is acknowledged. Completes, with the
next state given: INTAKE_RECORD, CUTOFF_MARKER, COPY, PAGEDIG, CMD_ACK, CMD_COMMIT. (R46, R216, R222, R224, R225). -/
def Obligations.SightlineIntakeAndTransfer : Prop :=
  ∀ (s : State) (l : LaneId) (h : TwinHead) (r : IntakeRec) (tick gs fio first last fn tag : Nat) (parts : List (Nat × CopyPart))
    (gr : List (Nat × Bool)), let L := s.now l
    let K := fun (cls : Nat) => L.setTwin { L.twin with rxCtr := L.twin.rxCtr.put cls h.ctr }
    (L.sightOk 1 h = true → L.twin.follow = true →
      (r.tick ≤ L.intake.cutTick → exec (.intakeRecord l h r) s = .next (s.put l ((K 1).bump .TWN_FWD_LATE))) ∧
      (L.intake.cutTick ≠ 0 → L.intake.cutTick + 1 < r.tick → exec (.intakeRecord l h r) s = .next (s.put l
        ((K 1).setTwin { (K 1).twin with fwd := (K 1).twin.fwd ++ [r] }))) ∧
      (L.intake.cutTick < r.tick → L.intake.cutTick = 0 ∨ r.tick = L.intake.cutTick + 1 →
        exec (.intakeRecord l h r) s = .next (s.put l ((K 1).applyRecord r))) ∧
      (L.intake.cutTick < tick →
        let M := if L.fio.image = fio then K 1 else (K 1).bump .ILU_FIO_DISAG
        exec (.cutoffMarker l h tick gs fio) s = .next (s.put l (M.setTwin { M.twin with marker := some (tick, gs, fio) })))) ∧
    (L.sightOk 3 h = true →
      (L.copying = true → first ≤ last → exec (.copy l h first last tick parts) s = .next (s.put l
        (let M := if L.twin.copyPos.any (fun p => decide (first ≤ p)) = true then
                    (K 3).setFld .TWN_COPY_PASS 7 0 (L.fld .TWN_COPY_PASS 7 0 + 1) else K 3
         M.setTwin { M.twin with copyPos := some first, arrived := M.twin.arrived ++ [(first, last, tick, parts)] }))) ∧
      (L.pstate = psCopy ∨ L.pstate = psFreeze → ∃ t, exec (.pagedig l h tick gr) s = .next t ∧
        (t.lane l).twin.dirty = (gr.filter (·.2)).foldl (fun d g => cutRange g.1 g.1 d)
          (gr.foldl (fun d g => addGranule g.1 (cutRange g.1 g.1 d)) L.twin.dirty) ∧
        (t.lane l).twin.written = gr.foldl (fun m g => m.put g.1 (max tick (m.getD g.1 0))) L.twin.written)) ∧
    (L.sightOk 2 h = true →
      let hit := fun (x : Pend) => x.id.fn = fn ∧ x.id.tag = tag ∧ x.fwd = true
      let M : Lane := { K 2 with pend := L.pend.map (fun x => if hit x then { x with commit := true } else x) }
      exec (.cmdAck l h fn tag) s = .next (s.put l { K 2 with pend := L.pend.map (fun x =>
        if x.id.fn = fn ∧ x.id.tag = tag ∧ x.needs = true then
          { x with acked := true, needs := !(x.commit && x.cmd == .twinSwap) } else x) }) ∧
      ((∀ x ∈ L.pend, hit x → x.cmd ≠ .twinSwap) → exec (.cmdCommit l h fn tag) s = .next (s.put l M)) ∧
      ((∃ x ∈ L.pend, hit x ∧ x.cmd = .twinSwap) →
        exec (.cmdCommit l h fn tag) s = .next (s.put l (M.emitTwin (.cmdAck fn tag)))))

/-- DIGEST_SEND, DIGEST, MISMATCH, WITHDRAW, BACKSIGHT_COMPARE and SELF_CHECK_COMPLETE complete. In a pair the lane
sends its digest, with its rate, whether it substituted its own set and the instant, and keeps it; a received digest
is kept and clears the count of missing ones; two different digests of a tick are counted, and outside a self-check
MISMATCH is sent, event 0x03 raised and the self-check started; two equal ones count a qualified tick of a standby
that ran on the forwarded set; MISMATCH in REPLICA starts it too; WITHDRAW makes an active lane ALONE and a standby
declare loss; after a self-check that both pass, a pair is in COPY again, one that only the peer fails leaves the lane
without its standby, and an active lane that alone fails, or holds a fault latch, drops to Level 2. Completes, with
the next state given: DIGEST_SEND, DIGEST, BACKSIGHT_COMPARE, MISMATCH, SELF_CHECK_COMPLETE, WITHDRAW. (R220, R229,
R230, R231, R232). -/
def Obligations.TwinDigestAndDivergence : Prop :=
  ∀ (s : State) (l : LaneId) (h : TwinHead) (tick dig rate d : Nat) (t1 t2 t3 t4 now : Int) (u v : Bool), let L := s.now l
    let K := L.setTwin { L.twin with rxCtr := L.twin.rxCtr.put 0 h.ctr }
    (L.inService = true → L.level < 3 → L.paired = true →
      let M := L.setTwin { L.twin with mine := some (L.tick, L.digest) }
      exec (.digestSend l) s = .next (s.put l
        ((M.emitTwin (.digest L.tick L.digest M.rateCur (M.twin.subst == some M.tick) (M.refEdge + 9800 : Nat))).markDone 12))) ∧
    (L.sightOk 0 h = true →
      (L.paired = true → ∃ t, exec (.digest l h tick dig t1 t2 t3 t4 rate u v) s = .next t ∧
        (t.lane l).twin.peer = some (tick, dig) ∧ (t.lane l).twin.missed = 0) ∧
      (L.pstate = psReplica → exec (.mismatch l h) s = .next (s.put l (K.setFld .TWN_STAT 22 0 0).selfCheck)) ∧
      (L.holdsActive = true → exec (.withdraw l h now) s = .next (s.put l (K.lostStandby now))) ∧
      (L.holdsActive = false → exec (.withdraw l h now) s = .next (s.put l (K.declareLoss now)))) ∧
    (L.twin.mine = some (tick, d) → L.twin.peer = some (tick, dig) → L.pstate = psReplica →
      let B := (L.bump .TWN_BSIGHT_CNT).setTwin { L.twin with mine := none }
      let D := (B.bump .TWN_BSIGHT_MISM).setFld .TWN_STAT 22 0 0
      (d ≠ dig → L.twin.check = false → exec (.backsightCompare l now) s = .next (s.put l
        (((D.emitTwin (.mismatch tick)).raise 9 0x03 now (leBytes 8 tick)).selfCheck))) ∧
      (d ≠ dig → L.twin.check = true → exec (.backsightCompare l now) s = .next (s.put l D)) ∧
      (d = dig → L.role = true ∨ L.twin.subst = some tick → exec (.backsightCompare l now) s = .next (s.put l B)) ∧
      (d = dig → L.role = false → L.twin.subst ≠ some tick → exec (.backsightCompare l now) s = .next (s.put l
        (B.setFld .TWN_STAT 22 0 (min 8388607 (L.fld .TWN_STAT 22 0 + 1)))))) ∧
    (L.twin.check = true →
      let C := (L.setTwin { L.twin with check := false }).setFlag .TWN_STAT 25 false
      (L.faultLatched = false → ∃ t, exec (.selfCheckComplete l true true now) s = .next t ∧
        t.lane l = if C.paired then C.enterCopy else C) ∧
      (L.faultLatched = false → ∃ t, exec (.selfCheckComplete l true false now) s = .next t ∧ t.lane l = C.lostStandby now) ∧
      (u = false ∨ L.faultLatched = true → L.role = true →
        ∃ t, exec (.selfCheckComplete l u true now) s = .next t ∧ t.lane l = C.dropTo 2 7 now))

/-- LOSS_OF_ACTIVE completes at a locked standby of a pair that has no digest of the tick that ended: its loss is that
of the tick which R232 names, it runs on its own intake from the next tick, no swap is left, and event 0x01 carries
the tick and whether a self-check runs. TAKEOVER completes at the edge of t + 2 or later after a loss of tick t: the
lane is ALONE with ROLE 1, the loss is over, TWN_SWITCH_CNT is up by one and TWN_SWITCH_TK is the tick. WITNESS_LOST
completes at a DETACHED lane and AWAIT_EXPIRY at a lane 250 ms in AWAIT, with a witness that is not VALID: the lane is
ALONE with ROLE 1, drives from the second edge, and the newest event is 0x0A with that edge and the cause.
SIGHTLINE_LOCK completes in every state: LOCK is shown and nothing else changes. SIGHTLINE_LOCK_LOSS completes at a
locked lane: LOCK is no more shown; a lane of a pair that is or is about to be active is ALONE, one that stands by
with no loss declared is DETACHED and on its own intake from the next edge, one that was pairing is in the state
before, with event 0x04 the newest, and one in no pair changes in nothing else. Completes, with the next state given:
LOSS_OF_ACTIVE, TAKEOVER, SIGHTLINE_LOCK_LOSS, SIGHTLINE_LOCK, AWAIT_EXPIRY, WITNESS_LOST. (R221, R232, R233, R236,
R237). -/
def Obligations.TakeoverAndLoss : Prop :=
  ∀ (s : State) (l : LaneId) (now : Int) (t : Nat), let L := s.now l
    (L.flag .TWN_STAT 27 = true → (∀ p, L.twin.peer = some p → p.1 < tickOf (now - 100).toNat - 1) →
      L.paired = true → L.holdsActive = false → L.twin.loss = none →
      let k := tickOf (now - 600).toNat
      exec (.lossOfActive l now) s = .next (s.put l
        ((L.setTwin { L.twin with loss := some k, realAt := some (k + 1), turn := none }).raise 9 0x01 now
          (leBytes 8 k ++ leBytes 1 (bnat (L.flag .TWN_STAT 25)))))) ∧
    (L.twin.loss = some t → t + 2 ≤ L.tick → L.inService = true → L.role = false →
      ∃ u, exec (.takeover l) s = .next u ∧ (u.lane l).role = true ∧ (u.lane l).pstate = psAlone ∧
        (u.lane l).twin.loss = none ∧ (u.lane l).num64 .TWN_SWITCH_TK_LO .TWN_SWITCH_TK_HI = L.tick ∧
        (u.lane l).reg .TWN_SWITCH_CNT = L.reg .TWN_SWITCH_CNT + 1) ∧
    (L.pstate = psDetached → L.witnessOk = false → ∃ u, exec (.witnessLost l now) s = .next u ∧
      (u.lane l).pstate = psAlone ∧ (u.lane l).role = true ∧ (u.lane l).twin.driveAt = some (L.tick + 2) ∧
      (u.lane l).Raised 9 0x0A (edgeNs (L.tick + 2) : Nat) (leBytes 1 1)) ∧
    (L.pstate = psAwait → 24000 ≤ L.tick - L.twin.svcAt → L.witnessOk = false → ∃ u, exec (.awaitExpiry l now) s = .next u ∧
      (u.lane l).pstate = psAlone ∧ (u.lane l).role = true ∧ (u.lane l).twin.driveAt = some (L.tick + 2) ∧
      (u.lane l).Raised 9 0x0A (edgeNs (L.tick + 2) : Nat) (leBytes 1 2)) ∧
    exec (.sightlineLock l) s = .next (s.put l (L.setFlag .TWN_STAT 27 true)) ∧
    (L.flag .TWN_STAT 27 = true → L.pstate ≠ psPairing →
      let M := ((L.setFlag .TWN_STAT 27 false).setFlag .TWN_STAT 26 false).raise 9 0x04 now
      (L.paired = false → exec (.sightlineLockLoss l now) s = .next (s.put l M)) ∧
      (L.paired = true → L.holdsActive = true → ∃ u, exec (.sightlineLockLoss l now) s = .next u ∧
        u = s.put l (M.becomeAlone now) ∧ (u.lane l).pstate = psAlone ∧ (u.lane l).flag .TWN_STAT 27 = false) ∧
      (L.paired = true → L.holdsActive = false → L.twin.loss = none → ∃ u, exec (.sightlineLockLoss l now) s = .next u ∧
        (u.lane l).pstate = psDetached ∧ (u.lane l).twin.realAt = some (L.tick + 1) ∧ (u.lane l).flag .TWN_STAT 27 = false)) ∧
    (L.flag .TWN_STAT 27 = true → L.pstate = psPairing → exec (.sightlineLockLoss l now) s = .next (s.put l
      ((((L.setFlag .TWN_STAT 27 false).setFlag .TWN_STAT 26 false).raise 9 0x04 now).setPs L.twin.before)))

/-- PAIRING_ATTEMPT, PAIRING_COMPLETE, FREEZE_START, STATE_TRANSFER_RESTART and FORWARD_SUBSTITUTION complete. A lane
ready to pair keeps the reason code and raises event 0x06 when a condition is false, else it keeps the last code, goes
to PAIRING and sends its proof; a lane in PAIRING goes to COPY with every granule dirty, its role to be taken at the
next edge as R219 gives it; COPY with at most 36 granules of its set left freezes from the next tick; COPY for 12 s
begins again with event 0x07; a follower without a marker at its cut-off compares the sets and runs the tick on its
own. Completes, with the next state given: FORWARD_SUBSTITUTION, PAIRING_ATTEMPT, PAIRING_COMPLETE, FREEZE_START,
STATE_TRANSFER_RESTART. (R217, R219, R220, R222, R223, R226). -/
def Obligations.PairingAndTransfer : Prop :=
  ∀ (s : State) (l : LaneId) (f : PairFacts) (peer : Bool) (now : Int), let L := s.now l
    (L.flag .TWN_CFG 31 = true → L.flag .TWN_STAT 27 = true → L.inService = true → L.level < 2 →
      L.pstate = psAlone ∨ L.pstate = psDetached ∨ L.pstate = psAwait →
      let r := L.pairReason f
      (r ≠ 0 → exec (.pairingAttempt l f now) s = .next (s.put l
        ((L.setReg .TWN_PAIR_ERR (w32 r)).raise 9 0x06 now (leBytes 1 r)))) ∧
      (r = 0 → exec (.pairingAttempt l f now) s = .next (s.put l
        (((L.setTwin { L.twin with before := L.pstate }).setPs psPairing).emitTwin .pair)))) ∧
    (L.pstate = psPairing → ∃ t, exec (.pairingComplete l peer now) s = .next t ∧
      (t.lane l).pstate = psCopy ∧ (t.lane l).twin.dirty = [(0, 15624999)] ∧ (t.lane l).twin.rxCtr = ⟨[]⟩ ∧
      (t.lane l).twin.roleNext = some (if L.twin.before = psAwait then (if peer then false else L.flag .TWN_CFG 30)
        else if peer then L.flag .TWN_CFG 30 else true)) ∧
    (L.pstate = psCopy → rangesLen L.twin.dirty ≤ 36 → exec (.freezeStart l L.tick) s = .next (s.put l
      ((L.setPs psFreeze).setTwin { L.twin with freeze := some (L.tick + 1) }))) ∧
    (L.pstate = psCopy → 1152000 ≤ L.tick - L.twin.copyAt →
      exec (.stateTransferRestart l now) s = .next (s.put l (L.enterCopy.raise 9 0x07 now))) ∧
    (L.twin.follow = true → L.twin.subst ≠ some L.tick → L.intake.cutTick ≠ L.tick →
      (∀ m, L.twin.marker = some m → m.1 ≠ L.tick) →
      let M := ((L.crossCheck L.tick).bump .TWN_FWD_SUBST).setFld .TWN_STAT 22 0 0
      exec (.forwardSubstitution l) s = .next (s.put l (M.useOwn.setTwin { M.twin with subst := some M.tick })))

/-- CMD completes, when the frame is accepted, at a standby of a pair: a command (NOP) is kept as forwarded and
CMD_ACK is sent; and at an active lane in REPLICA with no swap pending, for the swap that its standby asks for at
least 64 ticks ahead: it is kept, to be acknowledged and committed, and sent to the standby. COMMIT_DEADLINE completes
in a pair: the commands that are due within 16 ticks and were not acknowledged are gone and each that reports
completes with LATE, and the others due are committed. STANDBY_COMMIT_TIMEOUT completes in every state: the forwarded
commands due within 8 ticks without their commit are gone, and nothing else changes. PLANNED_SWAP completes at a lane
in REPLICA whose swap tick has passed: the roles are exchanged, no swap tick is left, TWN_SWITCH_CNT is up by one, and
event 0x05 with the tick is raised. REQUALIFIED completes at a qualified preferred standby that reverts, with no swap
pending: it asks the active lane for a swap at a tick at least 64 ahead. OUTPUT_PROOF_TEST completes at a standby
whose test is due: the next output in rotation is driven to the level it does not have, and with a readback of the old
level it fails with its bit, OUTFAULT and event 0x09. TWIN_OFFSET_ALARM completes after 96 ticks beyond the limit with
TWIN_OFS clear: it is set with event 0x04. Completes, with the next state given: CMD, COMMIT_DEADLINE,
STANDBY_COMMIT_TIMEOUT, PLANNED_SWAP, REQUALIFIED, OUTPUT_PROOF_TEST, TWIN_OFFSET_ALARM. (R46, R239, R240, R242,
R290). -/
def Obligations.CommandsInThePair : Prop :=
  ∀ (s : State) (l : LaneId) (h : TwinHead) (fn tag apply a i : Nat) (now : Int), let L := s.now l
    (L.sightOk 2 h = true → L.paired = true → L.role = false →
      ∃ t, exec (.cmd l h fn tag apply .nop) s = .next t ∧
        ((⟨⟨fn, tag, 0x00, apply, none, true⟩, .nop, true, false, false, false⟩ : Pend) ∈ (t.lane l).pend) ∧
        (t.lane l).sent = L.sent ++ [.twin L.twin.txCtr (.cmdAck fn tag)]) ∧
    (L.sightOk 0 h = true → L.pstate = psReplica → L.role = true → L.tick + 64 ≤ apply → (∀ x ∈ L.pend, x.cmd ≠ .twinSwap) →
      ∃ t, exec (.cmd l h 255 tag apply .twinSwap) s = .next t ∧
        ((⟨⟨255, tag, 0x0C, apply, none, true⟩, .twinSwap, false, true, false, false⟩ : Pend) ∈ (t.lane l).pend) ∧
        (t.lane l).sent = L.sent ++ [.twin L.twin.txCtr (.cmd 255 tag apply .twinSwap)]) ∧
    (L.paired = true →
      let lost := fun (x : Pend) => x.needs = true ∧ x.commit = false ∧ x.id.apply ≤ L.tick + 16 ∧ x.acked = false
      ∃ t, exec (.commitDeadline l) s = .next t ∧
        (t.lane l).pend.length = (L.pend.filter (fun x => ¬ lost x)).length ∧
        (∀ x ∈ (t.lane l).pend, x.needs = true → x.id.apply ≤ L.tick + 16 → x.commit = true) ∧
        ∀ x ∈ L.pend, lost x → x.id.quiet = false → ⟨x.id, 0x0001, []⟩ ∈ (t.lane l).fin) ∧
    exec (.standbyCommitTimeout l) s = .next (s.put l { L with pend := L.pend.filter (fun x =>
      ¬(x.fwd = true ∧ x.commit = false ∧ x.id.apply ≤ L.tick + 8)) }) ∧
    (L.twin.turn = some a → a < L.tick → L.pstate = psReplica → ∃ t, exec (.plannedSwap l) s = .next t ∧
      (t.lane l).role = !L.role ∧ (t.lane l).twin.turn = none ∧
      (t.lane l).reg .TWN_SWITCH_CNT = L.reg .TWN_SWITCH_CNT + 1 ∧
      ∃ o ∈ (t.lane l).occ, o.src = 9 ∧ o.code = 0x05 ∧ o.time = (L.refEdge : Nat) ∧ o.data = leBytes 8 a) ∧
    (L.pstate = psReplica → L.role = false → L.flag .TWN_CFG 30 = true → L.flag .TWN_CFG 29 = true →
      L.fld .TWN_REQUAL 22 0 ≤ L.fld .TWN_STAT 22 0 → L.tick + 64 ≤ a → (∀ x ∈ L.pend, x.cmd ≠ .twinSwap) →
      exec (.requalified l a) s = .next (s.put l (L.emitTwin (.swap a)))) ∧
    (L.inService = true → L.role = false → L.paired = true → L.fld .TWN_PROOF_CFG 31 21 ≠ 0 →
      L.twin.proofAt + L.fld .TWN_PROOF_CFG 20 0 ≤ L.tick → nextProof L.img.proof (L.twin.proofIx.getD 23) = some i →
      let other := !L.proofLevel i
      let M := (L.setTwin { L.twin with proofIx := some i, proofAt := L.tick }).emit
        (.proof i other (L.refEdge + 6000) (L.fld .TWN_PROOF_CFG 31 21))
      exec (.outputProofTest l other now) s = .next (s.put l M) ∧
      exec (.outputProofTest l (!other) now) s = .next (s.put l
        (((M.setFlag .TWN_PROOF_FAIL i true).setFlag .TWN_STAT 24 true).raise 9 0x09 now
          (leBytes 1 (bnat (decide (16 ≤ i))) ++ leBytes 1 (if 16 ≤ i then i - 16 else i))))) ∧
    (96 ≤ L.datum.twinRun → L.flag .DTM_STAT 23 = false → exec (.twinOffsetAlarm l now) s = .next (s.put l
      ((L.setFlag .DTM_STAT 23 true).raise 1 0x04 now (leBytes 4 (L.reg .DTM_TWIN_OFS).toNat))))

/-- PTP_MESSAGE_IGNORED, ANNOUNCE, SYNC, FOLLOW_UP, PDELAY_REQ, PDELAY_RESP, PDELAY_RESP_FOLLOW_UP and PPS_PULSE
complete. A message not taken, and every message ignored, adds one to DTM_PORT_ERR and does nothing else. A one-step
Sync taken by a port in BC or slave mode is a complete measurement at its receive time; a two-step one is kept, and
the Follow_Up of the same sequence number completes the measurement with both corrections. A Pdelay_Req is answered
with its receive time. A one-step response gives the peer delay from the turnaround less its correction; a two-step
one is kept, and its Follow_Up gives it from the turnaround less the responder's and the corrections. An Announce
taken by a port in BC or slave mode makes the best master heard the candidate of its port: a new one's count begins at
one, not qualified; a further one of it at least half an announce interval after the last adds one or, after two
intervals, begins again at one, and an earlier one does not count. A 1PPS pulse within 1 microsecond of a whole number
of seconds after the last is counted in DTM_PPS_CNT and its offset is that to the nearest second; any other adds one
to the bad pulses in a row and begins the count again. Completes, with the next state given: ANNOUNCE, SYNC,
FOLLOW_UP, PDELAY_REQ, PDELAY_RESP, PDELAY_RESP_FOLLOW_UP, PTP_MESSAGE_IGNORED, PPS_PULSE. (R279, R280, R281, R283,
R286, R292). -/
def Obligations.DatumHearsMessages : Prop :=
  ∀ (s : State) (l : LaneId) (m : PtpHead) (ds : DataSet) (utc : UtcInfo) (rx tx : Nat) (origin t : Int) (two : Bool) (now : Int),
    let L := s.now l
    let K := L.bump .DTM_PORT_RXCNT m.port
    let A := K.convert rx
    exec (.ptpMessageIgnored l m.port) s = .next (s.put l (L.bump .DTM_PORT_ERR m.port)) ∧
    (L.ptpTakes m = false → ∀ c ∈ [Instr.announce l m ds utc now, .sync l m rx tx origin two, .followUp l m origin,
        .pdelayReq l m rx tx, .pdelayResp l m rx t two, .pdelayRespFollowUp l m t],
      exec c s = .next (s.put l (L.bump .DTM_PORT_ERR m.port))) ∧
    (L.ptpTakes m = true → L.slaveCapable m.port = true → L.ptpMode m.port ≠ 4 →
      exec (.sync l m rx tx origin false) s = .next (s.put l (A.2.syncDone m origin m.corr A.1)) ∧
      exec (.sync l m rx tx origin true) s = .next (s.put l
        (A.2.setPtpPort m.port { A.2.ptpPort m.port with syncSeq := some (m.seq, A.1, m.corr) })) ∧
      ∀ t2 c, (L.ptpPort m.port).syncSeq = some (m.seq, t2, c) → (L.ptpPort m.port).resid = none →
        exec (.followUp l m origin) s = .next (s.put l
          ((K.setPtpPort m.port { L.ptpPort m.port with syncSeq := none }).syncDone m origin (c + m.corr) t2))) ∧
    (L.ptpTakes m = true →
      (exec (.pdelayReq l m rx tx) s = .next (s.put l
        (A.2.sendPtp m.port tx (.pdelayResp A.1 m.src) m.seq none))) ∧
      (∀ t1, (A.2.ptpPort m.port).reqSeq = some (m.seq, t1) →
        exec (.pdelayResp l m rx t false) s = .next (s.put l
          ((A.2.setPtpPort m.port { A.2.ptpPort m.port with reqSeq := none }).setPdelay m.port (A.1 - t1 - m.corr))) ∧
        exec (.pdelayResp l m rx t true) s = .next (s.put l
          (A.2.setPtpPort m.port { A.2.ptpPort m.port with resp := some (A.1, t, m.corr) }))) ∧
      ∀ t1 t4 t2 c, (L.ptpPort m.port).reqSeq = some (m.seq, t1) → (L.ptpPort m.port).resp = some (t4, t2, c) →
        exec (.pdelayRespFollowUp l m t) s = .next (s.put l
          ((K.setPtpPort m.port { L.ptpPort m.port with reqSeq := none, resp := none }).setPdelay m.port
            ((t4 - t1) - (t - t2) - c - m.corr)))) ∧
    (L.ptpTakes m = true → L.slaveCapable m.port = true → L.ptpMode m.port ≠ 4 →
      let heard := K.foreignWith m ds now
      let b := bestForeign ⟨m.src, ds, now⟩ heard
      let F : Lane := { K with datum := { K.datum with
        foreign := K.datum.foreign.put m.port heard,
        held := K.datum.held.map (fun h =>
          if K.datum.ref = some m.port ∧ h.src = m.src then { h with ds := ds, lastNs := now } else h) } }
      let x := L.cand m.port
      (x.heard = false ∨ x.src ≠ b.src → exec (.announce l m ds utc now) s = .next (s.put l
        (((F.changeMaster m.port b now).refAnnounce m ds utc).trySwitch now))) ∧
      (x.heard = true → x.src = b.src → x.src = m.src → exec (.announce l m ds utc now) s = .next (s.put l
        (((F.sameMaster m.port ds now).refAnnounce m ds utc).trySwitch now))) ∧
      (x.heard = true → x.src = b.src → x.src ≠ m.src → exec (.announce l m ds utc now) s = .next (s.put l
        ((F.refAnnounce m ds utc).trySwitch now)))) ∧
    (∀ (N : Lane) (p : Nat) (b : Foreign), N.dstate ≠ dSwitching → p < 4 →
      let x := N.cand p
      let iv := N.annInterval p
      (N.datum.ref ≠ some p → ((N.changeMaster p b now).cand p).count = 1 ∧ ((N.changeMaster p b now).cand p).src = b.src ∧
        ((N.changeMaster p b now).cand p).ds = b.ds ∧ ((N.changeMaster p b now).cand p).qual = false) ∧
      (x.lastNs + iv / 2 ≤ now → ((N.sameMaster p ds now).cand p).count = (if now < x.lastNs + 2 * iv then x.count + 1 else 1) ∧
        ((N.sameMaster p ds now).cand p).lastNs = now) ∧
      (now < x.lastNs + iv / 2 → ((N.sameMaster p ds now).cand p).count = x.count)) ∧
    (L.inService = true → L.flag .DTM_CFG 31 = true →
      let P := L.convert rx
      let p := P.1 - (L.fld .DTM_PPS_DLY 19 0 : Int) * 65536
      let near := fun (x : Int) => (x + 65536 * 1000000000 / 2) / (65536 * 1000000000) * (65536 * 1000000000)
      ((∀ q, L.datum.ppsPrev = some q → (p - q - near (p - q)).natAbs ≤ 65536 * 1000 ∧ 0 < near (p - q)) →
        ∃ t, exec (.ppsPulse l rx) s = .next t ∧ (t.lane l).datum.ppsPrev = some p ∧ (t.lane l).datum.ppsBad = 0 ∧
          (t.lane l).reg .DTM_PPS_CNT = L.reg .DTM_PPS_CNT + 1 ∧ ((t.lane l).cand candPps).theta = nsOf (near p - p)) ∧
      ((∃ q, L.datum.ppsPrev = some q ∧ (65536 * 1000 < (p - q - near (p - q)).natAbs ∨ near (p - q) ≤ 0)) →
        ∃ t, exec (.ppsPulse l rx) s = .next t ∧ (t.lane l).datum.ppsBad = L.datum.ppsBad + 1 ∧
          ((t.lane l).cand candPps).count = 0))

/-- SYNC_TRANSMIT, ANNOUNCE_TRANSMIT, PDELAY_REQ_TRANSMIT, HOLDOVER_ANNOUNCE_STOP, DATUM_BEACON and HOST_CLOCK_BEACON
complete. A master port sends a two-step Sync, and the Announce of the grandmaster followed one step further with the
time properties of DTM_UTC, each with its own sequence number; as a Sync of the lane leaves its Follow_Up with the
send time is sent, and a Pdelay_Resp is followed likewise; a port in use sends a Pdelay_Req, whose send time is noted
as it leaves. In HOLDOVER each port that has sent HOLD_ANN intervals is no master port any more, and a port that has
stopped sends neither. With no beacon ring in RUN, the datum beacon of a lane in service below Level 3 in the first
ten ticks of a second sets the clock of the host complex to the edge of that second where the lane gives the host
time, and changes nothing else; after those ticks nothing changes. The host-clock beacon changes nothing with no
beacon ring in RUN; with no lane in service each beacon ring in RUN has the host complex's own clock as its next
beacon, which goes into its ring when there is room. Completes, with the next state given: SYNC_TRANSMIT,
ANNOUNCE_TRANSMIT, PDELAY_REQ_TRANSMIT, HOLDOVER_ANNOUNCE_STOP, DATUM_BEACON, HOST_CLOCK_BEACON. (R279, R280, R284,
R292, R310). -/
def Obligations.DatumSendsMessages : Prop :=
  ∀ (s : State) (l : LaneId) (port tx seq q : Nat) (o c clock t2 : Int) (two : Bool),
    let L := s.now l
    let x := L.ptpPort port
    let B := (L.bump .DTM_PORT_TXCNT port).convert tx
    (L.masterPort port = true → exec (.syncTransmit l port tx) s = .next (s.put l
      ((L.setPtpPort port { x with txSync := (x.txSync + 1) % 65536 }).sendPtp port tx (.sync 0 0 true) x.txSync none))) ∧
    (L.masterPort port = true → exec (.announceTransmit l port) s = .next (s.put l
      ((L.setPtpPort port { x with
          txAnn := (x.txAnn + 1) % 65536, hold := if L.dstate = dHoldover then x.hold + 1 else x.hold }).sendPtp port
        L.trav.lastRaw (.announce { L.datum.gmDs with steps := L.datum.gmDs.steps + 1 } L.ownUtc) x.txAnn none))) ∧
    (L.ptpOn = true → L.ptpMode port ≠ 0 → exec (.pdelayReqTransmit l port tx) s = .next (s.put l
      ((L.setPtpPort port { x with txReq := (x.txReq + 1) % 65536 }).sendPtp port tx .pdelayReq x.txReq none))) ∧
    L.ptpLeaves port tx (.sync o c two) seq none =
      (.sync o c two, B.2.sendPtp port tx (.followUp B.1 0) seq none) ∧
    L.ptpLeaves port tx (.pdelayResp t2 q) seq none =
      (.pdelayResp t2 q, B.2.sendPtp port tx (.pdelayRespFollowUp B.1 q) seq none) ∧
    L.ptpLeaves port tx .pdelayReq seq none =
      (.pdelayReq, B.2.setPtpPort port { B.2.ptpPort port with reqSeq := some (seq, B.1), resp := none }) ∧
    (L.dstate = dHoldover → ∃ t, exec (.holdoverAnnounceStop l) s = .next t ∧
      ∀ p, p < 4 → L.fld .DTM_SLEW 3 0 ≤ (L.ptpPort p).hold → (t.lane l).masterPort p = false) ∧
    (L.dstate = dHoldover → x.stop = true →
      exec (.syncTransmit l port tx) s = .next (s.put l L) ∧ exec (.announceTransmit l port) s = .next (s.put l L)) ∧
    ((∀ f, f < 64 → s.host.hasFn f = true → (s.host.fn f).ring 2 ≠ rRun) →
      (L.inService = true → L.level < 3 → L.tick % 96000 ≤ 9 →
        exec (.datumBeacon l) s = .next (if s.quiet.timeLane = some l then
          s.quiet.hcx (fun H => { H with clock := edgeNs (L.tick / 96000 * 96000), clockSrc := 0 }) else s.quiet)) ∧
      (s.hostUp = true → exec (.hostClockBeacon clock) s = .next s.quiet)) ∧
    (9 < L.tick % 96000 → exec (.datumBeacon l) s = .next s.quiet) ∧
    (s.hostUp = true → s.quiet.timeLane = none → s.host.clock ≤ clock →
      exec (.hostClockBeacon clock) s = .next (foldTo 64 (fun (u : State) f =>
        if u.host.hasFn f = true ∧ (u.host.fn f).ring 2 = rRun then
          (u.mapFn f (fun F => { F with beacon := some (clock, u.host.clockSrc) })).waitingBeacons f clock else u) s.quiet))

/-- ANNOUNCE_TIMEOUT, QUALIFICATION_COMPLETE, SWITCH_END, STEP_DETECTED, SLEW_END, DATUM_UNSET_EVENT and INITIAL_SET
complete. With no candidate and no reference lost nothing changes; a locked datum that loses its reference goes to the
best other candidate or to HOLDOVER. A candidate with its full count is qualified and no longer barred, and one that
outranks the reference of a locked datum is switched to. A switch ends LOCKED after sixteen settled measurements, and
60 s after its start LOCKED when the last one was within 1 microsecond, else in HOLDOVER. Three measurements beyond
JUMP leave the datum in STEP_PEND, with their median in DTM_STEP, DTM_STEP_CNT up by one, event 0x02 the newest and
the reference unchanged. A slew at its end is over, and the datum is LOCKED when it was SLEWING. A lane without a
datum raises event 0x03. The initial set of a lane in its start without a datum takes the twin first, PTP second with
a switch to that master, then a 1PPS pulse with the second of the host clock, then that clock, then the saved datum,
and marks the set as tried. Completes, with the next state given: ANNOUNCE_TIMEOUT, QUALIFICATION_COMPLETE,
SWITCH_END, STEP_DETECTED, SLEW_END, INITIAL_SET, DATUM_UNSET_EVENT. (R275, R276, R283, R284, R285, R287, R288). -/
def Obligations.DatumChangesState : Prop :=
  ∀ (s : State) (l : LaneId) (c r : Nat) (now : Int) (src : InitSources), let L := s.now l
    ((∀ k, k < 5 → L.candLost k now = false) → L.refLost now = false →
      exec (.announceTimeout l now) s = .next (s.put l L)) ∧
    (L.dstate = dLocked → L.refLost now = true →
      let M := (((List.range 5).filter (fun k => L.candLost k now)).foldl (fun M k => M.loseCand k now) L).loseHeld now
      exec (.announceTimeout l now) s = .next (s.put l (match M.bestCand (fun _ => true) with
        | some k => M.commitSwitch k now
        | none => M.holdover now))) ∧
    ((L.cand c).qual = false → 0 < (L.cand c).count → L.candNeed c ≤ (L.cand c).count →
      ∃ t, exec (.qualificationComplete l c now) s = .next t ∧ ((t.lane l).cand c).qual = true ∧
        ((t.lane l).cand c).barred = false ∧
        (L.dstate = dLocked → L.datum.ref = some r → r ≠ c → L.outranks c (L.cand c) r (L.refCand r) = true →
          (t.lane l).dstate = dSwitching ∧ (t.lane l).datum.ref = some c ∧ (t.lane l).datum.swNs = now)) ∧
    (L.dstate = dSwitching → L.datum.ref = some c →
      (16 ≤ L.datum.settle → exec (.switchEnd l now) s = .next (s.put l (L.lockOn now))) ∧
      (L.datum.settle < 16 → L.datum.beyond = [] → L.refLost now = false → L.datum.swNs + 60000000000 ≤ now →
        exec (.switchEnd l now) s = .next (s.put l 
        (if (L.refCand c).meas = true ∧ (L.refCand c).theta.natAbs ≤ 1000 then L.lockOn now else L.holdover now)))) ∧
    (∀ a b d, L.datum.beyond = [a, b, d] → L.dstate = dLocked ∨ L.dstate = dSwitching ∨ L.dstate = dSlewing →
      ∃ t, exec (.stepDetected l now) s = .next t ∧ (t.lane l).dstate = dStepPend ∧ (t.lane l).datum.ref = L.datum.ref ∧
        (t.lane l).num64 .DTM_STEP_LO .DTM_STEP_HI = wrap 64 (median3 a b d) ∧
        (t.lane l).reg .DTM_STEP_CNT = L.reg .DTM_STEP_CNT + 1 ∧
        (t.lane l).Raised 1 0x02 now (leBytes 8 (wrap 64 (median3 a b d)))) ∧
    (∀ p, L.datum.slew = some p → p.done = true →
      let M := ({ L with datum := { L.datum with slew := none } } : Lane).writeTarget
      exec (.slewEnd l now) s = .next (s.put l (if M.dstate = dSlewing then M.lockOn now else M))) ∧
    (L.dstate = dUnset → exec (.datumUnsetEvent l) s = .next (s.put l (L.raise 1 0x03 0))) ∧
    (L.phase = 7 → L.dstate = dUnset →
      let K : Lane := { L with datum := { L.datum with tried := true } }
      let at_ := fun (t : Int) (n : Nat) => (s.quiet.put l ((K.setOfs src.raw t n).enterDatum dHoldover (nsOf t))).startDone
      (∀ t, src.twin = some t → exec (.initialSet l src) s = .next (at_ t 1)) ∧
      (∀ p, src.twin = none → src.ptp = some p →
        exec (.initialSet l src) s = .next (s.quiet.put l ((K.setOfs src.raw p.t 2).firstMaster p)).startDone) ∧
      (∀ k, src.twin = none → src.ptp = none → src.pps = some k → s.host.tod ≠ none → exec (.initialSet l src) s = .next
        (at_ (pulseSecond src.host src.raw k + (L.fld .DTM_PPS_DLY 19 0 : Int) * 65536 +
          (L.rateCur * rawDiff src.raw k).fdiv (2 ^ 32)) 3)) ∧
      (src.twin = none → src.ptp = none → src.pps = none → s.host.tod ≠ none →
        exec (.initialSet l src) s = .next (at_ src.host 4)) ∧
      ∀ x, src.twin = none → src.ptp = none → s.host.tod = none → L.datum.saved = some x →
        exec (.initialSet l src) s = .next (at_ x.val 5))

/-- LOAD_IMAGE, WRITE_SLOT and every other command named here complete when they are accepted. For LOAD_IMAGE,
WRITE_SLOT, SET_QUOTA, the seven PARCEL operations, MIGRATE TRACK, SWITCH, CANCEL, RESTORE and RELEASE, SET_TARGET,
FORCE_BITS, HOST_FLAGS, TL_RESET, ILU STOP, START and CLEAR, TWIN_SWAP, TIME ACCEPT and REJECT, KEY ROLL and DROP:
past steps 1 to 4 of R302, on a standby a command that changes what the lane computes completes with ROLE; otherwise a
tick too early counts in LCT_APPLY_LATE and completes with LATE, one too far with FAR, a full lane with FULL; then
arguments that the opcode refuses complete with its status, a descriptor with its reason; else the command waits on
the lane in its place, forwarded to the standby of a pair. APPLY 0 stands for the earliest tick. Completes, with the
next state given: LOAD_IMAGE, WRITE_SLOT, SET_QUOTA, PARCEL_LOAD, PARCEL_START, PARCEL_STOP, PARCEL_RESTART,
PARCEL_UNLOAD, PARCEL_FREEZE, PARCEL_RESUME, MIGRATE_TRACK, MIGRATE_SWITCH, MIGRATE_CANCEL, MIGRATE_RESTORE,
MIGRATE_RELEASE, SET_TARGET, FORCE_BITS, HOST_FLAGS, TL_RESET, ILU_STOP, ILU_START, ILU_CLEAR, TWIN_SWAP, TIME_ACCEPT,
TIME_REJECT, KEY_ROLL, KEY_DROP. (R44, R45, R46, R47, R150, R185, R228, R288, R302, R305, R318, R320). -/
def Obligations.TimedCommandsWaitForTheirTick : Prop :=
  ∀ (s : State) (h : CmdHead) (l : LaneId) (x : ImgLoad) (n vf p d q ch value mask lines i : Nat) (w : Desc) (v : Word) (qu : Quota)
    (im : ParcelImg) (b : Bool) (r : SavedRec) (e : Int) (ks : List Nat),
    let u := s.quiet
    ∀ c ∈ [(Instr.loadImage h x, HostCmd.loadImage x), (.writeSlot h n w, .writeSlot n w), (.setQuota h vf qu, .setQuota vf qu),
        (.parcelLoad h p im b, .parcel p 1 im false b), (.parcelStart h p, .parcel p 2 noImg false false),
        (.parcelStop h p, .parcel p 3 noImg false false), (.parcelRestart h p b, .parcel p 4 noImg b false),
        (.parcelUnload h p, .parcel p 5 noImg false false), (.parcelFreeze h p, .parcel p 6 noImg false false),
        (.parcelResume h p, .parcel p 7 noImg false false), (.migrateTrack h p d q, .migrate p 1 d q noSaved 0),
        (.migrateSwitch h p d q, .migrate p 2 d q noSaved 0), (.migrateCancel h p, .migrate p 3 0 0 noSaved 0),
        (.migrateRestore h p d q r, .migrate p 5 d q r 0), (.migrateRelease h p, .migrate p 6 0 0 noSaved 0),
        (.setTarget h ch v, .setTarget ch v), (.forceBits h value mask, .forceBits value mask),
        (.hostFlags h value mask, .hostFlags value mask), (.tlReset h lines, .tlReset lines), (.iluStop h i, .iluCtrl i 1),
        (.iluStart h i, .iluCtrl i 2), (.iluClear h i, .iluCtrl i 3), (.twinSwap h, .twinSwap), (.timeAccept h e, .timeAccept e),
        (.timeReject h, .timeReject), (.keyRoll h ks, .keyRoll ks), (.keyDrop h b ks, .keyDrop b ks)],
      let L := u.lane l
      let a := if h.apply = 0 then L.tick + leadTicks c.2 else h.apply
      let id : CmdId := ⟨h.fn, h.tag, cmdOp c.2, a, none, false⟩
      let t := L.tickStatus c.2 a
      let g := u.argStatus h.fn l a c.2
      s.hostUp = true → u.LetsThrough h c.2 l a →
        (changesLane c.2 = true ∧ L.standsBy = true → exec c.1 s = .next (u.refuse id 0x0008)) ∧
        (changesLane c.2 = false ∨ L.standsBy = false →
          (t = 1 → exec c.1 s = .next ((u.mapLane l (fun L => L.bumpSat .LCT_APPLY_LATE)).refuse id 1)) ∧
          (t ≠ 0 → t ≠ 1 → exec c.1 s = .next (u.refuse id t)) ∧
          (t = 0 → g ≠ 0 → g ≠ 0x000E → exec c.1 s = .next (u.refuse id g)) ∧
          (t = 0 → g = 0x000E → exec c.1 s = .next (match c.2 with
            | .writeSlot n w => u.refuseSlot l id n w
            | _ => u.refuse id g)) ∧
          (t = 0 → g = 0 → exec c.1 s = .next ((u.onAccept l id c.2).mapLane l (Lane.accept id c.2))))

/-- TICK_EDGE, CLOSURE, LANE_FAULT_HANDLING, PARCEL_RELOAD and TRACK_READY complete. A lane without a datum has no
edge; one that a park write waits for moves its clock and parks. Otherwise the clock moves, the level and the twin
follow (a lane that falls to its safe state here drops its quotas and migrations), late images leave, then commands
due act, quotas and migrations follow and the units begin; in a freeze tick, or with none due, no command acts; a
single command that is due, not bound to a commit and no migration acts alone; at Level 2 WRITE_SLOT, SET_TARGET and
FORCE_BITS only complete with LEVEL, and a parcel operation with LEVEL where its transition exists and needs the
cores, with STATE where it does not exist. A closure counts the corrected errors of a lane in service, and does no
more in its safe state; else results are published, units that missed it are recorded, with the event and the level
they ask for, and migrations are decided and sent. A lane in service in its safe state, not held, of a module that is
not parked, resets itself; with the third reset within 600 s it stays there, held, with its event and its link fenced,
and a held lane resets itself no more. Kept parcels come back, after a cold reset only when confirmed. A tracked
parcel with at most 32 dirty granules is reported once. Completes, with the next state given: TICK_EDGE, CLOSURE,
LANE_FAULT_HANDLING, PARCEL_RELOAD, TRACK_READY. (R35, R38, R40, R44, R47, R48, R185, R187, R223, R320, R404, R469).
-/
def Obligations.TraverseRunsItsEdges : Prop :=
  ∀ (s : State) (l : LaneId) (x : Pend) (rest : List Pend) (fail p : Nat) (img : ParcelImg) (auto b : Bool) (left : Nat) (ci : ClosureIn) (m : Mig) (now : Int),
    let u := s.quiet
    let L := s.now l
    let s1 := u.mapLane l Lane.edgeClock
    let s2 := s1.mapLane l (Lane.edgeLevel (s1.othersDown l))
    let s2 := if (s1.lane l).level < 3 ∧ (s2.lane l).level = 3 then (s2.hcx (fun H => H.quotaAbort l)).migAbort l else s2
    let s2 := s2.mapLane l Lane.lateImages
    let K := s2.lane l
    let fin := fun (w : State) => ((w.quotaEdge l).migEdge l).mapLane l (fun M => M.edgeUnits.noteSecond)
    let B := L.bump .ILU_ECC_CE 0 ci.ce
    let miss := B.missed fail
    let P := B.closePublish
    let t : Int := (P.refEdge + 10150 : Nat)
    let C := if miss = 0 then P else
      ((P.setReg .LCT_CLOSURE_STAT (P.reg .LCT_CLOSURE_STAT ||| w32 miss)).raise 0 0x04 t (leBytes 4 miss)).dropTo
        (if miss.testBit 2 = true ∨ miss.testBit 3 = true then 3 else 2) 2 t
    (L.datum.maps = [] → exec (.tickEdge l) s = .next u) ∧
    (L.datum.maps ≠ [] → L.trav.parkReq = true → exec (.tickEdge l) s = .next (s1.parkWaiting l)) ∧
    (L.datum.maps ≠ [] → L.trav.parkReq = false →
      (K.frozen = true ∨ (∀ y ∈ K.pend, K.tick < y.id.apply) → exec (.tickEdge l) s = .next (fin s2)) ∧
      (K.frozen = false → K.pend = x :: rest → x.id.apply ≤ K.tick → (∀ y ∈ rest, K.tick < y.id.apply) →
        let s3 := s2.mapLane l (fun M => { M with pend := rest })
        let only := fun (st : Nat) => exec (.tickEdge l) s = .next (fin (s3.mapLane l (fun M => M.finish x.id st)))
        (x.needs = false ∨ (x.commit = true ∧ x.cmd ≠ .twinSwap) ∨ (s3.lane l).paired = false) → (x.fwd = false ∨ x.commit = true) →
        ((∀ p' op dst q r len, x.cmd ≠ .migrate p' op dst q r len) →
          exec (.tickEdge l) s = .next (fin (s3.mapLane l (Lane.applyCmd x.id x.cmd)))) ∧
        (2 ≤ K.level → ∀ n w ch v mask, x.cmd ∈ [HostCmd.writeSlot n w, .setTarget ch v, .forceBits n mask] → only 0x0004) ∧
        (∀ p' op clear, x.cmd = .parcel p' op img clear auto →
          (K.pState p' ∉ pclFrom op → only 0x0006) ∧
          (K.pState p' ∈ pclFrom op → 2 ≤ K.level → pclNeedsCores op = true → only 0x0004)))) ∧
    (L.inService = false → exec (.closure l fail ci) s = .next (s.put l L)) ∧
    (L.inService = true → 3 ≤ L.level → exec (.closure l fail ci) s = .next (s.put l B)) ∧
    (L.inService = true → L.level < 3 →
      exec (.closure l fail ci) s = .next (((s.put l C).migDecide l ci.told).migSendAll l)) ∧
    (L.inService = true → L.level < 3 → s.host.migs = [] → exec (.closure l fail ci) s = .next (s.put l C)) ∧
    (L.phase = 0xA → L.level = 3 → s.power.mstate ≠ .parked →
      let recent := L.trav.resets.filter (fun t => decide (now - t < 600 * secNs))
      let r := (u.mapLane l (fun M => { M with trav := { M.trav with resets := now :: recent } })).laneReset l 1 now
      (L.trav.held = false → recent.length < 2 → exec (.laneFaultHandling l now) s = .next r) ∧
      (L.trav.held = false → 2 ≤ recent.length → exec (.laneFaultHandling l now) s = .next
        (((r.mapLane l (Lane.holdSafe now)).pwr (fun P => { P with queue := P.queue.filter (fun k => k != l) })).linkTimeout l now)) ∧
      (L.trav.held = true → exec (.laneFaultHandling l now) s = .next u)) ∧
    (L.reload = some true → exec (.parcelReload l false) s = .next (s.put l L)) ∧
    (L.inService = true → L.level < 2 → L.reload = some b → L.copies = ⟨[(p, (img, auto))]⟩ → p < 16 → L.pState p = pUnloaded →
      ∃ t, exec (.parcelReload l true) s = .next t ∧ (t.lane l).reload = none ∧
        (t.lane l).pState p = (if auto then pRunning else pLoaded)) ∧
    (s.host.migOf l p = some m → m.ready = false →
      (32 < left ∨ left ≠ L.migLeft p → exec (.trackReady l p left now) s = .next u) ∧
      (left ≤ 32 → left = L.migLeft p → exec (.trackReady l p left now) s = .next ((u.hcx (fun H => H.setMig m (some { m with first := true, ready := true }))).mapLane l
        (fun M => M.raise (16 + p) 0x05 now (leBytes 4 left)))))

/-- READ_SLOT, MIGRATE_SAVE, ARCHIVE_TRIGGER, KEY_PUT, KEY_PREPARE, the FIELDBOOK commands, STAGE, ACTIVATE and
RAISE_SVN complete past steps 1 to 4 of R302. READ_SLOT writes descriptor and state as of the last closure and returns
the slot's output, a slot beyond 4,095 is INVAL. MIGRATE SAVE of a parcel that is not FROZEN completes with STATE,
else its sections and the SHA-384 of them are written when the buffer holds them, and the length is returned. ARCHIVE
TRIGGER waits for the next tick when every definition it names allows it, else it is INVAL. KEY PUT puts the package's
key in its position; a package whose signature fails is counted and named. KEY PREPARE needs an eligible image in the
other bank. FIELDBOOK READ gives a VF only the entries of its own parcels; FLUSH, CLEAR_GEN and CLEAR_SAFE act on the
lane's book, CLEAR_SAFE of PF0 not in service. STAGE completes with BUSY, with the reason of the windows or of the
SVN; else all its steps run on the other bank, and the image is staged if that bank then verifies. ACTIVATE commits a
staged image, RAISE_SVN raises the fuse. Completes, with the next state given: READ_SLOT, MIGRATE_SAVE,
ARCHIVE_TRIGGER, FIELDBOOK_READ, FIELDBOOK_FLUSH, CLEAR_GEN, CLEAR_SAFE, KEY_PUT, KEY_PREPARE, STAGE, ACTIVATE,
RAISE_SVN. (R302, R306, R323, R326, R343, R348, R349, R414, R417, R423). -/
def Obligations.LaneCommandsAct : Prop :=
  ∀ (s : State) (h : CmdHead) (l : LaneId) (n p defs first count : Nat) (k : KeyPkg) (hdr : FwHeader) (halt : Option Nat),
    let u := s.quiet
    let L := s.now l
    let F := L.flash
    let id := fun (op : Nat) => (⟨h.fn, h.tag, op, 0, none, false⟩ : CmdId)
    s.hostUp = true →
    (u.LetsThrough h (.readSlot n) l L.tick →
      (n < 4096 → exec (.readSlot h n) s = .next ((u.hcx (fun H => H.emit (.write h.fn h.addr (descBytes (L.fabric.shownDesc.getD n []) 64 ++
        (List.range 32).flatMap (fun i => leBytes 4 (L.stateWin n i).toNat))))).finishOn l (id 2) 0
        (leBytes 4 (L.elPrev n).val.toNat ++ leBytes 1 (L.elPrev n).status ++ leBytes 3 (L.elPrev n).tcnt))) ∧
      (4096 ≤ n → exec (.readSlot h n) s = .next (u.finishOn l (id 2) 0x000D))) ∧
    (u.LetsThrough h (.migrate p 4 0 0 noSaved h.len) l L.tick → p < 16 →
      (L.pState p ≠ pFrozen → exec (.migrateSave h p) s = .next (u.finishOn l (id 6) 0x0006)) ∧
      (L.pState p = pFrozen →
        let x := L.parcel p
        let z := savedBody p l.num x (Config.imageOctets (Nat.pair L.mac L.free))
        let v := u.mapLane l (fun M => { M with free := M.free + 1 })
        exec (.migrateSave h p) s = .next (if h.len < z.length + 48 then v.finishOn l (id 6) 0x000D
          else (v.hcx (fun H => H.emit (.write h.fn h.addr (z ++ beBytes 48 (Config.sha384 z).toNat)))).finishOn l (id 6) 0
            (leBytes 8 (z.length + 48))))) ∧
    (u.LetsThrough h (.arcTrigger defs) l L.tick →
      (defs < 65536 → (∀ d, d < 16 → defs.testBit d = true → L.flag .ACQ_RD_TRG2 16 d = true) →
        exec (.archiveTrigger h defs) s = .next (u.mapLane l (fun M =>
          ({ M with acq := { M.acq with host := M.acq.host ++ [(M.tick + 1, defs)] } } : Lane).addPend
            ⟨{ id 0x10 with apply := M.tick + 1 }, .arcTrigger defs, false, false, false, false⟩))) ∧
      (65536 ≤ defs ∨ (∃ d, d < 16 ∧ defs.testBit d = true ∧ L.flag .ACQ_RD_TRG2 16 d = false) → exec (.archiveTrigger h defs) s = .next (u.finishOn l (id 0x10) 0x000D))) ∧
    (u.LetsThrough h (.keyPut k) l L.tick → k.slot < 256 →
      (k.sigOk = true → k.wrapOk = true → k.nextImg = false → L.keys.owner.isSome = true → L.keys.lifecycle = 3 →
        ∃ t c, exec (.keyPut h k) s = .next t ∧ ((t.lane l).keySlot k.slot).pos k.next = some c ∧
          c.id = k.keyId ∧ c.alg = k.alg ∧ c.key = k.key ∧ (t.lane l).fin = L.fin ++ [⟨id 0x12, 0, []⟩]) ∧
      (k.sigOk = false → exec (.keyPut h k) s = .next (u.mapLane l (fun M => (M.bump .KEY_UNWRAP_ERR).finish (id 0x12) 0x0207)))) ∧
    (u.LetsThrough h .keyPrepare l L.tick →
      (L.nextMeas = none → exec (.keyPrepare h) s = .next (u.finishOn l (id 0x12) 0x0209)) ∧
      (∀ m, L.nextMeas = some m → exec (.keyPrepare h) s = .next ((u.hcx (fun H => H.emit (.write h.fn h.addr (beBytes 96
        (Config.xportKey l.num m (L.keys.owner.getD 0) ((L.keys.nonce.map (·.toNat)).getD 0)).toNat)))).finishOn l (id 0x12) 0))) ∧
    (u.LetsThrough h (.fbRead first count) l L.tick →
      let own := fun (src : Nat) => decide (h.fn = 0) || (decide (l.srcBase + 16 ≤ src ∧ src < l.srcBase + 32) &&
        (s.host.quotaOn h.fn l).parcels.testBit (src - l.srcBase - 16))
      exec (.fieldbookRead h first count) s =
        .next ((u.hcx (fun H => H.emit (.write h.fn h.addr (bookRead L.book own first count)))).finishOn l (id 0x11) 0)) ∧
    (u.LetsThrough h .fbFlush l L.tick → exec (.fieldbookFlush h) s = .next (u.mapLane l (fun M => M.flushStart (some (id 0x11))))) ∧
    (u.LetsThrough h .clearGen l L.tick → exec (.clearGen h) s =
      .next (u.mapLane l (fun M => ({ M with book := { M.book with gen := [] } } : Lane).showBook.finish (id 0x11) 0))) ∧
    (u.LetsThrough h .clearSafe l L.tick →
      (h.fn ≠ 0 ∨ L.inService = true → exec (.clearSafe h) s = .next (u.finishOn l (id 0x11) 0x0110)) ∧
      (h.fn = 0 → L.inService = false → exec (.clearSafe h) s =
        .next (u.mapLane l (fun M => ({ M with book := { M.book with safe := [] } } : Lane).showBook.finish (id 0x11) 0)))) ∧
    (u.LetsThrough h (.stage hdr halt) l L.tick →
      (F.job.isSome = true → (∀ j, F.job = some j → ¬(j.id.fn = h.fn ∧ j.id.tag = h.tag)) →
        ∃ t, exec (.stage h hdr halt) s = .next t ∧ (t.lane l).flash = F ∧ (t.lane l).fin = L.fin ++ [⟨id 0x13, 0x0205, []⟩]) ∧
      (F.job = none → u.stageWindows true hdr = false →
        ∃ t, exec (.stage h hdr halt) s = .next t ∧ (t.lane l).flash = F ∧ (t.lane l).fin = L.fin ++ [⟨id 0x13, 0x0202, []⟩]) ∧
      (F.job = none → u.stageWindows true hdr = true → hdr.svn < F.fuseSvn →
        ∃ t, exec (.stage h hdr halt) s = .next t ∧ (t.lane l).flash = F ∧ (t.lane l).fin = L.fin ++ [⟨id 0x13, 0x0203, []⟩]) ∧
      (F.job = none → u.stageWindows true hdr = true → F.fuseSvn ≤ hdr.svn → halt = none →
        let G := Flash.stageRun { F with staged := none } ⟨id 0x13, F.otherBank, 0, hdr, false, false⟩ 6
        let ok := fwVerified 2 (G.bank F.otherBank)
        ∃ t, exec (.stage h hdr halt) s = .next t ∧ (t.lane l).flash = { G with job := none, staged := if ok then some F.otherBank else none } ∧
          (t.lane l).fin = L.fin ++ [⟨id 0x13, if ok then 0 else 0x0010, []⟩])) ∧
    (u.LetsThrough h .activate l L.tick →
      (F.staged = none → exec (.activate h) s = .next (u.finishOn l (id 0x13) 0x0204)) ∧
      (∀ b, F.staged = some b → exec (.activate h) s = .next (u.mapLane l (fun M =>
        (M.setFlash (F.setBank b { F.bank b with commit := markSet })).finish (id 0x13) 0)))) ∧
    (u.LetsThrough h .raiseSvn l L.tick →
      (∀ G, F.raiseSvn 2 = some G → exec (.raiseSvn h) s = .next (u.mapLane l (fun M => (M.setFlash G).finish (id 0x13) 0))) ∧
      (F.raiseSvn 2 = none → exec (.raiseSvn h) s = .next (u.finishOn l (id 0x13) 0x0204)))

/-- Every command named here completes past steps 1 to 4 of R302. NOP does nothing else; SET_TOD sets the clock; OWN,
KEY RELEASE, ENTER and LEAVE SERVICE and RETIRE change the key stores of the host complex and of every lane in the
state that R426 gives them, and are refused with LCSTATE in any other; FN_RESET resets a function that exists, with no
completion for one that resets itself. FIELDBOOK FLUSH copies the host book to NOR; CLEAR_SAFE clears its safety class
for PF0, only while parked with the brakes applied. ARCHIVE ATTACH of a detached archive, its record right, begins
recovery with a read of the header and of the catalogue, and FORMAT writes catalogue and header; both are refused with
STATE or INVAL; DETACH lets the archive go; READ and WRITE end with the status of their checks or become NVMe
commands; ALLOC gives an extent or ends with its status; CLOSE, PIN, UNPIN and FREE move an extent that its state and
owner allow; LIST writes the entries asked for, those of others empty. Completes, with the next state given: NOP,
SET_TOD, ARCHIVE_ATTACH, ARCHIVE_DETACH, ARCHIVE_FORMAT, ARCHIVE_READ, ARCHIVE_WRITE, ARCHIVE_ALLOC, ARCHIVE_CLOSE,
ARCHIVE_PIN, ARCHIVE_UNPIN, ARCHIVE_FREE, ARCHIVE_LIST, FIELDBOOK_FLUSH, CLEAR_SAFE, OWN, KEY_RELEASE, ENTER_SERVICE,
LEAVE_SERVICE, RETIRE, FN_RESET. (R302, R310, R315, R338, R341, R342, R343, R349, R426). -/
def Obligations.HostCommandsAct : Prop :=
  ∀ (s : State) (h : CmdHead) (t : Int) (root f off len ext first : Nat) (signed : Bool) (r : AttachRec) (bytes : List Byte),
    let u := s.quiet
    let H := u.host
    let now := h.now
    let st := H.keys.lifecycle
    let id := fun (op : Nat) => (⟨h.fn, h.tag, op, 0, none, false⟩ : CmdId)
    let ends := fun (op status : Nat) => u.hcx (fun H => H.finish (id op) status)
    s.hostUp = true →
    (u.TakesHost h .nop → exec (.nop h) s = .next (ends 0 0)) ∧
    (u.TakesHost h (.setTod t) → exec (.setTod h t) s =
      .next ((u.hcx (fun H => { H with clock := t, clockSrc := 1, tod := some t })).hcx (fun H => H.finish (id 0xD) 0))) ∧
    (u.TakesHost h (.own root signed) →
      (st = 1 → u.parked = true → signed = true → ∃ v, exec (.own h root signed) s = .next v ∧ v.host.keys.lifecycle = 2 ∧
        v.host.keys.owner = some root ∧ (∀ l, (v.lane l).keys.owner = some root) ∧ v.host.done = H.done ++ [⟨id 0x12, 0, []⟩]) ∧
      (st ≠ 1 ∨ u.parked = false ∨ signed = false → exec (.own h root signed) s = .next (ends 0x12 0x0206))) ∧
    (u.TakesHost h .keyRelease →
      (st = 2 → u.parked = true → ∃ v, exec (.keyRelease h) s = .next v ∧ v.host.keys.owner = none ∧ (∀ l, (v.lane l).keys.owner = none)) ∧
      (st ≠ 2 ∨ u.parked = false → exec (.keyRelease h) s = .next (ends 0x12 0x0206))) ∧
    (u.TakesHost h .enterService →
      (st = 2 → ∃ v, exec (.enterService h) s = .next v ∧ v.host.keys.lifecycle = 3 ∧ ∀ l, (v.lane l).keys.nonce = v.host.keys.nonce) ∧
      (st ≠ 2 → exec (.enterService h) s = .next (ends 0x12 0x0206))) ∧
    (u.TakesHost h .leaveService →
      (st = 3 → u.parked = true → ∃ v, exec (.leaveService h) s = .next v ∧ v.host.keys.nonce = none ∧
        ∀ l, (v.lane l).keys.recs = [] ∧ (v.lane l).keys.slots = ⟨[]⟩) ∧
      (st ≠ 3 ∨ u.parked = false → exec (.leaveService h) s = .next (ends 0x12 0x0206))) ∧
    (u.TakesHost h .retire →
      (u.parked = true → ∃ v, exec (.retire h) s = .next v ∧ v.host.keys.lifecycle = 4 ∧ ∀ l, (v.lane l).keys.lifecycle = 4) ∧
      (u.parked = false → exec (.retire h) s = .next (ends 0x12 0x0206))) ∧
    (u.TakesHost h (.fnReset f) →
      (63 < f ∨ H.hasFn f = false → exec (.fnReset h f) s = .next (ends 0x14 0x000D)) ∧
      (f ≤ 63 → H.hasFn f = true → exec (.fnReset h f) s =
        .next (if f = h.fn then u.resetFn f else (u.resetFn f).hcx (fun H => H.finish (id 0x14) 0)))) ∧
    (u.TakesHost h .fbFlush → exec (.fieldbookFlush h) s = .next (u.hcx (fun H => ({ H with nor := H.book } : Hcx).finish (id 0x11) 0))) ∧
    (u.TakesHost h .clearSafe → exec (.clearSafe h) s = .next (if h.fn = 0 ∧ u.parked = true ∧ u.safety.braked = true then
      u.hcx (fun H => ({ H with book := { H.book with safe := [] } } : Hcx).finish (id 0x11) 0) else ends 0x11 0x0110)) ∧
    (u.TakesHost h (.arcAttach r) →
      (H.arcState ≠ aDetached ∨ H.arc.attach.isSome = true → exec (.archiveAttach h r) s = .next (ends 0x10 0x0006)) ∧
      (H.arcState = aDetached → H.arc.attach = none → attachOk r = false → exec (.archiveAttach h r) s = .next (ends 0x10 0x000D)) ∧
      (H.arcState = aDetached → H.arc.attach = none → attachOk r = true → ∃ v, exec (.archiveAttach h r) s = .next v ∧
        v.host.arc.attach = some r ∧ v.host.arc.recover = some (id 0x10) ∧ v.host.arcState = aRecovering ∧
        (H.linkUp = false → v.host.arc.todo = ⟨2, 0, 4096, false, [], .recover⟩ :: nvmeCut 2 false .recover (r.mdts * 4096)
          (catalogueExt (extentsOf r.size) * 256 + 1) (2 ^ 20) (catalogueExt (extentsOf r.size) * 2 ^ 20) []))) ∧
    (u.TakesHost h .arcDetach → ∃ v, exec (.archiveDetach h) s = .next v ∧ v.host.arc.attach = none ∧ v.host.arcState = aDetached) ∧
    (u.TakesHost h (.arcFormat r) →
      (H.arcState ≠ aDetached ∨ H.arc.attach.isSome = true → exec (.archiveFormat h r) s = .next (ends 0x10 0x0006)) ∧
      (H.arcState = aDetached → H.arc.attach = none → attachOk r = false → exec (.archiveFormat h r) s = .next (ends 0x10 0x000D)) ∧
      (H.arcState = aDetached → H.arc.attach = none → attachOk r = true →
        let j := H.arc.nextJob
        exec (.archiveFormat h r) s = .next ((u.hcx (fun H => H.setArc { H.arc with
          attach := some r, sqTail := 0, cqHead := 0, nextJob := j + 1,
          jobs := H.arc.jobs.put j ⟨id 0x10, (formatCmds r j).length, 0, 0⟩, todo := H.arc.todo ++ formatCmds r j })).arcRun now))) ∧
    (u.TakesHost h (.arcRead off len) →
      (H.accessStatus h.fn off len false ≠ 0 → exec (.archiveRead h off len) s = .next (ends 0x10 (H.accessStatus h.fn off len false))) ∧
      (H.accessStatus h.fn off len false = 0 →
        let j := H.arc.nextJob
        let m := ((H.arc.attach.map (·.mdts)).getD 16) * 4096
        let cmds := nvmeCut 2 false (.host j) m (ceilDiv len m) off len []
        exec (.archiveRead h off len) s = .next ((u.hcx (fun H => H.setArc { H.arc with
          nextJob := j + 1, jobs := H.arc.jobs.put j ⟨id 0x10, cmds.length, h.addr, off⟩, todo := H.arc.todo ++ cmds })).arcRun now))) ∧
    (u.TakesHost h (.arcWrite off bytes) →
      (H.accessStatus h.fn off bytes.length true ≠ 0 →
        exec (.archiveWrite h off bytes) s = .next (ends 0x10 (H.accessStatus h.fn off bytes.length true))) ∧
      (H.accessStatus h.fn off bytes.length true = 0 →
        exec (.archiveWrite h off bytes) s = .next (u.arcAccess (id 0x10) 1 off bytes.length h.addr bytes now))) ∧
    (u.TakesHost h .arcAlloc →
      (H.arcState ≠ aAttached → exec (.archiveAlloc h) s = .next (ends 0x10 0x0101)) ∧
      (H.arcState = aAttached → ∀ G, (∀ k, H.allocExtent h.fn 4 0 = (G, some k) →
          exec (.archiveAlloc h) s = .next ((u.hcx (fun _ => G.finish (id 0x10) 0 (leBytes 8 k))).arcRun now)) ∧
        (H.allocExtent h.fn 4 0 = (G, none) → exec (.archiveAlloc h) s = .next (u.hcx (fun _ => G.finish (id 0x10) 0x0102))))) ∧
    (∀ c ∈ [(Instr.archiveClose h ext, HostCmd.arcClose ext, eOpen, some eClosed), (.archivePin h ext, .arcPin ext, eClosed, some ePinned),
        (.archiveUnpin h ext, .arcUnpin ext, ePinned, some eClosed), (.archiveFree h ext, .arcFree ext, eOpen, none),
        (.archiveFree h ext, .arcFree ext, eClosed, none)],
      u.TakesHost h c.2.1 →
      (H.arcState ≠ aAttached → exec c.1 s = .next (ends 0x10 0x0101)) ∧
      (H.arcState = aAttached → ext < H.extents → H.ownsExtent h.fn ext = true → ∀ x, H.arc.cat.get? ext = some x → x.state = c.2.2.1 →
        H.arc.writing = [] → exec c.1 s = .next ((u.hcx (fun H =>
          (H.setArc (H.arc.setEntry ext (c.2.2.2.map (fun st => { x with state := st })))).finish (id 0x10) 0)).arcRun now))) ∧
    (u.TakesHost h (.arcList first len) →
      (H.arcState ≠ aAttached → exec (.archiveList h first len) s = .next (ends 0x10 0x0101)) ∧
      (H.arcState = aAttached → H.extents ≤ first → exec (.archiveList h first len) s = .next (ends 0x10 0x000D)) ∧
      (H.arcState = aAttached → first < H.extents →
        let n := min len (H.extents - first)
        exec (.archiveList h first len) s = .next (u.hcx (fun H => (H.emit (.write h.fn h.addr ((List.range n).flatMap (fun i =>
          entryBytes (if h.fn = 0 ∨ H.ownsExtent h.fn (first + i) = true then H.entryOf (first + i) else none))))).finish (id 0x10) 0
          (leBytes 4 n)))))

/-- A doorbell that is not four octets, too large or for a ring not in RUN is counted; one within the ring moves the
index that software owns, one outside fences the function. A ring that passes every check of R297 runs from index 0,
one that fails stays OFF with its number in FN_ERR_CFG; a running ring drains, and a draining ring with nothing in
flight is OFF. The next descriptor of a command ring is fetched while credits and room allow: with an OPCODE that
names no command, or reserved octets of its head not zero, it fences the function, else its command is submitted with
what its octets say. The oldest completed command is written to the completion ring when that has room, waits while it
has none, and is dropped when it belongs to an earlier life of the function or the function is fenced. A DMA read
error or a completion timeout on a ring in RUN or DRAIN is logged and fences the function with the cause 4 or 5.
Completes, with the next state given: DOORBELL, COMMAND_FETCH, COMMAND_COMPLETION, RING_ENABLE, RING_DRAIN,
DRAIN_COMPLETE, DMA_READ_ERROR, DMA_COMPLETION_TIMEOUT. (R297, R298, R299, R300, R302, R303, R314, R315). -/
def Obligations.RingsCarryCommands : Prop :=
  ∀ (s : State) (f r width idx : Nat) (v : Word) (d : CmdDesc) (q : Done) (rest : List Done) (l : LaneId) (now : Int),
    let u := s.quiet
    let F := s.host.fn f
    let i := v.toNat
    let inWin : Bool := if r = 1 ∨ r = 2 then decide (idxSub (F.prod r) i ≤ F.size r) && decide (idxSub i (F.cons r) ≤ F.fill r)
      else decide (idxSub i (F.cons r) ≤ F.size r)
    let room : Bool := (F.ring 1 == rRun || F.ring 1 == rDrain) && decide (F.cmdOut + F.fill 1 < F.size 1)
    let fetched := u.mapFn f (fun F => ((F.setFld .FN_RING_IDX 15 0 (F.cons 0 + 1) 0).takeCredit).setFld .FN_STAT 12 0 (F.cmdOut + 1))
    s.hostUp = true →
    (s.host.hasFn f = true → r < 11 →
      (width ≠ 4 ∨ 65536 ≤ i ∨ F.ring r ≠ rRun → exec (.doorbell f r v width now) s = .next (u.mapFn f (fun F => F.bump .FN_DB_IGN))) ∧
      (width = 4 → i < 65536 → F.ring r = rRun →
        (inWin = false → exec (.doorbell f r v width now) s = .next (u.fence f 3 r i now)) ∧
        (inWin = true → r = 1 ∨ r = 2 → exec (.doorbell f r v width now) s = .next (u.mapFn f (fun F => F.setFld .FN_RING_IDX 15 0 i r))) ∧
        (inWin = true → r ≠ 1 → r ≠ 2 → exec (.doorbell f r v width now) s = .next (u.mapFn f (fun F => F.setFld .FN_RING_IDX 31 16 i r)))) ∧
      (F.ring r = rOff → F.fstate = 1 → bit v 31 = true →
        let G := F.setReg .FN_RING_CFG (v &&& 0x8F3F0000#32) r
        let e := u.host.ringCheck f r G
        (e ≠ 0 → exec (.ringEnable f r v) s =
          .next (u.mapFn f (fun _ => (G.setFlag .FN_RING_CFG 31 false r).setReg .FN_ERR_CFG (w32 (r * 16 + e))))) ∧
        (e = 0 → exec (.ringEnable f r v) s = .next (u.mapFn f (fun _ =>
          let G := (G.setReg .FN_RING_IDX 0 r).setRing r rRun
          { G with owed := G.owed.del r })))) ∧
      (F.ring r = rRun → exec (.ringDrain f r) s = .next (u.mapFn f (fun F => (F.setFlag .FN_RING_CFG 31 false r).setRing r rDrain))) ∧
      (F.ring r = rDrain → F.flight r = 0 → exec (.drainComplete f r) s = .next (u.mapFn f (fun F => F.setRing r rOff))) ∧
      (F.ring r = rDrain → F.flight r ≠ 0 → exec (.drainComplete f r) s = .next u) ∧
      (let n := (u.lane .a).free
       let logged := (u.mapLane .a (fun L => { L with free := n + 1 })).raiseHost 3 0x02 now (leBytes 8 (Config.aerStatus n).toNat)
       F.ring r = rRun ∨ F.ring r = rDrain → exec (.dmaReadError f r idx now) s = .next (logged.fence f 4 r idx now) ∧
        exec (.dmaCompletionTimeout f r idx now) s = .next (logged.fence f 5 r idx now))) ∧
    (s.host.hasFn f = false → exec (.doorbell f r v width now) s = .next u) ∧
    (u.host.mayFetch f 0 = true → F.cmdOut < F.size 0 →
      (room = false → exec (.commandFetch f d now) s = .next u) ∧
      (room = true →
        (d.cmd = none ∨ d.headOk = false →
          exec (.commandFetch f d now) s = .next (fetched.fence f 1 0 (F.cons 0) now)) ∧
        (∀ c, d.cmd = some c → d.headOk = true →
          let t := fetched.submit (d.head f now) (some F.epoch) c d.argsOk
          exec (.commandFetch f d now) s =
            .next (if u.host.held < t.host.held then t.mapFn f (fun F => F.setFlight 0 (F.flight 0 + 1)) else t)))) ∧
    (let D := s.host.fn q.id.fn
     let w := doneBytes q (D.phase 1) (D.cons 0)
     let after := fun (t : State) (inHost : Bool) => (t.writeEntry q.id.fn 1 w now).mapFn q.id.fn (fun F => (F.commandOver inHost).bump .FN_RING_CNT 0)
     q.id.ep = some D.epoch → D.fstate ≠ 2 →
      (s.host.done = q :: rest → D.takes 1 = true →
        exec (.commandCompletion none now) s = .next ((after u true).hcx (fun H => { H with done := rest }))) ∧
      ((s.now l).fin = q :: rest → s.fenced l = false → D.takes 1 = true →
        exec (.commandCompletion (some l) now) s = .next ((after u false).mapLane l (fun L => { L with fin := rest }))) ∧
      (s.host.done = q :: rest → D.ring 1 = rRun → D.size 1 ≤ D.fill 1 → exec (.commandCompletion none now) s = .next u)) ∧
    (s.host.done = q :: rest → (∃ e, q.id.ep = some e ∧ e ≠ (s.host.fn q.id.fn).epoch) ∨ (s.host.fn q.id.fn).fstate = 2 →
      exec (.commandCompletion none now) s = .next (u.hcx (fun H => { H with done := rest })))

/-- A transmit descriptor is fetched while credits allow: with a bad length or reserved octets it fences the function,
with an express frame it is kept as refused and not sent, with its lane's link fenced it is done with status 2, else
its frame enters the lane's switch; the oldest one is written back when its frame is done, a refused one with status
1. A frame for the host goes to the next buffer of the first matching ring, and is counted where none matches or has a
buffer; it waits while no credit is free, and a buffer below 1,522 octets fences; the frame and the descriptor's
result are written. The oldest placed occurrence goes where its route sends it; an event that finds no entry is
dropped and counted, and when there is room an overflow entry with the count goes first. A ring with a message due
signals its vector, which waits in the PBA while masked and goes out when unmasked. Completes, with the next state
given: TRANSMIT_DESCRIPTOR, TRANSMIT_WRITE_BACK, RECEIVE_DELIVERY, EVENT_PLACEMENT, OVERFLOW_ENTRY, MSIX_MESSAGE,
MSIX_UNMASK. (R300, R307, R308, R309, R312, R313, R314). -/
def Obligations.RingsCarryFramesAndEvents : Prop :=
  ∀ (s : State) (f r v : Nat) (d : TxDesc) (b : RxDesc) (o : Occ) (rep : Nat) (rest : List (Occ × Nat)) (hrest : List (Occ × Nat × Nat))
    (ln i : Nat) (bad : Bool) (txs : List (Nat × Bool × LaneId)) (l : LaneId) (now : Int),
    let u := s.quiet
    let F := s.host.fn f
    let k := F.cons r
    let fetched := u.mapFn f (fun F => (F.setFld .FN_RING_IDX 15 0 (F.cons r + 1) r).takeCredit.setFlight r (F.flight r + 1))
    let noted := fun (bad : Bool) (z : LaneId) => fetched.mapFn f (fun F => { F with tx := F.tx.put r (F.tx.getD r [] ++ [(k, bad, z)]) })
    let hit := fun (x : TxDone) => x.fn == f && x.ring == r && x.idx == i
    let back := fun (t : State) (bytes : List Byte) =>
      (t.hcx (fun H => H.emit (.write f (F.entryAddr r i 64 + 0x20) bytes))).mapFn f (fun F =>
        let F := ((F.giveCredit.setFlight r (F.flight r - 1)).bump .FN_RING_CNT r).owe r now
        { F with tx := F.tx.put r txs })
    s.hostUp = true →
    (7 ≤ r → r < 11 → u.host.mayFetch f r = true →
      (d.good = false → exec (.transmitDescriptor f r d now) s = .next (fetched.fence f 2 r k now)) ∧
      (d.good = true → ∀ z, F.ringLane r = z →
        (txExpress (fetched.lane z).burstEtype d.frame = true → exec (.transmitDescriptor f r d now) s = .next (noted true z)) ∧
        (txExpress (fetched.lane z).burstEtype d.frame = false →
          ((noted false z).fenced z = true → exec (.transmitDescriptor f r d now) s = .next ((noted false z).mapLane z
            (fun L => { L with net := { L.net with txDone := L.net.txDone ++ [⟨f, r, k, 2, 0, []⟩] } }))) ∧
          ((noted false z).fenced z = false → exec (.transmitDescriptor f r d now) s =
            .next ((noted false z).mapLane z (Lane.hostFrame { d.frame with len := d.len + 4 } d.ports f r k)))))) ∧
    (F.tx.getD r [] = (i, bad, l) :: txs → F.ring r = rRun ∨ F.ring r = rDrain →
      (bad = true → exec (.transmitWriteBack f r now) s = .next (back u (txBytes 1 0 [] (fun _ => 0)))) ∧
      (bad = false → (s.now l).net.txDone.find? hit = none → exec (.transmitWriteBack f r now) s = .next u) ∧
      (bad = false → ∀ x, (s.now l).net.txDone.find? hit = some x →
        exec (.transmitWriteBack f r now) s = .next (back
          (u.mapLane l (fun L => { L with net := { L.net with txDone := L.net.txDone.filter (fun y => !hit y) } }))
          (txBytes x.status x.sent x.ts (s.now l).stamp)))) ∧
    (s.fenced l = false →
      ((s.now l).takeIn = none → exec (.receiveDelivery l b now) s = .next u) ∧
      (∀ M bf it cls, (s.now l).takeIn = some (M, bf, it, cls) →
        let t := u.mapLane l (fun _ => M)
        (u.host.rxRing l M.mac bf.frame = none → exec (.receiveDelivery l b now) s = .next (t.hcx (fun H => H.bump .HCX_RX_NOMATCH))) ∧
        (u.host.rxRing l M.mac bf.frame = some (f, r) →
          (F.fill r = 0 → exec (.receiveDelivery l b now) s = .next (t.mapFn f (fun F => F.bump .FN_RING_CNT r))) ∧
          (F.fill r ≠ 0 → u.host.mayHold f = false → exec (.receiveDelivery l b now) s = .next u) ∧
          (F.fill r ≠ 0 → u.host.mayHold f = true →
            let taken := t.mapFn f (fun F => F.setFld .FN_RING_IDX 15 0 (F.cons r + 1) r)
            let len := it.len - 4 - (if it.red.isSome then 6 else 0)
            (b.len < 1522 → exec (.receiveDelivery l b now) s = .next (taken.fence f 2 r k now)) ∧
            (1522 ≤ b.len → exec (.receiveDelivery l b now) s = .next ((taken.hcx (fun H =>
              (H.emit (.frame f b.addr { bf.frame with len := len, red := none })).emit (.write f (F.entryAddr r k 64 + 0x20)
                (rxBytes len bf.ingress cls ((bf.frame.tag.map (·.vid)).getD 0) (M.stamp bf.rx))))).mapFn f (fun F => F.owe r now))))))) ∧
    ((s.now l).placed = (o, rep) :: rest → s.fenced l = false → exec (.eventPlacement (some l) now) s =
      .next ((u.mapLane l (fun L => { L with placed := rest })).placeEvent l.num { o with src := l.srcBase + o.src } rep now)) ∧
    (s.host.placed = (o, ln, rep) :: hrest → exec (.eventPlacement none now) s =
      .next ((u.hcx (fun H => { H with placed := hrest })).placeEvent ln o rep now)) ∧
    ((∀ z, (s.now z).datum.beacons.get? f = none) → F.beacon = none →
      (F.lost = 0 → exec (.overflowEntry f now) s = .next u) ∧
      (F.lost ≠ 0 → F.ring 2 = rRun → F.takes 2 = true → exec (.overflowEntry f now) s =
        .next ((u.writeEntry f 2 (eventBytes 0 (F.phase 2) 0 2 0 0 now u.timeNum (leBytes 8 F.lost)) now).mapFn f
          (fun F => { F with lost := 0 })))) ∧
    (0 < r → r < 11 → F.ring r = rRun ∨ F.ring r = rDrain →
      (F.msgDue r now = true → exec (.msixMessage f r now) s =
        .next ((u.mapFn f (fun F => { F with owed := F.owed.del r })).signal f (F.fld .FN_RING_CFG 21 16 r))) ∧
      (F.msgDue r now = false → exec (.msixMessage f r now) s = .next u)) ∧
    (v < (if f = 0 then 64 else 8) → s.host.hasFn f = true → F.unmask.testBit v = false →
      let t := u.mapFn f (fun F => { F with unmask := F.unmask + 2 ^ v })
      (F.flag .FN_PBA (v % 32) (v / 32) = false → exec (.msixUnmask f v) s = .next t) ∧
      (F.flag .FN_PBA (v % 32) (v / 32) = true → exec (.msixUnmask f v) s =
        .next ((t.mapFn f (fun F => F.setFlag .FN_PBA (v % 32) false (v / 32))).signal f v)))

/-- A read of an aligned word gives the register's value, zero where no register lies, all ones where the lane link is
fenced or PD_x01 is off; a register of the host complex that a read of its LO has latched gives the latched value
once, and a LO latches its HI. A write that is not one aligned word, or two for 8 octets, has no effect, nor one to no
register, to a read-only lane register, or to a lane that is out of reach or whose block is off; a write to a writable
lane register sets what its mask allows, and to a W1C register clears what it names. A ring's base changes only with
its HI, which commits the LO written before. Completes, with the next state given: REGISTER_READ_LO,
REGISTER_WRITE_HI, REGISTER_WRITE. (R6, R7, R8, R297, R461, R462, R464). -/
def Obligations.RegistersFollowTheirAccess : Prop :=
  ∀ (s : State) (f addr width value raw i j : Nat) (r : Reg) (l : LaneId) (v : Word) (now : Int),
    let u := s.quiet
    let gives := fun (t : State) (v : Word) => t.hcx (fun H => H.emit (.value v))
    s.hostUp = true →
    (addr % 4 = 0 →
      (regRef f addr = none → (∀ k w o, barAt f addr = some (.lane k, w, o) → u.windowDark k = false) →
        exec (.registerReadLo f addr 4 raw) s = .next (gives u 0)) ∧
      (∀ w o, barAt f addr = some (.lane l, w, o) → u.windowDark l = true →
        exec (.registerReadLo f addr 4 raw) s = .next (gives u 0xFFFFFFFF#32)) ∧
      (regRef f addr = some ⟨.host, r, i, j⟩ →
        (∀ v, u.host.latch.get? (r.key i j) = some v → exec (.registerReadLo f addr 4 raw) s =
          .next (gives (u.hcx (fun H => { H with latch := H.latch.del (r.key i j) })) v)) ∧
        (u.host.latch.get? (r.key i j) = none → r.latches = [] →
          exec (.registerReadLo f addr 4 raw) s = .next (gives u (u.viewHost r i j))) ∧
        (∀ h, u.host.latch.get? (r.key i j) = none → r.latches = [h] → exec (.registerReadLo f addr 4 raw) s =
          .next (gives (u.hcx (fun H => { H with latch := H.latch.put (h.key i j) (u.viewHost h i j) })) (u.viewHost r i j)))) ∧
      (regRef f addr = some ⟨.lane l, r, i, j⟩ → u.windowDark l = false → u.latchOf (.lane l) = ⟨[]⟩ → r.latches = [] →
        exec (.registerReadLo f addr 4 raw) s = .next (gives u (u.viewReg raw ⟨.lane l, r, i, j⟩)))) ∧
    (∀ c ∈ [Instr.registerWrite f addr width value now, .registerWriteHi f addr width value now],
      isDoorbell f addr = false →
      ((width ≠ 4 ∨ addr % 4 ≠ 0) → (width ≠ 8 ∨ addr % 8 ≠ 0) → exec c s = .next u) ∧
      (width = 4 → addr % 4 = 0 →
        (regRef f addr = none → exec c s = .next u) ∧
        (regRef f addr = some ⟨.lane l, r, i, j⟩ →
          (u.windowDark l = true ∨ (u.lane l).flag .PWR_PD (Reg.domain r.info.off) = false → exec c s = .next u) ∧
          (u.windowDark l = false → (u.lane l).flag .PWR_PD (Reg.domain r.info.off) = true → r ≠ .TRM_BSP_LOCK → r ≠ .SWM_WAKE_TX →
            (r.info.acc = .ro → exec c s = .next (u.mapLane l (fun L => L))) ∧
            (r.info.acc = .rw ∨ r.info.acc = .rws → exec c s = .next (u.mapLane l (fun L =>
              L.setReg r ((L.reg r i j &&& ~~~w32 r.info.wm) ||| (w32 value &&& w32 r.info.wm)) i j))) ∧
            (r.info.acc = .w1c → exec c s = .next (u.mapLane l (fun L =>
              L.setReg r (L.reg r i j &&& ~~~(w32 value &&& w32 r.info.wm)) i j))))))) ∧
    (∀ g, s.host.hasFn g = true → (s.host.fn g).ring i = rOff →
      let key := Reg.FN_RING_BASE_LO.key i 0
      (regRef f addr = some ⟨.page g, .FN_RING_BASE_LO, i, 0⟩ → isDoorbell f addr = false → addr % 4 = 0 →
        exec (.registerWrite f addr 4 value now) s = .next (u.mapFn g (fun F => { F with staged := F.staged.put key (w32 value) }))) ∧
      (regRef f addr = some ⟨.page g, .FN_RING_BASE_HI, i, 0⟩ → isDoorbell f addr = false → addr % 4 = 0 →
        (s.host.fn g).staged.get? key = some v →
        exec (.registerWriteHi f addr 4 value now) s = .next (u.mapFn g (fun F =>
          (({ F with staged := F.staged.del key } : Fn).setReg .FN_RING_BASE_LO v i).setReg .FN_RING_BASE_HI (w32 value) i))))

/-- A reset of a function that exists leaves it in RESETTING with its rings OFF, its registers at reset and its
earlier commands without completion, and gives back its credits at its end with event 0x02; of one that does not exist
it does nothing; a Function Level Reset of PF0 resets all and clears VF Enable. A PCIe link that goes down, and a hot
reset, reset every function; a link that trains is shown; the endpoint acts while it is powered and the module may
serve. VF Enable makes functions exist, or resets those that cease. A lane link overdue is fenced with event 0x01, and
its finished and waiting commands and a migration's SWITCH complete with LINKF. The watchdog's warm reset takes the
host complex down and leaves every lane waiting for its start, unless parked, with the safety lane as it was.
Completes, with the next state given: FUNCTION_RESET, HCX_FN_RESET, FUNCTION_LEVEL_RESET, FUNCTION_RESET_COMPLETE,
PCIE_LINK_DOWN, HOT_RESET, LANE_LINK_TIMEOUT, HOST_WATCHDOG_EXPIRY, PCIE_LINK_UP, VF_ENABLE. (R9, R12, R23, R293,
R295, R315, R316). -/
def Obligations.HostResetsAndLinks : Prop :=
  ∀ (s : State) (f n speed width : Nat) (ecrc : Bool) (l : LaneId) (now : Int),
    let u := s.quiet
    (s.hostUp = true →
      (s.host.hasFn f = true →
        (∀ c ∈ [Instr.functionReset f, .hcxFnReset f], exec c s = .next (u.resetFn f)) ∧
        ∃ t, exec (.functionReset f) s = .next t ∧ (t.host.fn f).fstate = 3 ∧ (∀ r, r < 11 → (t.host.fn f).ring r = rOff) ∧
          (t.host.fn f).epoch = (s.host.fn f).epoch + 1 ∧ (t.host.fn f).owed = ⟨[]⟩) ∧
      (s.host.hasFn f = false → ∀ c ∈ [Instr.functionReset f, .hcxFnReset f], exec c s = .next u) ∧
      exec (.functionLevelReset f) s = .next (if f = 0 then u.resetAllFns.vfEnable 0 else u.resetFn f) ∧
      ((s.host.fn f).fstate = 3 → exec (.functionResetComplete f now) s = .next ((u.mapFn f (fun F =>
        (F.setFld .FN_STAT 31 30 1).setFld .FN_OUTST 16 0 0)).raiseHost 4 0x02 now (leBytes 1 f))) ∧
      ((s.host.fn f).fstate ≠ 3 → exec (.functionResetComplete f now) s = .next u) ∧
      exec (.hotReset) s = .next u.resetAllFns ∧
      (∃ t, exec (.vfEnable n) s = .next t ∧ t.host.vfs = min n 63 ∧ ∀ k, k < 64 → t.host.hasFn k = decide (k ≤ min n 63)) ∧
      (s.fenced l = false → ∃ t, exec (.laneLinkTimeout l now) s = .next t ∧ t.fenced l = true ∧ (t.lane l).fin = [] ∧
        (∀ x ∈ (t.lane l).pend, x.id.quiet = true) ∧ t.host.occ = s.host.occ ++ [(⟨1, 0x01, (hostEvent 1 0x01).1, (hostEvent 1 0x01).2,
          now, leBytes 1 l.num⟩, u.timeNum)] ∧
        (∀ x ∈ (s.now l).pend, x.id.quiet = false → (⟨x.id, 0x000A, []⟩ : Done) ∈ t.host.done) ∧
        (∀ m ∈ s.host.migs, m.src = l → m.froze = true → ∀ i, m.switch = some i → i.quiet = false → (⟨i, 0x000A, []⟩ : Done) ∈ t.host.done) ∧
        ∀ d ∈ (s.now l).fin, d.id.quiet = false → (⟨d.id, 0x000A, []⟩ : Done) ∈ t.host.done) ∧
      (s.fenced l = true → exec (.laneLinkTimeout l now) s = .next u)) ∧
    (s.endpointUp = true →
      exec (.pcieLinkDown now) s = .next ((u.resetAllFns.hcx (fun H => H.setReg .HCX_PCIE_STAT 0)).raiseHost 3 0x01 now) ∧
      exec (.pcieLinkUp speed width ecrc) s = .next (u.hcx (fun H =>
        H.setReg .HCX_PCIE_STAT (w32 (speed % 16 * 2 ^ 28 + width % 16 * 2 ^ 24 + bnat ecrc * 65536))))) ∧
    (s.endpointUp = false → exec (.pcieLinkDown now) s = .next u ∧ exec (.pcieLinkUp speed width ecrc) s = .next u) ∧
    (s.hostOn = true → ∃ t, exec (.hostWatchdogExpiry now) s = .next t ∧ t = u.warmReset true now ∧ t.power.hcxUp = false ∧
      t.power.queue = (if s.power.mstate = .parked then [] else LaneId.all) ∧
      t.power.mstate = (if s.power.mstate = .parked then .parked else .starting) ∧ t.safety = s.safety) ∧
    (s.hostOn = false → exec (.hostWatchdogExpiry now) s = .next u)

/-- A capture that has ended and waits for no more events takes the next record ID and leaves the engine, and its
record goes to the staging area while the lane link is open; a full output buffer truncates every capture; the next
segment of the first record to be sent leaves and its position moves on, unless the intake queue of TC3 holds it back.
An NVMe command that succeeds has its effect, one that fails waits to be tried once more, and a second failure or an
overdue completion is a FAULT; a page of an attached archive whose PCIe link is up is committed, with the pages that
its record ties to it, each to the slot that does not hold its newest copy; recovery ends in ATTACHED, or in FAULT
where header or E is wrong or a page has no standing copy. The oldest occurrence of a lane whose book is restored, or
of a host complex whose book is powered, is booked by R345, a safety entry of the host at once in NOR; the oldest
flush makes its copy stand and completes its command; the general class is saved to NOR. Completes, with the next
state given: CAPTURE_END, BUFFER_FULL, RECORD_TRANSFER_FRAME, NVME_COMPLETION, NVME_OVERDUE, CATALOGUE_COMMIT,
RECOVERY_COMPLETE, FIELD_BOOK_OCCURRENCE, FIELD_BOOK_FLUSH_END, GENERAL_CLASS_NOR_SAVE. (R329, R334, R335, R336, R337,
R340, R342, R344, R345, R347, R395). -/
def Obligations.RecordsAndBooksAreKept : Prop :=
  ∀ (s : State) (l : LaneId) (d cid status n e ln : Nat) (data : List Byte) (ok again : Bool) (c : NvmeCmd) (id : CmdId) (b : Book)
    (o : Occ) (orest : List Occ) (hrest : List (Occ × Nat)) (frest : List (Book × Option CmdId)) (x : ArcRead) (now : Int),
    let u := s.quiet
    let L := s.now l
    let A := u.host.arc
    (let rid := (u.host.reg .HCX_ARC_RECID_HI).toNat * 2 ^ 32 + (u.host.reg .HCX_ARC_RECID_LO).toNat
     let next := (rid + 1) % 2 ^ 48
     let t := (u.mapLane l (fun M => M.capFinish l.num rid d)).hcx (fun H =>
       (H.setReg .HCX_ARC_RECID_LO (w32 next)).setReg .HCX_ARC_RECID_HI (w32 (next / 2 ^ 32)))
     (L.acq.caps.any (fun x => x.d == d && x.whole) = true → s.fenced l = true → exec (.captureEnd l d) s = .next t) ∧
     (L.acq.caps.any (fun x => x.d == d && x.whole) = true → s.fenced l = false → (t.lane l).acq.out.filter (·.host) = [] →
       let kept := fun (r : OutRec) => if r.net.isSome then some { r with host := false } else if r.host then none else some r
       exec (.captureEnd l d) s = .next (t.mapLane l (fun M => { M with acq := { M.acq with out := M.acq.out.filterMap kept } }))) ∧
     (L.acq.caps.any (fun x => x.d == d && x.whole) = true → s.fenced l = false → ∀ r, (t.lane l).acq.out = [r] → r.host = true → r.net = none →
       exec (.captureEnd l d) s = .next ((t.mapLane l (fun M => { M with acq := { M.acq with out := [] } })).stageRecord
         ⟨r.id, l.num, bit (w32 (leAt r.bytes 4 4)) 7, r.bytes, [], 0⟩ (L.refEdge : Nat)))) ∧
    (L.outFill < 67108864 → exec (.bufferFull l) s = .next (s.put l (L.setFlag .ACQ_STAT 28 false))) ∧
    (67108864 ≤ L.outFill → exec (.bufferFull l) s = .next (s.put l (L.setFlag .ACQ_STAT 28 true).capsTrunc)) ∧
    (L.net.inOff.testBit 3 = true ∨ L.acq.out.find? (fun r => r.net.isSome) = none → exec (.recordTransferFrame l) s = .next (s.put l L)) ∧
    (∀ r off, L.net.inOff.testBit 3 = false → L.acq.out.find? (fun r => r.net.isSome) = some r → r.net = some off →
      let seg := (r.bytes.drop off).take 1400
      let next := off + seg.length
      let body := L.segmentBytes l.num r.id off seg
      let M : Lane := { L with acq := { L.acq with out := L.acq.out.filterMap (fun z =>
        if z.id = r.id then
          (let y := { z with net := if r.bytes.length ≤ next then none else some next }
           if y.host = true ∨ y.net.isSome = true then some y else none)
        else some z) } }
      exec (.recordTransferFrame l) s = .next (s.put l (M.sendOwn
        { dst := L.fld .ACQ_NET_DMAC_HI 15 0 * 2 ^ 32 + (L.reg .ACQ_NET_DMAC_LO).toNat, src := L.mac, tag := some ⟨L.fld .ACQ_NET_CFG 11 0, 3⟩,
          etype := if L.flag .INT_CFG 0 then 0x88B6 else 0x88B5, len := 18 + body.length + 4, ecn := none, red := none,
          body := .record body } 3 (L.fld .ACQ_NET_CFG 28 25)))) ∧
    (s.hostUp = true →
      (A.out.get? cid = none → exec (.nvmeCompletion cid status data now) s = .next u ∧ exec (.nvmeOverdue cid now) s = .next u) ∧
      (A.out.get? cid = some (c, again) →
        let t := u.hcx (fun H => (H.setArc { H.arc with out := H.arc.out.del cid }).tookCqe)
        exec (.nvmeOverdue cid now) s = .next (u.arcFail 0 now) ∧
        (status = 0 → exec (.nvmeCompletion cid status data now) s = .next ((t.nvmeOk c data now).arcRun now)) ∧
        (status ≠ 0 → again = true → exec (.nvmeCompletion cid status data now) s = .next (t.arcFail status now)) ∧
        (status ≠ 0 → again = false → exec (.nvmeCompletion cid status data now) s =
          .next ((t.hcx (fun H => H.setArc { H.arc with retry := H.arc.retry ++ [c] })).arcRun now))) ∧
      (u.host.arcState ≠ aAttached ∨ u.host.linkUp = false ∨ A.dirty.contains n = false → exec (.catalogueCommit n now) s = .next u) ∧
      (u.host.arcState = aAttached → u.host.linkUp = true → A.dirty.contains n = true →
        let page := fun (H : Hcx) (k : Nat) =>
          let newest := H.arc.pageSeq.getD k (0, false)
          let w : NvmeCmd := ⟨1, slotOff k (!newest.2), 4096, true, pageOf H.entryOf k (newest.1 + 1), .page k⟩
          H.setArc { H.arc with dirty := H.arc.dirty.filter (fun y => y != k), pageSeq := H.arc.pageSeq.put k (newest.1 + 1, !newest.2),
                                todo := H.arc.todo ++ [w] }
        exec (.catalogueCommit n now) s = .next ((u.hcx (fun H =>
          let G := (A.commitOf n).foldl page H
          G.setArc { G.arc with tied := G.arc.tied.filter (fun g => !g.contains n) })).arcRun now)) ∧
      (A.recover = none → exec (.recoveryComplete ok e x now) s = .next u) ∧
      (A.recover = some id → ok = false ∨ e ≠ u.host.extents ∨ (∃ n, n < ceilDiv u.host.extents 255 ∧ standing x n = none) →
        ∃ t, exec (.recoveryComplete ok e x now) s = .next t ∧
        t.host.arcState = aFault ∧ t.host.arc.recover = none ∧ t.host.done = u.host.done ++ [⟨id, 0x0103, []⟩]) ∧
      (A.recover = some id → ok = true → e = u.host.extents → (∀ n, n < ceilDiv u.host.extents 255 → standing x n ≠ none) →
        ∃ t, exec (.recoveryComplete ok e x now) s = .next t ∧
        t.host.arcState = aAttached ∧ t.host.arc.recover = none ∧ t.host.done = u.host.done ++ [⟨id, 0, leBytes 8 e⟩]) ∧
      ∃ t, exec (.generalClassNorSave) s = .next t ∧ t.host.nor.gen = s.host.book.gen ∧ t.host.nor.safe = s.host.nor.safe ∧
        t.host.book = s.host.book) ∧
    (L.phase < 7 → exec (.fieldBookOccurrence (some l)) s = .next u) ∧
    (7 ≤ L.phase → L.occ = o :: orest → ∃ t, exec (.fieldBookOccurrence (some l)) s = .next t ∧ (t.lane l).occ = orest ∧
      (t.lane l).book = (L.book.enter 2048 14336 (l.srcBase + o.src) o).book) ∧
    (u.hDomains.testBit 7 = false → exec (.fieldBookOccurrence none) s = .next u) ∧
    (u.hDomains.testBit 7 = true → s.host.occ = (o, ln) :: hrest → ∃ t, exec (.fieldBookOccurrence none) s = .next t ∧
      t.host.occ = hrest ∧ t.host.book = (s.host.book.enter 1024 3072 o.src o).book ∧
      (o.safe = true → t.host.nor.safe = t.host.book.safe) ∧ (o.safe = false → t.host.nor = s.host.nor)) ∧
    (L.flush = [] → exec (.fieldBookFlushEnd l) s = .next (s.put l L)) ∧
    (L.flush = (b, none) :: frest → exec (.fieldBookFlushEnd l) s = .next (s.put l { L with saved := some b, flush := frest })) ∧
    (L.flush = (b, some id) :: frest →
      exec (.fieldBookFlushEnd l) s = .next (s.put l (({ L with saved := some b, flush := frest } : Lane).finish id 0)))

/-- While its domains are on: SEAL is read once, a wrong configuration is the safe state with cause 1, and a later
difference is cause 2; a contact's level changes by the filter of R358, in the safe state by the last sample, and
pairs not in use keep theirs; a source that does not switch off is cause 0xC, and a closed contact that reads high in
its own off-pulse latches a fault; a pair that still differs after the discrepancy time latches a fault and is in
demand unless it is the reset pair; a cycle counts one millisecond, applies the brakes on any demand, releases them
only in RUN with no demand, no sag, no failed and no running holding test, and never leaves the safe state. With its
domains off nothing changes. Completes, with the next state given: SEAL_READ, SEAL_SAMPLE, INPUT_SAMPLE, TEST_PULSE,
SAFETY_CYCLE, DISCREPANCY_TIMEOUT. (R354, R355, R357, R358, R359, R360, R361, R363, R368, R369). -/
def Obligations.SafetyLaneJudgesItsInputs : Prop :=
  ∀ (s : State) (w : Word) (a b i source rdbk c0 c1 ce : Nat) (ba bb off : Bool),
    let u := s.quiet
    let x := s.safety
    let toS := fun (y : Safety) => ({ u with safety := y } : State)
    (s.safetyOn = false → ∀ c ∈ [Instr.sealRead w, .sealSample w, .inputSample a b ba bb, .testPulse source a b off,
        .safetyCycle rdbk c0 c1 ce, .discrepancyTimeout i], exec c s = .next u) ∧
    (s.safetyOn = true →
      (x.seals = none →
        let y := ({ x with seals := some w } : Safety).event 961 0x01 (leBytes 4 w.toNat ++ leBytes 2 (sealCrc w))
        exec (.sealRead w) s = .next (toS (if y.cfgOk = true then y else (y.event 961 0x02).fail 1))) ∧
      (x.seals.isSome = true → exec (.sealRead w) s = .next (toS x)) ∧
      (x.st ≠ sSafe → x.seals.isSome = true → x.seals ≠ some w → exec (.sealSample w) s = .next (toS ((x.event 961 0x03).fail 2))) ∧
      (x.st = sSafe ∨ x.seals = some w ∨ x.seals = none → exec (.sealSample w) s = .next (toS x)) ∧
      (∃ t, exec (.inputSample a b ba bb) s = .next t ∧ t.safety.st = x.st ∧ t.safety.cmd = x.cmd ∧ ∀ j, j < 8 →
        let p := x.pair j
        let q := t.safety.pair j
        (x.used j = false → q = p) ∧
        (x.used j = true → (q.sa, q.ra, q.a) = filterStep x.filterN p.sa (a.testBit j) (ba || x.st == sSafe) p.a p.ra ∧
          (q.sb, q.rb, q.b) = filterStep x.filterN p.sb (b.testBit j) (bb || x.st == sSafe) p.b p.rb)) ∧
      (x.st ≠ sSafe → off = false → exec (.testPulse source a b off) s = .next (toS (x.fail 0xC))) ∧
      (x.st ≠ sSafe → off = true → i < 8 → x.used i = true → (if source = 0 then (x.pair i).a else (x.pair i).b) = true →
        (if source = 0 then a else b).testBit i = true → ∃ t, exec (.testPulse source a b off) s = .next t ∧ (t.safety.pair i).fault = true) ∧
      (i < 8 → x.used i = true → (x.pair i).fault = false → (∃ n, (x.pair i).timer = some n ∧ x.discMs ≤ n) →
        ∃ t, exec (.discrepancyTimeout i) s = .next t ∧ (t.safety.pair i).fault = true ∧
          ((t.safety.pair i).dem = true ↔ ¬(x.manual = true ∧ i = 6)) ∧ (i ≠ 7 ∨ x.ht = .idle → t.safety.events = x.events ++ [(963 + i, 0x03, [])])) ∧
      (∀ n, (x.pair i).timer = some n → n < x.discMs → exec (.discrepancyTimeout i) s = .next (toS x)) ∧
      ∃ t, exec (.safetyCycle rdbk c0 c1 ce) s = .next t ∧ t.safety.uptime = (x.uptime + 1) % 2 ^ 32 ∧
        (t.safety.demand = true → t.safety.cmd = 0) ∧
        (x.cmd = 0 → t.safety.cmd ≠ 0 → t.safety.st = sRun ∧ t.safety.demand = false ∧ t.safety.sag = false ∧
          t.safety.htfail = false ∧ t.safety.ht = .idle) ∧
        (x.st = sSafe → t.safety.st = sSafe ∧ t.safety.cause = x.cause))

/-- A switch-test round that is due counts when every readback is right and is cause 9 when one in use is wrong; coil
currents wrong for 20 cycles are cause 0xA; the holding-test window opens 200 ms after the brakes applied, ends PASS
after a second when the request ends or after 10 s, ABORTED before, and FAIL at once beyond the limit; a diagnostic
failure or a missed watchdog is the safe state with its cause; START goes to RUN when the seals are read and valid and
firmware runs; a sag opens every switch; the status window is copied with its sequence number and the events are
stamped, while the receiver of the host complex is on, and wait for it while it is off; after a sag the lane begins
again; pages out of order or with a wrong CRC-32 start the transfer again, a page in order moves the offset on.
Completes, with the next state given: SWITCH_TEST_ROUND, COIL_CURRENT_FAILURE, HOLDING_TEST_WINDOW_OPEN,
HOLDING_TEST_WINDOW_CLOSE, SPEED_PULSE, DIAGNOSTIC_FAILURE, WATCHDOG_MISS, SAFETY_START_COMPLETE, SAFETY_SAG,
SAFETY_STATUS, PROGRAMMING_PAGE. (R364, R365, R366, R367, R368, R369, R370, R372, R373, R414, R449). -/
def Obligations.SafetyLaneActs : Prop :=
  ∀ (s : State) (bad : Option Nat) (brake input cause offset t : Nat) (h : FwHeader) (page : ProgPage) (now : Int),
    let u := s.quiet
    let x := s.safety
    let toS := fun (y : Safety) => ({ u with safety := y } : State)
    s.safetyOn = true →
    (x.st = sRun → x.cmd ≠ 0 → x.testEvery ≤ x.testMs →
      let y : Safety := { x with testMs := 0 }
      (∀ i, bad = some i → i < 2 ∨ (x.bk1 = true ∧ i < 4) → exec (.switchTestRound bad) s = .next (toS ((y.event (971 + i / 2) 0x02).fail 9))) ∧
      (bad = none → ∃ v, exec (.switchTestRound bad) s = .next v ∧ v.safety.testCnt = (x.testCnt + 1) % 2 ^ 32 ∧ v.safety.testMs = 0 ∧
        v.safety.st = sRun ∧ v.safety.cmd = x.cmd)) ∧
    (x.st ≠ sRun ∨ x.cmd = 0 ∨ x.testMs < x.testEvery → exec (.switchTestRound bad) s = .next (toS x)) ∧
    (brake < 2 → x.st ≠ sSafe → 20 ≤ (if brake = 0 then x.badCoil0 else x.badCoil1) →
      exec (.coilCurrentFailure brake) s = .next (toS ((x.event (971 + brake) 0x03).fail 0xA))) ∧
    ((if brake = 0 then x.badCoil0 else x.badCoil1) < 20 → exec (.coilCurrentFailure brake) s = .next (toS x)) ∧
    (x.ht = .waiting → x.cmd = 0 →
      exec (.holdingTestWindowOpen) s = .next (toS (if 200 ≤ x.since then { x with ht := .window 0, sp0 := 0, sp1 := 0, win := 0 } else x))) ∧
    (x.ht = .window t →
      (x.request = true → t < 10000 → exec (.holdingTestWindowClose) s = .next (toS x)) ∧
      (x.request = false ∨ 10000 ≤ t → exec (.holdingTestWindowClose) s = .next (toS (x.htEnd (if 1000 ≤ t then 1 else 3)))) ∧
      (let y : Safety := if input = 0 then { x with sp0 := min 65535 (x.sp0 + 1) } else { x with sp1 := min 65535 (x.sp1 + 1) }
       exec (.speedPulse input) s = .next (toS (if x.sw 8 < (if input = 0 then y.sp0 else y.sp1) then y.htEnd 2 else y)))) ∧
    (x.ht = .idle → exec (.speedPulse input) s = .next (toS x) ∧ exec (.holdingTestWindowClose) s = .next (toS x)) ∧
    (x.st ≠ sSafe →
      (∃ v, exec (.watchdogMiss) s = .next v ∧ v.safety.st = sSafe ∧ v.safety.cause = 7 ∧ v.safety.cmd = 0) ∧
      (0 < cause → cause ≤ 12 → ∃ v, exec (.diagnosticFailure cause) s = .next v ∧ v.safety.st = sSafe ∧ v.safety.cause = cause ∧
        v.safety.cmd = 0)) ∧
    (x.st = sStart → x.held = false → x.sag = false → x.seals.isSome = true → x.cfgOk = true → x.flash.run.isSome = true →
      exec (.safetyStartComplete) s = .next (toS (({ x with st := sRun } : Safety).event 960 0x01))) ∧
    (x.st ≠ sStart ∨ x.held = true ∨ x.sag = true ∨ x.seals = none ∨ x.cfgOk = false ∨ x.flash.run = none →
      exec (.safetyStartComplete) s = .next (toS x)) ∧
    (s.power.mstate = .holdUp → ∃ v, exec (.safetySag) s = .next v ∧ (x.sag = false → v.safety.cmd = 0) ∧ v.safety.sag = true ∧ v.safety.st = x.st) ∧
    (s.power.mstate ≠ .holdUp → exec (.safetySag) s = .next u) ∧
    (s.receiverOn = true → x.sag = false →
      let stamped := x.events.foldl (fun (v : State) e => v.raiseHost e.1 e.2.1 now e.2.2) u
      let shown := stamped.hcx (fun H => (x.window.foldl (fun (H : Hcx) r => H.setReg r.1 r.2) H).bump .SFS_SEQ)
      exec (.safetyStatus now) s = .next { shown with safety := { x with events := [] } }) ∧
    (s.receiverOn = false → x.sag = false → exec (.safetyStatus now) s = .next u) ∧
    (x.sag = true → ∃ v, exec (.safetyStatus now) s = .next v ∧ v.safety = { Safety.fresh with flash := x.flash } ∧ v.safetyOn = false) ∧
    (x.held = true →
      let hdr := if offset = 0 then fwRead page.octets h else x.hdr.getD h
      (pageCrcOk page offset = false ∨ offset ≠ x.page → exec (.programmingPage offset h page) s = .next (toS x.pageBad)) ∧
      (pageCrcOk page offset = true → offset = x.page → offset + 256 < 4096 + hdr.len →
        ∃ v, exec (.programmingPage offset h page) s = .next v ∧ v.safety.page = offset + 256 ∧ v.safety.hdr = some hdr ∧
          v.safety.pstOk = some true)) ∧
    (x.held = false → exec (.programmingPage offset h page) s = .next (toS x))

/-- Power-good of at least 16 V from OFF begins a start; the stages S, H1 and H2 switch their domains on in order; a
capacitance outside 800 to 4,400 microfarads, or no HOLD_OK in time, is HOLD_LOW with its event, and HOLD_OK needs 46
V; the host complex is ready when it passed, runs verified firmware and every domain that it or any service needs is
on, or the lanes start without it; the stage of the first lane in the queue begins once the host and hold-up are
decided and no other lane is in its stage; the memory self-test records its results, the logic self-test the
partitions whose signature differs from its benchmark, and a lane that may not serve is held; the generation check
sets HOLD where it fails; a lane whose datum is set enters service at the level that these allow. Completes, with the
next state given: POWER_GOOD, STAGE_START, HOST_COMPLEX_READY, LANE_START, MEMORY_SELF_TEST_END, LOGIC_SELF_TEST_END,
GENERATION_CHECK, LANE_ENTER_SERVICE, HOLD_UP_CHARGE_MEASURE, HOLD_OK, HOLD_LOW_TIMEOUT. (R382, R383, R384, R385,
R386, R387, R388, R389, R390, R407). -/
def Obligations.StartRunsItsStages : Prop :=
  ∀ (s : State) (l : LaneId) (vin t ms fail repair rows cols : Nat) (low ok : Bool) (pipes others : List Nat) (rest : List LaneId) (now : Int),
    let u := s.quiet
    let L := s.now l
    let H := s.host
    let bad := bitsWhere (fun i => decide ((pipes ++ others).getD i 0 ≠ (Config.benchmark i).toNat)) 11
    (s.power.mstate = .off → 16000 ≤ vin → ∃ v, exec (.powerGood vin low) s = .next v ∧ v.power = Power.fresh ∧
      v.hDomains = 0 ∧ v.stage_ = 0) ∧
    (s.power.mstate ≠ .off ∨ vin < 16000 → exec (.powerGood vin low) s = .next u) ∧
    (s.power.mstate = .starting →
      (s.stage_ = 0 → exec (.stageStart) s = .next ((u.hcx (fun H => H.setFld .HCX_PD_STAT 15 12 15)).setStage 1)) ∧
      (s.stage_ = 1 → exec (.stageStart) s = .next ((u.setH (u.hDomains ||| 0xAB)).setStage 2)) ∧
      (s.stage_ = 2 → exec (.stageStart) s = .next ((u.setH 0xFF).setStage 3)) ∧
      (H.flag .HCX_PWR_STAT 26 = false → H.flag .HCX_PWR_STAT 25 = false → exec (.holdLowTimeout now) s = .next (u.holdLow now))) ∧
    (s.power.mstate ≠ .starting → exec (.stageStart) s = .next u ∧ exec (.holdLowTimeout now) s = .next u) ∧
    (s.power.mstate ≠ .off →
      (let v := u.hcx (fun H => H.setReg .HCX_PWR_CAP (w32 (min 65535 (t / 300))))
       exec (.holdUpChargeMeasure t now) s = .next (if t / 300 < 800 ∨ 4400 < t / 300 then v.holdLow now else v)) ∧
      (46000 ≤ vin → 800 ≤ H.fld .HCX_PWR_CAP 15 0 → exec (.holdOk vin) s = .next (u.hcx (fun H =>
        (H.setReg .HCX_PWR_VHOLD (w32 (min 65535 vin))).setFlag .HCX_PWR_STAT 26 true))) ∧
      (vin < 46000 → exec (.holdOk vin) s = .next u)) ∧
    (s.power.mstate = .starting ∨ s.power.mstate = .parked → 3 ≤ s.stage_ → s.power.hcxUp = false → H.flag .HCX_PWR_STAT 24 = false →
      (ok = true → H.flash.run.isSome = true → s.hDomains = 0xFF → s.anyService = true → ∃ v, exec (.hostComplexReady ok ms now) s = .next v ∧
        v.power.hcxUp = true ∧ v.host.reg .HCX_START_T = w32 (min 65535 ms)) ∧
      (ok = false ∨ H.flash.run = none ∨ s.hDomains ≠ 0xFF ∨ s.anyService = false → ∃ v, exec (.hostComplexReady ok ms now) s = .next v ∧
        v.power.hcxUp = false ∧ v.host.flag .HCX_PWR_STAT 24 = true)) ∧
    (s.power.mstate = .starting → s.anyService = true → s.power.queue = l :: rest → s.power.hcxUp = true ∨ H.flag .HCX_PWR_STAT 24 = true →
      H.flag .HCX_PWR_STAT 26 = true ∨ H.flag .HCX_PWR_STAT 25 = true → (∀ k, (s.now k).inStage = false) →
      ∃ v, exec (.laneStart l) s = .next v ∧ (v.lane l).phase = 2 ∧ v.power.queue = rest ∧ v.stage_ = 4 + l.num ∧
        (v.lane l).reg .PWR_PD = 0xFFFFF#32 ∧ ∀ k, k ≠ l → v.lane k = u.lane k) ∧
    (s.power.queue.head? ≠ some l ∨ s.anyService = false ∨ (∃ k, (s.now k).inStage = true) → exec (.laneStart l) s = .next u) ∧
    (L.phase = 2 → ∃ v, exec (.memorySelfTestEnd l fail repair rows cols ms now) s = .next v ∧ (v.lane l).phase = 3 ∧
      (v.lane l).reg .PWR_MBIST_STAT = w32 (repair % 2048 * 65536 + fail % 2048) ∧
      (v.lane l).flag .PWR_STAT 25 = (repair % 2048 != 0)) ∧
    (L.phase ≠ 2 → exec (.memorySelfTestEnd l fail repair rows cols ms now) s = .next (s.put l L)) ∧
    (L.phase = 3 → ∃ v, exec (.logicSelfTestEnd l pipes others ms now) s = .next v ∧
      ((v.lane l).phase = 4 ∨ (v.lane l).phase = 9) ∧
      (logicResult bad = 3 ∨ memResult (L.fld .PWR_MBIST_STAT 10 0) = 3 → (v.lane l).phase = 9) ∧
      (v.lane l).reg .PWR_LBIST_FAIL = w32 (bad % 2048)) ∧
    (L.phase = 5 → ∃ v, exec (.generationCheck l now) s = .next v ∧ (v.lane l).phase = 7 ∧
      (L.flash.imgSlot = none → (v.lane l).flag .PWR_STAT 24 = true)) ∧
    (L.phase ≠ 5 → exec (.generationCheck l now) s = .next u) ∧
    (L.phase = 7 → L.dstate ≠ dUnset → L.keys.lifecycle ≠ 4 → exec (.laneEnterService l ms t) s =
      .next ((((u.mapLane l (Lane.toService ms)).hcx (fun H => H.setReg .HCX_START_T (w32 (min 65535 t)) (l.num + 1))).tickEdge l).startDone)) ∧
    (L.phase ≠ 7 ∨ L.dstate = dUnset ∨ L.keys.lifecycle = 4 → exec (.laneEnterService l ms t) s = .next u)

/-- A domain fault of a lane that is on is shown, raised and answered by the lane; a sag below 14.7 V of a module that
is on goes to hold-up with no lane in service, and to OFF when asleep; dips are counted; the end of the flush, or of
the energy, and the loss of supply asleep end in a cold reset to OFF; a return of supply is only noted; a cold reset
starts again with what NOR, MRAM and the key stores keep; a warm reset needs its key; a lane reset needs its key and,
where asked, a standby in REPLICA, and is discarded while a warm or cold reset is in progress and on a parked module;
parking needs its key, the brakes applied and service, sleeping also a safety lane not in SAFE; unparking starts the
lanes again; a die at 125 degrees asks for the safe state, TREF above 75 raises its event, the scrub changes nothing.
Completes, with the next state given: DOMAIN_FAULT, SAG_DETECTED, DIP, FLUSH_END, SUPPLY_RETURN, SLEEP_SUPPLY_LOSS,
COLD_RESET, WARM_MODULE_RESET, LANE_RESET, PARK_ATTENDED, PARK_SLEEPING, UNPARK, TREF_ALARM, DIE_OVERTEMP,
LPDDR_SCRUB, HOLD_UP_ENERGY_END. (R9, R381, R382, R388, R392, R393, R394, R396, R397, R404, R454). -/
def Obligations.PowerLossResetsAndParking : Prop :=
  ∀ (s : State) (l : LaneId) (x vin us a b c d key : Nat) (w : Word) (temp tref : Int) (now : Int),
    let u := s.quiet
    let L := s.now l
    (x < 20 → L.flag .PWR_PD x = true → exec (.domainFault (16 + 20 * l.num + x) now) s =
      .next (((u.raiseHost 7 0x03 now (leBytes 1 (16 + 20 * l.num + x))).mapLane l (Lane.domainFault x now)).startDone)) ∧
    (x < 20 → L.flag .PWR_PD x = false → exec (.domainFault (16 + 20 * l.num + x) now) s = .next u) ∧
    (96 ≤ x → exec (.domainFault x now) s = .next u) ∧
    (s.power.mstate = .sleeping → exec (.sagDetected vin now) s = .next (u.coldTo .off) ∧ exec (.sleepSupplyLoss) s = .next (u.coldTo .off)) ∧
    (s.power.mstate ≠ .sleeping → exec (.sleepSupplyLoss) s = .next u) ∧
    (s.hostOn = true → vin < 14700 → ∃ v, exec (.sagDetected vin now) s = .next v ∧ v.power.mstate = .holdUp ∧ v.power.sagAt = now ∧
      v.power.hcxUp = false ∧ v.safety = s.safety ∧ ∀ k, (v.lane k).inService = false) ∧
    (s.hostOn = true → 14700 ≤ vin → exec (.sagDetected vin now) s = .next u) ∧
    (s.power.mstate ≠ .off → exec (.dip) s = .next (u.hcx (fun H => H.setReg .HCX_DIP_CNT (w32 (satAdd32 (H.reg .HCX_DIP_CNT).toNat 1))))) ∧
    (s.power.mstate = .holdUp →
      (∃ v, exec (.flushEnd us) s = .next v ∧ v.power.mstate = .off ∧ v.safety = { Safety.fresh with flash := s.safety.flash.stopped }) ∧
      (∃ v, exec (.holdUpEnergyEnd a b c d us) s = .next v ∧ v.power.mstate = .off) ∧
      exec (.supplyReturn vin) s = .next ((u.hcx (fun H => H.setReg .HCX_PWR_VIN (w32 (min 65535 vin)))).pwr (fun P => { P with ret := true }))) ∧
    (s.power.mstate ≠ .holdUp → exec (.flushEnd us) s = .next u ∧ exec (.holdUpEnergyEnd a b c d us) s = .next u ∧
      exec (.supplyReturn vin) s = .next u) ∧
    (∃ v, exec (.coldReset) s = .next v ∧ v.power = Power.fresh ∧ v.safety = { Safety.fresh with flash := s.safety.flash.stopped } ∧
      (∀ k, (v.lane k).saved = (s.lane k).saved ∧ (v.lane k).copies = (s.lane k).copies ∧ (v.lane k).inService = false) ∧
      v.host.nor = s.host.nor ∧ v.host.keys = s.host.keys) ∧
    (s.hostOn = true →
      (bits w 31 16 ≠ 0x574D → exec (.warmModuleReset w now) s = .next (u.badKey 0x7014 0 now)) ∧
      (bits w 31 16 = 0x574D → bit w 0 = true → exec (.warmModuleReset w now) s = .next (u.warmReset false now)) ∧
      (bits w 31 16 ≠ 0x4C52 → exec (.laneReset w now) s = .next (u.badKey 0x7010 0 now)) ∧
      (bits w 31 16 = 0x4C52 → LaneId.ofNum (bits w 1 0) = some l →
        let stby := L.pstate = psReplica ∧ L.role = false
        let r := fun (kind : Nat) => (u.mapLane l (fun M => { M with trav := { M.trav with resets := [] } })).laneReset l kind now
        (bit w 8 = true → ¬stby → exec (.laneReset w now) s = .next (u.badKey 0x7010 1 now)) ∧
        (bit w 8 = false ∨ stby → s.resetting = true ∨ s.power.mstate = .parked → exec (.laneReset w now) s = .next u) ∧
        (s.resetting = false → s.power.mstate ≠ .parked →
          (bit w 8 = false → exec (.laneReset w now) s = .next (r 0)) ∧
          (bit w 8 = true → stby → exec (.laneReset w now) s = .next (r 2)))) ∧
      (key ≠ 0x504B → exec (.parkAttended key now) s = .next (u.badKey 0x7018 0 now) ∧
        exec (.parkSleeping key now) s = .next (u.badKey 0x7018 0 now) ∧ exec (.unpark key now) s = .next (u.badKey 0x7018 0 now)) ∧
      (s.sfsApplied = false ∨ s.power.mstate ≠ .service → exec (.parkAttended 0x504B now) s = .next (u.badKey 0x7018 1 now)) ∧
      (s.sfsApplied = true → s.power.mstate = .service →
        (∃ v, exec (.parkAttended 0x504B now) s = .next v ∧ v.power.mstate = .parked ∧ v.safety = s.safety.park) ∧
        (s.host.fld .SFS_STAT 31 30 ≠ 2 → ∃ v, exec (.parkSleeping 0x504B now) s = .next v ∧ v.power.mstate = .sleeping ∧
          v.safety = { Safety.fresh with flash := s.safety.flash.stopped })) ∧
      (s.power.mstate = .parked → ∃ v, exec (.unpark 0x504B now) s = .next v ∧ v.power.mstate = .starting ∧ v.power.queue = LaneId.all ∧
        v.safety = s.safety.unpark) ∧
      (s.power.mstate ≠ .parked → exec (.unpark 0x504B now) s = .next u)) ∧
    (∃ v, exec (.dieOvertemp l temp now) s = .next v ∧ bits ((v.lane l).reg .PWR_TEMP) 15 0 = wrap 16 temp ∧
      (temp < 125 * 16 → (v.lane l).occ = L.occ) ∧ (125 * 16 ≤ temp → L.level < 3 → 3 ≤ (v.lane l).trav.toLevel)) ∧
    (tref ≤ 75 * 16 → ∃ v, exec (.trefAlarm tref now) s = .next v ∧ v.power.hot = none ∧ v.host.occ = s.host.occ) ∧
    (75 * 16 < tref → s.power.hot = none → ∃ v, exec (.trefAlarm tref now) s = .next v ∧ v.power.hot = some (tref / 16) ∧
      v.host.occ.length = s.host.occ.length + 1) ∧
    exec (.lpddrScrub l) s = .next (s.put l L)

/-- At its step a lane boots the bank that R412 chooses, or is held when none is eligible; the host complex and the
safety lane boot theirs once; a part that has reached its point of success confirms the running bank, and a lane that
confirms erases the packages of other measurements; an erase in progress is suspended and goes on, and a lane counts
it; a slot write that completes commits; a daily check of the slot in use that fails marks it and raises event 0x08,
and one that passes clears the mark; re-masking counts and leaves every key as it was; a blank module is provisioned.
Completes, with the next state given: BOOT_SELECTION, BOOT_CONFIRM, ERASE_SUSPEND, ERASE_RESUME, SLOT_WRITE_COMPLETE,
DAILY_SLOT_CHECK, KEY_REMASK, FACTORY_PROVISIONING. (R412, R413, R415, R416, R423, R425, R426). -/
def Obligations.FirmwareAndKeys : Prop :=
  ∀ (s : State) (l : LaneId) (now : Int) (ok : Bool) (j : StageJob) (n : Nat),
    let u := s.quiet
    let L := s.now l
    let F := L.flash
    (L.phase = 4 →
      ((F.boot 2).1.run = none → ∃ v, exec (.bootSelection l.num now) s = .next v ∧ (v.lane l).phase = 9) ∧
      (∀ b, (F.boot 2).1.run = some b → ∃ v, exec (.bootSelection l.num now) s = .next v ∧ (v.lane l).phase = 5 ∧
        (v.lane l).flash = (F.boot 2).1)) ∧
    (L.phase ≠ 4 → exec (.bootSelection l.num now) s = .next u.startDone) ∧
    (s.power.hcxUp = false → s.hostOn = true → 2 ≤ s.stage_ → s.host.flash.run = none →
      ∃ v, exec (.bootSelection 4 now) s = .next v ∧ v.host.flash = (s.host.flash.boot 1).1) ∧
    (s.safetyOn = true → s.safety.st = sStart → s.safety.flash.run = none →
      ∃ v, exec (.bootSelection 5 now) s = .next v ∧ v.safety.flash = (s.safety.flash.boot 3).1 ∧
        ((s.safety.flash.boot 3).1.run = none → v.safety.st = sSafe ∧ v.safety.cause = 6)) ∧
    (L.inService = true → L.level ≤ 1 → ∃ v, exec (.bootConfirm l.num) s = .next v ∧ (v.lane l).flash = F.confirm ∧
      ∀ r ∈ (v.lane l).keys.recs, r.meas = (v.lane l).flash.running.digest) ∧
    (L.inService = false → exec (.bootConfirm l.num) s = .next u) ∧
    (s.power.hcxUp = true → exec (.bootConfirm 4) s = .next (u.hcx (fun H => H.setFlash H.flash.confirm))) ∧
    (s.safety.st = sRun → exec (.bootConfirm 5) s = .next { u with safety := { s.safety with flash := s.safety.flash.confirm } }) ∧
    (F.job = some j → j.erasing = true → j.susp = false → ∃ v, exec (.eraseSuspend l.num) s = .next v ∧
      (v.lane l).flash = { F with job := some { j with susp := true } } ∧ (v.lane l).reg .LCT_FW_SUSP = L.reg .LCT_FW_SUSP + 1) ∧
    (F.job = some j → j.susp = true → ∃ v, exec (.eraseResume l.num) s = .next v ∧
      (v.lane l).flash = { F with job := some { j with susp := false } } ∧ (v.lane l).reg .LCT_FW_SUSP = L.reg .LCT_FW_SUSP) ∧
    exec (.slotWriteComplete l) s = .next (s.put l L.slotDone) ∧
    (let one := L.flag .LCT_TIMG_STAT 31
     let x := if one then F.slot1 else F.slot0
     let G := fun (y : ImgSlot) => if one then { F with slot1 := y } else { F with slot0 := y }
     (L.inService = false ∨ x.applied = false → exec (.dailySlotCheck l ok now) s = .next (s.put l L)) ∧
     (L.inService = true → x.applied = true →
       exec (.dailySlotCheck l true now) s = .next (s.put l (L.setFlag .LCT_TIMG_STAT 29 false)) ∧
       exec (.dailySlotCheck l false now) s = .next (s.put l
         (({ L.setFlag .LCT_TIMG_STAT 29 true with flash := G { x with ok := false } } : Lane).raise 0 0x08 now (leBytes 1 1))))) ∧
    (∃ v, exec (.keyRemask l) s = .next v ∧ (v.lane l).reg .KEY_REMASK = L.reg .KEY_REMASK + 1 ∧
      ((L.keySlot n).cur.map (·.key) = ((v.lane l).keySlot n).cur.map (·.key)) ∧
      ((L.keySlot n).next.map (·.key) = ((v.lane l).keySlot n).next.map (·.key))) ∧
    (s.host.keys.lifecycle = 0 → ∃ v, exec (.factoryProvisioning now) s = .next v ∧ v.host.keys.lifecycle = 1 ∧
      ∀ k, (v.lane k).keys.test = false) ∧
    (s.host.keys.lifecycle ≠ 0 → exec (.factoryProvisioning now) s = .next u)

/-- For every second s and tick k below 96,000 the edge of tick number s × 96,000 + k is s × 10^9 + ceil(k × 31,250 /
3) ns, which in integer arithmetic is s × 10^9 + (k × 31,250 + 2) / 3; tick 0 of a second begins exactly on it. (R27).
-/
def Obligations.TickEdgesAreExact : Prop :=
  ∀ s k : Nat, k < 96000 →
    edgeNs (s * 96000 + k) = s * 10 ^ 9 + ⌈((k : ℚ) * 31250 / 3)⌉₊ ∧
    edgeNs (s * 96000 + k) = s * 10 ^ 9 + (k * 31250 + 2) / 3 ∧ edgeNs (s * 96000) = s * 10 ^ 9

/-- Over any run of carrier periods of one pulse pair that begins with a carry of 0, with the issued on-time, the
carry and the discarded steps that R159 gives in each period (issueRun), the sum requested less the sum issued less
the carry left is in magnitude at most the steps discarded; and periods 3 to 5 of the worked example request 9 µs,
issue 8 µs, leave a carry of 0 and discard 1 µs. (R435). -/
def Obligations.PulsePairsKeepTheirOnTime : Prop :=
  (∀ (p dt mp : Int) (rqs : List Int) (h : Bool), 0 ≤ p → 0 ≤ dt → 0 ≤ mp →
    let r := issueRun p dt mp rqs h 0
    |rqs.sum - r.issued - r.carry| ≤ r.disc) ∧
  (let r := issueRun 120000 2400 6000 [3600, 3600, 3600] false 0
   r.issued = 9600 ∧ r.carry = 0 ∧ r.disc = 1200)

/-- With the safety domains on: outside a test window a speed pulse changes nothing. A pulse fault or a discrepancy
fault that latches on pair 7 ends a holding test that waits or has its window open, as ABORTED, and no test runs after
it. A cycle at whose end pair 7, in use, holds a latched fault leaves every brake switch commanded open. Completes,
with the next state given: SAFETY_CYCLE, SPEED_PULSE. (R367). -/
def Obligations.SpeedPulsesOutsideATestWindow : Prop :=
  ∀ (s : State) (input source a b rdbk c0 c1 ce : Nat),
    let x := s.safety
    let p := x.pair 7
    let ends := fun (c : Instr) => ∃ v, exec c s = .next v ∧ (v.safety.pair 7).fault = true ∧ v.safety.ht = .idle ∧
      (x.ht ≠ .idle → v.safety.result = 3 ∧ v.safety.htfail = x.htfail)
    s.safetyOn = true →
    ((∀ t, x.ht ≠ .window t) → exec (.speedPulse input) s = .next s.quiet) ∧
    (x.st ≠ sSafe → x.used 7 = true → ¬(p.fault = true ∧ p.pulse = true) →
      (if source = 0 then p.a else p.b) = true → (if source = 0 then a else b).testBit 7 = true → ends (.testPulse source a b true)) ∧
    (x.used 7 = true → p.fault = false → (∃ n, p.timer = some n ∧ x.discMs ≤ n) → ends (.discrepancyTimeout 7)) ∧
    ∃ v, exec (.safetyCycle rdbk c0 c1 ce) s = .next v ∧ ((v.safety.pair 7).fault = true → x.used 7 = true → v.safety.cmd = 0)
end

