-- ==== Sys2Proof/Laws/Bits.lean ====
section
/-! SUPPORT. Laws of bit fields, flags and counts of register words. -/

namespace Sys2Proof.Machine

open Sys2Proof

@[simp] theorem w32_toNat (n : Nat) : (w32 n).toNat = n % 2 ^ 32 := by simp [w32]

/-- A word cut at a field: what lies above it, the field, what lies below it. -/
theorem cut_field (w : Word) {hi lo : Nat} (h : lo ≤ hi) (hh : hi < 32) :
    ∃ a c, w.toNat = a * 2 ^ (hi + 1) + bits w hi lo * 2 ^ lo + c ∧ c < 2 ^ lo ∧ a < 2 ^ (31 - hi) := by
  refine ⟨w.toNat / 2 ^ (hi + 1), w.toNat % 2 ^ lo, ?_, Nat.mod_lt _ (by positivity), ?_⟩
  · have e : (2 : Nat) ^ (hi + 1) = 2 ^ lo * 2 ^ (hi + 1 - lo) := by rw [← pow_add]; congr 1; omega
    have h1 := Nat.div_add_mod w.toNat (2 ^ lo)
    have h2 := Nat.div_add_mod (w.toNat / 2 ^ lo) (2 ^ (hi + 1 - lo))
    rw [bits, Nat.shiftRight_eq_div_pow, e, ← Nat.div_div_eq_div_mul]
    generalize w.toNat / 2 ^ lo / 2 ^ (hi + 1 - lo) = a at *
    generalize w.toNat / 2 ^ lo % 2 ^ (hi + 1 - lo) = b at *
    rw [← h2] at h1
    generalize w.toNat % 2 ^ lo = c at *
    rw [← h1]
    ring
  · rw [Nat.div_lt_iff_lt_mul (by positivity), ← pow_add]
    have := w.isLt
    convert this using 2
    omega

/-- The number of a word with a field replaced. -/
theorem putBits_toNat (w : Word) {hi lo : Nat} (h : lo ≤ hi) (hh : hi < 32) (v : Nat) {a c : Nat}
    (hw : w.toNat = a * 2 ^ (hi + 1) + bits w hi lo * 2 ^ lo + c) (hc : c < 2 ^ lo) (ha : a < 2 ^ (31 - hi)) :
    (putBits w hi lo v).toNat = a * 2 ^ (hi + 1) + v % 2 ^ (hi + 1 - lo) * 2 ^ lo + c := by
  have e : (2 : Nat) ^ (hi + 1) = 2 ^ (hi + 1 - lo) * 2 ^ lo := by rw [← pow_add]; congr 1; omega
  have hv : v % 2 ^ (hi + 1 - lo) < 2 ^ (hi + 1 - lo) := Nat.mod_lt _ (by positivity)
  have hlt : a * 2 ^ (hi + 1) + v % 2 ^ (hi + 1 - lo) * 2 ^ lo + c < 2 ^ 32 := by
    have e2 : (2 : Nat) ^ 32 = 2 ^ (31 - hi) * 2 ^ (hi + 1) := by rw [← pow_add]; congr 1; omega
    rw [e2, e]
    nlinarith [Nat.pos_of_ne_zero (pow_ne_zero lo (two_ne_zero (α := Nat))),
      Nat.pos_of_ne_zero (pow_ne_zero (hi + 1 - lo) (two_ne_zero (α := Nat))),
      Nat.mul_le_mul_right (2 ^ (hi + 1 - lo) * 2 ^ lo) (Nat.succ_le_of_lt ha),
      Nat.mul_le_mul_right (2 ^ lo) (Nat.succ_le_of_lt hv)]
  rw [putBits, BitVec.toNat_ofNat, hw]
  have : a * 2 ^ (hi + 1) + bits w hi lo * 2 ^ lo + c - bits w hi lo * 2 ^ lo + v % 2 ^ (hi + 1 - lo) * 2 ^ lo =
      a * 2 ^ (hi + 1) + v % 2 ^ (hi + 1 - lo) * 2 ^ lo + c := by omega
  rw [this, Nat.mod_eq_of_lt hlt]

/-- A field just written reads as the low bits of what was written. -/
theorem bits_putBits_self (w : Word) {hi lo : Nat} (h : lo ≤ hi) (hh : hi < 32) (v : Nat) :
    bits (putBits w hi lo v) hi lo = v % 2 ^ (hi + 1 - lo) := by
  obtain ⟨a, c, hw, hc, ha⟩ := cut_field w h hh
  rw [bits, putBits_toNat w h hh v hw hc ha, Nat.shiftRight_eq_div_pow]
  have e : (2 : Nat) ^ (hi + 1) = 2 ^ lo * 2 ^ (hi + 1 - lo) := by rw [← pow_add]; congr 1; omega
  have hp : 0 < 2 ^ lo := by positivity
  have : a * 2 ^ (hi + 1) + v % 2 ^ (hi + 1 - lo) * 2 ^ lo + c =
      c + 2 ^ lo * (2 ^ (hi + 1 - lo) * a + v % 2 ^ (hi + 1 - lo)) := by rw [e]; ring
  rw [this, Nat.add_mul_div_left _ _ hp, Nat.div_eq_of_lt hc, zero_add, Nat.mul_add_mod,
    Nat.mod_mod]

/-- A field above one just written keeps its value. -/
theorem bits_putBits_above (w : Word) {hi lo hi' lo' : Nat} (h : lo ≤ hi) (hh : hi < 32) (hl : hi < lo') (v : Nat) :
    bits (putBits w hi lo v) hi' lo' = bits w hi' lo' := by
  obtain ⟨a, c, hw, hc, ha⟩ := cut_field w h hh
  have e : (2 : Nat) ^ (hi + 1) = 2 ^ (hi + 1 - lo) * 2 ^ lo := by rw [← pow_add]; congr 1; omega
  have low : ∀ f, f < 2 ^ (hi + 1 - lo) → (a * 2 ^ (hi + 1) + f * 2 ^ lo + c) >>> lo' = a >>> (lo' - (hi + 1)) := by
    intro f hf
    have hlt : f * 2 ^ lo + c < 2 ^ (hi + 1) := by
      rw [e]; nlinarith [Nat.mul_le_mul_right (2 ^ lo) (Nat.succ_le_of_lt hf)]
    obtain ⟨k, rfl⟩ : ∃ k, lo' = (hi + 1) + k := ⟨lo' - (hi + 1), by omega⟩
    rw [Nat.shiftRight_eq_div_pow, Nat.shiftRight_eq_div_pow, pow_add _ (hi + 1) k, ← Nat.div_div_eq_div_mul, add_assoc,
      Nat.mul_comm a, Nat.mul_add_div (by positivity), Nat.div_eq_of_lt hlt, Nat.add_zero, Nat.add_sub_cancel_left]
  have hb : bits w hi lo < 2 ^ (hi + 1 - lo) := Nat.mod_lt _ (by positivity)
  have hv : v % 2 ^ (hi + 1 - lo) < 2 ^ (hi + 1 - lo) := Nat.mod_lt _ (by positivity)
  have h1 := low _ hv
  have h2 := low _ hb
  unfold bits at *
  rw [putBits_toNat w h hh v hw hc ha, h1]
  conv_rhs => rw [hw]
  rw [h2]

/-- A field below one just written keeps its value. -/
theorem bits_putBits_below (w : Word) {hi lo hi' lo' : Nat} (h : lo ≤ hi) (hh : hi < 32) (hl : hi' < lo) (v : Nat) :
    bits (putBits w hi lo v) hi' lo' = bits w hi' lo' := by
  by_cases hle : lo' ≤ hi'
  · obtain ⟨a, c, hw, hc, ha⟩ := cut_field w h hh
    have e : (2 : Nat) ^ (hi + 1) = 2 ^ lo * 2 ^ (hi + 1 - lo) := by rw [← pow_add]; congr 1; omega
    have ed : (2 : Nat) ^ lo = 2 ^ lo' * (2 ^ (hi' + 1 - lo') * 2 ^ (lo - (hi' + 1))) := by
      rw [← pow_add, ← pow_add]; congr 1; omega
    have low : ∀ f, (a * 2 ^ (hi + 1) + f * 2 ^ lo + c) / 2 ^ lo' % 2 ^ (hi' + 1 - lo') = c / 2 ^ lo' % 2 ^ (hi' + 1 - lo') := by
      intro f
      have : a * 2 ^ (hi + 1) + f * 2 ^ lo + c =
          c + 2 ^ lo' * (2 ^ (hi' + 1 - lo') * (2 ^ (lo - (hi' + 1)) * (2 ^ (hi + 1 - lo) * a + f))) := by
        rw [e, ed]; ring
      rw [this, Nat.add_mul_div_left _ _ (by positivity), Nat.add_mul_mod_self_left]
    have h1 := low (v % 2 ^ (hi + 1 - lo))
    have h2 := low (bits w hi lo)
    simp only [bits, Nat.shiftRight_eq_div_pow]
    rw [putBits_toNat w h hh v hw hc ha, h1]
    conv_rhs => rw [hw]
    exact h2.symm
  · have : hi' + 1 - lo' = 0 := by omega
    simp [bits, this, Nat.mod_one]

@[simp] theorem bit_putBit_self (w : Word) {i : Nat} (h : i < 32) (b : Bool) : bit (putBit w i b) i = b := by
  cases b <;> simp [bit, putBit, h]

theorem bit_putBit_ne (w : Word) {i j : Nat} (h : j ≠ i) (b : Bool) : bit (putBit w i b) j = bit w j := by
  by_cases hj : j < 32
  · cases b <;> by_cases hij : j < i <;> simp_all [bit, putBit] <;> omega
  · simp [bit, BitVec.getLsbD_of_ge _ _ (Nat.le_of_not_lt hj)]

end Sys2Proof.Machine
end

