-- ==== Sys2Proof/Laws/Maps.lean ====
section
/-! SUPPORT. Laws of sparse data and of the four lanes' data: reading after writing, and the canonical form. -/

namespace Sys2Proof

variable {α : Type}

/-! ### Reading after writing -/

theorem lookupCell_putCell_self (l : List (Nat × α)) (q : Nat) (v : α) : lookupCell (putCell l q v) q = some v := by
  induction l with
  | nil => simp [putCell, lookupCell]
  | cons c t ih =>
    obtain ⟨k, x⟩ := c
    simp only [putCell]
    split
    · simp [lookupCell]
    · split
      · simp [lookupCell]
      · simp_all [lookupCell]

theorem lookupCell_putCell_ne (l : List (Nat × α)) {q k : Nat} (h : k ≠ q) (v : α) :
    lookupCell (putCell l q v) k = lookupCell l k := by
  induction l with
  | nil => simp [putCell, lookupCell, h]
  | cons c t ih =>
    obtain ⟨j, x⟩ := c
    simp only [putCell]
    split
    · simp [lookupCell, h]
    · split
      · subst_vars; simp [lookupCell, h]
      · simp [lookupCell, ih]

theorem lookupCell_delCell_self (l : List (Nat × α)) (q : Nat) : lookupCell (delCell l q) q = none := by
  induction l with
  | nil => rfl
  | cons c t ih =>
    obtain ⟨k, x⟩ := c
    by_cases h : k = q
    · simp_all [delCell]
    · simp_all [delCell, lookupCell, Ne.symm h]

theorem lookupCell_delCell_ne (l : List (Nat × α)) {q k : Nat} (h : k ≠ q) :
    lookupCell (delCell l q) k = lookupCell l k := by
  induction l with
  | nil => rfl
  | cons c t ih =>
    obtain ⟨j, x⟩ := c
    by_cases hj : j = q
    · subst hj; simp_all [delCell, lookupCell]
    · simp_all [delCell, lookupCell]

@[simp] theorem NMap.get?_put_self (m : NMap α) (k : Nat) (v : α) : (m.put k v).get? k = some v :=
  lookupCell_putCell_self _ _ _

theorem NMap.get?_put_ne (m : NMap α) {q k : Nat} (h : k ≠ q) (v : α) : (m.put q v).get? k = m.get? k :=
  lookupCell_putCell_ne _ h _

@[simp] theorem NMap.get?_del_self (m : NMap α) (k : Nat) : (m.del k).get? k = Option.none :=
  lookupCell_delCell_self _ _

theorem NMap.get?_del_ne (m : NMap α) {q k : Nat} (h : k ≠ q) : (m.del q).get? k = m.get? k :=
  lookupCell_delCell_ne _ h

@[simp] theorem NMap.getD_put_self (m : NMap α) (k : Nat) (v d : α) : (m.put k v).getD k d = v := by
  simp [NMap.getD]

theorem NMap.getD_put_ne (m : NMap α) {q k : Nat} (h : k ≠ q) (v d : α) : (m.put q v).getD k d = m.getD k d := by
  simp [NMap.getD, NMap.get?_put_ne m h]

/-! ### The canonical form -/

/-- Writing under `q` lists no key but `q` and those listed before. -/
theorem mem_putCell {l : List (Nat × α)} {q : Nat} {v : α} {c : Nat × α} (h : c ∈ putCell l q v) :
    c = (q, v) ∨ c ∈ l := by
  induction l with
  | nil => simpa [putCell] using h
  | cons x t ih =>
    obtain ⟨k, y⟩ := x
    simp only [putCell] at h
    split at h
    · simpa using h
    · split at h
      · simp at h; tauto
      · simp at h
        rcases h with h | h
        · simp [h]
        · rcases ih h with h | h <;> simp [h]

theorem NMap.wf_put (m : NMap α) (h : m.wf) (q : Nat) (v : α) : (m.put q v).wf := by
  obtain ⟨l⟩ := m
  simp only [NMap.wf, NMap.put] at *
  induction l with
  | nil => simp [putCell]
  | cons c t ih =>
    obtain ⟨k, x⟩ := c
    simp only [List.pairwise_cons] at h
    simp only [putCell]
    split
    · rename_i hq
      refine List.pairwise_cons.2 ⟨?_, List.pairwise_cons.2 h⟩
      intro a ha
      rcases List.mem_cons.1 ha with rfl | ha
      · exact hq
      · exact lt_trans hq (h.1 a ha)
    · split
      · subst_vars; exact List.pairwise_cons.2 ⟨h.1, h.2⟩
      · refine List.pairwise_cons.2 ⟨?_, ih h.2⟩
        intro a ha
        rcases mem_putCell ha with rfl | ha
        · simp; omega
        · exact h.1 a ha

theorem NMap.wf_del (m : NMap α) (h : m.wf) (q : Nat) : (m.del q).wf := List.Pairwise.filter _ h

theorem NMap.wf_keep (m : NMap α) (h : m.wf) (p : Nat → α → Bool) : (m.keep p).wf := List.Pairwise.filter _ h

theorem NMap.wf_mapv {β : Type} (m : NMap α) (h : m.wf) (f : Nat → α → β) : (m.mapv f).wf := by
  simpa [NMap.wf, NMap.mapv, List.pairwise_map] using h

theorem NMap.wf_none : (NMap.none : NMap α).wf := List.Pairwise.nil

/-! ### The four lanes -/

@[simp] theorem Quad.get_set_self (q : Quad α) (l : LaneId) (x : α) : (q.set l x).get l = x := by cases l <;> rfl

theorem Quad.get_set_ne (q : Quad α) {l k : LaneId} (h : k ≠ l) (x : α) : (q.set l x).get k = q.get k := by
  cases l <;> cases k <;> first | rfl | exact absurd rfl h

@[simp] theorem Quad.get_mapv (q : Quad α) (f : LaneId → α → α) (l : LaneId) : (q.mapv f).get l = f l (q.get l) := by
  cases l <;> rfl

end Sys2Proof
end

