-- ==== Sys2Proof/Laws/Regs.lean ====
section
/-! SUPPORT. Laws of the registers of one window: reading after writing, and the canonical form. -/

namespace Sys2Proof.Machine

open Sys2Proof

theorem Reg.ctorIdx_inj {r q : Reg} (h : r.ctorIdx = q.ctorIdx) : r = q := by
  rw [← Reg.ofNat_ctorIdx r, ← Reg.ofNat_ctorIdx q, h]

/-- Different registers have different keys. -/
theorem Reg.key_inj {r q : Reg} {i j k l : Nat} (h : r.key i j = q.key k l) : r = q ∧ i = k ∧ j = l := by
  simp only [Reg.key, Nat.pair_eq_pair] at h
  exact ⟨Reg.ctorIdx_inj h.1, h.2.1, h.2.2⟩

@[simp] theorem resetOfKey_key (r : Reg) (i j : Nat) : resetOfKey (r.key i j) = r.reset := by
  simp [resetOfKey, Reg.key, Reg.ofNat_ctorIdx]

@[simp] theorem RegFile.get_fresh (r : Reg) (i j : Nat) : RegFile.fresh.get r i j = r.reset := rfl

/-- A register just written reads as what was written. -/
@[simp] theorem RegFile.get_set_self (f : RegFile) (r : Reg) (i j : Nat) (v : Word) : (f.set r i j v).get r i j = v := by
  unfold RegFile.set
  split
  · subst_vars; simp [RegFile.get]
  · simp [RegFile.get]

/-- A write leaves every other register alone. -/
theorem RegFile.get_set_ne (f : RegFile) {r q : Reg} {i j k l : Nat} (h : ¬(q = r ∧ k = i ∧ l = j)) (v : Word) :
    (f.set r i j v).get q k l = f.get q k l := by
  have hk : q.key k l ≠ r.key i j := fun e => h (Reg.key_inj e)
  unfold RegFile.set
  split
  · simp [RegFile.get, NMap.get?_del_ne _ hk]
  · simp [RegFile.get, NMap.get?_put_ne _ hk]

/-- A write leaves the registers of other sets alone. -/
theorem RegFile.get_set_reg (f : RegFile) {r q : Reg} (h : q ≠ r) (i j k l : Nat) (v : Word) :
    (f.set r i j v).get q k l = f.get q k l := f.get_set_ne (fun e => h e.1) v

theorem RegFile.wf_fresh : RegFile.fresh.wf := ⟨List.Pairwise.nil, by simp [RegFile.fresh]⟩

/-- A write keeps the canonical form. -/
theorem RegFile.wf_set (f : RegFile) (h : f.wf) (r : Reg) (i j : Nat) (v : Word) : (f.set r i j v).wf := by
  unfold RegFile.set
  split
  · refine ⟨NMap.wf_del _ h.1 _, fun c hc => h.2 c ?_⟩
    exact (List.mem_filter.1 hc).1
  · refine ⟨NMap.wf_put _ h.1 _ _, fun c hc => ?_⟩
    rcases mem_putCell hc with rfl | hc
    · simpa using ‹¬v = r.reset›
    · exact h.2 c hc

/-- Keeping some registers keeps the canonical form. -/
theorem RegFile.wf_keep (f : RegFile) (h : f.wf) (p : Reg → Bool) : (f.keep p).wf :=
  ⟨NMap.wf_keep _ h.1 _, fun c hc => h.2 c (List.mem_filter.1 hc).1⟩

end Sys2Proof.Machine
end

