-- ==== Sys2Proof/Laws/State.lean ====
section
/-! SUPPORT. What each update of State, of a lane, of the host complex and of a function leaves as it was: one lemma for
each field and update, true by rfl; and what the register named reads as after its write. -/

namespace Sys2Proof.Machine

open Sys2Proof

/-! ### State -/

@[simp] theorem State.hcx_lanes (s : State) (f : Hcx → Hcx) : (s.hcx f).lanes = s.lanes := (rfl)
@[simp] theorem State.hcx_safety (s : State) (f : Hcx → Hcx) : (s.hcx f).safety = s.safety := (rfl)
@[simp] theorem State.hcx_power (s : State) (f : Hcx → Hcx) : (s.hcx f).power = s.power := (rfl)
@[simp] theorem State.hcx_pending (s : State) (f : Hcx → Hcx) : (s.hcx f).pending = s.pending := (rfl)

@[simp] theorem State.hcx_host (s : State) (f : Hcx → Hcx) : (s.hcx f).host = f s.host := (rfl)

@[simp] theorem State.mapLane_host (s : State) (l : LaneId) (f : Lane → Lane) : (s.mapLane l f).host = s.host := (rfl)
@[simp] theorem State.mapLane_safety (s : State) (l : LaneId) (f : Lane → Lane) : (s.mapLane l f).safety = s.safety := (rfl)
@[simp] theorem State.mapLane_power (s : State) (l : LaneId) (f : Lane → Lane) : (s.mapLane l f).power = s.power := (rfl)
@[simp] theorem State.mapLane_pending (s : State) (l : LaneId) (f : Lane → Lane) : (s.mapLane l f).pending = s.pending := (rfl)

@[simp] theorem State.mapLane_lane (s : State) (l : LaneId) (f : Lane → Lane) : (s.mapLane l f).lane l = f (s.lane l) := by
  simp [State.mapLane, State.lane]

theorem State.mapLane_lane_ne (s : State) {l k : LaneId} (h : k ≠ l) (f : Lane → Lane) :
    (s.mapLane l f).lane k = s.lane k := by simp [State.mapLane, State.lane, Quad.get_set_ne _ h]

@[simp] theorem State.mapFn_lanes (s : State) (n : Nat) (f : Fn → Fn) : (s.mapFn n f).lanes = s.lanes := (rfl)
@[simp] theorem State.mapFn_safety (s : State) (n : Nat) (f : Fn → Fn) : (s.mapFn n f).safety = s.safety := (rfl)
@[simp] theorem State.mapFn_power (s : State) (n : Nat) (f : Fn → Fn) : (s.mapFn n f).power = s.power := (rfl)
@[simp] theorem State.mapFn_pending (s : State) (n : Nat) (f : Fn → Fn) : (s.mapFn n f).pending = s.pending := (rfl)

@[simp] theorem State.onLane_host (s : State) (l : LaneId) (f : Lane → Lane) : (s.onLane l f).host = s.host := (rfl)
@[simp] theorem State.onLane_safety (s : State) (l : LaneId) (f : Lane → Lane) : (s.onLane l f).safety = s.safety := (rfl)
@[simp] theorem State.onLane_power (s : State) (l : LaneId) (f : Lane → Lane) : (s.onLane l f).power = s.power := (rfl)
@[simp] theorem State.onLane_pending (s : State) (l : LaneId) (f : Lane → Lane) : (s.onLane l f).pending = s.pending := (rfl)

@[simp] theorem State.onLane_lane (s : State) (l : LaneId) (f : Lane → Lane) :
    (s.onLane l f).lane l = f { s.lane l with sent := [] } := by simp [State.onLane, State.lane]

theorem State.onLane_lane_ne (s : State) {l k : LaneId} (h : k ≠ l) (f : Lane → Lane) :
    (s.onLane l f).lane k = s.lane k := by simp [State.onLane, State.lane, Quad.get_set_ne _ h]

@[simp] theorem State.raiseHost_lanes (s : State) (src code : Nat) (now : Int) (data : List Byte) : (s.raiseHost src code now data).lanes = s.lanes := (rfl)
@[simp] theorem State.raiseHost_safety (s : State) (src code : Nat) (now : Int) (data : List Byte) : (s.raiseHost src code now data).safety = s.safety := (rfl)
@[simp] theorem State.raiseHost_power (s : State) (src code : Nat) (now : Int) (data : List Byte) : (s.raiseHost src code now data).power = s.power := (rfl)
@[simp] theorem State.raiseHost_pending (s : State) (src code : Nat) (now : Int) (data : List Byte) : (s.raiseHost src code now data).pending = s.pending := (rfl)

@[simp] theorem State.quiet_safety (s : State)  : (s.quiet).safety = s.safety := (rfl)
@[simp] theorem State.quiet_power (s : State)  : (s.quiet).power = s.power := (rfl)
@[simp] theorem State.quiet_pending (s : State)  : (s.quiet).pending = s.pending := (rfl)

theorem State.quiet_lane (s : State) (l : LaneId) : s.quiet.lane l = { s.lane l with sent := [] } := by
  simp [State.quiet, State.lane]

/-! ### A lane -/

@[simp] theorem Lane.setReg_latch (L : Lane) (r : Reg) (v : Word) (i j : Nat) : (L.setReg r v i j).latch = L.latch := rfl
@[simp] theorem Lane.setReg_staged (L : Lane) (r : Reg) (v : Word) (i j : Nat) : (L.setReg r v i j).staged = L.staged := rfl
@[simp] theorem Lane.setReg_mac (L : Lane) (r : Reg) (v : Word) (i j : Nat) : (L.setReg r v i j).mac = L.mac := rfl
@[simp] theorem Lane.setReg_img (L : Lane) (r : Reg) (v : Word) (i j : Nat) : (L.setReg r v i j).img = L.img := rfl
@[simp] theorem Lane.setReg_imgPrev (L : Lane) (r : Reg) (v : Word) (i j : Nat) : (L.setReg r v i j).imgPrev = L.imgPrev := rfl
@[simp] theorem Lane.setReg_trav (L : Lane) (r : Reg) (v : Word) (i j : Nat) : (L.setReg r v i j).trav = L.trav := rfl
@[simp] theorem Lane.setReg_intake (L : Lane) (r : Reg) (v : Word) (i j : Nat) : (L.setReg r v i j).intake = L.intake := rfl
@[simp] theorem Lane.setReg_datum (L : Lane) (r : Reg) (v : Word) (i j : Nat) : (L.setReg r v i j).datum = L.datum := rfl
@[simp] theorem Lane.setReg_cond (L : Lane) (r : Reg) (v : Word) (i j : Nat) : (L.setReg r v i j).cond = L.cond := rfl
@[simp] theorem Lane.setReg_fabric (L : Lane) (r : Reg) (v : Word) (i j : Nat) : (L.setReg r v i j).fabric = L.fabric := rfl
@[simp] theorem Lane.setReg_trip (L : Lane) (r : Reg) (v : Word) (i j : Nat) : (L.setReg r v i j).trip = L.trip := rfl
@[simp] theorem Lane.setReg_twin (L : Lane) (r : Reg) (v : Word) (i j : Nat) : (L.setReg r v i j).twin = L.twin := rfl
@[simp] theorem Lane.setReg_cmds (L : Lane) (r : Reg) (v : Word) (i j : Nat) : (L.setReg r v i j).cmds = L.cmds := rfl
@[simp] theorem Lane.setReg_pcl (L : Lane) (r : Reg) (v : Word) (i j : Nat) : (L.setReg r v i j).pcl = L.pcl := rfl
@[simp] theorem Lane.setReg_copies (L : Lane) (r : Reg) (v : Word) (i j : Nat) : (L.setReg r v i j).copies = L.copies := rfl
@[simp] theorem Lane.setReg_critMram (L : Lane) (r : Reg) (v : Word) (i j : Nat) : (L.setReg r v i j).critMram = L.critMram := rfl
@[simp] theorem Lane.setReg_reload (L : Lane) (r : Reg) (v : Word) (i j : Nat) : (L.setReg r v i j).reload = L.reload := rfl
@[simp] theorem Lane.setReg_cores (L : Lane) (r : Reg) (v : Word) (i j : Nat) : (L.setReg r v i j).cores = L.cores := rfl
@[simp] theorem Lane.setReg_ilu (L : Lane) (r : Reg) (v : Word) (i j : Nat) : (L.setReg r v i j).ilu = L.ilu := rfl
@[simp] theorem Lane.setReg_fio (L : Lane) (r : Reg) (v : Word) (i j : Nat) : (L.setReg r v i j).fio = L.fio := rfl
@[simp] theorem Lane.setReg_net (L : Lane) (r : Reg) (v : Word) (i j : Nat) : (L.setReg r v i j).net = L.net := rfl
@[simp] theorem Lane.setReg_acq (L : Lane) (r : Reg) (v : Word) (i j : Nat) : (L.setReg r v i j).acq = L.acq := rfl
@[simp] theorem Lane.setReg_book (L : Lane) (r : Reg) (v : Word) (i j : Nat) : (L.setReg r v i j).book = L.book := rfl
@[simp] theorem Lane.setReg_saved (L : Lane) (r : Reg) (v : Word) (i j : Nat) : (L.setReg r v i j).saved = L.saved := rfl
@[simp] theorem Lane.setReg_flush (L : Lane) (r : Reg) (v : Word) (i j : Nat) : (L.setReg r v i j).flush = L.flush := rfl
@[simp] theorem Lane.setReg_keys (L : Lane) (r : Reg) (v : Word) (i j : Nat) : (L.setReg r v i j).keys = L.keys := rfl
@[simp] theorem Lane.setReg_flash (L : Lane) (r : Reg) (v : Word) (i j : Nat) : (L.setReg r v i j).flash = L.flash := rfl
@[simp] theorem Lane.setReg_hostGen (L : Lane) (r : Reg) (v : Word) (i j : Nat) : (L.setReg r v i j).hostGen = L.hostGen := rfl
@[simp] theorem Lane.setReg_occ (L : Lane) (r : Reg) (v : Word) (i j : Nat) : (L.setReg r v i j).occ = L.occ := rfl
@[simp] theorem Lane.setReg_placed (L : Lane) (r : Reg) (v : Word) (i j : Nat) : (L.setReg r v i j).placed = L.placed := rfl
@[simp] theorem Lane.setReg_pend (L : Lane) (r : Reg) (v : Word) (i j : Nat) : (L.setReg r v i j).pend = L.pend := rfl
@[simp] theorem Lane.setReg_fin (L : Lane) (r : Reg) (v : Word) (i j : Nat) : (L.setReg r v i j).fin = L.fin := rfl
@[simp] theorem Lane.setReg_sent (L : Lane) (r : Reg) (v : Word) (i j : Nat) : (L.setReg r v i j).sent = L.sent := rfl
@[simp] theorem Lane.setReg_free (L : Lane) (r : Reg) (v : Word) (i j : Nat) : (L.setReg r v i j).free = L.free := rfl

@[simp] theorem Lane.setFld_latch (L : Lane) (r : Reg) (hi lo v i j : Nat) : (L.setFld r hi lo v i j).latch = L.latch := rfl
@[simp] theorem Lane.setFld_staged (L : Lane) (r : Reg) (hi lo v i j : Nat) : (L.setFld r hi lo v i j).staged = L.staged := rfl
@[simp] theorem Lane.setFld_mac (L : Lane) (r : Reg) (hi lo v i j : Nat) : (L.setFld r hi lo v i j).mac = L.mac := rfl
@[simp] theorem Lane.setFld_img (L : Lane) (r : Reg) (hi lo v i j : Nat) : (L.setFld r hi lo v i j).img = L.img := rfl
@[simp] theorem Lane.setFld_imgPrev (L : Lane) (r : Reg) (hi lo v i j : Nat) : (L.setFld r hi lo v i j).imgPrev = L.imgPrev := rfl
@[simp] theorem Lane.setFld_trav (L : Lane) (r : Reg) (hi lo v i j : Nat) : (L.setFld r hi lo v i j).trav = L.trav := rfl
@[simp] theorem Lane.setFld_intake (L : Lane) (r : Reg) (hi lo v i j : Nat) : (L.setFld r hi lo v i j).intake = L.intake := rfl
@[simp] theorem Lane.setFld_datum (L : Lane) (r : Reg) (hi lo v i j : Nat) : (L.setFld r hi lo v i j).datum = L.datum := rfl
@[simp] theorem Lane.setFld_cond (L : Lane) (r : Reg) (hi lo v i j : Nat) : (L.setFld r hi lo v i j).cond = L.cond := rfl
@[simp] theorem Lane.setFld_fabric (L : Lane) (r : Reg) (hi lo v i j : Nat) : (L.setFld r hi lo v i j).fabric = L.fabric := rfl
@[simp] theorem Lane.setFld_trip (L : Lane) (r : Reg) (hi lo v i j : Nat) : (L.setFld r hi lo v i j).trip = L.trip := rfl
@[simp] theorem Lane.setFld_twin (L : Lane) (r : Reg) (hi lo v i j : Nat) : (L.setFld r hi lo v i j).twin = L.twin := rfl
@[simp] theorem Lane.setFld_cmds (L : Lane) (r : Reg) (hi lo v i j : Nat) : (L.setFld r hi lo v i j).cmds = L.cmds := rfl
@[simp] theorem Lane.setFld_pcl (L : Lane) (r : Reg) (hi lo v i j : Nat) : (L.setFld r hi lo v i j).pcl = L.pcl := rfl
@[simp] theorem Lane.setFld_copies (L : Lane) (r : Reg) (hi lo v i j : Nat) : (L.setFld r hi lo v i j).copies = L.copies := rfl
@[simp] theorem Lane.setFld_critMram (L : Lane) (r : Reg) (hi lo v i j : Nat) : (L.setFld r hi lo v i j).critMram = L.critMram := rfl
@[simp] theorem Lane.setFld_reload (L : Lane) (r : Reg) (hi lo v i j : Nat) : (L.setFld r hi lo v i j).reload = L.reload := rfl
@[simp] theorem Lane.setFld_cores (L : Lane) (r : Reg) (hi lo v i j : Nat) : (L.setFld r hi lo v i j).cores = L.cores := rfl
@[simp] theorem Lane.setFld_ilu (L : Lane) (r : Reg) (hi lo v i j : Nat) : (L.setFld r hi lo v i j).ilu = L.ilu := rfl
@[simp] theorem Lane.setFld_fio (L : Lane) (r : Reg) (hi lo v i j : Nat) : (L.setFld r hi lo v i j).fio = L.fio := rfl
@[simp] theorem Lane.setFld_net (L : Lane) (r : Reg) (hi lo v i j : Nat) : (L.setFld r hi lo v i j).net = L.net := rfl
@[simp] theorem Lane.setFld_acq (L : Lane) (r : Reg) (hi lo v i j : Nat) : (L.setFld r hi lo v i j).acq = L.acq := rfl
@[simp] theorem Lane.setFld_book (L : Lane) (r : Reg) (hi lo v i j : Nat) : (L.setFld r hi lo v i j).book = L.book := rfl
@[simp] theorem Lane.setFld_saved (L : Lane) (r : Reg) (hi lo v i j : Nat) : (L.setFld r hi lo v i j).saved = L.saved := rfl
@[simp] theorem Lane.setFld_flush (L : Lane) (r : Reg) (hi lo v i j : Nat) : (L.setFld r hi lo v i j).flush = L.flush := rfl
@[simp] theorem Lane.setFld_keys (L : Lane) (r : Reg) (hi lo v i j : Nat) : (L.setFld r hi lo v i j).keys = L.keys := rfl
@[simp] theorem Lane.setFld_flash (L : Lane) (r : Reg) (hi lo v i j : Nat) : (L.setFld r hi lo v i j).flash = L.flash := rfl
@[simp] theorem Lane.setFld_hostGen (L : Lane) (r : Reg) (hi lo v i j : Nat) : (L.setFld r hi lo v i j).hostGen = L.hostGen := rfl
@[simp] theorem Lane.setFld_occ (L : Lane) (r : Reg) (hi lo v i j : Nat) : (L.setFld r hi lo v i j).occ = L.occ := rfl
@[simp] theorem Lane.setFld_placed (L : Lane) (r : Reg) (hi lo v i j : Nat) : (L.setFld r hi lo v i j).placed = L.placed := rfl
@[simp] theorem Lane.setFld_pend (L : Lane) (r : Reg) (hi lo v i j : Nat) : (L.setFld r hi lo v i j).pend = L.pend := rfl
@[simp] theorem Lane.setFld_fin (L : Lane) (r : Reg) (hi lo v i j : Nat) : (L.setFld r hi lo v i j).fin = L.fin := rfl
@[simp] theorem Lane.setFld_sent (L : Lane) (r : Reg) (hi lo v i j : Nat) : (L.setFld r hi lo v i j).sent = L.sent := rfl
@[simp] theorem Lane.setFld_free (L : Lane) (r : Reg) (hi lo v i j : Nat) : (L.setFld r hi lo v i j).free = L.free := rfl

@[simp] theorem Lane.setFlag_latch (L : Lane) (r : Reg) (b : Nat) (v : Bool) (i j : Nat) : (L.setFlag r b v i j).latch = L.latch := rfl
@[simp] theorem Lane.setFlag_staged (L : Lane) (r : Reg) (b : Nat) (v : Bool) (i j : Nat) : (L.setFlag r b v i j).staged = L.staged := rfl
@[simp] theorem Lane.setFlag_mac (L : Lane) (r : Reg) (b : Nat) (v : Bool) (i j : Nat) : (L.setFlag r b v i j).mac = L.mac := rfl
@[simp] theorem Lane.setFlag_img (L : Lane) (r : Reg) (b : Nat) (v : Bool) (i j : Nat) : (L.setFlag r b v i j).img = L.img := rfl
@[simp] theorem Lane.setFlag_imgPrev (L : Lane) (r : Reg) (b : Nat) (v : Bool) (i j : Nat) : (L.setFlag r b v i j).imgPrev = L.imgPrev := rfl
@[simp] theorem Lane.setFlag_trav (L : Lane) (r : Reg) (b : Nat) (v : Bool) (i j : Nat) : (L.setFlag r b v i j).trav = L.trav := rfl
@[simp] theorem Lane.setFlag_intake (L : Lane) (r : Reg) (b : Nat) (v : Bool) (i j : Nat) : (L.setFlag r b v i j).intake = L.intake := rfl
@[simp] theorem Lane.setFlag_datum (L : Lane) (r : Reg) (b : Nat) (v : Bool) (i j : Nat) : (L.setFlag r b v i j).datum = L.datum := rfl
@[simp] theorem Lane.setFlag_cond (L : Lane) (r : Reg) (b : Nat) (v : Bool) (i j : Nat) : (L.setFlag r b v i j).cond = L.cond := rfl
@[simp] theorem Lane.setFlag_fabric (L : Lane) (r : Reg) (b : Nat) (v : Bool) (i j : Nat) : (L.setFlag r b v i j).fabric = L.fabric := rfl
@[simp] theorem Lane.setFlag_trip (L : Lane) (r : Reg) (b : Nat) (v : Bool) (i j : Nat) : (L.setFlag r b v i j).trip = L.trip := rfl
@[simp] theorem Lane.setFlag_twin (L : Lane) (r : Reg) (b : Nat) (v : Bool) (i j : Nat) : (L.setFlag r b v i j).twin = L.twin := rfl
@[simp] theorem Lane.setFlag_cmds (L : Lane) (r : Reg) (b : Nat) (v : Bool) (i j : Nat) : (L.setFlag r b v i j).cmds = L.cmds := rfl
@[simp] theorem Lane.setFlag_pcl (L : Lane) (r : Reg) (b : Nat) (v : Bool) (i j : Nat) : (L.setFlag r b v i j).pcl = L.pcl := rfl
@[simp] theorem Lane.setFlag_copies (L : Lane) (r : Reg) (b : Nat) (v : Bool) (i j : Nat) : (L.setFlag r b v i j).copies = L.copies := rfl
@[simp] theorem Lane.setFlag_critMram (L : Lane) (r : Reg) (b : Nat) (v : Bool) (i j : Nat) : (L.setFlag r b v i j).critMram = L.critMram := rfl
@[simp] theorem Lane.setFlag_reload (L : Lane) (r : Reg) (b : Nat) (v : Bool) (i j : Nat) : (L.setFlag r b v i j).reload = L.reload := rfl
@[simp] theorem Lane.setFlag_cores (L : Lane) (r : Reg) (b : Nat) (v : Bool) (i j : Nat) : (L.setFlag r b v i j).cores = L.cores := rfl
@[simp] theorem Lane.setFlag_ilu (L : Lane) (r : Reg) (b : Nat) (v : Bool) (i j : Nat) : (L.setFlag r b v i j).ilu = L.ilu := rfl
@[simp] theorem Lane.setFlag_fio (L : Lane) (r : Reg) (b : Nat) (v : Bool) (i j : Nat) : (L.setFlag r b v i j).fio = L.fio := rfl
@[simp] theorem Lane.setFlag_net (L : Lane) (r : Reg) (b : Nat) (v : Bool) (i j : Nat) : (L.setFlag r b v i j).net = L.net := rfl
@[simp] theorem Lane.setFlag_acq (L : Lane) (r : Reg) (b : Nat) (v : Bool) (i j : Nat) : (L.setFlag r b v i j).acq = L.acq := rfl
@[simp] theorem Lane.setFlag_book (L : Lane) (r : Reg) (b : Nat) (v : Bool) (i j : Nat) : (L.setFlag r b v i j).book = L.book := rfl
@[simp] theorem Lane.setFlag_saved (L : Lane) (r : Reg) (b : Nat) (v : Bool) (i j : Nat) : (L.setFlag r b v i j).saved = L.saved := rfl
@[simp] theorem Lane.setFlag_flush (L : Lane) (r : Reg) (b : Nat) (v : Bool) (i j : Nat) : (L.setFlag r b v i j).flush = L.flush := rfl
@[simp] theorem Lane.setFlag_keys (L : Lane) (r : Reg) (b : Nat) (v : Bool) (i j : Nat) : (L.setFlag r b v i j).keys = L.keys := rfl
@[simp] theorem Lane.setFlag_flash (L : Lane) (r : Reg) (b : Nat) (v : Bool) (i j : Nat) : (L.setFlag r b v i j).flash = L.flash := rfl
@[simp] theorem Lane.setFlag_hostGen (L : Lane) (r : Reg) (b : Nat) (v : Bool) (i j : Nat) : (L.setFlag r b v i j).hostGen = L.hostGen := rfl
@[simp] theorem Lane.setFlag_occ (L : Lane) (r : Reg) (b : Nat) (v : Bool) (i j : Nat) : (L.setFlag r b v i j).occ = L.occ := rfl
@[simp] theorem Lane.setFlag_placed (L : Lane) (r : Reg) (b : Nat) (v : Bool) (i j : Nat) : (L.setFlag r b v i j).placed = L.placed := rfl
@[simp] theorem Lane.setFlag_pend (L : Lane) (r : Reg) (b : Nat) (v : Bool) (i j : Nat) : (L.setFlag r b v i j).pend = L.pend := rfl
@[simp] theorem Lane.setFlag_fin (L : Lane) (r : Reg) (b : Nat) (v : Bool) (i j : Nat) : (L.setFlag r b v i j).fin = L.fin := rfl
@[simp] theorem Lane.setFlag_sent (L : Lane) (r : Reg) (b : Nat) (v : Bool) (i j : Nat) : (L.setFlag r b v i j).sent = L.sent := rfl
@[simp] theorem Lane.setFlag_free (L : Lane) (r : Reg) (b : Nat) (v : Bool) (i j : Nat) : (L.setFlag r b v i j).free = L.free := rfl

@[simp] theorem Lane.bump_latch (L : Lane) (r : Reg) (i k : Nat) : (L.bump r i k).latch = L.latch := rfl
@[simp] theorem Lane.bump_staged (L : Lane) (r : Reg) (i k : Nat) : (L.bump r i k).staged = L.staged := rfl
@[simp] theorem Lane.bump_mac (L : Lane) (r : Reg) (i k : Nat) : (L.bump r i k).mac = L.mac := rfl
@[simp] theorem Lane.bump_img (L : Lane) (r : Reg) (i k : Nat) : (L.bump r i k).img = L.img := rfl
@[simp] theorem Lane.bump_imgPrev (L : Lane) (r : Reg) (i k : Nat) : (L.bump r i k).imgPrev = L.imgPrev := rfl
@[simp] theorem Lane.bump_trav (L : Lane) (r : Reg) (i k : Nat) : (L.bump r i k).trav = L.trav := rfl
@[simp] theorem Lane.bump_intake (L : Lane) (r : Reg) (i k : Nat) : (L.bump r i k).intake = L.intake := rfl
@[simp] theorem Lane.bump_datum (L : Lane) (r : Reg) (i k : Nat) : (L.bump r i k).datum = L.datum := rfl
@[simp] theorem Lane.bump_cond (L : Lane) (r : Reg) (i k : Nat) : (L.bump r i k).cond = L.cond := rfl
@[simp] theorem Lane.bump_fabric (L : Lane) (r : Reg) (i k : Nat) : (L.bump r i k).fabric = L.fabric := rfl
@[simp] theorem Lane.bump_trip (L : Lane) (r : Reg) (i k : Nat) : (L.bump r i k).trip = L.trip := rfl
@[simp] theorem Lane.bump_twin (L : Lane) (r : Reg) (i k : Nat) : (L.bump r i k).twin = L.twin := rfl
@[simp] theorem Lane.bump_cmds (L : Lane) (r : Reg) (i k : Nat) : (L.bump r i k).cmds = L.cmds := rfl
@[simp] theorem Lane.bump_pcl (L : Lane) (r : Reg) (i k : Nat) : (L.bump r i k).pcl = L.pcl := rfl
@[simp] theorem Lane.bump_copies (L : Lane) (r : Reg) (i k : Nat) : (L.bump r i k).copies = L.copies := rfl
@[simp] theorem Lane.bump_critMram (L : Lane) (r : Reg) (i k : Nat) : (L.bump r i k).critMram = L.critMram := rfl
@[simp] theorem Lane.bump_reload (L : Lane) (r : Reg) (i k : Nat) : (L.bump r i k).reload = L.reload := rfl
@[simp] theorem Lane.bump_cores (L : Lane) (r : Reg) (i k : Nat) : (L.bump r i k).cores = L.cores := rfl
@[simp] theorem Lane.bump_ilu (L : Lane) (r : Reg) (i k : Nat) : (L.bump r i k).ilu = L.ilu := rfl
@[simp] theorem Lane.bump_fio (L : Lane) (r : Reg) (i k : Nat) : (L.bump r i k).fio = L.fio := rfl
@[simp] theorem Lane.bump_net (L : Lane) (r : Reg) (i k : Nat) : (L.bump r i k).net = L.net := rfl
@[simp] theorem Lane.bump_acq (L : Lane) (r : Reg) (i k : Nat) : (L.bump r i k).acq = L.acq := rfl
@[simp] theorem Lane.bump_book (L : Lane) (r : Reg) (i k : Nat) : (L.bump r i k).book = L.book := rfl
@[simp] theorem Lane.bump_saved (L : Lane) (r : Reg) (i k : Nat) : (L.bump r i k).saved = L.saved := rfl
@[simp] theorem Lane.bump_flush (L : Lane) (r : Reg) (i k : Nat) : (L.bump r i k).flush = L.flush := rfl
@[simp] theorem Lane.bump_keys (L : Lane) (r : Reg) (i k : Nat) : (L.bump r i k).keys = L.keys := rfl
@[simp] theorem Lane.bump_flash (L : Lane) (r : Reg) (i k : Nat) : (L.bump r i k).flash = L.flash := rfl
@[simp] theorem Lane.bump_hostGen (L : Lane) (r : Reg) (i k : Nat) : (L.bump r i k).hostGen = L.hostGen := rfl
@[simp] theorem Lane.bump_occ (L : Lane) (r : Reg) (i k : Nat) : (L.bump r i k).occ = L.occ := rfl
@[simp] theorem Lane.bump_placed (L : Lane) (r : Reg) (i k : Nat) : (L.bump r i k).placed = L.placed := rfl
@[simp] theorem Lane.bump_pend (L : Lane) (r : Reg) (i k : Nat) : (L.bump r i k).pend = L.pend := rfl
@[simp] theorem Lane.bump_fin (L : Lane) (r : Reg) (i k : Nat) : (L.bump r i k).fin = L.fin := rfl
@[simp] theorem Lane.bump_sent (L : Lane) (r : Reg) (i k : Nat) : (L.bump r i k).sent = L.sent := rfl
@[simp] theorem Lane.bump_free (L : Lane) (r : Reg) (i k : Nat) : (L.bump r i k).free = L.free := rfl

@[simp] theorem Lane.bumpSat_latch (L : Lane) (r : Reg) (i k : Nat) : (L.bumpSat r i k).latch = L.latch := rfl
@[simp] theorem Lane.bumpSat_staged (L : Lane) (r : Reg) (i k : Nat) : (L.bumpSat r i k).staged = L.staged := rfl
@[simp] theorem Lane.bumpSat_mac (L : Lane) (r : Reg) (i k : Nat) : (L.bumpSat r i k).mac = L.mac := rfl
@[simp] theorem Lane.bumpSat_img (L : Lane) (r : Reg) (i k : Nat) : (L.bumpSat r i k).img = L.img := rfl
@[simp] theorem Lane.bumpSat_imgPrev (L : Lane) (r : Reg) (i k : Nat) : (L.bumpSat r i k).imgPrev = L.imgPrev := rfl
@[simp] theorem Lane.bumpSat_trav (L : Lane) (r : Reg) (i k : Nat) : (L.bumpSat r i k).trav = L.trav := rfl
@[simp] theorem Lane.bumpSat_intake (L : Lane) (r : Reg) (i k : Nat) : (L.bumpSat r i k).intake = L.intake := rfl
@[simp] theorem Lane.bumpSat_datum (L : Lane) (r : Reg) (i k : Nat) : (L.bumpSat r i k).datum = L.datum := rfl
@[simp] theorem Lane.bumpSat_cond (L : Lane) (r : Reg) (i k : Nat) : (L.bumpSat r i k).cond = L.cond := rfl
@[simp] theorem Lane.bumpSat_fabric (L : Lane) (r : Reg) (i k : Nat) : (L.bumpSat r i k).fabric = L.fabric := rfl
@[simp] theorem Lane.bumpSat_trip (L : Lane) (r : Reg) (i k : Nat) : (L.bumpSat r i k).trip = L.trip := rfl
@[simp] theorem Lane.bumpSat_twin (L : Lane) (r : Reg) (i k : Nat) : (L.bumpSat r i k).twin = L.twin := rfl
@[simp] theorem Lane.bumpSat_cmds (L : Lane) (r : Reg) (i k : Nat) : (L.bumpSat r i k).cmds = L.cmds := rfl
@[simp] theorem Lane.bumpSat_pcl (L : Lane) (r : Reg) (i k : Nat) : (L.bumpSat r i k).pcl = L.pcl := rfl
@[simp] theorem Lane.bumpSat_copies (L : Lane) (r : Reg) (i k : Nat) : (L.bumpSat r i k).copies = L.copies := rfl
@[simp] theorem Lane.bumpSat_critMram (L : Lane) (r : Reg) (i k : Nat) : (L.bumpSat r i k).critMram = L.critMram := rfl
@[simp] theorem Lane.bumpSat_reload (L : Lane) (r : Reg) (i k : Nat) : (L.bumpSat r i k).reload = L.reload := rfl
@[simp] theorem Lane.bumpSat_cores (L : Lane) (r : Reg) (i k : Nat) : (L.bumpSat r i k).cores = L.cores := rfl
@[simp] theorem Lane.bumpSat_ilu (L : Lane) (r : Reg) (i k : Nat) : (L.bumpSat r i k).ilu = L.ilu := rfl
@[simp] theorem Lane.bumpSat_fio (L : Lane) (r : Reg) (i k : Nat) : (L.bumpSat r i k).fio = L.fio := rfl
@[simp] theorem Lane.bumpSat_net (L : Lane) (r : Reg) (i k : Nat) : (L.bumpSat r i k).net = L.net := rfl
@[simp] theorem Lane.bumpSat_acq (L : Lane) (r : Reg) (i k : Nat) : (L.bumpSat r i k).acq = L.acq := rfl
@[simp] theorem Lane.bumpSat_book (L : Lane) (r : Reg) (i k : Nat) : (L.bumpSat r i k).book = L.book := rfl
@[simp] theorem Lane.bumpSat_saved (L : Lane) (r : Reg) (i k : Nat) : (L.bumpSat r i k).saved = L.saved := rfl
@[simp] theorem Lane.bumpSat_flush (L : Lane) (r : Reg) (i k : Nat) : (L.bumpSat r i k).flush = L.flush := rfl
@[simp] theorem Lane.bumpSat_keys (L : Lane) (r : Reg) (i k : Nat) : (L.bumpSat r i k).keys = L.keys := rfl
@[simp] theorem Lane.bumpSat_flash (L : Lane) (r : Reg) (i k : Nat) : (L.bumpSat r i k).flash = L.flash := rfl
@[simp] theorem Lane.bumpSat_hostGen (L : Lane) (r : Reg) (i k : Nat) : (L.bumpSat r i k).hostGen = L.hostGen := rfl
@[simp] theorem Lane.bumpSat_occ (L : Lane) (r : Reg) (i k : Nat) : (L.bumpSat r i k).occ = L.occ := rfl
@[simp] theorem Lane.bumpSat_placed (L : Lane) (r : Reg) (i k : Nat) : (L.bumpSat r i k).placed = L.placed := rfl
@[simp] theorem Lane.bumpSat_pend (L : Lane) (r : Reg) (i k : Nat) : (L.bumpSat r i k).pend = L.pend := rfl
@[simp] theorem Lane.bumpSat_fin (L : Lane) (r : Reg) (i k : Nat) : (L.bumpSat r i k).fin = L.fin := rfl
@[simp] theorem Lane.bumpSat_sent (L : Lane) (r : Reg) (i k : Nat) : (L.bumpSat r i k).sent = L.sent := rfl
@[simp] theorem Lane.bumpSat_free (L : Lane) (r : Reg) (i k : Nat) : (L.bumpSat r i k).free = L.free := rfl

@[simp] theorem Lane.setNum64_latch (L : Lane) (lo hi : Reg) (v i : Nat) : (L.setNum64 lo hi v i).latch = L.latch := rfl
@[simp] theorem Lane.setNum64_staged (L : Lane) (lo hi : Reg) (v i : Nat) : (L.setNum64 lo hi v i).staged = L.staged := rfl
@[simp] theorem Lane.setNum64_mac (L : Lane) (lo hi : Reg) (v i : Nat) : (L.setNum64 lo hi v i).mac = L.mac := rfl
@[simp] theorem Lane.setNum64_img (L : Lane) (lo hi : Reg) (v i : Nat) : (L.setNum64 lo hi v i).img = L.img := rfl
@[simp] theorem Lane.setNum64_imgPrev (L : Lane) (lo hi : Reg) (v i : Nat) : (L.setNum64 lo hi v i).imgPrev = L.imgPrev := rfl
@[simp] theorem Lane.setNum64_trav (L : Lane) (lo hi : Reg) (v i : Nat) : (L.setNum64 lo hi v i).trav = L.trav := rfl
@[simp] theorem Lane.setNum64_intake (L : Lane) (lo hi : Reg) (v i : Nat) : (L.setNum64 lo hi v i).intake = L.intake := rfl
@[simp] theorem Lane.setNum64_datum (L : Lane) (lo hi : Reg) (v i : Nat) : (L.setNum64 lo hi v i).datum = L.datum := rfl
@[simp] theorem Lane.setNum64_cond (L : Lane) (lo hi : Reg) (v i : Nat) : (L.setNum64 lo hi v i).cond = L.cond := rfl
@[simp] theorem Lane.setNum64_fabric (L : Lane) (lo hi : Reg) (v i : Nat) : (L.setNum64 lo hi v i).fabric = L.fabric := rfl
@[simp] theorem Lane.setNum64_trip (L : Lane) (lo hi : Reg) (v i : Nat) : (L.setNum64 lo hi v i).trip = L.trip := rfl
@[simp] theorem Lane.setNum64_twin (L : Lane) (lo hi : Reg) (v i : Nat) : (L.setNum64 lo hi v i).twin = L.twin := rfl
@[simp] theorem Lane.setNum64_cmds (L : Lane) (lo hi : Reg) (v i : Nat) : (L.setNum64 lo hi v i).cmds = L.cmds := rfl
@[simp] theorem Lane.setNum64_pcl (L : Lane) (lo hi : Reg) (v i : Nat) : (L.setNum64 lo hi v i).pcl = L.pcl := rfl
@[simp] theorem Lane.setNum64_copies (L : Lane) (lo hi : Reg) (v i : Nat) : (L.setNum64 lo hi v i).copies = L.copies := rfl
@[simp] theorem Lane.setNum64_critMram (L : Lane) (lo hi : Reg) (v i : Nat) : (L.setNum64 lo hi v i).critMram = L.critMram := rfl
@[simp] theorem Lane.setNum64_reload (L : Lane) (lo hi : Reg) (v i : Nat) : (L.setNum64 lo hi v i).reload = L.reload := rfl
@[simp] theorem Lane.setNum64_cores (L : Lane) (lo hi : Reg) (v i : Nat) : (L.setNum64 lo hi v i).cores = L.cores := rfl
@[simp] theorem Lane.setNum64_ilu (L : Lane) (lo hi : Reg) (v i : Nat) : (L.setNum64 lo hi v i).ilu = L.ilu := rfl
@[simp] theorem Lane.setNum64_fio (L : Lane) (lo hi : Reg) (v i : Nat) : (L.setNum64 lo hi v i).fio = L.fio := rfl
@[simp] theorem Lane.setNum64_net (L : Lane) (lo hi : Reg) (v i : Nat) : (L.setNum64 lo hi v i).net = L.net := rfl
@[simp] theorem Lane.setNum64_acq (L : Lane) (lo hi : Reg) (v i : Nat) : (L.setNum64 lo hi v i).acq = L.acq := rfl
@[simp] theorem Lane.setNum64_book (L : Lane) (lo hi : Reg) (v i : Nat) : (L.setNum64 lo hi v i).book = L.book := rfl
@[simp] theorem Lane.setNum64_saved (L : Lane) (lo hi : Reg) (v i : Nat) : (L.setNum64 lo hi v i).saved = L.saved := rfl
@[simp] theorem Lane.setNum64_flush (L : Lane) (lo hi : Reg) (v i : Nat) : (L.setNum64 lo hi v i).flush = L.flush := rfl
@[simp] theorem Lane.setNum64_keys (L : Lane) (lo hi : Reg) (v i : Nat) : (L.setNum64 lo hi v i).keys = L.keys := rfl
@[simp] theorem Lane.setNum64_flash (L : Lane) (lo hi : Reg) (v i : Nat) : (L.setNum64 lo hi v i).flash = L.flash := rfl
@[simp] theorem Lane.setNum64_hostGen (L : Lane) (lo hi : Reg) (v i : Nat) : (L.setNum64 lo hi v i).hostGen = L.hostGen := rfl
@[simp] theorem Lane.setNum64_occ (L : Lane) (lo hi : Reg) (v i : Nat) : (L.setNum64 lo hi v i).occ = L.occ := rfl
@[simp] theorem Lane.setNum64_placed (L : Lane) (lo hi : Reg) (v i : Nat) : (L.setNum64 lo hi v i).placed = L.placed := rfl
@[simp] theorem Lane.setNum64_pend (L : Lane) (lo hi : Reg) (v i : Nat) : (L.setNum64 lo hi v i).pend = L.pend := rfl
@[simp] theorem Lane.setNum64_fin (L : Lane) (lo hi : Reg) (v i : Nat) : (L.setNum64 lo hi v i).fin = L.fin := rfl
@[simp] theorem Lane.setNum64_sent (L : Lane) (lo hi : Reg) (v i : Nat) : (L.setNum64 lo hi v i).sent = L.sent := rfl
@[simp] theorem Lane.setNum64_free (L : Lane) (lo hi : Reg) (v i : Nat) : (L.setNum64 lo hi v i).free = L.free := rfl

@[simp] theorem Lane.raise_regs (L : Lane) (src code : Nat) (time : Int) (data : List Byte) : (L.raise src code time data).regs = L.regs := rfl
@[simp] theorem Lane.raise_latch (L : Lane) (src code : Nat) (time : Int) (data : List Byte) : (L.raise src code time data).latch = L.latch := rfl
@[simp] theorem Lane.raise_staged (L : Lane) (src code : Nat) (time : Int) (data : List Byte) : (L.raise src code time data).staged = L.staged := rfl
@[simp] theorem Lane.raise_mac (L : Lane) (src code : Nat) (time : Int) (data : List Byte) : (L.raise src code time data).mac = L.mac := rfl
@[simp] theorem Lane.raise_img (L : Lane) (src code : Nat) (time : Int) (data : List Byte) : (L.raise src code time data).img = L.img := rfl
@[simp] theorem Lane.raise_imgPrev (L : Lane) (src code : Nat) (time : Int) (data : List Byte) : (L.raise src code time data).imgPrev = L.imgPrev := rfl
@[simp] theorem Lane.raise_trav (L : Lane) (src code : Nat) (time : Int) (data : List Byte) : (L.raise src code time data).trav = L.trav := rfl
@[simp] theorem Lane.raise_intake (L : Lane) (src code : Nat) (time : Int) (data : List Byte) : (L.raise src code time data).intake = L.intake := rfl
@[simp] theorem Lane.raise_datum (L : Lane) (src code : Nat) (time : Int) (data : List Byte) : (L.raise src code time data).datum = L.datum := rfl
@[simp] theorem Lane.raise_cond (L : Lane) (src code : Nat) (time : Int) (data : List Byte) : (L.raise src code time data).cond = L.cond := rfl
@[simp] theorem Lane.raise_fabric (L : Lane) (src code : Nat) (time : Int) (data : List Byte) : (L.raise src code time data).fabric = L.fabric := rfl
@[simp] theorem Lane.raise_trip (L : Lane) (src code : Nat) (time : Int) (data : List Byte) : (L.raise src code time data).trip = L.trip := rfl
@[simp] theorem Lane.raise_twin (L : Lane) (src code : Nat) (time : Int) (data : List Byte) : (L.raise src code time data).twin = L.twin := rfl
@[simp] theorem Lane.raise_cmds (L : Lane) (src code : Nat) (time : Int) (data : List Byte) : (L.raise src code time data).cmds = L.cmds := rfl
@[simp] theorem Lane.raise_pcl (L : Lane) (src code : Nat) (time : Int) (data : List Byte) : (L.raise src code time data).pcl = L.pcl := rfl
@[simp] theorem Lane.raise_copies (L : Lane) (src code : Nat) (time : Int) (data : List Byte) : (L.raise src code time data).copies = L.copies := rfl
@[simp] theorem Lane.raise_critMram (L : Lane) (src code : Nat) (time : Int) (data : List Byte) : (L.raise src code time data).critMram = L.critMram := rfl
@[simp] theorem Lane.raise_reload (L : Lane) (src code : Nat) (time : Int) (data : List Byte) : (L.raise src code time data).reload = L.reload := rfl
@[simp] theorem Lane.raise_cores (L : Lane) (src code : Nat) (time : Int) (data : List Byte) : (L.raise src code time data).cores = L.cores := rfl
@[simp] theorem Lane.raise_ilu (L : Lane) (src code : Nat) (time : Int) (data : List Byte) : (L.raise src code time data).ilu = L.ilu := rfl
@[simp] theorem Lane.raise_fio (L : Lane) (src code : Nat) (time : Int) (data : List Byte) : (L.raise src code time data).fio = L.fio := rfl
@[simp] theorem Lane.raise_net (L : Lane) (src code : Nat) (time : Int) (data : List Byte) : (L.raise src code time data).net = L.net := rfl
@[simp] theorem Lane.raise_acq (L : Lane) (src code : Nat) (time : Int) (data : List Byte) : (L.raise src code time data).acq = L.acq := rfl
@[simp] theorem Lane.raise_book (L : Lane) (src code : Nat) (time : Int) (data : List Byte) : (L.raise src code time data).book = L.book := rfl
@[simp] theorem Lane.raise_saved (L : Lane) (src code : Nat) (time : Int) (data : List Byte) : (L.raise src code time data).saved = L.saved := rfl
@[simp] theorem Lane.raise_flush (L : Lane) (src code : Nat) (time : Int) (data : List Byte) : (L.raise src code time data).flush = L.flush := rfl
@[simp] theorem Lane.raise_keys (L : Lane) (src code : Nat) (time : Int) (data : List Byte) : (L.raise src code time data).keys = L.keys := rfl
@[simp] theorem Lane.raise_flash (L : Lane) (src code : Nat) (time : Int) (data : List Byte) : (L.raise src code time data).flash = L.flash := rfl
@[simp] theorem Lane.raise_hostGen (L : Lane) (src code : Nat) (time : Int) (data : List Byte) : (L.raise src code time data).hostGen = L.hostGen := rfl
@[simp] theorem Lane.raise_placed (L : Lane) (src code : Nat) (time : Int) (data : List Byte) : (L.raise src code time data).placed = L.placed := rfl
@[simp] theorem Lane.raise_pend (L : Lane) (src code : Nat) (time : Int) (data : List Byte) : (L.raise src code time data).pend = L.pend := rfl
@[simp] theorem Lane.raise_fin (L : Lane) (src code : Nat) (time : Int) (data : List Byte) : (L.raise src code time data).fin = L.fin := rfl
@[simp] theorem Lane.raise_sent (L : Lane) (src code : Nat) (time : Int) (data : List Byte) : (L.raise src code time data).sent = L.sent := rfl
@[simp] theorem Lane.raise_free (L : Lane) (src code : Nat) (time : Int) (data : List Byte) : (L.raise src code time data).free = L.free := rfl

@[simp] theorem Lane.emit_regs (L : Lane) (e : Emit) : (L.emit e).regs = L.regs := rfl
@[simp] theorem Lane.emit_latch (L : Lane) (e : Emit) : (L.emit e).latch = L.latch := rfl
@[simp] theorem Lane.emit_staged (L : Lane) (e : Emit) : (L.emit e).staged = L.staged := rfl
@[simp] theorem Lane.emit_mac (L : Lane) (e : Emit) : (L.emit e).mac = L.mac := rfl
@[simp] theorem Lane.emit_img (L : Lane) (e : Emit) : (L.emit e).img = L.img := rfl
@[simp] theorem Lane.emit_imgPrev (L : Lane) (e : Emit) : (L.emit e).imgPrev = L.imgPrev := rfl
@[simp] theorem Lane.emit_trav (L : Lane) (e : Emit) : (L.emit e).trav = L.trav := rfl
@[simp] theorem Lane.emit_intake (L : Lane) (e : Emit) : (L.emit e).intake = L.intake := rfl
@[simp] theorem Lane.emit_datum (L : Lane) (e : Emit) : (L.emit e).datum = L.datum := rfl
@[simp] theorem Lane.emit_cond (L : Lane) (e : Emit) : (L.emit e).cond = L.cond := rfl
@[simp] theorem Lane.emit_fabric (L : Lane) (e : Emit) : (L.emit e).fabric = L.fabric := rfl
@[simp] theorem Lane.emit_trip (L : Lane) (e : Emit) : (L.emit e).trip = L.trip := rfl
@[simp] theorem Lane.emit_twin (L : Lane) (e : Emit) : (L.emit e).twin = L.twin := rfl
@[simp] theorem Lane.emit_cmds (L : Lane) (e : Emit) : (L.emit e).cmds = L.cmds := rfl
@[simp] theorem Lane.emit_pcl (L : Lane) (e : Emit) : (L.emit e).pcl = L.pcl := rfl
@[simp] theorem Lane.emit_copies (L : Lane) (e : Emit) : (L.emit e).copies = L.copies := rfl
@[simp] theorem Lane.emit_critMram (L : Lane) (e : Emit) : (L.emit e).critMram = L.critMram := rfl
@[simp] theorem Lane.emit_reload (L : Lane) (e : Emit) : (L.emit e).reload = L.reload := rfl
@[simp] theorem Lane.emit_cores (L : Lane) (e : Emit) : (L.emit e).cores = L.cores := rfl
@[simp] theorem Lane.emit_ilu (L : Lane) (e : Emit) : (L.emit e).ilu = L.ilu := rfl
@[simp] theorem Lane.emit_fio (L : Lane) (e : Emit) : (L.emit e).fio = L.fio := rfl
@[simp] theorem Lane.emit_net (L : Lane) (e : Emit) : (L.emit e).net = L.net := rfl
@[simp] theorem Lane.emit_acq (L : Lane) (e : Emit) : (L.emit e).acq = L.acq := rfl
@[simp] theorem Lane.emit_book (L : Lane) (e : Emit) : (L.emit e).book = L.book := rfl
@[simp] theorem Lane.emit_saved (L : Lane) (e : Emit) : (L.emit e).saved = L.saved := rfl
@[simp] theorem Lane.emit_flush (L : Lane) (e : Emit) : (L.emit e).flush = L.flush := rfl
@[simp] theorem Lane.emit_keys (L : Lane) (e : Emit) : (L.emit e).keys = L.keys := rfl
@[simp] theorem Lane.emit_flash (L : Lane) (e : Emit) : (L.emit e).flash = L.flash := rfl
@[simp] theorem Lane.emit_hostGen (L : Lane) (e : Emit) : (L.emit e).hostGen = L.hostGen := rfl
@[simp] theorem Lane.emit_occ (L : Lane) (e : Emit) : (L.emit e).occ = L.occ := rfl
@[simp] theorem Lane.emit_placed (L : Lane) (e : Emit) : (L.emit e).placed = L.placed := rfl
@[simp] theorem Lane.emit_pend (L : Lane) (e : Emit) : (L.emit e).pend = L.pend := rfl
@[simp] theorem Lane.emit_fin (L : Lane) (e : Emit) : (L.emit e).fin = L.fin := rfl
@[simp] theorem Lane.emit_free (L : Lane) (e : Emit) : (L.emit e).free = L.free := rfl

@[simp] theorem Lane.markDone_regs (L : Lane) (b : Nat) : (L.markDone b).regs = L.regs := rfl
@[simp] theorem Lane.markDone_latch (L : Lane) (b : Nat) : (L.markDone b).latch = L.latch := rfl
@[simp] theorem Lane.markDone_staged (L : Lane) (b : Nat) : (L.markDone b).staged = L.staged := rfl
@[simp] theorem Lane.markDone_mac (L : Lane) (b : Nat) : (L.markDone b).mac = L.mac := rfl
@[simp] theorem Lane.markDone_img (L : Lane) (b : Nat) : (L.markDone b).img = L.img := rfl
@[simp] theorem Lane.markDone_imgPrev (L : Lane) (b : Nat) : (L.markDone b).imgPrev = L.imgPrev := rfl
@[simp] theorem Lane.markDone_intake (L : Lane) (b : Nat) : (L.markDone b).intake = L.intake := rfl
@[simp] theorem Lane.markDone_datum (L : Lane) (b : Nat) : (L.markDone b).datum = L.datum := rfl
@[simp] theorem Lane.markDone_cond (L : Lane) (b : Nat) : (L.markDone b).cond = L.cond := rfl
@[simp] theorem Lane.markDone_fabric (L : Lane) (b : Nat) : (L.markDone b).fabric = L.fabric := rfl
@[simp] theorem Lane.markDone_trip (L : Lane) (b : Nat) : (L.markDone b).trip = L.trip := rfl
@[simp] theorem Lane.markDone_twin (L : Lane) (b : Nat) : (L.markDone b).twin = L.twin := rfl
@[simp] theorem Lane.markDone_cmds (L : Lane) (b : Nat) : (L.markDone b).cmds = L.cmds := rfl
@[simp] theorem Lane.markDone_pcl (L : Lane) (b : Nat) : (L.markDone b).pcl = L.pcl := rfl
@[simp] theorem Lane.markDone_copies (L : Lane) (b : Nat) : (L.markDone b).copies = L.copies := rfl
@[simp] theorem Lane.markDone_critMram (L : Lane) (b : Nat) : (L.markDone b).critMram = L.critMram := rfl
@[simp] theorem Lane.markDone_reload (L : Lane) (b : Nat) : (L.markDone b).reload = L.reload := rfl
@[simp] theorem Lane.markDone_cores (L : Lane) (b : Nat) : (L.markDone b).cores = L.cores := rfl
@[simp] theorem Lane.markDone_ilu (L : Lane) (b : Nat) : (L.markDone b).ilu = L.ilu := rfl
@[simp] theorem Lane.markDone_fio (L : Lane) (b : Nat) : (L.markDone b).fio = L.fio := rfl
@[simp] theorem Lane.markDone_net (L : Lane) (b : Nat) : (L.markDone b).net = L.net := rfl
@[simp] theorem Lane.markDone_acq (L : Lane) (b : Nat) : (L.markDone b).acq = L.acq := rfl
@[simp] theorem Lane.markDone_book (L : Lane) (b : Nat) : (L.markDone b).book = L.book := rfl
@[simp] theorem Lane.markDone_saved (L : Lane) (b : Nat) : (L.markDone b).saved = L.saved := rfl
@[simp] theorem Lane.markDone_flush (L : Lane) (b : Nat) : (L.markDone b).flush = L.flush := rfl
@[simp] theorem Lane.markDone_keys (L : Lane) (b : Nat) : (L.markDone b).keys = L.keys := rfl
@[simp] theorem Lane.markDone_flash (L : Lane) (b : Nat) : (L.markDone b).flash = L.flash := rfl
@[simp] theorem Lane.markDone_hostGen (L : Lane) (b : Nat) : (L.markDone b).hostGen = L.hostGen := rfl
@[simp] theorem Lane.markDone_occ (L : Lane) (b : Nat) : (L.markDone b).occ = L.occ := rfl
@[simp] theorem Lane.markDone_placed (L : Lane) (b : Nat) : (L.markDone b).placed = L.placed := rfl
@[simp] theorem Lane.markDone_pend (L : Lane) (b : Nat) : (L.markDone b).pend = L.pend := rfl
@[simp] theorem Lane.markDone_fin (L : Lane) (b : Nat) : (L.markDone b).fin = L.fin := rfl
@[simp] theorem Lane.markDone_sent (L : Lane) (b : Nat) : (L.markDone b).sent = L.sent := rfl
@[simp] theorem Lane.markDone_free (L : Lane) (b : Nat) : (L.markDone b).free = L.free := rfl

@[simp] theorem Lane.setReg_reg_self (L : Lane) (r : Reg) (v : Word) (i j : Nat) : (L.setReg r v i j).reg r i j = v := by
  simp [Lane.setReg, Lane.reg]

theorem Lane.setReg_reg_ne (L : Lane) {r q : Reg} {i j k l : Nat} (h : ¬(q = r ∧ k = i ∧ l = j)) (v : Word) :
    (L.setReg r v i j).reg q k l = L.reg q k l := L.regs.get_set_ne h v

theorem Lane.setReg_reg_other (L : Lane) {r q : Reg} (h : q ≠ r) (v : Word) (i j k l : Nat) :
    (L.setReg r v i j).reg q k l = L.reg q k l := L.regs.get_set_reg h i j k l v

@[simp] theorem Lane.raise_reg (L : Lane) (src code : Nat) (time : Int) (data : List Byte) (r : Reg) (i j : Nat) :
    (L.raise src code time data).reg r i j = L.reg r i j := rfl

@[simp] theorem Lane.emit_reg (L : Lane) (e : Emit) (r : Reg) (i j : Nat) : (L.emit e).reg r i j = L.reg r i j := rfl

@[simp] theorem Lane.setFlag_flag_self (L : Lane) (r : Reg) {b : Nat} (hb : b < 32) (v : Bool) (i j : Nat) :
    (L.setFlag r b v i j).flag r b i j = v := by simp [Lane.setFlag, Lane.flag, bit_putBit_self _ hb]

@[simp] theorem Lane.setFld_fld_self (L : Lane) (r : Reg) {hi lo : Nat} (h : lo ≤ hi) (hh : hi < 32) (v i j : Nat) :
    (L.setFld r hi lo v i j).fld r hi lo i j = v % 2 ^ (hi + 1 - lo) := by
  simp [Lane.setFld, Lane.fld, bits_putBits_self _ h hh]

/-! ### The host complex -/

@[simp] theorem Hcx.setReg_latch (H : Hcx) (r : Reg) (v : Word) (i j : Nat) : (H.setReg r v i j).latch = H.latch := rfl
@[simp] theorem Hcx.setReg_staged (H : Hcx) (r : Reg) (v : Word) (i j : Nat) : (H.setReg r v i j).staged = H.staged := rfl
@[simp] theorem Hcx.setReg_fns (H : Hcx) (r : Reg) (v : Word) (i j : Nat) : (H.setReg r v i j).fns = H.fns := rfl
@[simp] theorem Hcx.setReg_vfs (H : Hcx) (r : Reg) (v : Word) (i j : Nat) : (H.setReg r v i j).vfs = H.vfs := rfl
@[simp] theorem Hcx.setReg_quotas (H : Hcx) (r : Reg) (v : Word) (i j : Nat) : (H.setReg r v i j).quotas = H.quotas := rfl
@[simp] theorem Hcx.setReg_quotaNext (H : Hcx) (r : Reg) (v : Word) (i j : Nat) : (H.setReg r v i j).quotaNext = H.quotaNext := rfl
@[simp] theorem Hcx.setReg_clock (H : Hcx) (r : Reg) (v : Word) (i j : Nat) : (H.setReg r v i j).clock = H.clock := rfl
@[simp] theorem Hcx.setReg_clockSrc (H : Hcx) (r : Reg) (v : Word) (i j : Nat) : (H.setReg r v i j).clockSrc = H.clockSrc := rfl
@[simp] theorem Hcx.setReg_tod (H : Hcx) (r : Reg) (v : Word) (i j : Nat) : (H.setReg r v i j).tod = H.tod := rfl
@[simp] theorem Hcx.setReg_done (H : Hcx) (r : Reg) (v : Word) (i j : Nat) : (H.setReg r v i j).done = H.done := rfl
@[simp] theorem Hcx.setReg_occ (H : Hcx) (r : Reg) (v : Word) (i j : Nat) : (H.setReg r v i j).occ = H.occ := rfl
@[simp] theorem Hcx.setReg_placed (H : Hcx) (r : Reg) (v : Word) (i j : Nat) : (H.setReg r v i j).placed = H.placed := rfl
@[simp] theorem Hcx.setReg_book (H : Hcx) (r : Reg) (v : Word) (i j : Nat) : (H.setReg r v i j).book = H.book := rfl
@[simp] theorem Hcx.setReg_nor (H : Hcx) (r : Reg) (v : Word) (i j : Nat) : (H.setReg r v i j).nor = H.nor := rfl
@[simp] theorem Hcx.setReg_arc (H : Hcx) (r : Reg) (v : Word) (i j : Nat) : (H.setReg r v i j).arc = H.arc := rfl
@[simp] theorem Hcx.setReg_keys (H : Hcx) (r : Reg) (v : Word) (i j : Nat) : (H.setReg r v i j).keys = H.keys := rfl
@[simp] theorem Hcx.setReg_flash (H : Hcx) (r : Reg) (v : Word) (i j : Nat) : (H.setReg r v i j).flash = H.flash := rfl
@[simp] theorem Hcx.setReg_migs (H : Hcx) (r : Reg) (v : Word) (i j : Nat) : (H.setReg r v i j).migs = H.migs := rfl
@[simp] theorem Hcx.setReg_sent (H : Hcx) (r : Reg) (v : Word) (i j : Nat) : (H.setReg r v i j).sent = H.sent := rfl

@[simp] theorem Hcx.setFld_latch (H : Hcx) (r : Reg) (hi lo v i : Nat) : (H.setFld r hi lo v i).latch = H.latch := rfl
@[simp] theorem Hcx.setFld_staged (H : Hcx) (r : Reg) (hi lo v i : Nat) : (H.setFld r hi lo v i).staged = H.staged := rfl
@[simp] theorem Hcx.setFld_fns (H : Hcx) (r : Reg) (hi lo v i : Nat) : (H.setFld r hi lo v i).fns = H.fns := rfl
@[simp] theorem Hcx.setFld_vfs (H : Hcx) (r : Reg) (hi lo v i : Nat) : (H.setFld r hi lo v i).vfs = H.vfs := rfl
@[simp] theorem Hcx.setFld_quotas (H : Hcx) (r : Reg) (hi lo v i : Nat) : (H.setFld r hi lo v i).quotas = H.quotas := rfl
@[simp] theorem Hcx.setFld_quotaNext (H : Hcx) (r : Reg) (hi lo v i : Nat) : (H.setFld r hi lo v i).quotaNext = H.quotaNext := rfl
@[simp] theorem Hcx.setFld_clock (H : Hcx) (r : Reg) (hi lo v i : Nat) : (H.setFld r hi lo v i).clock = H.clock := rfl
@[simp] theorem Hcx.setFld_clockSrc (H : Hcx) (r : Reg) (hi lo v i : Nat) : (H.setFld r hi lo v i).clockSrc = H.clockSrc := rfl
@[simp] theorem Hcx.setFld_tod (H : Hcx) (r : Reg) (hi lo v i : Nat) : (H.setFld r hi lo v i).tod = H.tod := rfl
@[simp] theorem Hcx.setFld_done (H : Hcx) (r : Reg) (hi lo v i : Nat) : (H.setFld r hi lo v i).done = H.done := rfl
@[simp] theorem Hcx.setFld_occ (H : Hcx) (r : Reg) (hi lo v i : Nat) : (H.setFld r hi lo v i).occ = H.occ := rfl
@[simp] theorem Hcx.setFld_placed (H : Hcx) (r : Reg) (hi lo v i : Nat) : (H.setFld r hi lo v i).placed = H.placed := rfl
@[simp] theorem Hcx.setFld_book (H : Hcx) (r : Reg) (hi lo v i : Nat) : (H.setFld r hi lo v i).book = H.book := rfl
@[simp] theorem Hcx.setFld_nor (H : Hcx) (r : Reg) (hi lo v i : Nat) : (H.setFld r hi lo v i).nor = H.nor := rfl
@[simp] theorem Hcx.setFld_arc (H : Hcx) (r : Reg) (hi lo v i : Nat) : (H.setFld r hi lo v i).arc = H.arc := rfl
@[simp] theorem Hcx.setFld_keys (H : Hcx) (r : Reg) (hi lo v i : Nat) : (H.setFld r hi lo v i).keys = H.keys := rfl
@[simp] theorem Hcx.setFld_flash (H : Hcx) (r : Reg) (hi lo v i : Nat) : (H.setFld r hi lo v i).flash = H.flash := rfl
@[simp] theorem Hcx.setFld_migs (H : Hcx) (r : Reg) (hi lo v i : Nat) : (H.setFld r hi lo v i).migs = H.migs := rfl
@[simp] theorem Hcx.setFld_sent (H : Hcx) (r : Reg) (hi lo v i : Nat) : (H.setFld r hi lo v i).sent = H.sent := rfl

@[simp] theorem Hcx.setFlag_latch (H : Hcx) (r : Reg) (b : Nat) (v : Bool) (i : Nat) : (H.setFlag r b v i).latch = H.latch := rfl
@[simp] theorem Hcx.setFlag_staged (H : Hcx) (r : Reg) (b : Nat) (v : Bool) (i : Nat) : (H.setFlag r b v i).staged = H.staged := rfl
@[simp] theorem Hcx.setFlag_fns (H : Hcx) (r : Reg) (b : Nat) (v : Bool) (i : Nat) : (H.setFlag r b v i).fns = H.fns := rfl
@[simp] theorem Hcx.setFlag_vfs (H : Hcx) (r : Reg) (b : Nat) (v : Bool) (i : Nat) : (H.setFlag r b v i).vfs = H.vfs := rfl
@[simp] theorem Hcx.setFlag_quotas (H : Hcx) (r : Reg) (b : Nat) (v : Bool) (i : Nat) : (H.setFlag r b v i).quotas = H.quotas := rfl
@[simp] theorem Hcx.setFlag_quotaNext (H : Hcx) (r : Reg) (b : Nat) (v : Bool) (i : Nat) : (H.setFlag r b v i).quotaNext = H.quotaNext := rfl
@[simp] theorem Hcx.setFlag_clock (H : Hcx) (r : Reg) (b : Nat) (v : Bool) (i : Nat) : (H.setFlag r b v i).clock = H.clock := rfl
@[simp] theorem Hcx.setFlag_clockSrc (H : Hcx) (r : Reg) (b : Nat) (v : Bool) (i : Nat) : (H.setFlag r b v i).clockSrc = H.clockSrc := rfl
@[simp] theorem Hcx.setFlag_tod (H : Hcx) (r : Reg) (b : Nat) (v : Bool) (i : Nat) : (H.setFlag r b v i).tod = H.tod := rfl
@[simp] theorem Hcx.setFlag_done (H : Hcx) (r : Reg) (b : Nat) (v : Bool) (i : Nat) : (H.setFlag r b v i).done = H.done := rfl
@[simp] theorem Hcx.setFlag_occ (H : Hcx) (r : Reg) (b : Nat) (v : Bool) (i : Nat) : (H.setFlag r b v i).occ = H.occ := rfl
@[simp] theorem Hcx.setFlag_placed (H : Hcx) (r : Reg) (b : Nat) (v : Bool) (i : Nat) : (H.setFlag r b v i).placed = H.placed := rfl
@[simp] theorem Hcx.setFlag_book (H : Hcx) (r : Reg) (b : Nat) (v : Bool) (i : Nat) : (H.setFlag r b v i).book = H.book := rfl
@[simp] theorem Hcx.setFlag_nor (H : Hcx) (r : Reg) (b : Nat) (v : Bool) (i : Nat) : (H.setFlag r b v i).nor = H.nor := rfl
@[simp] theorem Hcx.setFlag_arc (H : Hcx) (r : Reg) (b : Nat) (v : Bool) (i : Nat) : (H.setFlag r b v i).arc = H.arc := rfl
@[simp] theorem Hcx.setFlag_keys (H : Hcx) (r : Reg) (b : Nat) (v : Bool) (i : Nat) : (H.setFlag r b v i).keys = H.keys := rfl
@[simp] theorem Hcx.setFlag_flash (H : Hcx) (r : Reg) (b : Nat) (v : Bool) (i : Nat) : (H.setFlag r b v i).flash = H.flash := rfl
@[simp] theorem Hcx.setFlag_migs (H : Hcx) (r : Reg) (b : Nat) (v : Bool) (i : Nat) : (H.setFlag r b v i).migs = H.migs := rfl
@[simp] theorem Hcx.setFlag_sent (H : Hcx) (r : Reg) (b : Nat) (v : Bool) (i : Nat) : (H.setFlag r b v i).sent = H.sent := rfl

@[simp] theorem Hcx.bump_latch (H : Hcx) (r : Reg) (i k : Nat) : (H.bump r i k).latch = H.latch := rfl
@[simp] theorem Hcx.bump_staged (H : Hcx) (r : Reg) (i k : Nat) : (H.bump r i k).staged = H.staged := rfl
@[simp] theorem Hcx.bump_fns (H : Hcx) (r : Reg) (i k : Nat) : (H.bump r i k).fns = H.fns := rfl
@[simp] theorem Hcx.bump_vfs (H : Hcx) (r : Reg) (i k : Nat) : (H.bump r i k).vfs = H.vfs := rfl
@[simp] theorem Hcx.bump_quotas (H : Hcx) (r : Reg) (i k : Nat) : (H.bump r i k).quotas = H.quotas := rfl
@[simp] theorem Hcx.bump_quotaNext (H : Hcx) (r : Reg) (i k : Nat) : (H.bump r i k).quotaNext = H.quotaNext := rfl
@[simp] theorem Hcx.bump_clock (H : Hcx) (r : Reg) (i k : Nat) : (H.bump r i k).clock = H.clock := rfl
@[simp] theorem Hcx.bump_clockSrc (H : Hcx) (r : Reg) (i k : Nat) : (H.bump r i k).clockSrc = H.clockSrc := rfl
@[simp] theorem Hcx.bump_tod (H : Hcx) (r : Reg) (i k : Nat) : (H.bump r i k).tod = H.tod := rfl
@[simp] theorem Hcx.bump_done (H : Hcx) (r : Reg) (i k : Nat) : (H.bump r i k).done = H.done := rfl
@[simp] theorem Hcx.bump_occ (H : Hcx) (r : Reg) (i k : Nat) : (H.bump r i k).occ = H.occ := rfl
@[simp] theorem Hcx.bump_placed (H : Hcx) (r : Reg) (i k : Nat) : (H.bump r i k).placed = H.placed := rfl
@[simp] theorem Hcx.bump_book (H : Hcx) (r : Reg) (i k : Nat) : (H.bump r i k).book = H.book := rfl
@[simp] theorem Hcx.bump_nor (H : Hcx) (r : Reg) (i k : Nat) : (H.bump r i k).nor = H.nor := rfl
@[simp] theorem Hcx.bump_arc (H : Hcx) (r : Reg) (i k : Nat) : (H.bump r i k).arc = H.arc := rfl
@[simp] theorem Hcx.bump_keys (H : Hcx) (r : Reg) (i k : Nat) : (H.bump r i k).keys = H.keys := rfl
@[simp] theorem Hcx.bump_flash (H : Hcx) (r : Reg) (i k : Nat) : (H.bump r i k).flash = H.flash := rfl
@[simp] theorem Hcx.bump_migs (H : Hcx) (r : Reg) (i k : Nat) : (H.bump r i k).migs = H.migs := rfl
@[simp] theorem Hcx.bump_sent (H : Hcx) (r : Reg) (i k : Nat) : (H.bump r i k).sent = H.sent := rfl

@[simp] theorem Hcx.emit_regs (H : Hcx) (e : HostEmit) : (H.emit e).regs = H.regs := rfl
@[simp] theorem Hcx.emit_latch (H : Hcx) (e : HostEmit) : (H.emit e).latch = H.latch := rfl
@[simp] theorem Hcx.emit_staged (H : Hcx) (e : HostEmit) : (H.emit e).staged = H.staged := rfl
@[simp] theorem Hcx.emit_fns (H : Hcx) (e : HostEmit) : (H.emit e).fns = H.fns := rfl
@[simp] theorem Hcx.emit_vfs (H : Hcx) (e : HostEmit) : (H.emit e).vfs = H.vfs := rfl
@[simp] theorem Hcx.emit_quotas (H : Hcx) (e : HostEmit) : (H.emit e).quotas = H.quotas := rfl
@[simp] theorem Hcx.emit_quotaNext (H : Hcx) (e : HostEmit) : (H.emit e).quotaNext = H.quotaNext := rfl
@[simp] theorem Hcx.emit_clock (H : Hcx) (e : HostEmit) : (H.emit e).clock = H.clock := rfl
@[simp] theorem Hcx.emit_clockSrc (H : Hcx) (e : HostEmit) : (H.emit e).clockSrc = H.clockSrc := rfl
@[simp] theorem Hcx.emit_tod (H : Hcx) (e : HostEmit) : (H.emit e).tod = H.tod := rfl
@[simp] theorem Hcx.emit_done (H : Hcx) (e : HostEmit) : (H.emit e).done = H.done := rfl
@[simp] theorem Hcx.emit_occ (H : Hcx) (e : HostEmit) : (H.emit e).occ = H.occ := rfl
@[simp] theorem Hcx.emit_placed (H : Hcx) (e : HostEmit) : (H.emit e).placed = H.placed := rfl
@[simp] theorem Hcx.emit_book (H : Hcx) (e : HostEmit) : (H.emit e).book = H.book := rfl
@[simp] theorem Hcx.emit_nor (H : Hcx) (e : HostEmit) : (H.emit e).nor = H.nor := rfl
@[simp] theorem Hcx.emit_arc (H : Hcx) (e : HostEmit) : (H.emit e).arc = H.arc := rfl
@[simp] theorem Hcx.emit_keys (H : Hcx) (e : HostEmit) : (H.emit e).keys = H.keys := rfl
@[simp] theorem Hcx.emit_flash (H : Hcx) (e : HostEmit) : (H.emit e).flash = H.flash := rfl
@[simp] theorem Hcx.emit_migs (H : Hcx) (e : HostEmit) : (H.emit e).migs = H.migs := rfl

@[simp] theorem Hcx.setFn_regs (H : Hcx) (f : Nat) (x : Fn) : (H.setFn f x).regs = H.regs := rfl
@[simp] theorem Hcx.setFn_latch (H : Hcx) (f : Nat) (x : Fn) : (H.setFn f x).latch = H.latch := rfl
@[simp] theorem Hcx.setFn_staged (H : Hcx) (f : Nat) (x : Fn) : (H.setFn f x).staged = H.staged := rfl
@[simp] theorem Hcx.setFn_vfs (H : Hcx) (f : Nat) (x : Fn) : (H.setFn f x).vfs = H.vfs := rfl
@[simp] theorem Hcx.setFn_quotas (H : Hcx) (f : Nat) (x : Fn) : (H.setFn f x).quotas = H.quotas := rfl
@[simp] theorem Hcx.setFn_quotaNext (H : Hcx) (f : Nat) (x : Fn) : (H.setFn f x).quotaNext = H.quotaNext := rfl
@[simp] theorem Hcx.setFn_clock (H : Hcx) (f : Nat) (x : Fn) : (H.setFn f x).clock = H.clock := rfl
@[simp] theorem Hcx.setFn_clockSrc (H : Hcx) (f : Nat) (x : Fn) : (H.setFn f x).clockSrc = H.clockSrc := rfl
@[simp] theorem Hcx.setFn_tod (H : Hcx) (f : Nat) (x : Fn) : (H.setFn f x).tod = H.tod := rfl
@[simp] theorem Hcx.setFn_done (H : Hcx) (f : Nat) (x : Fn) : (H.setFn f x).done = H.done := rfl
@[simp] theorem Hcx.setFn_occ (H : Hcx) (f : Nat) (x : Fn) : (H.setFn f x).occ = H.occ := rfl
@[simp] theorem Hcx.setFn_placed (H : Hcx) (f : Nat) (x : Fn) : (H.setFn f x).placed = H.placed := rfl
@[simp] theorem Hcx.setFn_book (H : Hcx) (f : Nat) (x : Fn) : (H.setFn f x).book = H.book := rfl
@[simp] theorem Hcx.setFn_nor (H : Hcx) (f : Nat) (x : Fn) : (H.setFn f x).nor = H.nor := rfl
@[simp] theorem Hcx.setFn_arc (H : Hcx) (f : Nat) (x : Fn) : (H.setFn f x).arc = H.arc := rfl
@[simp] theorem Hcx.setFn_keys (H : Hcx) (f : Nat) (x : Fn) : (H.setFn f x).keys = H.keys := rfl
@[simp] theorem Hcx.setFn_flash (H : Hcx) (f : Nat) (x : Fn) : (H.setFn f x).flash = H.flash := rfl
@[simp] theorem Hcx.setFn_migs (H : Hcx) (f : Nat) (x : Fn) : (H.setFn f x).migs = H.migs := rfl
@[simp] theorem Hcx.setFn_sent (H : Hcx) (f : Nat) (x : Fn) : (H.setFn f x).sent = H.sent := rfl

@[simp] theorem Hcx.setReg_reg_self (H : Hcx) (r : Reg) (v : Word) (i j : Nat) : (H.setReg r v i j).reg r i j = v := by
  simp [Hcx.setReg, Hcx.reg]

theorem Hcx.setReg_reg_ne (H : Hcx) {r q : Reg} {i j k l : Nat} (h : ¬(q = r ∧ k = i ∧ l = j)) (v : Word) :
    (H.setReg r v i j).reg q k l = H.reg q k l := H.regs.get_set_ne h v

@[simp] theorem Hcx.setFn_fn_self (H : Hcx) (f : Nat) (x : Fn) : (H.setFn f x).fn f = x := by
  simp [Hcx.setFn, Hcx.fn]

theorem Hcx.setFn_fn_ne (H : Hcx) {f g : Nat} (h : g ≠ f) (x : Fn) : (H.setFn f x).fn g = H.fn g := by
  simp [Hcx.setFn, Hcx.fn, NMap.getD_put_ne _ h]

/-! ### A function -/

@[simp] theorem Fn.setReg_latch (F : Fn) (r : Reg) (v : Word) (i j : Nat) : (F.setReg r v i j).latch = F.latch := rfl
@[simp] theorem Fn.setReg_staged (F : Fn) (r : Reg) (v : Word) (i j : Nat) : (F.setReg r v i j).staged = F.staged := rfl
@[simp] theorem Fn.setReg_epoch (F : Fn) (r : Reg) (v : Word) (i j : Nat) : (F.setReg r v i j).epoch = F.epoch := rfl
@[simp] theorem Fn.setReg_owed (F : Fn) (r : Reg) (v : Word) (i j : Nat) : (F.setReg r v i j).owed = F.owed := rfl
@[simp] theorem Fn.setReg_lost (F : Fn) (r : Reg) (v : Word) (i j : Nat) : (F.setReg r v i j).lost = F.lost := rfl
@[simp] theorem Fn.setReg_unmask (F : Fn) (r : Reg) (v : Word) (i j : Nat) : (F.setReg r v i j).unmask = F.unmask := rfl
@[simp] theorem Fn.setReg_tx (F : Fn) (r : Reg) (v : Word) (i j : Nat) : (F.setReg r v i j).tx = F.tx := rfl
@[simp] theorem Fn.setReg_beacon (F : Fn) (r : Reg) (v : Word) (i j : Nat) : (F.setReg r v i j).beacon = F.beacon := rfl

@[simp] theorem Fn.setFld_latch (F : Fn) (r : Reg) (hi lo v i : Nat) : (F.setFld r hi lo v i).latch = F.latch := rfl
@[simp] theorem Fn.setFld_staged (F : Fn) (r : Reg) (hi lo v i : Nat) : (F.setFld r hi lo v i).staged = F.staged := rfl
@[simp] theorem Fn.setFld_epoch (F : Fn) (r : Reg) (hi lo v i : Nat) : (F.setFld r hi lo v i).epoch = F.epoch := rfl
@[simp] theorem Fn.setFld_owed (F : Fn) (r : Reg) (hi lo v i : Nat) : (F.setFld r hi lo v i).owed = F.owed := rfl
@[simp] theorem Fn.setFld_lost (F : Fn) (r : Reg) (hi lo v i : Nat) : (F.setFld r hi lo v i).lost = F.lost := rfl
@[simp] theorem Fn.setFld_unmask (F : Fn) (r : Reg) (hi lo v i : Nat) : (F.setFld r hi lo v i).unmask = F.unmask := rfl
@[simp] theorem Fn.setFld_tx (F : Fn) (r : Reg) (hi lo v i : Nat) : (F.setFld r hi lo v i).tx = F.tx := rfl
@[simp] theorem Fn.setFld_beacon (F : Fn) (r : Reg) (hi lo v i : Nat) : (F.setFld r hi lo v i).beacon = F.beacon := rfl

@[simp] theorem Fn.setFlag_latch (F : Fn) (r : Reg) (b : Nat) (v : Bool) (i : Nat) : (F.setFlag r b v i).latch = F.latch := rfl
@[simp] theorem Fn.setFlag_staged (F : Fn) (r : Reg) (b : Nat) (v : Bool) (i : Nat) : (F.setFlag r b v i).staged = F.staged := rfl
@[simp] theorem Fn.setFlag_epoch (F : Fn) (r : Reg) (b : Nat) (v : Bool) (i : Nat) : (F.setFlag r b v i).epoch = F.epoch := rfl
@[simp] theorem Fn.setFlag_owed (F : Fn) (r : Reg) (b : Nat) (v : Bool) (i : Nat) : (F.setFlag r b v i).owed = F.owed := rfl
@[simp] theorem Fn.setFlag_lost (F : Fn) (r : Reg) (b : Nat) (v : Bool) (i : Nat) : (F.setFlag r b v i).lost = F.lost := rfl
@[simp] theorem Fn.setFlag_unmask (F : Fn) (r : Reg) (b : Nat) (v : Bool) (i : Nat) : (F.setFlag r b v i).unmask = F.unmask := rfl
@[simp] theorem Fn.setFlag_tx (F : Fn) (r : Reg) (b : Nat) (v : Bool) (i : Nat) : (F.setFlag r b v i).tx = F.tx := rfl
@[simp] theorem Fn.setFlag_beacon (F : Fn) (r : Reg) (b : Nat) (v : Bool) (i : Nat) : (F.setFlag r b v i).beacon = F.beacon := rfl

@[simp] theorem Fn.bump_latch (F : Fn) (r : Reg) (i : Nat) : (F.bump r i).latch = F.latch := rfl
@[simp] theorem Fn.bump_staged (F : Fn) (r : Reg) (i : Nat) : (F.bump r i).staged = F.staged := rfl
@[simp] theorem Fn.bump_epoch (F : Fn) (r : Reg) (i : Nat) : (F.bump r i).epoch = F.epoch := rfl
@[simp] theorem Fn.bump_owed (F : Fn) (r : Reg) (i : Nat) : (F.bump r i).owed = F.owed := rfl
@[simp] theorem Fn.bump_lost (F : Fn) (r : Reg) (i : Nat) : (F.bump r i).lost = F.lost := rfl
@[simp] theorem Fn.bump_unmask (F : Fn) (r : Reg) (i : Nat) : (F.bump r i).unmask = F.unmask := rfl
@[simp] theorem Fn.bump_tx (F : Fn) (r : Reg) (i : Nat) : (F.bump r i).tx = F.tx := rfl
@[simp] theorem Fn.bump_beacon (F : Fn) (r : Reg) (i : Nat) : (F.bump r i).beacon = F.beacon := rfl

@[simp] theorem Fn.setReg_reg_self (F : Fn) (r : Reg) (v : Word) (i j : Nat) : (F.setReg r v i j).reg r i j = v := by
  simp [Fn.setReg, Fn.reg]

theorem Fn.setReg_reg_ne (F : Fn) {r q : Reg} {i j k l : Nat} (h : ¬(q = r ∧ k = i ∧ l = j)) (v : Word) :
    (F.setReg r v i j).reg q k l = F.reg q k l := F.regs.get_set_ne h v

end Sys2Proof.Machine
end

