-- ==== Sys2Proof/Laws/Exec.lean ====
section
/-! SUPPORT. What exec answers for each command, in terms of the operation that the command is: one equation for each
constructor, so that no later proof unfolds exec or a meaning. -/

namespace Sys2Proof.Machine

open Sys2Proof

@[simp] theorem State.put_host (s : State) (l : LaneId) (L : Lane) : (s.put l L).host = s.host := (rfl)
@[simp] theorem State.put_safety (s : State) (l : LaneId) (L : Lane) : (s.put l L).safety = s.safety := (rfl)
@[simp] theorem State.put_power (s : State) (l : LaneId) (L : Lane) : (s.put l L).power = s.power := (rfl)
@[simp] theorem State.put_pending (s : State) (l : LaneId) (L : Lane) : (s.put l L).pending = s.pending := (rfl)
@[simp] theorem State.put_lane (s : State) (l : LaneId) (L : Lane) : (s.put l L).lane l = L := by simp [State.put, State.lane]

@[simp] theorem State.quiet_lane_now (s : State) (l : LaneId) : s.quiet.lane l = s.now l := State.quiet_lane s l

theorem State.mapLane_eq_put (s : State) (l : LaneId) (f : Lane → Lane) : s.mapLane l f = s.put l (f (s.lane l)) := (rfl)

theorem State.put_lane_ne (s : State) {l k : LaneId} (h : k ≠ l) (L : Lane) : (s.put l L).lane k = s.lane k := by
  simp [State.put, State.lane, Quad.get_set_ne _ h]

theorem execTickEdge_eq (lane : LaneId) (s : State) : exec (.tickEdge lane) s =
    .next (State.tickEdge lane s.quiet) := (rfl)

theorem execSampledValueFrame_eq (lane : LaneId) (port rx : Nat) (f : SvFrame) (s : State) : exec (.sampledValueFrame lane port rx f) s =
    .next (s.put lane (Lane.svFrame port rx f (s.now lane))) := (rfl)

theorem execBurstFrame_eq (lane : LaneId) (port rx : Nat) (f : BurstFrame) (s : State) : exec (.burstFrame lane port rx f) s =
    .next (s.put lane (Lane.burstFrame port rx f (s.now lane))) := (rfl)

theorem execGooseFrame_eq (lane : LaneId) (port rx : Nat) (f : GooseFrame) (s : State) : exec (.gooseFrame lane port rx f) s =
    .next (s.put lane (Lane.takeGoose port rx f (s.now lane))) := (rfl)

theorem execSwitchForward_eq (lane : LaneId) (port raw : Nat) (f : Frame) (fcsOk : Bool) (started : Nat) (s : State) : exec (.switchForward lane port raw f fcsOk started) s =
    .next (s.put lane (Lane.switchForward port raw f fcsOk started (s.now lane))) := (rfl)

theorem execPfcRepeat_eq (lane : LaneId) (port cls : Nat) (s : State) : exec (.pfcRepeat lane port cls) s =
    .next (s.put lane (Lane.pfcRepeat port cls (s.now lane))) := (rfl)

theorem execPfcResume_eq (lane : LaneId) (port cls : Nat) (s : State) : exec (.pfcResume lane port cls) s =
    .next (s.put lane (Lane.pfcResume port cls (s.now lane))) := (rfl)

theorem execEgressTransmit_eq (lane : LaneId) (port tx : Nat) (s : State) : exec (.egressTransmit lane port tx) s =
    .next (s.put lane (Lane.egressTransmit port tx (s.now lane))) := (rfl)

theorem execPfcFrame_eq (lane : LaneId) (port raw : Nat) (times : List (Nat × Nat)) (s : State) : exec (.pfcFrame lane port raw times) s =
    .next (s.put lane (Lane.pfcFrame port raw times (s.now lane))) := (rfl)

theorem execPauseFrame_eq (lane : LaneId) (port : Nat) (s : State) : exec (.pauseFrame lane port) s =
    .next (s.put lane (Lane.pauseFrame port (s.now lane))) := (rfl)

theorem execPreemptionVerify_eq (lane : LaneId) (port : Nat) (ok : Bool) (now : Int) (s : State) : exec (.preemptionVerify lane port ok now) s =
    .next (s.put lane (Lane.preemptionVerify port ok now (s.now lane))) := (rfl)

theorem execPortLinkDown_eq (lane : LaneId) (port : Nat) (x : LinkDown) (s : State) : exec (.portLinkDown lane port x) s =
    .next (s.put lane (Lane.portLinkDown port x (s.now lane))) := (rfl)

theorem execPortLinkUp_eq (lane : LaneId) (port raw : Nat) (master : Bool) (now : Int) (s : State) : exec (.portLinkUp lane port raw master now) s =
    .next (s.put lane (Lane.portLinkUp port raw master now (s.now lane))) := (rfl)

theorem execTrunkMoveBack_eq (lane : LaneId) (entry raw : Nat) (s : State) : exec (.trunkMoveBack lane entry raw) s =
    .next (s.put lane (Lane.trunkMoveBack entry raw (s.now lane))) := (rfl)

theorem execAddressAgeing_eq (lane : LaneId) (mac vid raw : Nat) (s : State) : exec (.addressAgeing lane mac vid raw) s =
    .next (s.put lane (Lane.addressAgeing mac vid raw (s.now lane))) := (rfl)

theorem execSupervisionFrameSend_eq (lane : LaneId) (raw : Nat) (s : State) : exec (.supervisionFrameSend lane raw) s =
    .next (s.put lane (Lane.supervisionSend raw (s.now lane))) := (rfl)

theorem execSupervisionFrame_eq (lane : LaneId) (port raw node : Nat) (s : State) : exec (.supervisionFrame lane port raw node) s =
    .next (s.put lane (Lane.supervisionFrame port raw node (s.now lane))) := (rfl)

theorem execNodeForget_eq (lane : LaneId) (node raw : Nat) (s : State) : exec (.nodeForget lane node raw) s =
    .next (s.put lane (Lane.nodeForget node raw (s.now lane))) := (rfl)

theorem execEntryForget_eq (lane : LaneId) (src seq raw : Nat) (s : State) : exec (.entryForget lane src seq raw) s =
    .next (s.put lane (Lane.entryForget src seq raw (s.now lane))) := (rfl)

theorem execWakePattern_eq (lane : LaneId) (w : WakePattern) (s : State) : exec (.wakePattern lane w) s =
    .next (State.wakePattern lane w s.quiet) := (rfl)

theorem execWakeTx_eq (lane : LaneId) (w : Word) (now : Int) (s : State) : exec (.wakeTx lane w now) s =
    .next (s.put lane (Lane.wakeTx w now (s.now lane))) := (rfl)

theorem execIntakeCutoff_eq (lane : LaneId) (own : Bool) (s : State) : exec (.intakeCutoff lane own) s =
    .next (s.put lane (Lane.intakeCutoff own (s.now lane))) := (rfl)

theorem execStreamLost_eq (lane : LaneId) (sub : Nat) (s : State) : exec (.streamLost lane sub) s =
    .next (s.put lane (Lane.streamLost sub (s.now lane))) := (rfl)

theorem execStreamRecovered_eq (lane : LaneId) (sub : Nat) (s : State) : exec (.streamRecovered lane sub) s =
    .next (s.put lane (Lane.streamRecovered sub (s.now lane))) := (rfl)

theorem execBackstopLatch_eq (lane : LaneId) (s : State) : exec (.backstopLatch lane) s =
    .next (s.put lane (Lane.backstopLatch (s.now lane))) := (rfl)

theorem execElementStage_eq (lane : LaneId) (stage : Nat) (fault : Option FabFault) (ce : Nat) (s : State) : exec (.elementStage lane stage fault ce) s =
    .next (s.put lane (Lane.elementStage stage fault ce (s.now lane))) := (rfl)

theorem execInputBlockCopy_eq (lane : LaneId) (s : State) : exec (.inputBlockCopy lane) s =
    .next (s.put lane (Lane.inputBlockCopy (s.now lane))) := (rfl)

theorem execTripMatrixLatch_eq (lane : LaneId) (s : State) : exec (.tripMatrixLatch lane) s =
    .next (s.put lane ((fun L => L.tripMatrixLatch.blockTrip) (s.now lane))) := (rfl)

theorem execGooseRepeat_eq (lane : LaneId) (pub : Nat) (s : State) : exec (.gooseRepeat lane pub) s =
    .next (s.put lane (Lane.gooseRepeat pub (s.now lane))) := (rfl)

theorem execSliceStart_eq (lane : LaneId) (core parcel : Nat) (s : State) : exec (.sliceStart lane core parcel) s =
    .next (s.put lane (Lane.sliceStart core parcel (s.now lane))) := (rfl)

theorem execSliceEnd_eq (lane : LaneId) (core parcel steps cycles : Nat) (s : State) : exec (.sliceEnd lane core parcel steps cycles) s =
    .next (s.put lane (Lane.sliceEnd core parcel steps cycles (s.now lane))) := (rfl)

theorem execDone_eq (lane : LaneId) (parcel strand steps cycles : Nat) (s : State) : exec (.done lane parcel strand steps cycles) s =
    .next (s.put lane (Lane.strandDone parcel strand steps cycles (s.now lane))) := (rfl)

theorem execCmdWr_eq (lane : LaneId) (parcel strand channel : Nat) (value : Word) (steps : Nat) (s : State) : exec (.cmdWr lane parcel strand channel value steps) s =
    .next (s.put lane (Lane.runTo (StepOut.isCmd channel value) parcel strand steps (s.now lane))) := (rfl)

theorem execHistoryApertureRead_eq (lane : LaneId) (parcel strand channel age steps : Nat) (s : State) : exec (.historyApertureRead lane parcel strand channel age steps) s =
    .next (s.put lane (Lane.runTo (StepOut.isAperture channel age) parcel strand steps (s.now lane))) := (rfl)

theorem execGuardViolation_eq (lane : LaneId) (parcel strand code addr steps : Nat) (s : State) : exec (.guardViolation lane parcel strand code addr steps) s =
    .next (s.put lane (Lane.runTo (StepOut.isViol code addr) parcel strand steps (s.now lane))) := (rfl)

theorem execParcelTrap_eq (lane : LaneId) (parcel strand cause tval steps : Nat) (s : State) : exec (.parcelTrap lane parcel strand cause tval steps) s =
    .next (s.put lane (Lane.runTo (StepOut.isTrap cause tval) parcel strand steps (s.now lane))) := (rfl)

theorem execIluSlice_eq (lane : LaneId) (ce : List Nat) (s : State) : exec (.iluSlice lane ce) s =
    .next (s.put lane (Lane.iluSlice ce (s.now lane))) := (rfl)

theorem execIluFault_eq (lane : LaneId) (cause : Nat) (now : Int) (s : State) : exec (.iluFault lane cause now) s =
    .next (s.put lane (Lane.iluFault cause now (s.now lane))) := (rfl)

theorem execLd_eq (lane : LaneId) (p : Nat) (f : Nat) (s : State) : exec (.ld lane p f) s =
    .next (s.put lane (Lane.faruskRow p (.ld f) (s.now lane))) := (rfl)

theorem execLdn_eq (lane : LaneId) (p : Nat) (f : Nat) (s : State) : exec (.ldn lane p f) s =
    .next (s.put lane (Lane.faruskRow p (.ldn f) (s.now lane))) := (rfl)

theorem execAnd_eq (lane : LaneId) (p : Nat) (f : Nat) (s : State) : exec (.and lane p f) s =
    .next (s.put lane (Lane.faruskRow p (.andf f) (s.now lane))) := (rfl)

theorem execAndn_eq (lane : LaneId) (p : Nat) (f : Nat) (s : State) : exec (.andn lane p f) s =
    .next (s.put lane (Lane.faruskRow p (.andn f) (s.now lane))) := (rfl)

theorem execOr_eq (lane : LaneId) (p : Nat) (f : Nat) (s : State) : exec (.or lane p f) s =
    .next (s.put lane (Lane.faruskRow p (.orf f) (s.now lane))) := (rfl)

theorem execOrn_eq (lane : LaneId) (p : Nat) (f : Nat) (s : State) : exec (.orn lane p f) s =
    .next (s.put lane (Lane.faruskRow p (.orn f) (s.now lane))) := (rfl)

theorem execXor_eq (lane : LaneId) (p : Nat) (f : Nat) (s : State) : exec (.xor lane p f) s =
    .next (s.put lane (Lane.faruskRow p (.xorf f) (s.now lane))) := (rfl)

theorem execXorn_eq (lane : LaneId) (p : Nat) (f : Nat) (s : State) : exec (.xorn lane p f) s =
    .next (s.put lane (Lane.faruskRow p (.xorn f) (s.now lane))) := (rfl)

theorem execSt_eq (lane : LaneId) (p : Nat) (f : Nat) (s : State) : exec (.st lane p f) s =
    .next (s.put lane (Lane.faruskRow p (.st f) (s.now lane))) := (rfl)

theorem execStn_eq (lane : LaneId) (p : Nat) (f : Nat) (s : State) : exec (.stn lane p f) s =
    .next (s.put lane (Lane.faruskRow p (.stn f) (s.now lane))) := (rfl)

theorem execSet_eq (lane : LaneId) (p : Nat) (f : Nat) (s : State) : exec (.set lane p f) s =
    .next (s.put lane (Lane.faruskRow p (.setf f) (s.now lane))) := (rfl)

theorem execRst_eq (lane : LaneId) (p : Nat) (f : Nat) (s : State) : exec (.rst lane p f) s =
    .next (s.put lane (Lane.faruskRow p (.rst f) (s.now lane))) := (rfl)

theorem execRe_eq (lane : LaneId) (p : Nat) (f : Nat) (s : State) : exec (.re lane p f) s =
    .next (s.put lane (Lane.faruskRow p (.re f) (s.now lane))) := (rfl)

theorem execFe_eq (lane : LaneId) (p : Nat) (f : Nat) (s : State) : exec (.fe lane p f) s =
    .next (s.put lane (Lane.faruskRow p (.fe f) (s.now lane))) := (rfl)

theorem execTon_eq (lane : LaneId) (p : Nat) (t : Nat) (s : State) : exec (.ton lane p t) s =
    .next (s.put lane (Lane.faruskRow p (.ton t) (s.now lane))) := (rfl)

theorem execTof_eq (lane : LaneId) (p : Nat) (t : Nat) (s : State) : exec (.tof lane p t) s =
    .next (s.put lane (Lane.faruskRow p (.tof t) (s.now lane))) := (rfl)

theorem execTp_eq (lane : LaneId) (p : Nat) (t : Nat) (s : State) : exec (.tp lane p t) s =
    .next (s.put lane (Lane.faruskRow p (.tp t) (s.now lane))) := (rfl)

theorem execCtu_eq (lane : LaneId) (p : Nat) (c : Nat) (s : State) : exec (.ctu lane p c) s =
    .next (s.put lane (Lane.faruskRow p (.ctu c) (s.now lane))) := (rfl)

theorem execCtd_eq (lane : LaneId) (p : Nat) (c : Nat) (s : State) : exec (.ctd lane p c) s =
    .next (s.put lane (Lane.faruskRow p (.ctd c) (s.now lane))) := (rfl)

theorem execCrs_eq (lane : LaneId) (p : Nat) (c : Nat) (s : State) : exec (.crs lane p c) s =
    .next (s.put lane (Lane.faruskRow p (.crs c) (s.now lane))) := (rfl)

theorem execCld_eq (lane : LaneId) (p : Nat) (c : Nat) (s : State) : exec (.cld lane p c) s =
    .next (s.put lane (Lane.faruskRow p (.cld c) (s.now lane))) := (rfl)

theorem execFaruskNop_eq (lane : LaneId) (p : Nat) (s : State) : exec (.faruskNop lane p) s =
    .next (s.put lane (Lane.faruskRow p .faruskNop (s.now lane))) := (rfl)

theorem execPush_eq (lane : LaneId) (p : Nat) (s : State) : exec (.push lane p) s =
    .next (s.put lane (Lane.faruskRow p .push (s.now lane))) := (rfl)

theorem execPopa_eq (lane : LaneId) (p : Nat) (s : State) : exec (.popa lane p) s =
    .next (s.put lane (Lane.faruskRow p .popa (s.now lane))) := (rfl)

theorem execPopo_eq (lane : LaneId) (p : Nat) (s : State) : exec (.popo lane p) s =
    .next (s.put lane (Lane.faruskRow p .popo (s.now lane))) := (rfl)

theorem execPage0_eq (lane : LaneId) (p : Nat) (s : State) : exec (.page0 lane p) s =
    .next (s.put lane (Lane.faruskRow p .page0 (s.now lane))) := (rfl)

theorem execPage1_eq (lane : LaneId) (p : Nat) (s : State) : exec (.page1 lane p) s =
    .next (s.put lane (Lane.faruskRow p .page1 (s.now lane))) := (rfl)

theorem execEndScan_eq (lane : LaneId) (p : Nat) (s : State) : exec (.endScan lane p) s =
    .next (s.put lane (Lane.faruskRow p .endScan (s.now lane))) := (rfl)

theorem execJc_eq (lane : LaneId) (p : Nat) (k : Nat) (s : State) : exec (.jc lane p k) s =
    .next (s.put lane (Lane.faruskRow p (.jc k) (s.now lane))) := (rfl)

theorem execJcn_eq (lane : LaneId) (p : Nat) (k : Nat) (s : State) : exec (.jcn lane p k) s =
    .next (s.put lane (Lane.faruskRow p (.jcn k) (s.now lane))) := (rfl)

theorem execReadback_eq (lane : LaneId) (levels : Nat) (s : State) : exec (.readback lane levels) s =
    .next (s.put lane (Lane.readback levels (s.now lane))) := (rfl)

theorem execFieldIoExchange_eq (lane : LaneId) (s : State) : exec (.fieldIoExchange lane) s =
    .next (s.put lane (Lane.fioExchange (s.now lane))) := (rfl)

theorem execPublishedStreamFrame_eq (lane : LaneId) (stream : Nat) (s : State) : exec (.publishedStreamFrame lane stream) s =
    .next (s.put lane (Lane.streamFrame stream (s.now lane))) := (rfl)

theorem execDigestSend_eq (lane : LaneId) (s : State) : exec (.digestSend lane) s =
    .next (s.put lane (Lane.digestSend (s.now lane))) := (rfl)

theorem execClosure_eq (lane : LaneId) (fail : Nat) (x : ClosureIn) (s : State) : exec (.closure lane fail x) s =
    .next (State.closure lane fail x s.quiet) := (rfl)

theorem execLaneFaultHandling_eq (lane : LaneId) (now : Int) (s : State) : exec (.laneFaultHandling lane now) s =
    .next (State.laneFault lane now s.quiet) := (rfl)

theorem execPeriodStart_eq (lane : LaneId) (pair t0 : Nat) (s : State) : exec (.periodStart lane pair t0) s =
    .next (s.put lane (Lane.periodStart pair t0 (s.now lane))) := (rfl)

theorem execTalExpiry_eq (lane : LaneId) (sub : Nat) (s : State) : exec (.talExpiry lane sub) s =
    .next (s.put lane (Lane.talExpiry sub (s.now lane))) := (rfl)

theorem execIntakeRecord_eq (lane : LaneId) (h : TwinHead) (r : IntakeRec) (s : State) : exec (.intakeRecord lane h r) s =
    .next (s.put lane (Lane.sightline 1 h (Lane.intakeRecord r) (s.now lane))) := (rfl)

theorem execCutoffMarker_eq (lane : LaneId) (h : TwinHead) (tick gs fio : Nat) (s : State) : exec (.cutoffMarker lane h tick gs fio) s =
    .next (s.put lane (Lane.sightline 1 h (Lane.cutoffMarker tick gs fio) (s.now lane))) := (rfl)

theorem execForwardSubstitution_eq (lane : LaneId) (s : State) : exec (.forwardSubstitution lane) s =
    .next (s.put lane (Lane.substitute (s.now lane))) := (rfl)

theorem execDigest_eq (lane : LaneId) (h : TwinHead) (tick digest : Nat) (t1 t2 t3 t4 : Int) (rate : Nat) (synced hold : Bool) (s : State) : exec (.digest lane h tick digest t1 t2 t3 t4 rate synced hold) s =
    .next (s.put lane (Lane.sightline 0 h (Lane.takeDigest tick digest t1 t2 t3 t4 rate synced hold) (s.now lane))) := (rfl)

theorem execBacksightCompare_eq (lane : LaneId) (now : Int) (s : State) : exec (.backsightCompare lane now) s =
    .next (s.put lane (Lane.backsight now (s.now lane))) := (rfl)

theorem execMismatch_eq (lane : LaneId) (h : TwinHead) (s : State) : exec (.mismatch lane h) s =
    .next (s.put lane (Lane.sightline 0 h Lane.takeMismatch (s.now lane))) := (rfl)

theorem execSelfCheckComplete_eq (lane : LaneId) (ownOk peerOk : Bool) (now : Int) (s : State) : exec (.selfCheckComplete lane ownOk peerOk now) s =
    .next (State.selfCheckDone lane ownOk peerOk now s.quiet) := (rfl)

theorem execWithdraw_eq (lane : LaneId) (h : TwinHead) (now : Int) (s : State) : exec (.withdraw lane h now) s =
    .next (s.put lane (Lane.sightline 0 h (Lane.takeWithdraw now) (s.now lane))) := (rfl)

theorem execLossOfActive_eq (lane : LaneId) (now : Int) (s : State) : exec (.lossOfActive lane now) s =
    .next (s.put lane (Lane.lossOfActive now (s.now lane))) := (rfl)

theorem execTakeover_eq (lane : LaneId) (s : State) : exec (.takeover lane) s =
    .next (s.put lane (Lane.takeover (s.now lane))) := (rfl)

theorem execPairingAttempt_eq (lane : LaneId) (f : PairFacts) (now : Int) (s : State) : exec (.pairingAttempt lane f now) s =
    .next (s.put lane (Lane.pairAttempt f now (s.now lane))) := (rfl)

theorem execPairingComplete_eq (lane : LaneId) (peerInService : Bool) (now : Int) (s : State) : exec (.pairingComplete lane peerInService now) s =
    .next (s.put lane (Lane.pairComplete peerInService now (s.now lane))) := (rfl)

theorem execSightlineLockLoss_eq (lane : LaneId) (now : Int) (s : State) : exec (.sightlineLockLoss lane now) s =
    .next (s.put lane (Lane.lockLoss now (s.now lane))) := (rfl)

theorem execSightlineLock_eq (lane : LaneId) (s : State) : exec (.sightlineLock lane) s =
    .next (s.put lane (Lane.lockGain (s.now lane))) := (rfl)

theorem execAwaitExpiry_eq (lane : LaneId) (now : Int) (s : State) : exec (.awaitExpiry lane now) s =
    .next (s.put lane (Lane.awaitExpiry now (s.now lane))) := (rfl)

theorem execWitnessLost_eq (lane : LaneId) (now : Int) (s : State) : exec (.witnessLost lane now) s =
    .next (s.put lane (Lane.witnessLost now (s.now lane))) := (rfl)

theorem execCopy_eq (lane : LaneId) (h : TwinHead) (first last tick : Nat) (parts : List (Nat × CopyPart)) (s : State) : exec (.copy lane h first last tick parts) s =
    .next (s.put lane (Lane.sightline 3 h (Lane.copyFrame first last tick parts) (s.now lane))) := (rfl)

theorem execPagedig_eq (lane : LaneId) (h : TwinHead) (tick : Nat) (granules : List (Nat × Bool)) (s : State) : exec (.pagedig lane h tick granules) s =
    .next (s.put lane (Lane.sightline 3 h (Lane.pageDigests tick granules) (s.now lane))) := (rfl)

theorem execFreezeStart_eq (lane : LaneId) (tick : Nat) (s : State) : exec (.freezeStart lane tick) s =
    .next (s.put lane (Lane.freezeStart tick (s.now lane))) := (rfl)

theorem execStateTransferRestart_eq (lane : LaneId) (now : Int) (s : State) : exec (.stateTransferRestart lane now) s =
    .next (s.put lane (Lane.transferRestart now (s.now lane))) := (rfl)

theorem execCmd_eq (lane : LaneId) (h : TwinHead) (fn tag apply : Nat) (c : HostCmd) (s : State) : exec (.cmd lane h fn tag apply c) s =
    .next (State.cmdFrame lane h fn tag apply c s.quiet) := (rfl)

theorem execCmdAck_eq (lane : LaneId) (h : TwinHead) (fn tag : Nat) (s : State) : exec (.cmdAck lane h fn tag) s =
    .next (s.put lane (Lane.sightline 2 h (Lane.cmdAck fn tag) (s.now lane))) := (rfl)

theorem execCmdCommit_eq (lane : LaneId) (h : TwinHead) (fn tag : Nat) (s : State) : exec (.cmdCommit lane h fn tag) s =
    .next (s.put lane (Lane.sightline 2 h (Lane.cmdCommit fn tag) (s.now lane))) := (rfl)

theorem execCommitDeadline_eq (lane : LaneId) (s : State) : exec (.commitDeadline lane) s =
    .next (s.put lane (Lane.commitDeadline (s.now lane))) := (rfl)

theorem execStandbyCommitTimeout_eq (lane : LaneId) (s : State) : exec (.standbyCommitTimeout lane) s =
    .next (s.put lane (Lane.commitTimeout (s.now lane))) := (rfl)

theorem execPlannedSwap_eq (lane : LaneId) (s : State) : exec (.plannedSwap lane) s =
    .next (s.put lane (Lane.plannedSwap (s.now lane))) := (rfl)

theorem execRequalified_eq (lane : LaneId) (a : Nat) (s : State) : exec (.requalified lane a) s =
    .next (s.put lane (Lane.requalified a (s.now lane))) := (rfl)

theorem execOutputProofTest_eq (lane : LaneId) (level : Bool) (now : Int) (s : State) : exec (.outputProofTest lane level now) s =
    .next (s.put lane (Lane.proofTest level now (s.now lane))) := (rfl)

theorem execTwinOffsetAlarm_eq (lane : LaneId) (now : Int) (s : State) : exec (.twinOffsetAlarm lane now) s =
    .next (s.put lane (Lane.twinAlarm now (s.now lane))) := (rfl)

theorem execAnnounce_eq (lane : LaneId) (m : PtpHead) (ds : DataSet) (utc : UtcInfo) (now : Int) (s : State) : exec (.announce lane m ds utc now) s =
    .next (s.put lane (Lane.takeAnnounce m ds utc now (s.now lane))) := (rfl)

theorem execSync_eq (lane : LaneId) (m : PtpHead) (rx tx : Nat) (origin : Int) (twoStep : Bool) (s : State) : exec (.sync lane m rx tx origin twoStep) s =
    .next (s.put lane (Lane.takeSync m rx tx origin twoStep (s.now lane))) := (rfl)

theorem execFollowUp_eq (lane : LaneId) (m : PtpHead) (origin : Int) (s : State) : exec (.followUp lane m origin) s =
    .next (s.put lane (Lane.takeFollowUp m origin (s.now lane))) := (rfl)

theorem execPdelayReq_eq (lane : LaneId) (m : PtpHead) (rx tx : Nat) (s : State) : exec (.pdelayReq lane m rx tx) s =
    .next (s.put lane (Lane.takePdelayReq m rx tx (s.now lane))) := (rfl)

theorem execPdelayResp_eq (lane : LaneId) (m : PtpHead) (rx : Nat) (t2 : Int) (twoStep : Bool) (s : State) : exec (.pdelayResp lane m rx t2 twoStep) s =
    .next (s.put lane (Lane.takePdelayResp m rx t2 twoStep (s.now lane))) := (rfl)

theorem execPdelayRespFollowUp_eq (lane : LaneId) (m : PtpHead) (t3 : Int) (s : State) : exec (.pdelayRespFollowUp lane m t3) s =
    .next (s.put lane (Lane.takePdelayFollowUp m t3 (s.now lane))) := (rfl)

theorem execPtpMessageIgnored_eq (lane : LaneId) (port : Nat) (s : State) : exec (.ptpMessageIgnored lane port) s =
    .next (s.put lane (Lane.ptpIgnored port (s.now lane))) := (rfl)

theorem execSyncTransmit_eq (lane : LaneId) (port tx : Nat) (s : State) : exec (.syncTransmit lane port tx) s =
    .next (s.put lane (Lane.sendSync port tx (s.now lane))) := (rfl)

theorem execAnnounceTransmit_eq (lane : LaneId) (port : Nat) (s : State) : exec (.announceTransmit lane port) s =
    .next (s.put lane (Lane.sendAnnounce port (s.now lane))) := (rfl)

theorem execPdelayReqTransmit_eq (lane : LaneId) (port tx : Nat) (s : State) : exec (.pdelayReqTransmit lane port tx) s =
    .next (s.put lane (Lane.sendPdelayReq port tx (s.now lane))) := (rfl)

theorem execHoldoverAnnounceStop_eq (lane : LaneId) (s : State) : exec (.holdoverAnnounceStop lane) s =
    .next (s.put lane (Lane.annStop (s.now lane))) := (rfl)

theorem execPpsPulse_eq (lane : LaneId) (raw : Nat) (s : State) : exec (.ppsPulse lane raw) s =
    .next (s.put lane (Lane.takePps raw (s.now lane))) := (rfl)

theorem execAnnounceTimeout_eq (lane : LaneId) (now : Int) (s : State) : exec (.announceTimeout lane now) s =
    .next (s.put lane (Lane.annTimeout now (s.now lane))) := (rfl)

theorem execQualificationComplete_eq (lane : LaneId) (cand : Nat) (now : Int) (s : State) : exec (.qualificationComplete lane cand now) s =
    .next (s.put lane (Lane.qualComplete cand now (s.now lane))) := (rfl)

theorem execSwitchEnd_eq (lane : LaneId) (now : Int) (s : State) : exec (.switchEnd lane now) s =
    .next (s.put lane (Lane.switchEnd now (s.now lane))) := (rfl)

theorem execStepDetected_eq (lane : LaneId) (now : Int) (s : State) : exec (.stepDetected lane now) s =
    .next (s.put lane (Lane.stepDetected now (s.now lane))) := (rfl)

theorem execSlewEnd_eq (lane : LaneId) (now : Int) (s : State) : exec (.slewEnd lane now) s =
    .next (s.put lane (Lane.slewEnd now (s.now lane))) := (rfl)

theorem execInitialSet_eq (lane : LaneId) (src : InitSources) (s : State) : exec (.initialSet lane src) s =
    .next (State.initialSet lane src s.quiet) := (rfl)

theorem execDatumUnsetEvent_eq (lane : LaneId) (s : State) : exec (.datumUnsetEvent lane) s =
    .next (s.put lane (Lane.unsetEvent (s.now lane))) := (rfl)

theorem execDatumBeacon_eq (lane : LaneId) (s : State) : exec (.datumBeacon lane) s =
    .next (State.datumBeacon lane s.quiet) := (rfl)

theorem execHostClockBeacon_eq (clock : Int) (s : State) : exec (.hostClockBeacon clock) s =
    .next (if s.hostUp then State.hostBeacon clock s.quiet else s.quiet) := (rfl)

theorem execDoorbell_eq (fn ring : Nat) (value : Word) (width : Nat) (now : Int) (s : State) : exec (.doorbell fn ring value width now) s =
    .next (if s.hostUp then State.doorbell fn ring value width now s.quiet else s.quiet) := (rfl)

theorem execCommandFetch_eq (fn : Nat) (d : CmdDesc) (now : Int) (s : State) : exec (.commandFetch fn d now) s =
    .next (if s.hostUp then State.commandFetch fn d now s.quiet else s.quiet) := (rfl)

theorem execCommandCompletion_eq (src : Option LaneId) (now : Int) (s : State) : exec (.commandCompletion src now) s =
    .next (if s.hostUp then State.completionRow src now s.quiet else s.quiet) := (rfl)

theorem execTransmitDescriptor_eq (fn ring : Nat) (d : TxDesc) (now : Int) (s : State) : exec (.transmitDescriptor fn ring d now) s =
    .next (if s.hostUp then State.txDescriptor fn ring d now s.quiet else s.quiet) := (rfl)

theorem execTransmitWriteBack_eq (fn ring : Nat) (now : Int) (s : State) : exec (.transmitWriteBack fn ring now) s =
    .next (if s.hostUp then State.txWriteBack fn ring now s.quiet else s.quiet) := (rfl)

theorem execReceiveDelivery_eq (lane : LaneId) (d : RxDesc) (now : Int) (s : State) : exec (.receiveDelivery lane d now) s =
    .next (if s.hostUp then State.receive lane d now s.quiet else s.quiet) := (rfl)

theorem execEventPlacement_eq (book : Option LaneId) (now : Int) (s : State) : exec (.eventPlacement book now) s =
    .next (if s.hostUp then State.eventPlacement book now s.quiet else s.quiet) := (rfl)

theorem execOverflowEntry_eq (fn : Nat) (now : Int) (s : State) : exec (.overflowEntry fn now) s =
    .next (if s.hostUp then State.overflowEntry fn now s.quiet else s.quiet) := (rfl)

theorem execMsixMessage_eq (fn ring : Nat) (now : Int) (s : State) : exec (.msixMessage fn ring now) s =
    .next (if s.hostUp then State.msixMessage fn ring now s.quiet else s.quiet) := (rfl)

theorem execMsixUnmask_eq (fn vector : Nat) (s : State) : exec (.msixUnmask fn vector) s =
    .next (if s.hostUp then State.msixMask fn vector false s.quiet else s.quiet) := (rfl)

theorem execRingEnable_eq (fn ring : Nat) (value : Word) (s : State) : exec (.ringEnable fn ring value) s =
    .next (if s.hostUp then State.ringEnable fn ring value s.quiet else s.quiet) := (rfl)

theorem execRingDrain_eq (fn ring : Nat) (s : State) : exec (.ringDrain fn ring) s =
    .next (if s.hostUp then State.ringDrain fn ring s.quiet else s.quiet) := (rfl)

theorem execDrainComplete_eq (fn ring : Nat) (s : State) : exec (.drainComplete fn ring) s =
    .next (if s.hostUp then State.drainComplete fn ring s.quiet else s.quiet) := (rfl)

theorem execDmaReadError_eq (fn ring idx : Nat) (now : Int) (s : State) : exec (.dmaReadError fn ring idx now) s =
    .next (if s.hostUp then State.dmaFailed fn 4 ring idx now s.quiet else s.quiet) := (rfl)

theorem execDmaCompletionTimeout_eq (fn ring idx : Nat) (now : Int) (s : State) : exec (.dmaCompletionTimeout fn ring idx now) s =
    .next (if s.hostUp then State.dmaFailed fn 5 ring idx now s.quiet else s.quiet) := (rfl)

theorem execFunctionReset_eq (fn : Nat) (s : State) : exec (.functionReset fn) s =
    .next (if s.hostUp then State.fnResetRow fn s.quiet else s.quiet) := (rfl)

theorem execHcxFnReset_eq (fn : Nat) (s : State) : exec (.hcxFnReset fn) s =
    .next (if s.hostUp then State.fnResetRow fn s.quiet else s.quiet) := (rfl)

theorem execFunctionLevelReset_eq (fn : Nat) (s : State) : exec (.functionLevelReset fn) s =
    .next (if s.hostUp then State.flr fn s.quiet else s.quiet) := (rfl)

theorem execFunctionResetComplete_eq (fn : Nat) (now : Int) (s : State) : exec (.functionResetComplete fn now) s =
    .next (if s.hostUp then State.resetFnDone fn now s.quiet else s.quiet) := (rfl)

theorem execPcieLinkDown_eq (now : Int) (s : State) : exec (.pcieLinkDown now) s =
    .next ((fun s => if s.endpointUp then s.pcieDown now else s) s.quiet) := (rfl)

theorem execLaneLinkTimeout_eq (lane : LaneId) (now : Int) (s : State) : exec (.laneLinkTimeout lane now) s =
    .next (State.linkTimeout lane now s.quiet) := (rfl)

theorem execHostWatchdogExpiry_eq (now : Int) (s : State) : exec (.hostWatchdogExpiry now) s =
    .next (State.warmReset true now s.quiet) := (rfl)

theorem execRegisterReadLo_eq (fn addr width raw : Nat) (s : State) : exec (.registerReadLo fn addr width raw) s =
    .next (if s.hostUp then State.readReg8 fn addr width raw s.quiet else s.quiet) := (rfl)

theorem execRegisterWriteHi_eq (fn addr width value : Nat) (now : Int) (s : State) : exec (.registerWriteHi fn addr width value now) s =
    .next (if s.hostUp then State.writeRegs fn addr width value now s.quiet else s.quiet) := (rfl)

theorem execRegisterWrite_eq (fn addr width value : Nat) (now : Int) (s : State) : exec (.registerWrite fn addr width value now) s =
    .next (if s.hostUp then State.writeRegs fn addr width value now s.quiet else s.quiet) := (rfl)

theorem execBspLock_eq (lane : LaneId) (fn : Nat) (w : Word) (now : Int) (s : State) : exec (.bspLock lane fn w now) s =
    .next (s.put lane (Lane.bspLock fn w now (s.now lane))) := (rfl)

theorem execNop_eq (h : CmdHead) (s : State) : exec (.nop h) s =
    .next (if s.hostUp then State.direct h .nop s.quiet else s.quiet) := (rfl)

theorem execLoadImage_eq (h : CmdHead) (x : ImgLoad) (s : State) : exec (.loadImage h x) s =
    .next (if s.hostUp then State.direct h (.loadImage x) s.quiet else s.quiet) := (rfl)

theorem execReadSlot_eq (h : CmdHead) (slot : Nat) (s : State) : exec (.readSlot h slot) s =
    .next (if s.hostUp then State.direct h (.readSlot slot) s.quiet else s.quiet) := (rfl)

theorem execWriteSlot_eq (h : CmdHead) (slot : Nat) (d : Desc) (s : State) : exec (.writeSlot h slot d) s =
    .next (if s.hostUp then State.direct h (.writeSlot slot d) s.quiet else s.quiet) := (rfl)

theorem execSetQuota_eq (h : CmdHead) (vf : Nat) (q : Quota) (s : State) : exec (.setQuota h vf q) s =
    .next (if s.hostUp then State.direct h (.setQuota vf q) s.quiet else s.quiet) := (rfl)

theorem execParcelLoad_eq (h : CmdHead) (p : Nat) (img : ParcelImg) (auto : Bool) (s : State) : exec (.parcelLoad h p img auto) s =
    .next (if s.hostUp then State.direct h (.parcel p 1 img false auto) s.quiet else s.quiet) := (rfl)

theorem execParcelStart_eq (h : CmdHead) (p : Nat) (s : State) : exec (.parcelStart h p) s =
    .next (if s.hostUp then State.direct h (.parcel p 2 noImg false false) s.quiet else s.quiet) := (rfl)

theorem execParcelStop_eq (h : CmdHead) (p : Nat) (s : State) : exec (.parcelStop h p) s =
    .next (if s.hostUp then State.direct h (.parcel p 3 noImg false false) s.quiet else s.quiet) := (rfl)

theorem execParcelRestart_eq (h : CmdHead) (p : Nat) (clear : Bool) (s : State) : exec (.parcelRestart h p clear) s =
    .next (if s.hostUp then State.direct h (.parcel p 4 noImg clear false) s.quiet else s.quiet) := (rfl)

theorem execParcelUnload_eq (h : CmdHead) (p : Nat) (s : State) : exec (.parcelUnload h p) s =
    .next (if s.hostUp then State.direct h (.parcel p 5 noImg false false) s.quiet else s.quiet) := (rfl)

theorem execParcelFreeze_eq (h : CmdHead) (p : Nat) (s : State) : exec (.parcelFreeze h p) s =
    .next (if s.hostUp then State.direct h (.parcel p 6 noImg false false) s.quiet else s.quiet) := (rfl)

theorem execParcelResume_eq (h : CmdHead) (p : Nat) (s : State) : exec (.parcelResume h p) s =
    .next (if s.hostUp then State.direct h (.parcel p 7 noImg false false) s.quiet else s.quiet) := (rfl)

theorem execParcelReload_eq (lane : LaneId) (confirmed : Bool) (s : State) : exec (.parcelReload lane confirmed) s =
    .next (s.put lane (Lane.reloadParcels confirmed (s.now lane))) := (rfl)

theorem execMigrateTrack_eq (h : CmdHead) (p target q : Nat) (s : State) : exec (.migrateTrack h p target q) s =
    .next (if s.hostUp then State.direct h (.migrate p 1 target q noSaved 0) s.quiet else s.quiet) := (rfl)

theorem execTrackReady_eq (lane : LaneId) (parcel left : Nat) (now : Int) (s : State) : exec (.trackReady lane parcel left now) s =
    .next (State.trackReady lane parcel left now s.quiet) := (rfl)

theorem execMigrateSwitch_eq (h : CmdHead) (p target q : Nat) (s : State) : exec (.migrateSwitch h p target q) s =
    .next (if s.hostUp then State.direct h (.migrate p 2 target q noSaved 0) s.quiet else s.quiet) := (rfl)

theorem execMigrateCancel_eq (h : CmdHead) (p : Nat) (s : State) : exec (.migrateCancel h p) s =
    .next (if s.hostUp then State.direct h (.migrate p 3 0 0 noSaved 0) s.quiet else s.quiet) := (rfl)

theorem execMigrateSave_eq (h : CmdHead) (p : Nat) (s : State) : exec (.migrateSave h p) s =
    .next (if s.hostUp then State.direct h (.migrate p 4 0 0 noSaved h.len) s.quiet else s.quiet) := (rfl)

theorem execMigrateRestore_eq (h : CmdHead) (p target q : Nat) (r : SavedRec) (s : State) : exec (.migrateRestore h p target q r) s =
    .next (if s.hostUp then State.direct h (.migrate p 5 target q r 0) s.quiet else s.quiet) := (rfl)

theorem execMigrateRelease_eq (h : CmdHead) (p : Nat) (s : State) : exec (.migrateRelease h p) s =
    .next (if s.hostUp then State.direct h (.migrate p 6 0 0 noSaved 0) s.quiet else s.quiet) := (rfl)

theorem execSetTarget_eq (h : CmdHead) (ch : Nat) (v : Word) (s : State) : exec (.setTarget h ch v) s =
    .next (if s.hostUp then State.direct h (.setTarget ch v) s.quiet else s.quiet) := (rfl)

theorem execForceBits_eq (h : CmdHead) (value mask : Nat) (s : State) : exec (.forceBits h value mask) s =
    .next (if s.hostUp then State.direct h (.forceBits value mask) s.quiet else s.quiet) := (rfl)

theorem execHostFlags_eq (h : CmdHead) (value mask : Nat) (s : State) : exec (.hostFlags h value mask) s =
    .next (if s.hostUp then State.direct h (.hostFlags value mask) s.quiet else s.quiet) := (rfl)

theorem execTlReset_eq (h : CmdHead) (lines : Nat) (s : State) : exec (.tlReset h lines) s =
    .next (if s.hostUp then State.direct h (.tlReset lines) s.quiet else s.quiet) := (rfl)

theorem execIluStop_eq (h : CmdHead) (p : Nat) (s : State) : exec (.iluStop h p) s =
    .next (if s.hostUp then State.direct h (.iluCtrl p 1) s.quiet else s.quiet) := (rfl)

theorem execIluStart_eq (h : CmdHead) (p : Nat) (s : State) : exec (.iluStart h p) s =
    .next (if s.hostUp then State.direct h (.iluCtrl p 2) s.quiet else s.quiet) := (rfl)

theorem execIluClear_eq (h : CmdHead) (p : Nat) (s : State) : exec (.iluClear h p) s =
    .next (if s.hostUp then State.direct h (.iluCtrl p 3) s.quiet else s.quiet) := (rfl)

theorem execTwinSwap_eq (h : CmdHead) (s : State) : exec (.twinSwap h) s =
    .next (if s.hostUp then State.direct h .twinSwap s.quiet else s.quiet) := (rfl)

theorem execSetTod_eq (h : CmdHead) (t : Int) (s : State) : exec (.setTod h t) s =
    .next (if s.hostUp then State.direct h (.setTod t) s.quiet else s.quiet) := (rfl)

theorem execTimeAccept_eq (h : CmdHead) (e : Int) (s : State) : exec (.timeAccept h e) s =
    .next (if s.hostUp then State.direct h (.timeAccept e) s.quiet else s.quiet) := (rfl)

theorem execTimeReject_eq (h : CmdHead) (s : State) : exec (.timeReject h) s =
    .next (if s.hostUp then State.direct h .timeReject s.quiet else s.quiet) := (rfl)

theorem execArchiveAttach_eq (h : CmdHead) (r : AttachRec) (s : State) : exec (.archiveAttach h r) s =
    .next (if s.hostUp then State.direct h (.arcAttach r) s.quiet else s.quiet) := (rfl)

theorem execArchiveDetach_eq (h : CmdHead) (s : State) : exec (.archiveDetach h) s =
    .next (if s.hostUp then State.direct h .arcDetach s.quiet else s.quiet) := (rfl)

theorem execArchiveFormat_eq (h : CmdHead) (r : AttachRec) (s : State) : exec (.archiveFormat h r) s =
    .next (if s.hostUp then State.direct h (.arcFormat r) s.quiet else s.quiet) := (rfl)

theorem execArchiveRead_eq (h : CmdHead) (off len : Nat) (s : State) : exec (.archiveRead h off len) s =
    .next (if s.hostUp then State.direct h (.arcRead off len) s.quiet else s.quiet) := (rfl)

theorem execArchiveWrite_eq (h : CmdHead) (off : Nat) (bytes : List Byte) (s : State) : exec (.archiveWrite h off bytes) s =
    .next (if s.hostUp then State.direct h (.arcWrite off bytes) s.quiet else s.quiet) := (rfl)

theorem execArchiveAlloc_eq (h : CmdHead) (s : State) : exec (.archiveAlloc h) s =
    .next (if s.hostUp then State.direct h .arcAlloc s.quiet else s.quiet) := (rfl)

theorem execArchiveClose_eq (h : CmdHead) (ext : Nat) (s : State) : exec (.archiveClose h ext) s =
    .next (if s.hostUp then State.direct h (.arcClose ext) s.quiet else s.quiet) := (rfl)

theorem execArchivePin_eq (h : CmdHead) (ext : Nat) (s : State) : exec (.archivePin h ext) s =
    .next (if s.hostUp then State.direct h (.arcPin ext) s.quiet else s.quiet) := (rfl)

theorem execArchiveUnpin_eq (h : CmdHead) (ext : Nat) (s : State) : exec (.archiveUnpin h ext) s =
    .next (if s.hostUp then State.direct h (.arcUnpin ext) s.quiet else s.quiet) := (rfl)

theorem execArchiveFree_eq (h : CmdHead) (ext : Nat) (s : State) : exec (.archiveFree h ext) s =
    .next (if s.hostUp then State.direct h (.arcFree ext) s.quiet else s.quiet) := (rfl)

theorem execArchiveList_eq (h : CmdHead) (first room : Nat) (s : State) : exec (.archiveList h first room) s =
    .next (if s.hostUp then State.direct h (.arcList first room) s.quiet else s.quiet) := (rfl)

theorem execArchiveTrigger_eq (h : CmdHead) (defs : Nat) (s : State) : exec (.archiveTrigger h defs) s =
    .next (if s.hostUp then State.direct h (.arcTrigger defs) s.quiet else s.quiet) := (rfl)

theorem execFieldbookRead_eq (h : CmdHead) (first count : Nat) (s : State) : exec (.fieldbookRead h first count) s =
    .next (if s.hostUp then State.direct h (.fbRead first count) s.quiet else s.quiet) := (rfl)

theorem execFieldbookFlush_eq (h : CmdHead) (s : State) : exec (.fieldbookFlush h) s =
    .next (if s.hostUp then State.direct h .fbFlush s.quiet else s.quiet) := (rfl)

theorem execClearGen_eq (h : CmdHead) (s : State) : exec (.clearGen h) s =
    .next (if s.hostUp then State.direct h .clearGen s.quiet else s.quiet) := (rfl)

theorem execClearSafe_eq (h : CmdHead) (s : State) : exec (.clearSafe h) s =
    .next (if s.hostUp then State.direct h .clearSafe s.quiet else s.quiet) := (rfl)

theorem execKeyPut_eq (h : CmdHead) (k : KeyPkg) (s : State) : exec (.keyPut h k) s =
    .next (if s.hostUp then State.direct h (.keyPut k) s.quiet else s.quiet) := (rfl)

theorem execKeyPrepare_eq (h : CmdHead) (s : State) : exec (.keyPrepare h) s =
    .next (if s.hostUp then State.direct h .keyPrepare s.quiet else s.quiet) := (rfl)

theorem execKeyRoll_eq (h : CmdHead) (slots : List Nat) (s : State) : exec (.keyRoll h slots) s =
    .next (if s.hostUp then State.direct h (.keyRoll slots) s.quiet else s.quiet) := (rfl)

theorem execKeyDrop_eq (h : CmdHead) (next : Bool) (slots : List Nat) (s : State) : exec (.keyDrop h next slots) s =
    .next (if s.hostUp then State.direct h (.keyDrop next slots) s.quiet else s.quiet) := (rfl)

theorem execOwn_eq (h : CmdHead) (root : Nat) (signed : Bool) (s : State) : exec (.own h root signed) s =
    .next (if s.hostUp then State.direct h (.own root signed) s.quiet else s.quiet) := (rfl)

theorem execKeyRelease_eq (h : CmdHead) (s : State) : exec (.keyRelease h) s =
    .next (if s.hostUp then State.direct h .keyRelease s.quiet else s.quiet) := (rfl)

theorem execEnterService_eq (h : CmdHead) (s : State) : exec (.enterService h) s =
    .next (if s.hostUp then State.direct h .enterService s.quiet else s.quiet) := (rfl)

theorem execLeaveService_eq (h : CmdHead) (s : State) : exec (.leaveService h) s =
    .next (if s.hostUp then State.direct h .leaveService s.quiet else s.quiet) := (rfl)

theorem execRetire_eq (h : CmdHead) (s : State) : exec (.retire h) s =
    .next (if s.hostUp then State.direct h .retire s.quiet else s.quiet) := (rfl)

theorem execStage_eq (h : CmdHead) (hdr : FwHeader) (halt : Option Nat) (s : State) : exec (.stage h hdr halt) s =
    .next (if s.hostUp then State.direct h (.stage hdr halt) s.quiet else s.quiet) := (rfl)

theorem execActivate_eq (h : CmdHead) (s : State) : exec (.activate h) s =
    .next (if s.hostUp then State.direct h .activate s.quiet else s.quiet) := (rfl)

theorem execRaiseSvn_eq (h : CmdHead) (s : State) : exec (.raiseSvn h) s =
    .next (if s.hostUp then State.direct h .raiseSvn s.quiet else s.quiet) := (rfl)

theorem execFnReset_eq (h : CmdHead) (fn : Nat) (s : State) : exec (.fnReset h fn) s =
    .next (if s.hostUp then State.direct h (.fnReset fn) s.quiet else s.quiet) := (rfl)

theorem execCaptureEnd_eq (lane : LaneId) (rd : Nat) (s : State) : exec (.captureEnd lane rd) s =
    .next (State.captureEnd lane rd s.quiet) := (rfl)

theorem execBufferFull_eq (lane : LaneId) (s : State) : exec (.bufferFull lane) s =
    .next (s.put lane (Lane.bufferFull (s.now lane))) := (rfl)

theorem execRecordTransferFrame_eq (lane : LaneId) (s : State) : exec (.recordTransferFrame lane) s =
    .next (s.put lane (Lane.recordFrame lane (s.now lane))) := (rfl)

theorem execNvmeCompletion_eq (cid status : Nat) (data : List Byte) (now : Int) (s : State) : exec (.nvmeCompletion cid status data now) s =
    .next (if s.hostUp then State.nvmeCompletion cid status data now s.quiet else s.quiet) := (rfl)

theorem execNvmeOverdue_eq (cid : Nat) (now : Int) (s : State) : exec (.nvmeOverdue cid now) s =
    .next (if s.hostUp then State.nvmeOverdue cid now s.quiet else s.quiet) := (rfl)

theorem execCatalogueCommit_eq (page : Nat) (now : Int) (s : State) : exec (.catalogueCommit page now) s =
    .next (if s.hostUp then State.catalogueCommit page now s.quiet else s.quiet) := (rfl)

theorem execRecoveryComplete_eq (hdrOk : Bool) (e : Nat) (entries : ArcRead) (now : Int) (s : State) : exec (.recoveryComplete hdrOk e entries now) s =
    .next (if s.hostUp then State.recoveryComplete hdrOk e entries now s.quiet else s.quiet) := (rfl)

theorem execFieldBookOccurrence_eq (book : Option LaneId) (s : State) : exec (.fieldBookOccurrence book) s =
    .next (State.bookOne book s.quiet) := (rfl)

theorem execFieldBookFlushEnd_eq (lane : LaneId) (s : State) : exec (.fieldBookFlushEnd lane) s =
    .next (s.put lane (Lane.flushEnd (s.now lane))) := (rfl)

theorem execSealRead_eq (w : Word) (s : State) : exec (.sealRead w) s =
    .next (State.onSafety (Safety.sealRead w) s.quiet) := (rfl)

theorem execSealSample_eq (w : Word) (s : State) : exec (.sealSample w) s =
    .next (State.onSafety (Safety.sealSample w) s.quiet) := (rfl)

theorem execInputSample_eq (a b : Nat) (blankA blankB : Bool) (s : State) : exec (.inputSample a b blankA blankB) s =
    .next (State.onSafety (Safety.sample a b blankA blankB) s.quiet) := (rfl)

theorem execTestPulse_eq (source a b : Nat) (off : Bool) (s : State) : exec (.testPulse source a b off) s =
    .next (State.onSafety (Safety.testPulse source a b off) s.quiet) := (rfl)

theorem execSafetyCycle_eq (rdbk coil0 coil1 ce : Nat) (s : State) : exec (.safetyCycle rdbk coil0 coil1 ce) s =
    .next (State.onSafety (Safety.cycle rdbk coil0 coil1 ce) s.quiet) := (rfl)

theorem execDiscrepancyTimeout_eq (pair : Nat) (s : State) : exec (.discrepancyTimeout pair) s =
    .next (State.onSafety (Safety.discrepancy pair) s.quiet) := (rfl)

theorem execSwitchTestRound_eq (bad : Option Nat) (s : State) : exec (.switchTestRound bad) s =
    .next (State.onSafety (Safety.switchTest bad) s.quiet) := (rfl)

theorem execCoilCurrentFailure_eq (brake : Nat) (s : State) : exec (.coilCurrentFailure brake) s =
    .next (State.onSafety (Safety.coilFailure brake) s.quiet) := (rfl)

theorem execSpeedPulse_eq (input : Nat) (s : State) : exec (.speedPulse input) s =
    .next (State.onSafety (Safety.speedPulse input) s.quiet) := (rfl)

theorem execDiagnosticFailure_eq (cause : Nat) (s : State) : exec (.diagnosticFailure cause) s =
    .next (State.onSafety (Safety.diagnose cause) s.quiet) := (rfl)

theorem execSafetyStatus_eq (now : Int) (s : State) : exec (.safetyStatus now) s =
    .next (State.safetyStatus now s.quiet) := (rfl)

theorem execProgrammingPage_eq (offset : Nat) (h : FwHeader) (page : ProgPage) (s : State) : exec (.programmingPage offset h page) s =
    .next (State.onSafety (Safety.programPage offset h page) s.quiet) := (rfl)

theorem execFieldIoFrameToField_eq (lane : LaneId) (err : Word) (s : State) : exec (.fieldIoFrameToField lane err) s =
    .next (s.put lane (Lane.frameToField err (s.now lane))) := (rfl)

theorem execFieldIoFrameFromField_eq (lane : LaneId) (rx : FieldRx) (now : Int) (s : State) : exec (.fieldIoFrameFromField lane rx now) s =
    .next (s.put lane (Lane.frameFromField rx now (s.now lane))) := (rfl)

theorem execFieldIoFrameTimeout_eq (lane : LaneId) (toField : Bool) (now : Int) (s : State) : exec (.fieldIoFrameTimeout lane toField now) s =
    .next (s.put lane (Lane.frameTimeout toField now (s.now lane))) := (rfl)

theorem execOutputOverload_eq (lane : LaneId) (pin : Nat) (s : State) : exec (.outputOverload lane pin) s =
    .next (s.put lane (Lane.overload pin (s.now lane))) := (rfl)

theorem execOverloadRetry_eq (lane : LaneId) (pin : Nat) (stillBad : Bool) (s : State) : exec (.overloadRetry lane pin stillBad) s =
    .next (s.put lane (Lane.overloadRetry pin stillBad (s.now lane))) := (rfl)

theorem execPowerGood_eq (vin : Nat) (capLow : Bool) (s : State) : exec (.powerGood vin capLow) s =
    .next (State.powerGood vin capLow s.quiet) := (rfl)

theorem execDomainFault_eq (domain : Nat) (now : Int) (s : State) : exec (.domainFault domain now) s =
    .next (State.domainFault domain now s.quiet) := (rfl)

theorem execHostComplexReady_eq (ok : Bool) (ms : Nat) (now : Int) (s : State) : exec (.hostComplexReady ok ms now) s =
    .next ((fun s => (State.hostReady ok ms now s).startDone) s.quiet) := (rfl)

theorem execLaneStart_eq (lane : LaneId) (s : State) : exec (.laneStart lane) s =
    .next (State.laneStart lane s.quiet) := (rfl)

theorem execMemorySelfTestEnd_eq (lane : LaneId) (fail repair rows cols ms : Nat) (now : Int) (s : State) : exec (.memorySelfTestEnd lane fail repair rows cols ms now) s =
    .next (s.put lane (Lane.memoryTest fail repair rows cols ms now (s.now lane))) := (rfl)

theorem execLogicSelfTestEnd_eq (lane : LaneId) (pipes others : List Nat) (ms : Nat) (now : Int) (s : State) : exec (.logicSelfTestEnd lane pipes others ms now) s =
    .next ((fun s => (s.mapLane lane (Lane.logicTest pipes others ms now)).startDone) s.quiet) := (rfl)

theorem execGenerationCheck_eq (lane : LaneId) (now : Int) (s : State) : exec (.generationCheck lane now) s =
    .next (State.generationCheck lane now s.quiet) := (rfl)

theorem execLaneEnterService_eq (lane : LaneId) (startMs t : Nat) (s : State) : exec (.laneEnterService lane startMs t) s =
    .next (State.enterService lane startMs t s.quiet) := (rfl)

theorem execHoldUpChargeMeasure_eq (t : Nat) (now : Int) (s : State) : exec (.holdUpChargeMeasure t now) s =
    .next (State.chargeMeasure t now s.quiet) := (rfl)

theorem execHoldOk_eq (vhold : Nat) (s : State) : exec (.holdOk vhold) s =
    .next (State.holdOk vhold s.quiet) := (rfl)

theorem execHoldLowTimeout_eq (now : Int) (s : State) : exec (.holdLowTimeout now) s =
    .next (State.holdTimeout now s.quiet) := (rfl)

theorem execSagDetected_eq (vin : Nat) (now : Int) (s : State) : exec (.sagDetected vin now) s =
    .next (State.sag vin now s.quiet) := (rfl)

theorem execFlushEnd_eq (us : Nat) (s : State) : exec (.flushEnd us) s =
    .next (State.flushEnd us s.quiet) := (rfl)

theorem execSupplyReturn_eq (vin : Nat) (s : State) : exec (.supplyReturn vin) s =
    .next (State.supplyReturn vin s.quiet) := (rfl)

theorem execWarmModuleReset_eq (w : Word) (now : Int) (s : State) : exec (.warmModuleReset w now) s =
    .next (State.warmWrite w now s.quiet) := (rfl)

theorem execLaneReset_eq (w : Word) (now : Int) (s : State) : exec (.laneReset w now) s =
    .next (State.laneResetWrite w now s.quiet) := (rfl)

theorem execParkAttended_eq (key : Nat) (now : Int) (s : State) : exec (.parkAttended key now) s =
    .next (State.parkAttended key now s.quiet) := (rfl)

theorem execParkSleeping_eq (key : Nat) (now : Int) (s : State) : exec (.parkSleeping key now) s =
    .next (State.parkSleeping key now s.quiet) := (rfl)

theorem execUnpark_eq (key : Nat) (now : Int) (s : State) : exec (.unpark key now) s =
    .next (State.unpark key now s.quiet) := (rfl)

theorem execTrefAlarm_eq (tref now : Int) (s : State) : exec (.trefAlarm tref now) s =
    .next (State.trefAlarm tref now s.quiet) := (rfl)

theorem execDieOvertemp_eq (lane : LaneId) (temp now : Int) (s : State) : exec (.dieOvertemp lane temp now) s =
    .next (s.put lane (Lane.dieTemp temp now (s.now lane))) := (rfl)

theorem execLpddrScrub_eq (lane : LaneId) (s : State) : exec (.lpddrScrub lane) s =
    .next (s.put lane (Lane.scrub (s.now lane))) := (rfl)

theorem execBootSelection_eq (part : Nat) (now : Int) (s : State) : exec (.bootSelection part now) s =
    .next ((fun s => (State.bootSelection part now s).startDone) s.quiet) := (rfl)

theorem execBootConfirm_eq (part : Nat) (s : State) : exec (.bootConfirm part) s =
    .next (State.bootConfirm part s.quiet) := (rfl)

theorem execEraseSuspend_eq (part : Nat) (s : State) : exec (.eraseSuspend part) s =
    .next (State.eraseStep part Flash.suspend true s.quiet) := (rfl)

theorem execEraseResume_eq (part : Nat) (s : State) : exec (.eraseResume part) s =
    .next (State.eraseStep part Flash.resume false s.quiet) := (rfl)

theorem execSlotWriteComplete_eq (lane : LaneId) (s : State) : exec (.slotWriteComplete lane) s =
    .next (s.put lane (Lane.slotDone (s.now lane))) := (rfl)

theorem execDailySlotCheck_eq (lane : LaneId) (ok : Bool) (now : Int) (s : State) : exec (.dailySlotCheck lane ok now) s =
    .next (s.put lane (Lane.slotCheck ok now (s.now lane))) := (rfl)

theorem execKeyRemask_eq (lane : LaneId) (s : State) : exec (.keyRemask lane) s =
    .next (s.put lane (Lane.remask (s.now lane))) := (rfl)

theorem execPfcPauseExpiry_eq (lane : LaneId) (port cls raw : Nat) (s : State) : exec (.pfcPauseExpiry lane port cls raw) s =
    .next (s.put lane (Lane.pfcPauseExpiry port cls raw (s.now lane))) := (rfl)

theorem execPcieLinkUp_eq (speed width : Nat) (ecrc : Bool) (s : State) : exec (.pcieLinkUp speed width ecrc) s =
    .next ((fun s => if s.endpointUp then s.pcieUp speed width ecrc else s) s.quiet) := (rfl)

theorem execVfEnable_eq (n : Nat) (s : State) : exec (.vfEnable n) s =
    .next (if s.hostUp then State.vfEnable n s.quiet else s.quiet) := (rfl)

theorem execHoldUpEnergyEnd_eq (a b c d us : Nat) (s : State) : exec (.holdUpEnergyEnd a b c d us) s =
    .next (State.energyEnd a b c d us s.quiet) := (rfl)

theorem execFactoryProvisioning_eq (now : Int) (s : State) : exec (.factoryProvisioning now) s =
    .next (State.provision now s.quiet) := (rfl)

theorem execFieldSupplyLow_eq (lane : LaneId) (low : Bool) (s : State) : exec (.fieldSupplyLow lane low) s =
    .next (s.put lane (Lane.fieldSupply low (s.now lane))) := (rfl)

theorem execHotReset_eq (s : State) : exec (.hotReset) s =
    .next (if s.hostUp then State.resetAllFns s.quiet else s.quiet) := (rfl)

theorem execHoldingTestWindowOpen_eq (s : State) : exec (.holdingTestWindowOpen) s =
    .next (State.onSafety Safety.windowOpen s.quiet) := (rfl)

theorem execHoldingTestWindowClose_eq (s : State) : exec (.holdingTestWindowClose) s =
    .next (State.onSafety Safety.windowClose s.quiet) := (rfl)

theorem execWatchdogMiss_eq (s : State) : exec (.watchdogMiss) s =
    .next (State.onSafety (Safety.fail 7) s.quiet) := (rfl)

theorem execSafetyStartComplete_eq (s : State) : exec (.safetyStartComplete) s =
    .next (State.onSafety Safety.startComplete s.quiet) := (rfl)

theorem execSafetySag_eq (s : State) : exec (.safetySag) s =
    .next (State.safetySag s.quiet) := (rfl)

theorem execStageStart_eq (s : State) : exec (.stageStart) s =
    .next (State.stageStart s.quiet) := (rfl)

theorem execDip_eq (s : State) : exec (.dip) s =
    .next (State.dip s.quiet) := (rfl)

theorem execSleepSupplyLoss_eq (s : State) : exec (.sleepSupplyLoss) s =
    .next (State.sleepLoss s.quiet) := (rfl)

theorem execColdReset_eq (s : State) : exec (.coldReset) s =
    .next (State.coldReset s.quiet) := (rfl)

theorem execGeneralClassNorSave_eq (s : State) : exec (.generalClassNorSave) s =
    .next (if s.hostUp then (fun s => s.hcx Hcx.norSave) s.quiet else s.quiet) := (rfl)

end Sys2Proof.Machine
end

