-- ==== Sys2Proof/Laws/Frame.lean ====
section
/-! SUPPORT. What the operations of the module leave alone: none of them touches the queue of commands, and only those
of the safety lane, of a cold reset and of parking touch the safety lane. -/

namespace Sys2Proof.Machine

open Sys2Proof

set_option linter.unusedSimpArgs false
set_option linter.unusedTactic false
set_option linter.unnecessarySeqFocus false
set_option linter.unreachableTactic false

/-- A fold of changes that each keep a value keeps it. -/
theorem foldl_keep {σ β γ : Type} (g : σ → γ) (f : σ → β → σ) (h : ∀ s x, g (f s x) = g s) (l : List β) (s : σ) :
    g (l.foldl f s) = g s := by
  induction l generalizing s with
  | nil => rfl
  | cons x t ih => rw [List.foldl_cons, ih, h]

@[simp] theorem State.foldl_pending {β : Type} (f : State → β → State) (h : ∀ s x, (f s x).pending = s.pending)
    (l : List β) (s : State) : (l.foldl f s).pending = s.pending := foldl_keep (·.pending) f h l s

@[simp] theorem State.foldl_safety {β : Type} (f : State → β → State) (h : ∀ s x, (f s x).safety = s.safety)
    (l : List β) (s : State) : (l.foldl f s).safety = s.safety := foldl_keep (·.safety) f h l s

@[simp] theorem State.foldTo_pending (n : Nat) (f : State → Nat → State) (h : ∀ s x, (f s x).pending = s.pending)
    (s : State) : (foldTo n f s).pending = s.pending := foldl_keep (·.pending) f h _ s

@[simp] theorem State.foldTo_safety (n : Nat) (f : State → Nat → State) (h : ∀ s x, (f s x).safety = s.safety)
    (s : State) : (foldTo n f s).safety = s.safety := foldl_keep (·.safety) f h _ s

/-! ### Firmware -/

@[simp] theorem State.mapKeys_pending (s : State) (f : KeyStore → KeyStore) :
    (State.mapKeys s f).pending = s.pending := (rfl)

@[simp] theorem State.mapKeys_safety (s : State) (f : KeyStore → KeyStore) :
    (State.mapKeys s f).safety = s.safety := (rfl)

@[simp] theorem State.lcTransition_pending (s : State) (f : KeyStore → KeyStore) (now : Int) :
    (State.lcTransition s f now).pending = s.pending := by
  unfold State.lcTransition
  try dsimp only
  (repeat' split) <;> simp [apply_ite State.pending]

@[simp] theorem State.lcTransition_safety (s : State) (f : KeyStore → KeyStore) (now : Int) :
    (State.lcTransition s f now).safety = s.safety := by
  unfold State.lcTransition
  try dsimp only
  (repeat' split) <;> simp [apply_ite State.safety]

theorem State.lifecycle_pending (s : State) (c : HostCmd) (now : Int) {t : State} (h : State.lifecycle s c now = some t) :
    t.pending = s.pending := by
  unfold State.lifecycle at h
  try dsimp only at h
  (repeat' split at h) <;> first | contradiction | (simp only [Option.some.injEq] at h; subst h; simp [apply_ite State.pending])

theorem State.lifecycle_safety (s : State) (c : HostCmd) (now : Int) {t : State} (h : State.lifecycle s c now = some t) :
    t.safety = s.safety := by
  unfold State.lifecycle at h
  try dsimp only at h
  (repeat' split at h) <;> first | contradiction | (simp only [Option.some.injEq] at h; subst h; simp [apply_ite State.safety])

@[simp] theorem State.provision_pending (now : Int) (s : State) :
    (State.provision now s).pending = s.pending := by
  unfold State.provision
  try dsimp only
  (repeat' split) <;> simp [apply_ite State.pending]

@[simp] theorem State.provision_safety (now : Int) (s : State) :
    (State.provision now s).safety = s.safety := by
  unfold State.provision
  try dsimp only
  (repeat' split) <;> simp [apply_ite State.safety]

/-! ### Rings -/

@[simp] theorem State.fence_pending (s : State) (f cause ring idx : Nat) (now : Int) :
    (State.fence s f cause ring idx now).pending = s.pending := by
  unfold State.fence
  try dsimp only
  (repeat' split) <;> simp [apply_ite State.pending]

@[simp] theorem State.fence_safety (s : State) (f cause ring idx : Nat) (now : Int) :
    (State.fence s f cause ring idx now).safety = s.safety := by
  unfold State.fence
  try dsimp only
  (repeat' split) <;> simp [apply_ite State.safety]

@[simp] theorem State.doorbell_pending (f r : Nat) (v : Word) (width : Nat) (now : Int) (s : State) :
    (State.doorbell f r v width now s).pending = s.pending := by
  unfold State.doorbell
  try dsimp only
  (repeat' split) <;> simp [apply_ite State.pending]

@[simp] theorem State.doorbell_safety (f r : Nat) (v : Word) (width : Nat) (now : Int) (s : State) :
    (State.doorbell f r v width now s).safety = s.safety := by
  unfold State.doorbell
  try dsimp only
  (repeat' split) <;> simp [apply_ite State.safety]

@[simp] theorem State.ringEnable_pending (f r : Nat) (v : Word) (s : State) :
    (State.ringEnable f r v s).pending = s.pending := by
  unfold State.ringEnable
  try dsimp only
  (repeat' split) <;> simp [apply_ite State.pending]

@[simp] theorem State.ringEnable_safety (f r : Nat) (v : Word) (s : State) :
    (State.ringEnable f r v s).safety = s.safety := by
  unfold State.ringEnable
  try dsimp only
  (repeat' split) <;> simp [apply_ite State.safety]

@[simp] theorem State.ringDrain_pending (f r : Nat) (s : State) :
    (State.ringDrain f r s).pending = s.pending := by
  unfold State.ringDrain
  try dsimp only
  (repeat' split) <;> simp [apply_ite State.pending]

@[simp] theorem State.ringDrain_safety (f r : Nat) (s : State) :
    (State.ringDrain f r s).safety = s.safety := by
  unfold State.ringDrain
  try dsimp only
  (repeat' split) <;> simp [apply_ite State.safety]

@[simp] theorem State.drainComplete_pending (f r : Nat) (s : State) :
    (State.drainComplete f r s).pending = s.pending := by
  unfold State.drainComplete
  try dsimp only
  (repeat' split) <;> simp [apply_ite State.pending]

@[simp] theorem State.drainComplete_safety (f r : Nat) (s : State) :
    (State.drainComplete f r s).safety = s.safety := by
  unfold State.drainComplete
  try dsimp only
  (repeat' split) <;> simp [apply_ite State.safety]

@[simp] theorem State.ringWrite_pending (f : Nat) (reg : Reg) (r : Nat) (v : Word) (s : State) :
    (State.ringWrite f reg r v s).pending = s.pending := by
  unfold State.ringWrite
  try dsimp only
  (repeat' split) <;> simp [apply_ite State.pending]

@[simp] theorem State.ringWrite_safety (f : Nat) (reg : Reg) (r : Nat) (v : Word) (s : State) :
    (State.ringWrite f reg r v s).safety = s.safety := by
  unfold State.ringWrite
  try dsimp only
  (repeat' split) <;> simp [apply_ite State.safety]

@[simp] theorem State.signal_pending (s : State) (f v : Nat) :
    (State.signal s f v).pending = s.pending := by
  unfold State.signal
  try dsimp only
  (repeat' split) <;> simp [apply_ite State.pending]

@[simp] theorem State.signal_safety (s : State) (f v : Nat) :
    (State.signal s f v).safety = s.safety := by
  unfold State.signal
  try dsimp only
  (repeat' split) <;> simp [apply_ite State.safety]

@[simp] theorem State.msixMessage_pending (f r : Nat) (now : Int) (s : State) :
    (State.msixMessage f r now s).pending = s.pending := by
  unfold State.msixMessage
  try dsimp only
  (repeat' split) <;> simp [apply_ite State.pending]

@[simp] theorem State.msixMessage_safety (f r : Nat) (now : Int) (s : State) :
    (State.msixMessage f r now s).safety = s.safety := by
  unfold State.msixMessage
  try dsimp only
  (repeat' split) <;> simp [apply_ite State.safety]

@[simp] theorem State.msixMask_pending (f v : Nat) (masked : Bool) (s : State) :
    (State.msixMask f v masked s).pending = s.pending := by
  unfold State.msixMask
  try dsimp only
  (repeat' split) <;> simp [apply_ite State.pending]

@[simp] theorem State.msixMask_safety (f v : Nat) (masked : Bool) (s : State) :
    (State.msixMask f v masked s).safety = s.safety := by
  unfold State.msixMask
  try dsimp only
  (repeat' split) <;> simp [apply_ite State.safety]

@[simp] theorem State.writeEntry_pending (s : State) (f r : Nat) (bytes : List Byte) (now : Int) :
    (State.writeEntry s f r bytes now).pending = s.pending := by
  unfold State.writeEntry
  try dsimp only
  (repeat' split) <;> simp [apply_ite State.pending]

@[simp] theorem State.writeEntry_safety (s : State) (f r : Nat) (bytes : List Byte) (now : Int) :
    (State.writeEntry s f r bytes now).safety = s.safety := by
  unfold State.writeEntry
  try dsimp only
  (repeat' split) <;> simp [apply_ite State.safety]

theorem State.complete_pending (s : State) (d : Done) (inHost : Bool) (now : Int) {t : State} (h : State.complete s d inHost now = some t) :
    t.pending = s.pending := by
  unfold State.complete at h
  try dsimp only at h
  (repeat' split at h) <;> first | contradiction | (simp only [Option.some.injEq] at h; subst h; simp [apply_ite State.pending])

theorem State.complete_safety (s : State) (d : Done) (inHost : Bool) (now : Int) {t : State} (h : State.complete s d inHost now = some t) :
    t.safety = s.safety := by
  unfold State.complete at h
  try dsimp only at h
  (repeat' split at h) <;> first | contradiction | (simp only [Option.some.injEq] at h; subst h; simp [apply_ite State.safety])

@[simp] theorem State.commandCompletion_pending (src : Option LaneId) (now : Int) (s : State) :
    (State.commandCompletion src now s).pending = s.pending := by
  unfold State.commandCompletion
  (repeat' split) <;> (try rfl) <;>
  · rename_i d _ _
    cases h : s.complete d _ now with
    | none => rfl
    | some t => simpa using State.complete_pending s d _ now h

@[simp] theorem State.commandCompletion_safety (src : Option LaneId) (now : Int) (s : State) :
    (State.commandCompletion src now s).safety = s.safety := by
  unfold State.commandCompletion
  (repeat' split) <;> (try rfl) <;>
  · rename_i d _ _
    cases h : s.complete d _ now with
    | none => rfl
    | some t => simpa using State.complete_safety s d _ now h

@[simp] theorem State.txDescriptor_pending (f r : Nat) (d : TxDesc) (now : Int) (s : State) :
    (State.txDescriptor f r d now s).pending = s.pending := by
  unfold State.txDescriptor
  try dsimp only
  (repeat' split) <;> simp [apply_ite State.pending]

@[simp] theorem State.txDescriptor_safety (f r : Nat) (d : TxDesc) (now : Int) (s : State) :
    (State.txDescriptor f r d now s).safety = s.safety := by
  unfold State.txDescriptor
  try dsimp only
  (repeat' split) <;> simp [apply_ite State.safety]

@[simp] theorem State.txWriteBack_pending (f r : Nat) (now : Int) (s : State) :
    (State.txWriteBack f r now s).pending = s.pending := by
  unfold State.txWriteBack
  try dsimp only
  (repeat' split) <;> simp [apply_ite State.pending]

@[simp] theorem State.txWriteBack_safety (f r : Nat) (now : Int) (s : State) :
    (State.txWriteBack f r now s).safety = s.safety := by
  unfold State.txWriteBack
  try dsimp only
  (repeat' split) <;> simp [apply_ite State.safety]

@[simp] theorem State.receive_pending (l : LaneId) (d : RxDesc) (now : Int) (s : State) :
    (State.receive l d now s).pending = s.pending := by
  unfold State.receive
  try dsimp only
  (repeat' split) <;> simp [apply_ite State.pending]

@[simp] theorem State.receive_safety (l : LaneId) (d : RxDesc) (now : Int) (s : State) :
    (State.receive l d now s).safety = s.safety := by
  unfold State.receive
  try dsimp only
  (repeat' split) <;> simp [apply_ite State.safety]

@[simp] theorem State.waitingBeacons_pending (s : State) (f : Nat) (now : Int) :
    (State.waitingBeacons s f now).pending = s.pending := by
  unfold State.waitingBeacons
  dsimp only
  split <;> simp [apply_ite State.pending] <;>
  · refine State.foldl_pending _ (fun s x => ?_) _ _
    split <;> simp [apply_ite State.pending]

@[simp] theorem State.waitingBeacons_safety (s : State) (f : Nat) (now : Int) :
    (State.waitingBeacons s f now).safety = s.safety := by
  unfold State.waitingBeacons
  dsimp only
  split <;> simp [apply_ite State.safety] <;>
  · refine State.foldl_safety _ (fun s x => ?_) _ _
    split <;> simp [apply_ite State.safety]

@[simp] theorem State.overflowEntry_pending (f : Nat) (now : Int) (s : State) :
    (State.overflowEntry f now s).pending = s.pending := by
  unfold State.overflowEntry
  try dsimp only
  (repeat' split) <;> simp [apply_ite State.pending]

@[simp] theorem State.overflowEntry_safety (f : Nat) (now : Int) (s : State) :
    (State.overflowEntry f now s).safety = s.safety := by
  unfold State.overflowEntry
  try dsimp only
  (repeat' split) <;> simp [apply_ite State.safety]

@[simp] theorem State.placeOn_pending (s : State) (f lane : Nat) (o : Occ) (rep : Nat) (now : Int) :
    (State.placeOn s f lane o rep now).pending = s.pending := by
  unfold State.placeOn
  try dsimp only
  (repeat' split) <;> simp [apply_ite State.pending]

@[simp] theorem State.placeOn_safety (s : State) (f lane : Nat) (o : Occ) (rep : Nat) (now : Int) :
    (State.placeOn s f lane o rep now).safety = s.safety := by
  unfold State.placeOn
  try dsimp only
  (repeat' split) <;> simp [apply_ite State.safety]

@[simp] theorem State.placeEvent_pending (s : State) (lane : Nat) (o : Occ) (rep : Nat) (now : Int) :
    (State.placeEvent s lane o rep now).pending = s.pending := by
  unfold State.placeEvent
  try dsimp only
  (repeat' split) <;> simp [apply_ite State.pending]

@[simp] theorem State.placeEvent_safety (s : State) (lane : Nat) (o : Occ) (rep : Nat) (now : Int) :
    (State.placeEvent s lane o rep now).safety = s.safety := by
  unfold State.placeEvent
  try dsimp only
  (repeat' split) <;> simp [apply_ite State.safety]

@[simp] theorem State.eventPlacement_pending (book : Option LaneId) (now : Int) (s : State) :
    (State.eventPlacement book now s).pending = s.pending := by
  unfold State.eventPlacement
  try dsimp only
  (repeat' split) <;> simp [apply_ite State.pending]

@[simp] theorem State.eventPlacement_safety (book : Option LaneId) (now : Int) (s : State) :
    (State.eventPlacement book now s).safety = s.safety := by
  unfold State.eventPlacement
  try dsimp only
  (repeat' split) <;> simp [apply_ite State.safety]

@[simp] theorem State.datumBeacon_pending (l : LaneId) (s : State) :
    (State.datumBeacon l s).pending = s.pending := by
  unfold State.datumBeacon
  try dsimp only
  (repeat' split) <;> simp [apply_ite State.pending]

@[simp] theorem State.datumBeacon_safety (l : LaneId) (s : State) :
    (State.datumBeacon l s).safety = s.safety := by
  unfold State.datumBeacon
  try dsimp only
  (repeat' split) <;> simp [apply_ite State.safety]

@[simp] theorem State.hostBeacon_pending (clock : Int) (s : State) :
    (State.hostBeacon clock s).pending = s.pending := by
  unfold State.hostBeacon
  try dsimp only
  (repeat' split) <;> simp [apply_ite State.pending]

@[simp] theorem State.hostBeacon_safety (clock : Int) (s : State) :
    (State.hostBeacon clock s).safety = s.safety := by
  unfold State.hostBeacon
  try dsimp only
  (repeat' split) <;> simp [apply_ite State.safety]

@[simp] theorem State.resetFn_pending (s : State) (f : Nat) :
    (State.resetFn s f).pending = s.pending := by
  unfold State.resetFn
  try dsimp only
  (repeat' split) <;> simp [apply_ite State.pending]

@[simp] theorem State.resetFn_safety (s : State) (f : Nat) :
    (State.resetFn s f).safety = s.safety := by
  unfold State.resetFn
  try dsimp only
  (repeat' split) <;> simp [apply_ite State.safety]

@[simp] theorem State.resetFnDone_pending (f : Nat) (now : Int) (s : State) :
    (State.resetFnDone f now s).pending = s.pending := by
  unfold State.resetFnDone
  try dsimp only
  (repeat' split) <;> simp [apply_ite State.pending]

@[simp] theorem State.resetFnDone_safety (f : Nat) (now : Int) (s : State) :
    (State.resetFnDone f now s).safety = s.safety := by
  unfold State.resetFnDone
  try dsimp only
  (repeat' split) <;> simp [apply_ite State.safety]

@[simp] theorem State.resetAllFns_pending (s : State) :
    (State.resetAllFns s).pending = s.pending := by
  unfold State.resetAllFns
  try dsimp only
  (repeat' split) <;> simp [apply_ite State.pending]

@[simp] theorem State.resetAllFns_safety (s : State) :
    (State.resetAllFns s).safety = s.safety := by
  unfold State.resetAllFns
  try dsimp only
  (repeat' split) <;> simp [apply_ite State.safety]

@[simp] theorem State.vfEnable_pending (n : Nat) (s : State) :
    (State.vfEnable n s).pending = s.pending := by
  unfold State.vfEnable
  try dsimp only
  (repeat' split) <;> simp [apply_ite State.pending]

@[simp] theorem State.vfEnable_safety (n : Nat) (s : State) :
    (State.vfEnable n s).safety = s.safety := by
  unfold State.vfEnable
  try dsimp only
  (repeat' split) <;> simp [apply_ite State.safety]

@[simp] theorem State.pcieDown_pending (now : Int) (s : State) :
    (State.pcieDown now s).pending = s.pending := by
  unfold State.pcieDown
  try dsimp only
  (repeat' split) <;> simp [apply_ite State.pending]

@[simp] theorem State.pcieDown_safety (now : Int) (s : State) :
    (State.pcieDown now s).safety = s.safety := by
  unfold State.pcieDown
  try dsimp only
  (repeat' split) <;> simp [apply_ite State.safety]

@[simp] theorem State.pcieUp_pending (speed width : Nat) (ecrc : Bool) (s : State) :
    (State.pcieUp speed width ecrc s).pending = s.pending := by
  unfold State.pcieUp
  try dsimp only
  (repeat' split) <;> simp [apply_ite State.pending]

@[simp] theorem State.pcieUp_safety (speed width : Nat) (ecrc : Bool) (s : State) :
    (State.pcieUp speed width ecrc s).safety = s.safety := by
  unfold State.pcieUp
  try dsimp only
  (repeat' split) <;> simp [apply_ite State.safety]

@[simp] theorem State.flr_pending (f : Nat) (s : State) :
    (State.flr f s).pending = s.pending := by
  unfold State.flr
  try dsimp only
  (repeat' split) <;> simp [apply_ite State.pending]

@[simp] theorem State.flr_safety (f : Nat) (s : State) :
    (State.flr f s).safety = s.safety := by
  unfold State.flr
  try dsimp only
  (repeat' split) <;> simp [apply_ite State.safety]

/-! ### Archive -/

@[simp] theorem State.arcDrop_pending (s : State) (r : ArcRec) (now : Int) :
    (State.arcDrop s r now).pending = s.pending := by
  unfold State.arcDrop
  try dsimp only
  (repeat' split) <;> simp [apply_ite State.pending]

@[simp] theorem State.arcDrop_safety (s : State) (r : ArcRec) (now : Int) :
    (State.arcDrop s r now).safety = s.safety := by
  unfold State.arcDrop
  try dsimp only
  (repeat' split) <;> simp [apply_ite State.safety]

@[simp] theorem State.growRecord_pending (s : State) (r : ArcRec) (now : Int) :
    (State.growRecord s r now).pending = s.pending := by
  unfold State.growRecord
  try dsimp only
  (repeat' split) <;> simp [apply_ite State.pending]

@[simp] theorem State.growRecord_safety (s : State) (r : ArcRec) (now : Int) :
    (State.growRecord s r now).safety = s.safety := by
  unfold State.growRecord
  try dsimp only
  (repeat' split) <;> simp [apply_ite State.safety]

@[simp] theorem State.writeRecord_pending (s : State) (r : ArcRec) (now : Int) :
    (State.writeRecord s r now).pending = s.pending := by
  unfold State.writeRecord
  try dsimp only
  (repeat' split) <;> simp [apply_ite State.pending]

@[simp] theorem State.writeRecord_safety (s : State) (r : ArcRec) (now : Int) :
    (State.writeRecord s r now).safety = s.safety := by
  unfold State.writeRecord
  try dsimp only
  (repeat' split) <;> simp [apply_ite State.safety]

@[simp] theorem State.arcRun_pending (s : State) (now : Int) :
    (State.arcRun s now).pending = s.pending := by
  unfold State.arcRun
  try dsimp only
  (repeat' split) <;> simp [apply_ite State.pending]

@[simp] theorem State.arcRun_safety (s : State) (now : Int) :
    (State.arcRun s now).safety = s.safety := by
  unfold State.arcRun
  try dsimp only
  (repeat' split) <;> simp [apply_ite State.safety]

@[simp] theorem State.stageRecord_pending (s : State) (r : ArcRec) (now : Int) :
    (State.stageRecord s r now).pending = s.pending := by
  unfold State.stageRecord
  try dsimp only
  (repeat' split) <;> simp [apply_ite State.pending]

@[simp] theorem State.stageRecord_safety (s : State) (r : ArcRec) (now : Int) :
    (State.stageRecord s r now).safety = s.safety := by
  unfold State.stageRecord
  try dsimp only
  (repeat' split) <;> simp [apply_ite State.safety]

@[simp] theorem State.setArcState_pending (s : State) (st : Nat) (status : Option Nat) (now : Int) :
    (State.setArcState s st status now).pending = s.pending := by
  unfold State.setArcState
  try dsimp only
  (repeat' split) <;> simp [apply_ite State.pending]

@[simp] theorem State.setArcState_safety (s : State) (st : Nat) (status : Option Nat) (now : Int) :
    (State.setArcState s st status now).safety = s.safety := by
  unfold State.setArcState
  try dsimp only
  (repeat' split) <;> simp [apply_ite State.safety]

@[simp] theorem State.arcFail_pending (s : State) (status : Nat) (now : Int) :
    (State.arcFail s status now).pending = s.pending := by
  unfold State.arcFail
  try dsimp only
  (repeat' split) <;> simp [apply_ite State.pending]

@[simp] theorem State.arcFail_safety (s : State) (status : Nat) (now : Int) :
    (State.arcFail s status now).safety = s.safety := by
  unfold State.arcFail
  try dsimp only
  (repeat' split) <;> simp [apply_ite State.safety]

@[simp] theorem State.nvmeOk_pending (s : State) (c : NvmeCmd) (data : List Byte) (now : Int) :
    (State.nvmeOk s c data now).pending = s.pending := by
  unfold State.nvmeOk
  try dsimp only
  (repeat' split) <;> simp [apply_ite State.pending]

@[simp] theorem State.nvmeOk_safety (s : State) (c : NvmeCmd) (data : List Byte) (now : Int) :
    (State.nvmeOk s c data now).safety = s.safety := by
  unfold State.nvmeOk
  try dsimp only
  (repeat' split) <;> simp [apply_ite State.safety]

@[simp] theorem State.nvmeCompletion_pending (cid status : Nat) (data : List Byte) (now : Int) (s : State) :
    (State.nvmeCompletion cid status data now s).pending = s.pending := by
  unfold State.nvmeCompletion
  try dsimp only
  (repeat' split) <;> simp [apply_ite State.pending]

@[simp] theorem State.nvmeCompletion_safety (cid status : Nat) (data : List Byte) (now : Int) (s : State) :
    (State.nvmeCompletion cid status data now s).safety = s.safety := by
  unfold State.nvmeCompletion
  try dsimp only
  (repeat' split) <;> simp [apply_ite State.safety]

@[simp] theorem State.nvmeOverdue_pending (cid : Nat) (now : Int) (s : State) :
    (State.nvmeOverdue cid now s).pending = s.pending := by
  unfold State.nvmeOverdue
  try dsimp only
  (repeat' split) <;> simp [apply_ite State.pending]

@[simp] theorem State.nvmeOverdue_safety (cid : Nat) (now : Int) (s : State) :
    (State.nvmeOverdue cid now s).safety = s.safety := by
  unfold State.nvmeOverdue
  try dsimp only
  (repeat' split) <;> simp [apply_ite State.safety]

@[simp] theorem State.catalogueCommit_pending (n : Nat) (now : Int) (s : State) :
    (State.catalogueCommit n now s).pending = s.pending := by
  unfold State.catalogueCommit
  try dsimp only
  (repeat' split) <;> simp [apply_ite State.pending]

@[simp] theorem State.catalogueCommit_safety (n : Nat) (now : Int) (s : State) :
    (State.catalogueCommit n now s).safety = s.safety := by
  unfold State.catalogueCommit
  try dsimp only
  (repeat' split) <;> simp [apply_ite State.safety]

@[simp] theorem State.recoveryComplete_pending (hdrOk : Bool) (e : Nat) (x : ArcRead) (now : Int) (s : State) :
    (State.recoveryComplete hdrOk e x now s).pending = s.pending := by
  unfold State.recoveryComplete
  try dsimp only
  (repeat' split) <;> simp [apply_ite State.pending]

@[simp] theorem State.recoveryComplete_safety (hdrOk : Bool) (e : Nat) (x : ArcRead) (now : Int) (s : State) :
    (State.recoveryComplete hdrOk e x now s).safety = s.safety := by
  unfold State.recoveryComplete
  try dsimp only
  (repeat' split) <;> simp [apply_ite State.safety]

@[simp] theorem State.arcAttach_pending (s : State) (id : CmdId) (r : AttachRec) (now : Int) :
    (State.arcAttach s id r now).pending = s.pending := by
  unfold State.arcAttach
  try dsimp only
  (repeat' split) <;> simp [apply_ite State.pending]

@[simp] theorem State.arcAttach_safety (s : State) (id : CmdId) (r : AttachRec) (now : Int) :
    (State.arcAttach s id r now).safety = s.safety := by
  unfold State.arcAttach
  try dsimp only
  (repeat' split) <;> simp [apply_ite State.safety]

@[simp] theorem State.arcRelease_pending (s : State) (status : Nat) (now : Int) :
    (State.arcRelease s status now).pending = s.pending := by
  unfold State.arcRelease
  try dsimp only
  (repeat' split) <;> simp [apply_ite State.pending]

@[simp] theorem State.arcRelease_safety (s : State) (status : Nat) (now : Int) :
    (State.arcRelease s status now).safety = s.safety := by
  unfold State.arcRelease
  try dsimp only
  (repeat' split) <;> simp [apply_ite State.safety]

@[simp] theorem State.arcDetach_pending (s : State) (id : CmdId) (now : Int) :
    (State.arcDetach s id now).pending = s.pending := by
  unfold State.arcDetach
  try dsimp only
  repeat' first
    | (simp [apply_ite State.pending]; done)
    | split

@[simp] theorem State.arcDetach_safety (s : State) (id : CmdId) (now : Int) :
    (State.arcDetach s id now).safety = s.safety := by
  unfold State.arcDetach
  try dsimp only
  repeat' first
    | (simp [apply_ite State.safety]; done)
    | split

@[simp] theorem State.arcFormat_pending (s : State) (id : CmdId) (r : AttachRec) (now : Int) :
    (State.arcFormat s id r now).pending = s.pending := by
  unfold State.arcFormat
  try dsimp only
  (repeat' split) <;> simp [apply_ite State.pending]

@[simp] theorem State.arcFormat_safety (s : State) (id : CmdId) (r : AttachRec) (now : Int) :
    (State.arcFormat s id r now).safety = s.safety := by
  unfold State.arcFormat
  try dsimp only
  (repeat' split) <;> simp [apply_ite State.safety]

@[simp] theorem State.arcAccess_pending (s : State) (id : CmdId) (op off len addr : Nat) (bytes : List Byte) (now : Int) :
    (State.arcAccess s id op off len addr bytes now).pending = s.pending := by
  unfold State.arcAccess
  try dsimp only
  (repeat' split) <;> simp [apply_ite State.pending]

@[simp] theorem State.arcAccess_safety (s : State) (id : CmdId) (op off len addr : Nat) (bytes : List Byte) (now : Int) :
    (State.arcAccess s id op off len addr bytes now).safety = s.safety := by
  unfold State.arcAccess
  try dsimp only
  (repeat' split) <;> simp [apply_ite State.safety]

@[simp] theorem State.arcAlloc_pending (s : State) (id : CmdId) (now : Int) :
    (State.arcAlloc s id now).pending = s.pending := by
  unfold State.arcAlloc
  try dsimp only
  (repeat' split) <;> simp [apply_ite State.pending]

@[simp] theorem State.arcAlloc_safety (s : State) (id : CmdId) (now : Int) :
    (State.arcAlloc s id now).safety = s.safety := by
  unfold State.arcAlloc
  try dsimp only
  (repeat' split) <;> simp [apply_ite State.safety]

@[simp] theorem State.arcMove_pending (s : State) (id : CmdId) (op ext : Nat) (now : Int) :
    (State.arcMove s id op ext now).pending = s.pending := by
  unfold State.arcMove
  try dsimp only
  (repeat' split) <;> simp [apply_ite State.pending]

@[simp] theorem State.arcMove_safety (s : State) (id : CmdId) (op ext : Nat) (now : Int) :
    (State.arcMove s id op ext now).safety = s.safety := by
  unfold State.arcMove
  try dsimp only
  (repeat' split) <;> simp [apply_ite State.safety]

@[simp] theorem State.arcList_pending (s : State) (id : CmdId) (first room addr : Nat) :
    (State.arcList s id first room addr).pending = s.pending := by
  unfold State.arcList
  try dsimp only
  (repeat' split) <;> simp [apply_ite State.pending]

@[simp] theorem State.arcList_safety (s : State) (id : CmdId) (first room addr : Nat) :
    (State.arcList s id first room addr).safety = s.safety := by
  unfold State.arcList
  try dsimp only
  (repeat' split) <;> simp [apply_ite State.safety]

@[simp] theorem State.captureEnd_pending (l : LaneId) (d : Nat) (s : State) :
    (State.captureEnd l d s).pending = s.pending := by
  unfold State.captureEnd
  try dsimp only
  (repeat' split) <;> simp [apply_ite State.pending]

@[simp] theorem State.captureEnd_safety (l : LaneId) (d : Nat) (s : State) :
    (State.captureEnd l d s).safety = s.safety := by
  unfold State.captureEnd
  try dsimp only
  (repeat' split) <;> simp [apply_ite State.safety]

@[simp] theorem State.bookOccurrence_pending (book : Option LaneId) (s : State) :
    (State.bookOccurrence book s).pending = s.pending := by
  unfold State.bookOccurrence
  try dsimp only
  (repeat' split) <;> simp [apply_ite State.pending]

@[simp] theorem State.bookOccurrence_safety (book : Option LaneId) (s : State) :
    (State.bookOccurrence book s).safety = s.safety := by
  unfold State.bookOccurrence
  try dsimp only
  (repeat' split) <;> simp [apply_ite State.safety]

/-! ### Apply -/

@[simp] theorem State.finishOn_pending (s : State) (l : LaneId) (id : CmdId) (status : Nat) (result : List Byte) :
    (State.finishOn s l id status result).pending = s.pending := by
  unfold State.finishOn
  try dsimp only
  (repeat' split) <;> simp [apply_ite State.pending]

@[simp] theorem State.finishOn_safety (s : State) (l : LaneId) (id : CmdId) (status : Nat) (result : List Byte) :
    (State.finishOn s l id status result).safety = s.safety := by
  unfold State.finishOn
  try dsimp only
  (repeat' split) <;> simp [apply_ite State.safety]

@[simp] theorem State.migTrack_pending (s : State) (l : LaneId) (id : CmdId) (p : Nat) (dst : LaneId) (q : Nat) :
    (State.migTrack s l id p dst q).pending = s.pending := by
  unfold State.migTrack
  try dsimp only
  repeat' first
    | (simp [apply_ite State.pending]; done)
    | split

@[simp] theorem State.migTrack_safety (s : State) (l : LaneId) (id : CmdId) (p : Nat) (dst : LaneId) (q : Nat) :
    (State.migTrack s l id p dst q).safety = s.safety := by
  unfold State.migTrack
  try dsimp only
  repeat' first
    | (simp [apply_ite State.safety]; done)
    | split

@[simp] theorem State.migCopy_pending (s : State) (m : Mig) :
    (State.migCopy s m).pending = s.pending := by
  unfold State.migCopy
  try dsimp only
  (repeat' split) <;> simp [apply_ite State.pending]

@[simp] theorem State.migCopy_safety (s : State) (m : Mig) :
    (State.migCopy s m).safety = s.safety := by
  unfold State.migCopy
  try dsimp only
  (repeat' split) <;> simp [apply_ite State.safety]

@[simp] theorem State.migSwitch_pending (s : State) (l : LaneId) (id : CmdId) (p : Nat) :
    (State.migSwitch s l id p).pending = s.pending := by
  unfold State.migSwitch
  try dsimp only
  repeat' first
    | (simp [apply_ite State.pending]; done)
    | split

@[simp] theorem State.migSwitch_safety (s : State) (l : LaneId) (id : CmdId) (p : Nat) :
    (State.migSwitch s l id p).safety = s.safety := by
  unfold State.migSwitch
  try dsimp only
  repeat' first
    | (simp [apply_ite State.safety]; done)
    | split

@[simp] theorem State.migCancel_pending (s : State) (l : LaneId) (id : CmdId) (p : Nat) :
    (State.migCancel s l id p).pending = s.pending := by
  unfold State.migCancel
  try dsimp only
  repeat' first
    | (simp [apply_ite State.pending]; done)
    | split

@[simp] theorem State.migCancel_safety (s : State) (l : LaneId) (id : CmdId) (p : Nat) :
    (State.migCancel s l id p).safety = s.safety := by
  unfold State.migCancel
  try dsimp only
  repeat' first
    | (simp [apply_ite State.safety]; done)
    | split

@[simp] theorem State.migApply_pending (s : State) (l : LaneId) (id : CmdId) (p op dst q : Nat) (r : SavedRec) :
    (State.migApply s l id p op dst q r).pending = s.pending := by
  unfold State.migApply
  try dsimp only
  repeat' first
    | (simp [apply_ite State.pending]; done)
    | split

@[simp] theorem State.migApply_safety (s : State) (l : LaneId) (id : CmdId) (p op dst q : Nat) (r : SavedRec) :
    (State.migApply s l id p op dst q r).safety = s.safety := by
  unfold State.migApply
  try dsimp only
  repeat' first
    | (simp [apply_ite State.safety]; done)
    | split

@[simp] theorem State.migStep_pending (s : State) (l : LaneId) (m : Mig) :
    (State.migStep s l m).pending = s.pending := by
  unfold State.migStep
  try dsimp only
  repeat' first
    | (simp [apply_ite State.pending]; done)
    | split

@[simp] theorem State.migStep_safety (s : State) (l : LaneId) (m : Mig) :
    (State.migStep s l m).safety = s.safety := by
  unfold State.migStep
  try dsimp only
  repeat' first
    | (simp [apply_ite State.safety]; done)
    | split

@[simp] theorem State.migEdge_pending (l : LaneId) (s : State) :
    (State.migEdge l s).pending = s.pending := by
  unfold State.migEdge
  try dsimp only
  (repeat' split) <;> simp [apply_ite State.pending]

@[simp] theorem State.migEdge_safety (l : LaneId) (s : State) :
    (State.migEdge l s).safety = s.safety := by
  unfold State.migEdge
  try dsimp only
  (repeat' split) <;> simp [apply_ite State.safety]

@[simp] theorem State.migDrop_pending (l : LaneId) (m : Mig) (s : State) :
    (State.migDrop l m s).pending = s.pending := by
  unfold State.migDrop
  try dsimp only
  (repeat' split) <;> simp [apply_ite State.pending]

@[simp] theorem State.migDrop_safety (l : LaneId) (m : Mig) (s : State) :
    (State.migDrop l m s).safety = s.safety := by
  unfold State.migDrop
  try dsimp only
  (repeat' split) <;> simp [apply_ite State.safety]

@[simp] theorem State.migAbort_pending (l : LaneId) (s : State) :
    (State.migAbort l s).pending = s.pending := by
  unfold State.migAbort
  try dsimp only
  (repeat' split) <;> simp [apply_ite State.pending]

@[simp] theorem State.migAbort_safety (l : LaneId) (s : State) :
    (State.migAbort l s).safety = s.safety := by
  unfold State.migAbort
  try dsimp only
  (repeat' split) <;> simp [apply_ite State.safety]

@[simp] theorem State.migDecide_pending (l : LaneId) (told : List (Nat × Bool)) (s : State) :
    (State.migDecide l told s).pending = s.pending := by
  unfold State.migDecide
  refine State.foldl_pending _ (fun s x => ?_) _ _
  repeat' first
    | (simp [apply_ite State.pending]; done)
    | split

@[simp] theorem State.migDecide_safety (l : LaneId) (told : List (Nat × Bool)) (s : State) :
    (State.migDecide l told s).safety = s.safety := by
  unfold State.migDecide
  refine State.foldl_safety _ (fun s x => ?_) _ _
  repeat' first
    | (simp [apply_ite State.safety]; done)
    | split

@[simp] theorem State.migSendAll_pending (l : LaneId) (s : State) :
    (State.migSendAll l s).pending = s.pending := by
  unfold State.migSendAll
  try dsimp only
  (repeat' split) <;> simp [apply_ite State.pending]

@[simp] theorem State.migSendAll_safety (l : LaneId) (s : State) :
    (State.migSendAll l s).safety = s.safety := by
  unfold State.migSendAll
  try dsimp only
  (repeat' split) <;> simp [apply_ite State.safety]

@[simp] theorem State.trackReady_pending (l : LaneId) (p left : Nat) (now : Int) (s : State) :
    (State.trackReady l p left now s).pending = s.pending := by
  unfold State.trackReady
  try dsimp only
  (repeat' split) <;> simp [apply_ite State.pending]

@[simp] theorem State.trackReady_safety (l : LaneId) (p left : Nat) (now : Int) (s : State) :
    (State.trackReady l p left now s).safety = s.safety := by
  unfold State.trackReady
  try dsimp only
  (repeat' split) <;> simp [apply_ite State.safety]

@[simp] theorem State.migSave_pending (s : State) (l : LaneId) (id : CmdId) (p len addr : Nat) :
    (State.migSave s l id p len addr).pending = s.pending := by
  unfold State.migSave
  try dsimp only
  repeat' first
    | (simp [apply_ite State.pending]; done)
    | split

@[simp] theorem State.migSave_safety (s : State) (l : LaneId) (id : CmdId) (p len addr : Nat) :
    (State.migSave s l id p len addr).safety = s.safety := by
  unfold State.migSave
  try dsimp only
  repeat' first
    | (simp [apply_ite State.safety]; done)
    | split

@[simp] theorem State.applyPend_pending (s : State) (l : LaneId) (x : Pend) :
    (State.applyPend s l x).pending = s.pending := by
  unfold State.applyPend
  try dsimp only
  (repeat' split) <;> simp [apply_ite State.pending]

@[simp] theorem State.applyPend_safety (s : State) (l : LaneId) (x : Pend) :
    (State.applyPend s l x).safety = s.safety := by
  unfold State.applyPend
  try dsimp only
  (repeat' split) <;> simp [apply_ite State.safety]

@[simp] theorem State.applyEdge_pending (l : LaneId) (s : State) :
    (State.applyEdge l s).pending = s.pending := by
  unfold State.applyEdge
  try dsimp only
  (repeat' split) <;> simp [apply_ite State.pending]

@[simp] theorem State.applyEdge_safety (l : LaneId) (s : State) :
    (State.applyEdge l s).safety = s.safety := by
  unfold State.applyEdge
  try dsimp only
  (repeat' split) <;> simp [apply_ite State.safety]

@[simp] theorem State.quotaEdge_pending (l : LaneId) (s : State) :
    (State.quotaEdge l s).pending = s.pending := by
  unfold State.quotaEdge
  try dsimp only
  (repeat' split) <;> simp [apply_ite State.pending]

@[simp] theorem State.quotaEdge_safety (l : LaneId) (s : State) :
    (State.quotaEdge l s).safety = s.safety := by
  unfold State.quotaEdge
  try dsimp only
  (repeat' split) <;> simp [apply_ite State.safety]

/-! ### Host -/

@[simp] theorem State.onAccept_pending (s : State) (l : LaneId) (id : CmdId) (c : HostCmd) :
    (State.onAccept s l id c).pending = s.pending := by
  unfold State.onAccept
  try dsimp only
  (repeat' split) <;> simp [apply_ite State.pending]

@[simp] theorem State.onAccept_safety (s : State) (l : LaneId) (id : CmdId) (c : HostCmd) :
    (State.onAccept s l id c).safety = s.safety := by
  unfold State.onAccept
  try dsimp only
  (repeat' split) <;> simp [apply_ite State.safety]

@[simp] theorem State.refuse_pending (s : State) (id : CmdId) (status : Nat) (result : List Byte) :
    (State.refuse s id status result).pending = s.pending := by
  unfold State.refuse
  try dsimp only
  (repeat' split) <;> simp [apply_ite State.pending]

@[simp] theorem State.refuse_safety (s : State) (id : CmdId) (status : Nat) (result : List Byte) :
    (State.refuse s id status result).safety = s.safety := by
  unfold State.refuse
  try dsimp only
  (repeat' split) <;> simp [apply_ite State.safety]

@[simp] theorem State.refuseSlot_pending (s : State) (l : LaneId) (id : CmdId) (n : Nat) (d : Desc) :
    (State.refuseSlot s l id n d).pending = s.pending := by
  unfold State.refuseSlot
  try dsimp only
  repeat' first
    | (simp [apply_ite State.pending]; done)
    | split

@[simp] theorem State.refuseSlot_safety (s : State) (l : LaneId) (id : CmdId) (n : Nat) (d : Desc) :
    (State.refuseSlot s l id n d).safety = s.safety := by
  unfold State.refuseSlot
  try dsimp only
  repeat' first
    | (simp [apply_ite State.safety]; done)
    | split

@[simp] theorem State.takeTimed_pending (s : State) (l : LaneId) (id : CmdId) (argsOk : Bool) (c : HostCmd) :
    (State.takeTimed s l id argsOk c).pending = s.pending := by
  unfold State.takeTimed
  try dsimp only
  repeat' first
    | (simp [apply_ite State.pending]; done)
    | split

@[simp] theorem State.takeTimed_safety (s : State) (l : LaneId) (id : CmdId) (argsOk : Bool) (c : HostCmd) :
    (State.takeTimed s l id argsOk c).safety = s.safety := by
  unfold State.takeTimed
  try dsimp only
  repeat' first
    | (simp [apply_ite State.safety]; done)
    | split

@[simp] theorem State.readSlot_pending (s : State) (l : LaneId) (id : CmdId) (n addr : Nat) :
    (State.readSlot s l id n addr).pending = s.pending := by
  unfold State.readSlot
  try dsimp only
  repeat' first
    | (simp [apply_ite State.pending]; done)
    | split

@[simp] theorem State.readSlot_safety (s : State) (l : LaneId) (id : CmdId) (n addr : Nat) :
    (State.readSlot s l id n addr).safety = s.safety := by
  unfold State.readSlot
  try dsimp only
  repeat' first
    | (simp [apply_ite State.safety]; done)
    | split

@[simp] theorem State.laneBook_pending (s : State) (l : LaneId) (id : CmdId) (c : HostCmd) (addr : Nat) :
    (State.laneBook s l id c addr).pending = s.pending := by
  unfold State.laneBook
  try dsimp only
  repeat' first
    | (simp [apply_ite State.pending]; done)
    | split

@[simp] theorem State.laneBook_safety (s : State) (l : LaneId) (id : CmdId) (c : HostCmd) (addr : Nat) :
    (State.laneBook s l id c addr).safety = s.safety := by
  unfold State.laneBook
  try dsimp only
  repeat' first
    | (simp [apply_ite State.safety]; done)
    | split

@[simp] theorem State.hostBook_pending (s : State) (id : CmdId) (c : HostCmd) (addr : Nat) :
    (State.hostBook s id c addr).pending = s.pending := by
  unfold State.hostBook
  try dsimp only
  repeat' first
    | (simp [apply_ite State.pending]; done)
    | split

@[simp] theorem State.hostBook_safety (s : State) (id : CmdId) (c : HostCmd) (addr : Nat) :
    (State.hostBook s id c addr).safety = s.safety := by
  unfold State.hostBook
  try dsimp only
  repeat' first
    | (simp [apply_ite State.safety]; done)
    | split

@[simp] theorem State.stage_pending (s : State) (lane : Option LaneId) (id : CmdId) (h : FwHeader) (halt : Option Nat) (now : Int) :
    (State.stage s lane id h halt now).pending = s.pending := by
  unfold State.stage
  try dsimp only
  repeat' first
    | (simp [apply_ite State.pending]; done)
    | split

@[simp] theorem State.stage_safety (s : State) (lane : Option LaneId) (id : CmdId) (h : FwHeader) (halt : Option Nat) (now : Int) :
    (State.stage s lane id h halt now).safety = s.safety := by
  unfold State.stage
  try dsimp only
  repeat' first
    | (simp [apply_ite State.safety]; done)
    | split

@[simp] theorem State.firmware_pending (s : State) (lane : Option LaneId) (id : CmdId) (c : HostCmd) (now : Int) :
    (State.firmware s lane id c now).pending = s.pending := by
  unfold State.firmware
  try dsimp only
  repeat' first
    | (simp [apply_ite State.pending]; done)
    | split

@[simp] theorem State.firmware_safety (s : State) (lane : Option LaneId) (id : CmdId) (c : HostCmd) (now : Int) :
    (State.firmware s lane id c now).safety = s.safety := by
  unfold State.firmware
  try dsimp only
  repeat' first
    | (simp [apply_ite State.safety]; done)
    | split

@[simp] theorem State.keyPrepare_pending (s : State) (l : LaneId) (id : CmdId) (addr : Nat) :
    (State.keyPrepare s l id addr).pending = s.pending := by
  unfold State.keyPrepare
  try dsimp only
  repeat' first
    | (simp [apply_ite State.pending]; done)
    | split

@[simp] theorem State.keyPrepare_safety (s : State) (l : LaneId) (id : CmdId) (addr : Nat) :
    (State.keyPrepare s l id addr).safety = s.safety := by
  unfold State.keyPrepare
  try dsimp only
  repeat' first
    | (simp [apply_ite State.safety]; done)
    | split

@[simp] theorem State.fnReset_pending (s : State) (id : CmdId) (f : Nat) :
    (State.fnReset s id f).pending = s.pending := by
  unfold State.fnReset
  try dsimp only
  repeat' first
    | (simp [apply_ite State.pending]; done)
    | split

@[simp] theorem State.fnReset_safety (s : State) (id : CmdId) (f : Nat) :
    (State.fnReset s id f).safety = s.safety := by
  unfold State.fnReset
  try dsimp only
  repeat' first
    | (simp [apply_ite State.safety]; done)
    | split

@[simp] theorem State.takeHost_pending (s : State) (h : CmdHead) (id : CmdId) (c : HostCmd) :
    (State.takeHost s h id c).pending = s.pending := by
  unfold State.takeHost
  repeat' first
    | (simp [apply_ite State.pending]; done)
    | (rename_i h; simpa using State.lifecycle_pending _ _ _ h)
    | split
    | dsimp only

@[simp] theorem State.takeHost_safety (s : State) (h : CmdHead) (id : CmdId) (c : HostCmd) :
    (State.takeHost s h id c).safety = s.safety := by
  unfold State.takeHost
  repeat' first
    | (simp [apply_ite State.safety]; done)
    | (rename_i h; simpa using State.lifecycle_safety _ _ _ h)
    | split
    | dsimp only

@[simp] theorem State.takeLane_pending (s : State) (l : LaneId) (h : CmdHead) (id : CmdId) (c : HostCmd) :
    (State.takeLane s l h id c).pending = s.pending := by
  unfold State.takeLane
  try dsimp only
  repeat' first
    | (simp [apply_ite State.pending]; done)
    | split

@[simp] theorem State.takeLane_safety (s : State) (l : LaneId) (h : CmdHead) (id : CmdId) (c : HostCmd) :
    (State.takeLane s l h id c).safety = s.safety := by
  unfold State.takeLane
  try dsimp only
  repeat' first
    | (simp [apply_ite State.safety]; done)
    | split

@[simp] theorem State.submit_pending (h : CmdHead) (ep : Option Nat) (c : HostCmd) (argsOk : Bool) (s : State) :
    (State.submit h ep c argsOk s).pending = s.pending := by
  unfold State.submit
  try dsimp only
  repeat' first
    | (simp [apply_ite State.pending]; done)
    | split

@[simp] theorem State.submit_safety (h : CmdHead) (ep : Option Nat) (c : HostCmd) (argsOk : Bool) (s : State) :
    (State.submit h ep c argsOk s).safety = s.safety := by
  unfold State.submit
  try dsimp only
  repeat' first
    | (simp [apply_ite State.safety]; done)
    | split

@[simp] theorem State.commandFetch_pending (f : Nat) (d : CmdDesc) (now : Int) (s : State) :
    (State.commandFetch f d now s).pending = s.pending := by
  unfold State.commandFetch
  try dsimp only
  (repeat' split) <;> simp [apply_ite State.pending]

@[simp] theorem State.commandFetch_safety (f : Nat) (d : CmdDesc) (now : Int) (s : State) :
    (State.commandFetch f d now s).safety = s.safety := by
  unfold State.commandFetch
  try dsimp only
  (repeat' split) <;> simp [apply_ite State.safety]

@[simp] theorem State.direct_pending (h : CmdHead) (c : HostCmd) (s : State) :
    (State.direct h c s).pending = s.pending := by
  unfold State.direct
  try dsimp only
  (repeat' split) <;> simp [apply_ite State.pending]

@[simp] theorem State.direct_safety (h : CmdHead) (c : HostCmd) (s : State) :
    (State.direct h c s).safety = s.safety := by
  unfold State.direct
  try dsimp only
  (repeat' split) <;> simp [apply_ite State.safety]

@[simp] theorem State.completionRow_pending (src : Option LaneId) (now : Int) (s : State) :
    (State.completionRow src now s).pending = s.pending := by
  unfold State.completionRow
  try dsimp only
  (repeat' split) <;> simp [apply_ite State.pending]

@[simp] theorem State.completionRow_safety (src : Option LaneId) (now : Int) (s : State) :
    (State.completionRow src now s).safety = s.safety := by
  unfold State.completionRow
  try dsimp only
  (repeat' split) <;> simp [apply_ite State.safety]

@[simp] theorem State.linkTimeout_pending (l : LaneId) (now : Int) (s : State) :
    (State.linkTimeout l now s).pending = s.pending := by
  unfold State.linkTimeout
  try dsimp only
  (repeat' split) <;> simp [apply_ite State.pending]

@[simp] theorem State.linkTimeout_safety (l : LaneId) (now : Int) (s : State) :
    (State.linkTimeout l now s).safety = s.safety := by
  unfold State.linkTimeout
  try dsimp only
  (repeat' split) <;> simp [apply_ite State.safety]

@[simp] theorem State.reopenLink_pending (l : LaneId) (now : Int) (s : State) :
    (State.reopenLink l now s).pending = s.pending := by
  unfold State.reopenLink
  try dsimp only
  (repeat' split) <;> simp [apply_ite State.pending]

@[simp] theorem State.reopenLink_safety (l : LaneId) (now : Int) (s : State) :
    (State.reopenLink l now s).safety = s.safety := by
  unfold State.reopenLink
  try dsimp only
  (repeat' split) <;> simp [apply_ite State.safety]

@[simp] theorem State.takeCmdRow_pending (l : LaneId) (fn tag apply : Nat) (c : HostCmd) (s : State) :
    (State.takeCmdRow l fn tag apply c s).pending = s.pending := by
  unfold State.takeCmdRow
  try dsimp only
  (repeat' split) <;> simp [apply_ite State.pending]

@[simp] theorem State.takeCmdRow_safety (l : LaneId) (fn tag apply : Nat) (c : HostCmd) (s : State) :
    (State.takeCmdRow l fn tag apply c s).safety = s.safety := by
  unfold State.takeCmdRow
  try dsimp only
  (repeat' split) <;> simp [apply_ite State.safety]

/-! ### Resets -/

@[simp] theorem State.setH_pending (s : State) (v : Nat) :
    (State.setH s v).pending = s.pending := by
  unfold State.setH
  try dsimp only
  (repeat' split) <;> simp [apply_ite State.pending]

@[simp] theorem State.setH_safety (s : State) (v : Nat) :
    (State.setH s v).safety = s.safety := by
  unfold State.setH
  try dsimp only
  (repeat' split) <;> simp [apply_ite State.safety]

@[simp] theorem State.setStage_pending (s : State) (n : Nat) :
    (State.setStage s n).pending = s.pending := State.hcx_pending _ _

@[simp] theorem State.setStage_safety (s : State) (n : Nat) :
    (State.setStage s n).safety = s.safety := State.hcx_safety _ _

@[simp] theorem State.pwr_pending (s : State) (f : Power → Power) :
    (State.pwr s f).pending = s.pending := (rfl)

@[simp] theorem State.pwr_safety (s : State) (f : Power → Power) :
    (State.pwr s f).safety = s.safety := (rfl)

@[simp] theorem State.coldTo_pending (m : MState) (s : State) :
    (State.coldTo m s).pending = s.pending := by
  unfold State.coldTo
  try dsimp only
  (repeat' split) <;> simp [apply_ite State.pending]

@[simp] theorem State.coldReset_pending (s : State) :
    (State.coldReset s).pending = s.pending := by
  unfold State.coldReset
  try dsimp only
  (repeat' split) <;> simp [apply_ite State.pending]

@[simp] theorem State.laneReset_pending (l : LaneId) (kind : Nat) (now : Int) (s : State) :
    (State.laneReset l kind now s).pending = s.pending := by
  unfold State.laneReset
  try dsimp only
  (repeat' split) <;> simp [apply_ite State.pending]

@[simp] theorem State.laneReset_safety (l : LaneId) (kind : Nat) (now : Int) (s : State) :
    (State.laneReset l kind now s).safety = s.safety := by
  unfold State.laneReset
  try dsimp only
  (repeat' split) <;> simp [apply_ite State.safety]

@[simp] theorem State.warmLane_pending (now : Int) (s : State) (l : LaneId) :
    (State.warmLane now s l).pending = s.pending := by
  unfold State.warmLane
  try dsimp only
  (repeat' split) <;> simp [apply_ite State.pending]

@[simp] theorem State.warmLane_safety (now : Int) (s : State) (l : LaneId) :
    (State.warmLane now s l).safety = s.safety := by
  unfold State.warmLane
  try dsimp only
  (repeat' split) <;> simp [apply_ite State.safety]

@[simp] theorem State.arcWarm_pending (s : State) (now : Int) :
    (State.arcWarm s now).pending = s.pending := by
  unfold State.arcWarm
  try dsimp only
  (repeat' split) <;> simp [apply_ite State.pending]

@[simp] theorem State.arcWarm_safety (s : State) (now : Int) :
    (State.arcWarm s now).safety = s.safety := by
  unfold State.arcWarm
  try dsimp only
  (repeat' split) <;> simp [apply_ite State.safety]

@[simp] theorem State.warmReset_pending (watchdog : Bool) (now : Int) (s : State) :
    (State.warmReset watchdog now s).pending = s.pending := by
  unfold State.warmReset
  try dsimp only
  (repeat' split) <;> simp [apply_ite State.pending]

@[simp] theorem State.warmReset_safety (watchdog : Bool) (now : Int) (s : State) :
    (State.warmReset watchdog now s).safety = s.safety := by
  unfold State.warmReset
  try dsimp only
  (repeat' split) <;> simp [apply_ite State.safety]

@[simp] theorem State.badKey_pending (s : State) (offset why : Nat) (now : Int) :
    (State.badKey s offset why now).pending = s.pending := by
  unfold State.badKey
  try dsimp only
  (repeat' split) <;> simp [apply_ite State.pending]

@[simp] theorem State.badKey_safety (s : State) (offset why : Nat) (now : Int) :
    (State.badKey s offset why now).safety = s.safety := by
  unfold State.badKey
  try dsimp only
  (repeat' split) <;> simp [apply_ite State.safety]

@[simp] theorem State.warmWrite_pending (w : Word) (now : Int) (s : State) :
    (State.warmWrite w now s).pending = s.pending := by
  unfold State.warmWrite
  try dsimp only
  (repeat' split) <;> simp [apply_ite State.pending]

@[simp] theorem State.warmWrite_safety (w : Word) (now : Int) (s : State) :
    (State.warmWrite w now s).safety = s.safety := by
  unfold State.warmWrite
  try dsimp only
  (repeat' split) <;> simp [apply_ite State.safety]

@[simp] theorem State.laneResetWrite_pending (w : Word) (now : Int) (s : State) :
    (State.laneResetWrite w now s).pending = s.pending := by
  unfold State.laneResetWrite
  try dsimp only
  (repeat' split) <;> simp [apply_ite State.pending]

@[simp] theorem State.laneResetWrite_safety (w : Word) (now : Int) (s : State) :
    (State.laneResetWrite w now s).safety = s.safety := by
  unfold State.laneResetWrite
  try dsimp only
  (repeat' split) <;> simp [apply_ite State.safety]

@[simp] theorem State.laneFault_pending (l : LaneId) (now : Int) (s : State) :
    (State.laneFault l now s).pending = s.pending := by
  unfold State.laneFault
  try dsimp only
  (repeat' split) <;> simp [apply_ite State.pending]

@[simp] theorem State.laneFault_safety (l : LaneId) (now : Int) (s : State) :
    (State.laneFault l now s).safety = s.safety := by
  unfold State.laneFault
  try dsimp only
  (repeat' split) <;> simp [apply_ite State.safety]

@[simp] theorem State.sag_pending (vin : Nat) (now : Int) (s : State) :
    (State.sag vin now s).pending = s.pending := by
  unfold State.sag
  try dsimp only
  (repeat' split) <;> simp [apply_ite State.pending]

@[simp] theorem State.dip_pending (s : State) :
    (State.dip s).pending = s.pending := by
  unfold State.dip
  try dsimp only
  (repeat' split) <;> simp [apply_ite State.pending]

@[simp] theorem State.dip_safety (s : State) :
    (State.dip s).safety = s.safety := by
  unfold State.dip
  try dsimp only
  (repeat' split) <;> simp [apply_ite State.safety]

@[simp] theorem State.flushAll_pending (items : LaneId → Nat) (s : State) :
    (State.flushAll items s).pending = s.pending := by
  unfold State.flushAll
  simp

@[simp] theorem State.flushAll_safety (items : LaneId → Nat) (s : State) :
    (State.flushAll items s).safety = s.safety := by
  unfold State.flushAll
  simp

@[simp] theorem State.flushEnd_pending (us : Nat) (s : State) :
    (State.flushEnd us s).pending = s.pending := by
  unfold State.flushEnd
  try dsimp only
  (repeat' split) <;> simp [apply_ite State.pending]

@[simp] theorem State.energyEnd_pending (a b c d us : Nat) (s : State) :
    (State.energyEnd a b c d us s).pending = s.pending := by
  unfold State.energyEnd
  try dsimp only
  (repeat' split) <;> simp [apply_ite State.pending]

@[simp] theorem State.supplyReturn_pending (vin : Nat) (s : State) :
    (State.supplyReturn vin s).pending = s.pending := by
  unfold State.supplyReturn
  try dsimp only
  (repeat' split) <;> simp [apply_ite State.pending]

@[simp] theorem State.supplyReturn_safety (vin : Nat) (s : State) :
    (State.supplyReturn vin s).safety = s.safety := by
  unfold State.supplyReturn
  try dsimp only
  (repeat' split) <;> simp [apply_ite State.safety]

@[simp] theorem State.sleepLoss_pending (s : State) :
    (State.sleepLoss s).pending = s.pending := by
  unfold State.sleepLoss
  try dsimp only
  (repeat' split) <;> simp [apply_ite State.pending]

@[simp] theorem State.parkOne_pending (l : LaneId) (now : Int) (s : State) :
    (State.parkOne l now s).pending = s.pending := by
  unfold State.parkOne
  try dsimp only
  (repeat' split) <;> simp [apply_ite State.pending]

@[simp] theorem State.parkOne_safety (l : LaneId) (now : Int) (s : State) :
    (State.parkOne l now s).safety = s.safety := by
  unfold State.parkOne
  try dsimp only
  (repeat' split) <;> simp [apply_ite State.safety]

@[simp] theorem State.parkWaiting_pending (s : State) (l : LaneId) :
    (State.parkWaiting s l).pending = s.pending := by
  unfold State.parkWaiting
  try dsimp only
  (repeat' split) <;> simp [apply_ite State.pending]

@[simp] theorem State.parkWaiting_safety (s : State) (l : LaneId) :
    (State.parkWaiting s l).safety = s.safety := by
  unfold State.parkWaiting
  try dsimp only
  (repeat' split) <;> simp [apply_ite State.safety]

@[simp] theorem State.parkLanes_pending (now : Int) (s : State) :
    (State.parkLanes now s).pending = s.pending := by
  unfold State.parkLanes
  try dsimp only
  (repeat' split) <;> simp [apply_ite State.pending]

@[simp] theorem State.parkLanes_safety (now : Int) (s : State) :
    (State.parkLanes now s).safety = s.safety := by
  unfold State.parkLanes
  try dsimp only
  (repeat' split) <;> simp [apply_ite State.safety]

@[simp] theorem State.parkAttended_pending (key : Nat) (now : Int) (s : State) :
    (State.parkAttended key now s).pending = s.pending := by
  unfold State.parkAttended
  try dsimp only
  (repeat' split) <;> simp [apply_ite State.pending]

@[simp] theorem State.parkSleeping_pending (key : Nat) (now : Int) (s : State) :
    (State.parkSleeping key now s).pending = s.pending := by
  unfold State.parkSleeping
  try dsimp only
  (repeat' split) <;> simp [apply_ite State.pending]

@[simp] theorem State.unpark_pending (key : Nat) (now : Int) (s : State) :
    (State.unpark key now s).pending = s.pending := by
  unfold State.unpark
  try dsimp only
  (repeat' split) <;> simp [apply_ite State.pending]

@[simp] theorem State.parkWrite_pending (w : Word) (now : Int) (s : State) :
    (State.parkWrite w now s).pending = s.pending := by
  unfold State.parkWrite
  try dsimp only
  (repeat' split) <;> simp [apply_ite State.pending]

/-! ### Start -/

@[simp] theorem State.powerGood_pending (vin : Nat) (capLow : Bool) (s : State) :
    (State.powerGood vin capLow s).pending = s.pending := by
  unfold State.powerGood
  try dsimp only
  (repeat' split) <;> simp [apply_ite State.pending]

@[simp] theorem State.powerGood_safety (vin : Nat) (capLow : Bool) (s : State) :
    (State.powerGood vin capLow s).safety = s.safety := by
  unfold State.powerGood
  try dsimp only
  (repeat' split) <;> simp [apply_ite State.safety]

@[simp] theorem State.stageStart_pending (s : State) :
    (State.stageStart s).pending = s.pending := by
  unfold State.stageStart
  try dsimp only
  (repeat' split) <;> simp [apply_ite State.pending]

@[simp] theorem State.stageStart_safety (s : State) :
    (State.stageStart s).safety = s.safety := by
  unfold State.stageStart
  try dsimp only
  (repeat' split) <;> simp [apply_ite State.safety]

@[simp] theorem State.holdLow_pending (now : Int) (s : State) :
    (State.holdLow now s).pending = s.pending := by
  unfold State.holdLow
  try dsimp only
  (repeat' split) <;> simp [apply_ite State.pending]

@[simp] theorem State.holdLow_safety (now : Int) (s : State) :
    (State.holdLow now s).safety = s.safety := by
  unfold State.holdLow
  try dsimp only
  (repeat' split) <;> simp [apply_ite State.safety]

@[simp] theorem State.chargeMeasure_pending (t : Nat) (now : Int) (s : State) :
    (State.chargeMeasure t now s).pending = s.pending := by
  unfold State.chargeMeasure
  try dsimp only
  (repeat' split) <;> simp [apply_ite State.pending]

@[simp] theorem State.chargeMeasure_safety (t : Nat) (now : Int) (s : State) :
    (State.chargeMeasure t now s).safety = s.safety := by
  unfold State.chargeMeasure
  try dsimp only
  (repeat' split) <;> simp [apply_ite State.safety]

@[simp] theorem State.holdOk_pending (vhold : Nat) (s : State) :
    (State.holdOk vhold s).pending = s.pending := by
  unfold State.holdOk
  try dsimp only
  (repeat' split) <;> simp [apply_ite State.pending]

@[simp] theorem State.holdOk_safety (vhold : Nat) (s : State) :
    (State.holdOk vhold s).safety = s.safety := by
  unfold State.holdOk
  try dsimp only
  (repeat' split) <;> simp [apply_ite State.safety]

@[simp] theorem State.holdTimeout_pending (now : Int) (s : State) :
    (State.holdTimeout now s).pending = s.pending := by
  unfold State.holdTimeout
  try dsimp only
  (repeat' split) <;> simp [apply_ite State.pending]

@[simp] theorem State.holdTimeout_safety (now : Int) (s : State) :
    (State.holdTimeout now s).safety = s.safety := by
  unfold State.holdTimeout
  try dsimp only
  (repeat' split) <;> simp [apply_ite State.safety]

@[simp] theorem State.showSgen_pending (s : State) :
    (State.showSgen s).pending = s.pending := by
  unfold State.showSgen
  try dsimp only
  (repeat' split) <;> simp [apply_ite State.pending]

@[simp] theorem State.showSgen_safety (s : State) :
    (State.showSgen s).safety = s.safety := by
  unfold State.showSgen
  try dsimp only
  (repeat' split) <;> simp [apply_ite State.safety]

@[simp] theorem State.hostReady_pending (ok : Bool) (ms : Nat) (now : Int) (s : State) :
    (State.hostReady ok ms now s).pending = s.pending := by
  unfold State.hostReady
  try dsimp only
  (repeat' split) <;> simp [apply_ite State.pending]

@[simp] theorem State.hostReady_safety (ok : Bool) (ms : Nat) (now : Int) (s : State) :
    (State.hostReady ok ms now s).safety = s.safety := by
  unfold State.hostReady
  try dsimp only
  (repeat' split) <;> simp [apply_ite State.safety]

@[simp] theorem State.startDone_pending (s : State) :
    (State.startDone s).pending = s.pending := by
  unfold State.startDone
  try dsimp only
  (repeat' split) <;> simp [apply_ite State.pending]

@[simp] theorem State.startDone_safety (s : State) :
    (State.startDone s).safety = s.safety := by
  unfold State.startDone
  try dsimp only
  (repeat' split) <;> simp [apply_ite State.safety]

@[simp] theorem State.laneStart_pending (l : LaneId) (s : State) :
    (State.laneStart l s).pending = s.pending := by
  unfold State.laneStart
  try dsimp only
  (repeat' split) <;> simp [apply_ite State.pending]

@[simp] theorem State.laneStart_safety (l : LaneId) (s : State) :
    (State.laneStart l s).safety = s.safety := by
  unfold State.laneStart
  try dsimp only
  (repeat' split) <;> simp [apply_ite State.safety]

@[simp] theorem State.fellBack_pending (s : State) (part : Nat) (back : Bool) (now : Int) :
    (State.fellBack s part back now).pending = s.pending := by
  unfold State.fellBack
  try dsimp only
  (repeat' split) <;> simp [apply_ite State.pending]

@[simp] theorem State.fellBack_safety (s : State) (part : Nat) (back : Bool) (now : Int) :
    (State.fellBack s part back now).safety = s.safety := by
  unfold State.fellBack
  try dsimp only
  (repeat' split) <;> simp [apply_ite State.safety]

@[simp] theorem State.bootSelection_pending (part : Nat) (now : Int) (s : State) :
    (State.bootSelection part now s).pending = s.pending := by
  unfold State.bootSelection
  try dsimp only
  (repeat' split) <;> simp [apply_ite State.pending]

@[simp] theorem State.bootConfirm_pending (part : Nat) (s : State) :
    (State.bootConfirm part s).pending = s.pending := by
  unfold State.bootConfirm
  try dsimp only
  (repeat' split) <;> simp [apply_ite State.pending]

@[simp] theorem State.generationCheck_pending (l : LaneId) (now : Int) (s : State) :
    (State.generationCheck l now s).pending = s.pending := by
  unfold State.generationCheck
  try dsimp only
  (repeat' split) <;> simp [apply_ite State.pending]

@[simp] theorem State.generationCheck_safety (l : LaneId) (now : Int) (s : State) :
    (State.generationCheck l now s).safety = s.safety := by
  unfold State.generationCheck
  try dsimp only
  (repeat' split) <;> simp [apply_ite State.safety]

@[simp] theorem State.allSafe_pending (now : Int) (s : State) :
    (State.allSafe now s).pending = s.pending := by
  unfold State.allSafe
  try dsimp only
  (repeat' split) <;> simp [apply_ite State.pending]

@[simp] theorem State.allSafe_safety (now : Int) (s : State) :
    (State.allSafe now s).safety = s.safety := by
  unfold State.allSafe
  try dsimp only
  (repeat' split) <;> simp [apply_ite State.safety]

@[simp] theorem State.domainFault_pending (d : Nat) (now : Int) (s : State) :
    (State.domainFault d now s).pending = s.pending := by
  unfold State.domainFault
  try dsimp only
  (repeat' split) <;> simp [apply_ite State.pending]

@[simp] theorem State.trefAlarm_pending (tref now : Int) (s : State) :
    (State.trefAlarm tref now s).pending = s.pending := by
  unfold State.trefAlarm
  try dsimp only
  (repeat' split) <;> simp [apply_ite State.pending]

@[simp] theorem State.trefAlarm_safety (tref now : Int) (s : State) :
    (State.trefAlarm tref now s).safety = s.safety := by
  unfold State.trefAlarm
  try dsimp only
  (repeat' split) <;> simp [apply_ite State.safety]

@[simp] theorem State.wakePattern_pending (l : LaneId) (w : WakePattern) (s : State) :
    (State.wakePattern l w s).pending = s.pending := by
  unfold State.wakePattern
  try dsimp only
  (repeat' split) <;> simp [apply_ite State.pending]

@[simp] theorem State.wakePattern_safety (l : LaneId) (w : WakePattern) (s : State) :
    (State.wakePattern l w s).safety = s.safety := by
  unfold State.wakePattern
  try dsimp only
  (repeat' split) <;> simp [apply_ite State.safety]

@[simp] theorem State.eraseStep_pending (part : Nat) (f : Flash → Option Flash) (count : Bool) (s : State) :
    (State.eraseStep part f count s).pending = s.pending := by
  unfold State.eraseStep
  try dsimp only
  (repeat' split) <;> simp [apply_ite State.pending]

@[simp] theorem State.eraseStep_safety (part : Nat) (f : Flash → Option Flash) (count : Bool) (s : State) :
    (State.eraseStep part f count s).safety = s.safety := by
  unfold State.eraseStep
  try dsimp only
  (repeat' split) <;> simp [apply_ite State.safety]

/-! ### Edge -/

@[simp] theorem State.tickEdge_pending (l : LaneId) (s : State) :
    (State.tickEdge l s).pending = s.pending := by
  unfold State.tickEdge
  try dsimp only
  (repeat' split) <;> simp [apply_ite State.pending]

@[simp] theorem State.tickEdge_safety (l : LaneId) (s : State) :
    (State.tickEdge l s).safety = s.safety := by
  unfold State.tickEdge
  try dsimp only
  (repeat' split) <;> simp [apply_ite State.safety]

@[simp] theorem State.closure_pending (l : LaneId) (fail : Nat) (x : ClosureIn) (s : State) :
    (State.closure l fail x s).pending = s.pending := by
  unfold State.closure
  try dsimp only
  (repeat' split) <;> simp [apply_ite State.pending]

@[simp] theorem State.closure_safety (l : LaneId) (fail : Nat) (x : ClosureIn) (s : State) :
    (State.closure l fail x s).safety = s.safety := by
  unfold State.closure
  try dsimp only
  (repeat' split) <;> simp [apply_ite State.safety]

@[simp] theorem State.enterService_pending (l : LaneId) (startMs t : Nat) (s : State) :
    (State.enterService l startMs t s).pending = s.pending := by
  unfold State.enterService
  try dsimp only
  (repeat' split) <;> simp [apply_ite State.pending]

@[simp] theorem State.enterService_safety (l : LaneId) (startMs t : Nat) (s : State) :
    (State.enterService l startMs t s).safety = s.safety := by
  unfold State.enterService
  try dsimp only
  (repeat' split) <;> simp [apply_ite State.safety]

@[simp] theorem State.initialSet_pending (l : LaneId) (src : InitSources) (s : State) :
    (State.initialSet l src s).pending = s.pending := by
  unfold State.initialSet
  try dsimp only
  (repeat' split) <;> simp [apply_ite State.pending]

@[simp] theorem State.initialSet_safety (l : LaneId) (src : InitSources) (s : State) :
    (State.initialSet l src s).safety = s.safety := by
  unfold State.initialSet
  try dsimp only
  (repeat' split) <;> simp [apply_ite State.safety]

@[simp] theorem State.selfCheckDone_pending (l : LaneId) (scrub peer : Bool) (now : Int) (s : State) :
    (State.selfCheckDone l scrub peer now s).pending = s.pending := by
  unfold State.selfCheckDone
  try dsimp only
  (repeat' split) <;> simp [apply_ite State.pending]

@[simp] theorem State.selfCheckDone_safety (l : LaneId) (scrub peer : Bool) (now : Int) (s : State) :
    (State.selfCheckDone l scrub peer now s).safety = s.safety := by
  unfold State.selfCheckDone
  try dsimp only
  (repeat' split) <;> simp [apply_ite State.safety]

@[simp] theorem State.cmdFrame_pending (l : LaneId) (h : TwinHead) (fn tag apply : Nat) (c : HostCmd) (s : State) :
    (State.cmdFrame l h fn tag apply c s).pending = s.pending := by
  unfold State.cmdFrame
  try dsimp only
  (repeat' split) <;> simp [apply_ite State.pending]

@[simp] theorem State.cmdFrame_safety (l : LaneId) (h : TwinHead) (fn tag apply : Nat) (c : HostCmd) (s : State) :
    (State.cmdFrame l h fn tag apply c s).safety = s.safety := by
  unfold State.cmdFrame
  try dsimp only
  (repeat' split) <;> simp [apply_ite State.safety]

/-! ### HostRows -/

@[simp] theorem State.dmaFailed_pending (f cause ring idx : Nat) (now : Int) (s : State) :
    (State.dmaFailed f cause ring idx now s).pending = s.pending := by
  unfold State.dmaFailed
  try dsimp only
  (repeat' split) <;> simp [apply_ite State.pending]

@[simp] theorem State.dmaFailed_safety (f cause ring idx : Nat) (now : Int) (s : State) :
    (State.dmaFailed f cause ring idx now s).safety = s.safety := by
  unfold State.dmaFailed
  try dsimp only
  (repeat' split) <;> simp [apply_ite State.safety]

@[simp] theorem State.fnResetRow_pending (f : Nat) (s : State) :
    (State.fnResetRow f s).pending = s.pending := by
  unfold State.fnResetRow
  try dsimp only
  (repeat' split) <;> simp [apply_ite State.pending]

@[simp] theorem State.fnResetRow_safety (f : Nat) (s : State) :
    (State.fnResetRow f s).safety = s.safety := by
  unfold State.fnResetRow
  try dsimp only
  (repeat' split) <;> simp [apply_ite State.safety]

@[simp] theorem State.bookOne_pending (book : Option LaneId) (s : State) :
    (State.bookOne book s).pending = s.pending := by
  unfold State.bookOne
  try dsimp only
  (repeat' split) <;> simp [apply_ite State.pending]

@[simp] theorem State.bookOne_safety (book : Option LaneId) (s : State) :
    (State.bookOne book s).safety = s.safety := by
  unfold State.bookOne
  try dsimp only
  (repeat' split) <;> simp [apply_ite State.safety]

/-! ### Registers -/

@[simp] theorem State.setLatch_pending (s : State) (p : RegPart) (m : NMap Word) :
    (State.setLatch s p m).pending = s.pending := by
  unfold State.setLatch
  try dsimp only
  (repeat' split) <;> simp [apply_ite State.pending]

@[simp] theorem State.setLatch_safety (s : State) (p : RegPart) (m : NMap Word) :
    (State.setLatch s p m).safety = s.safety := by
  unfold State.setLatch
  try dsimp only
  (repeat' split) <;> simp [apply_ite State.safety]

@[simp] theorem State.readReg_pending (s : State) (raw : Nat) (x : RegRef) :
    (State.readReg s raw x).1.pending = s.pending := by
  unfold State.readReg
  try dsimp only
  (repeat' split) <;> simp [apply_ite State.pending]

@[simp] theorem State.readReg_safety (s : State) (raw : Nat) (x : RegRef) :
    (State.readReg s raw x).1.safety = s.safety := by
  unfold State.readReg
  try dsimp only
  (repeat' split) <;> simp [apply_ite State.safety]

@[simp] theorem State.readWord_pending (s : State) (f addr raw : Nat) :
    (State.readWord s f addr raw).1.pending = s.pending := by
  unfold State.readWord
  try dsimp only
  (repeat' split) <;> simp [apply_ite State.pending]

@[simp] theorem State.readWord_safety (s : State) (f addr raw : Nat) :
    (State.readWord s f addr raw).1.safety = s.safety := by
  unfold State.readWord
  try dsimp only
  (repeat' split) <;> simp [apply_ite State.safety]

@[simp] theorem State.readReg8_pending (f addr width raw : Nat) (s : State) :
    (State.readReg8 f addr width raw s).pending = s.pending := by
  unfold State.readReg8
  try dsimp only
  (repeat' split) <;> simp [apply_ite State.pending]

@[simp] theorem State.readReg8_safety (f addr width raw : Nat) (s : State) :
    (State.readReg8 f addr width raw s).safety = s.safety := by
  unfold State.readReg8
  try dsimp only
  (repeat' split) <;> simp [apply_ite State.safety]

@[simp] theorem State.writeBase_pending (f r : Nat) (hi : Bool) (v : Word) (s : State) :
    (State.writeBase f r hi v s).pending = s.pending := by
  unfold State.writeBase
  try dsimp only
  (repeat' split) <;> simp [apply_ite State.pending]

@[simp] theorem State.writeBase_safety (f r : Nat) (hi : Bool) (v : Word) (s : State) :
    (State.writeBase f r hi v s).safety = s.safety := by
  unfold State.writeBase
  try dsimp only
  (repeat' split) <;> simp [apply_ite State.safety]

@[simp] theorem State.writeCfg_pending (f r : Nat) (v : Word) (s : State) :
    (State.writeCfg f r v s).pending = s.pending := by
  unfold State.writeCfg
  try dsimp only
  (repeat' split) <;> simp [apply_ite State.pending]

@[simp] theorem State.writeCfg_safety (f r : Nat) (v : Word) (s : State) :
    (State.writeCfg f r v s).safety = s.safety := by
  unfold State.writeCfg
  try dsimp only
  (repeat' split) <;> simp [apply_ite State.safety]

@[simp] theorem State.writeMsix_pending (f v j : Nat) (w : Word) (s : State) :
    (State.writeMsix f v j w s).pending = s.pending := by
  unfold State.writeMsix
  try dsimp only
  (repeat' split) <;> simp [apply_ite State.pending]

@[simp] theorem State.writeMsix_safety (f v j : Nat) (w : Word) (s : State) :
    (State.writeMsix f v j w s).safety = s.safety := by
  unfold State.writeMsix
  try dsimp only
  (repeat' split) <;> simp [apply_ite State.safety]

@[simp] theorem State.writeFn_pending (f : Nat) (r : Reg) (i j : Nat) (v : Word) (width : Nat) (now : Int) (s : State) :
    (State.writeFn f r i j v width now s).pending = s.pending := by
  unfold State.writeFn
  try dsimp only
  (repeat' split) <;> simp [apply_ite State.pending]

@[simp] theorem State.writeFn_safety (f : Nat) (r : Reg) (i j : Nat) (v : Word) (width : Nat) (now : Int) (s : State) :
    (State.writeFn f r i j v width now s).safety = s.safety := by
  unfold State.writeFn
  try dsimp only
  (repeat' split) <;> simp [apply_ite State.safety]

@[simp] theorem State.writeHost_pending (r : Reg) (i j : Nat) (v : Word) (now : Int) (s : State) :
    (State.writeHost r i j v now s).pending = s.pending := by
  unfold State.writeHost
  try dsimp only
  (repeat' split) <;> simp [apply_ite State.pending]

@[simp] theorem State.writeWord_pending (s : State) (f addr : Nat) (v : Word) (width : Nat) (now : Int) :
    (State.writeWord s f addr v width now).pending = s.pending := by
  unfold State.writeWord
  try dsimp only
  (repeat' split) <;> simp [apply_ite State.pending]

@[simp] theorem State.writeRegs_pending (f addr width value : Nat) (now : Int) (s : State) :
    (State.writeRegs f addr width value now s).pending = s.pending := by
  unfold State.writeRegs
  try dsimp only
  (repeat' split) <;> simp [apply_ite State.pending]

/-! ### SafetyLane -/

@[simp] theorem State.onSafety_pending (f : Safety → Safety) (s : State) :
    (State.onSafety f s).pending = s.pending := by
  unfold State.onSafety
  try dsimp only
  (repeat' split) <;> simp [apply_ite State.pending]

@[simp] theorem State.safetySag_pending (s : State) :
    (State.safetySag s).pending = s.pending := by
  unfold State.safetySag
  try dsimp only
  (repeat' split) <;> simp [apply_ite State.pending]

@[simp] theorem State.copyStatus_pending (now : Int) (s : State) :
    (State.copyStatus now s).pending = s.pending := by
  unfold State.copyStatus
  try dsimp only
  (repeat' split) <;> simp [apply_ite State.pending]

@[simp] theorem State.copyStatus_safety (now : Int) (s : State) :
    (State.copyStatus now s).safety = s.safety := by
  unfold State.copyStatus
  try dsimp only
  (repeat' split) <;> simp [apply_ite State.safety]

@[simp] theorem State.safetyStatus_pending (now : Int) (s : State) :
    (State.safetyStatus now s).pending = s.pending := by
  unfold State.safetyStatus
  try dsimp only
  (repeat' split) <;> simp [apply_ite State.pending]

end Sys2Proof.Machine
end

