-- ==== Sys2Proof/Laws/Safety.lean ====
section
/-! SUPPORT. What each operation of the safety lane can do to its state, its cause and its brake switches (R359 to R370,
R404). -/

namespace Sys2Proof.Machine

open Sys2Proof

@[simp] theorem Safety.event_st (x : Safety) (a b : Nat) (d : List Byte) : (x.event a b d).st = x.st := rfl
@[simp] theorem Safety.event_cmd (x : Safety) (a b : Nat) (d : List Byte) : (x.event a b d).cmd = x.cmd := rfl
@[simp] theorem Safety.event_cause (x : Safety) (a b : Nat) (d : List Byte) : (x.event a b d).cause = x.cause := rfl
@[simp] theorem Safety.setPair_st (x : Safety) (i : Nat) (p : Pair) : (x.setPair i p).st = x.st := rfl
@[simp] theorem Safety.setPair_cmd (x : Safety) (i : Nat) (p : Pair) : (x.setPair i p).cmd = x.cmd := rfl
@[simp] theorem Safety.setPair_cause (x : Safety) (i : Nat) (p : Pair) : (x.setPair i p).cause = x.cause := rfl
@[simp] theorem Safety.htEnd_st (x : Safety) (r : Nat) : (x.htEnd r).st = x.st := rfl
@[simp] theorem Safety.htEnd_cmd (x : Safety) (r : Nat) : (x.htEnd r).cmd = x.cmd := rfl
@[simp] theorem Safety.htEnd_cause (x : Safety) (r : Nat) : (x.htEnd r).cause = x.cause := rfl

@[simp] theorem Safety.htAbort_st (x : Safety) : x.htAbort.st = x.st := by unfold Safety.htAbort; split <;> simp
@[simp] theorem Safety.htAbort_cmd (x : Safety) : x.htAbort.cmd = x.cmd := by unfold Safety.htAbort; split <;> simp
@[simp] theorem Safety.htAbort_cause (x : Safety) : x.htAbort.cause = x.cause := by unfold Safety.htAbort; split <;> simp

@[simp] theorem Safety.applyBrakes_st (x : Safety) : x.applyBrakes.st = x.st := by unfold Safety.applyBrakes; split <;> simp
@[simp] theorem Safety.applyBrakes_cause (x : Safety) : x.applyBrakes.cause = x.cause := by
  unfold Safety.applyBrakes; split <;> simp

/-- Applying the brakes opens every switch. -/
@[simp] theorem Safety.applyBrakes_cmd (x : Safety) : x.applyBrakes.cmd = 0 := by
  unfold Safety.applyBrakes
  split
  · rename_i h; simpa [Safety.braked] using h
  · simp

/-- What an operation may do: in SAFE it keeps state and cause and closes no switch; outside it, it stays in its state with
the switches as they were or all open, or enters SAFE with all open, or releases the brakes in RUN. -/
def Safety.Goes (x y : Safety) : Prop :=
  (y.st = x.st ∧ y.cause = x.cause ∧ (y.cmd = x.cmd ∨ y.cmd = 0)) ∨
  (x.st ≠ sSafe ∧ (y.st = sSafe ∧ y.cmd = 0 ∨ y.st = sRun))

theorem Safety.Goes.refl (x : Safety) : x.Goes x := .inl ⟨rfl, rfl, .inl rfl⟩

theorem Safety.Goes.of_eq {x y : Safety} (h : y.st = x.st) (hc : y.cause = x.cause) (hm : y.cmd = x.cmd) : x.Goes y :=
  .inl ⟨h, hc, .inl hm⟩

theorem Safety.Goes.trans {x y z : Safety} (h : x.Goes y) (k : y.Goes z) : x.Goes z := by
  unfold Safety.Goes at *
  rcases h with ⟨a, b, c⟩ | ⟨a, ⟨b, c⟩ | b⟩ <;> rcases k with ⟨d, e, f⟩ | ⟨d, ⟨e, f⟩ | e⟩ <;> grind [sSafe, sRun]

/-- An operation that goes keeps the brakes applied outside RUN. -/
theorem Safety.Goes.held {x y : Safety} (h : x.Goes y) (k : x.Held) : y.Held := by
  unfold Safety.Goes Safety.Held at *
  rcases h with ⟨a, b, c⟩ | ⟨a, ⟨b, c⟩ | b⟩ <;> grind

/-- An operation that goes keeps SAFE, its cause, and the brakes applied. -/
theorem Safety.Goes.latched {x y : Safety} (h : x.Goes y) (k : x.st = sSafe) :
    y.st = sSafe ∧ y.cause = x.cause ∧ (x.cmd = 0 → y.cmd = 0) := by
  unfold Safety.Goes at h
  rcases h with ⟨a, b, c⟩ | ⟨a, -⟩ <;> grind

theorem Safety.goes_toSafe (x : Safety) (c : Nat) : x.Goes (x.toSafe c) := by
  unfold Safety.toSafe
  split
  · exact .refl x
  · rename_i h; exact .inr ⟨h, .inl ⟨by simp, by simp⟩⟩

theorem Safety.goes_fail (c : Nat) (x : Safety) : x.Goes (x.fail c) := by
  unfold Safety.fail
  split
  · exact .refl x
  · exact (Safety.Goes.of_eq (by simp) (by simp) (by simp)).trans (Safety.goes_toSafe _ c)

theorem Safety.goes_diagnose (c : Nat) (x : Safety) : x.Goes (x.diagnose c) := by
  unfold Safety.diagnose; split
  · exact .refl x
  · exact x.goes_fail c

theorem Safety.goes_sealRead (w : Word) (x : Safety) : x.Goes (x.sealRead w) := by
  unfold Safety.sealRead; split
  · exact .refl x
  · dsimp only
    split
    · exact .of_eq rfl rfl rfl
    · refine Safety.Goes.trans (y := (({ x with seals := some w } : Safety).event 961 0x01
        (leBytes 4 w.toNat ++ leBytes 2 (sealCrc w))).event 961 0x02) (.of_eq rfl rfl rfl) (Safety.goes_fail 1 _)

theorem Safety.goes_sealSample (w : Word) (x : Safety) : x.Goes (x.sealSample w) := by
  unfold Safety.sealSample; split
  · exact .refl x
  · exact Safety.Goes.trans (.of_eq rfl rfl rfl) (Safety.goes_fail 2 _)

/-- A loop goes where each of its rounds goes. -/
theorem Safety.goes_foldTo (f : Safety → Nat → Safety) (h : ∀ (y : Safety) (i : Nat), y.Goes (f y i)) (n : Nat) (x : Safety) :
    x.Goes (foldTo n f x) := by
  induction n with
  | zero => exact .refl x
  | succ n ih =>
    have e : foldTo (n + 1) f x = f (foldTo n f x) n := by simp [foldTo, List.range_succ]
    rw [e]
    exact ih.trans (h _ n)

theorem Safety.goes_sample (a b : Nat) (p q : Bool) (x : Safety) : x.Goes (x.sample a b p q) := by
  unfold Safety.sample
  refine Safety.goes_foldTo _ (fun y i => ?_) 8 x
  split
  · exact .refl y
  · exact .of_eq rfl rfl rfl

theorem Safety.goes_latchFault (x : Safety) (i : Nat) (p : Pair) (c : Nat) : x.Goes (x.latchFault i p c) := by
  unfold Safety.latchFault
  dsimp only
  split
  · exact .of_eq (by simp) (by simp) (by simp)
  · exact .of_eq rfl rfl rfl

theorem Safety.goes_testPulse (c a b : Nat) (off : Bool) (x : Safety) : x.Goes (x.testPulse c a b off) := by
  unfold Safety.testPulse
  split
  · exact .refl x
  · split
    · exact x.goes_fail 0xC
    · refine Safety.goes_foldTo _ (fun y i => ?_) 8 x
      dsimp only
      repeat' split
      all_goals first
        | exact .refl y
        | exact y.goes_latchFault i _ 4

theorem Safety.goes_pairCycle (x : Safety) (i : Nat) : x.Goes (x.pairCycle i) := by
  unfold Safety.pairCycle
  split
  · exact .refl x
  · dsimp only
    repeat' split
    all_goals exact .of_eq rfl rfl rfl

theorem Safety.goes_discrepancy (i : Nat) (x : Safety) : x.Goes (x.discrepancy i) := by
  unfold Safety.discrepancy
  dsimp only
  split
  · exact .refl x
  · exact x.goes_latchFault i _ 3

theorem Safety.goes_readback (cmd rd : Nat) (x : Safety) : x.Goes (x.readback cmd rd) := by
  unfold Safety.readback
  refine Safety.Goes.trans (y := { x with rdbk := rd % 16 }) (.of_eq rfl rfl rfl) (Safety.goes_foldTo _ (fun y i => ?_) 4 _)
  dsimp only
  repeat' split
  all_goals first
    | exact .refl y
    | exact .of_eq rfl rfl rfl
    | exact Safety.Goes.trans (.of_eq rfl rfl rfl) (Safety.goes_fail 9 _)

theorem Safety.goes_pressCycle (x : Safety) : x.Goes x.pressCycle := by
  unfold Safety.pressCycle
  dsimp only
  repeat' split
  all_goals exact .of_eq rfl rfl rfl

theorem Safety.goes_htCycle (x : Safety) (was : Bool) : x.Goes (x.htCycle was) := by
  unfold Safety.htCycle
  dsimp only
  repeat' split
  all_goals exact .of_eq (by simp) (by simp) (by simp)

theorem Safety.goes_brakeCycle (x : Safety) : x.Goes x.brakeCycle := by
  unfold Safety.brakeCycle
  split
  · exact .inl ⟨by simp, by simp, .inr (by simp)⟩
  · split
    · rename_i h
      have h2 : x.st = sRun := by
        simp only [Safety.mayRelease, Bool.and_eq_true, beq_iff_eq] at h
        exact h.1.2.1.1.1.1
      exact .inr ⟨by rw [h2]; decide, .inr (by simpa using h2)⟩
    · exact .refl x

theorem Safety.goes_cycle (rd c0 c1 ce : Nat) (x : Safety) : x.Goes (x.cycle rd c0 c1 ce) := by
  unfold Safety.cycle
  dsimp only
  generalize hx : ({ x with uptime := (x.uptime + 1) % 2 ^ 32, since := x.since + 1, testMs := x.testMs + 1, coil0 := min 65535 c0, coil1 := min 65535 c1, eccCe := satAdd32 x.eccCe ce } : Safety) = x1
  have g1 : x.Goes x1 := by subst hx; exact .of_eq rfl rfl rfl
  generalize hy : (if ce = 0 then x1 else x1.event 962 0x02) = x2
  have g2 : x1.Goes x2 := by subst hy; split; exact .refl _; exact .of_eq rfl rfl rfl
  generalize hz : foldTo 8 (fun (x : Safety) i => x.pairCycle i) x2 = x3
  have g3 : x2.Goes x3 := by subst hz; exact Safety.goes_foldTo _ Safety.goes_pairCycle 8 x2
  generalize hw : (if (x3.demand && !x.demand) = true then { x3 with demCnt := satAdd32 x3.demCnt 1 } else x3) = x4
  have g4 : x3.Goes x4 := by subst hw; split; exact .of_eq rfl rfl rfl; exact .refl _
  have g5 := x4.goes_readback x.cmd rd
  have g6 := (x4.readback x.cmd rd).goes_pressCycle
  have g7 := (x4.readback x.cmd rd).pressCycle.goes_htCycle (x.pair 7).dem
  have g8 := ((x4.readback x.cmd rd).pressCycle.htCycle (x.pair 7).dem).goes_brakeCycle
  exact g1.trans (g2.trans (g3.trans (g4.trans (g5.trans (g6.trans (g7.trans (g8.trans (.of_eq rfl rfl rfl))))))))

theorem Safety.goes_switchTest (bad : Option Nat) (x : Safety) : x.Goes (x.switchTest bad) := by
  unfold Safety.switchTest
  dsimp only
  repeat' split
  all_goals first
    | exact .refl x
    | exact .of_eq rfl rfl rfl
    | exact Safety.Goes.trans (.of_eq rfl rfl rfl) (Safety.goes_fail 9 _)

theorem Safety.goes_coilFailure (b : Nat) (x : Safety) : x.Goes (x.coilFailure b) := by
  unfold Safety.coilFailure
  dsimp only
  repeat' split
  all_goals first
    | exact .refl x
    | exact Safety.Goes.trans (.of_eq rfl rfl rfl) (Safety.goes_fail 0xA _)

theorem Safety.goes_windowOpen (x : Safety) : x.Goes x.windowOpen := by
  unfold Safety.windowOpen; split
  · exact .of_eq rfl rfl rfl
  · exact .refl x

theorem Safety.goes_windowClose (x : Safety) : x.Goes x.windowClose := by
  unfold Safety.windowClose
  repeat' split
  all_goals exact .of_eq rfl rfl rfl

theorem Safety.goes_speedPulse (i : Nat) (x : Safety) : x.Goes (x.speedPulse i) := by
  unfold Safety.speedPulse
  dsimp only
  repeat' split
  all_goals exact .of_eq rfl rfl rfl

theorem Safety.goes_startComplete (x : Safety) : x.Goes x.startComplete := by
  unfold Safety.startComplete
  split
  · exact .refl x
  · rename_i h
    refine .inr ⟨?_, .inr (by simp)⟩
    intro hs
    simp [hs, sSafe, sStart] at h

theorem Safety.goes_sagged (x : Safety) : x.Goes x.sagged := by
  unfold Safety.sagged
  dsimp only
  split
  · exact .refl x
  · exact .inl ⟨by simp, by simp, .inr (by simp)⟩

theorem Safety.goes_programPage (o : Nat) (h : FwHeader) (p : ProgPage) (x : Safety) : x.Goes (x.programPage o h p) := by
  unfold Safety.programPage
  dsimp only
  repeat' split
  all_goals exact .of_eq rfl rfl rfl

/-- Parking keeps the brakes applied outside RUN. -/
theorem Safety.park_held (x : Safety) (h : x.Held) : x.park.Held := by
  unfold Safety.park; split
  · exact h
  · exact .inr (by simp)

/-- Parking never takes the safety lane out of SAFE (R404). -/
theorem Safety.park_latched (x : Safety) (h : x.st = sSafe) : x.park = x := by simp [Safety.park, h]

theorem Safety.goes_unpark (x : Safety) : x.Goes x.unpark := .of_eq rfl rfl rfl

end Sys2Proof.Machine
end

