-- ==== Sys2Proof/Laws/Submit.lean ====
section
/-! SUPPORT. Taking a function's command: what `State.direct` comes to once the checks of R302 let the command through. -/

namespace Sys2Proof.Machine

open Sys2Proof

/-- A command with an apply tick, let through to its lane, goes on with steps 5 to 7. -/
theorem State.direct_timed {u : State} {h : CmdHead} {c : HostCmd} {l : LaneId} (ht : usesApply c = true)
    (hl : u.LetsThrough h c l (if h.apply = 0 then (u.lane l).tick + leadTicks c else h.apply)) :
    State.direct h c u = u.takeTimed l
      ⟨h.fn, h.tag, cmdOp c, if h.apply = 0 then (u.lane l).tick + leadTicks c else h.apply, none, false⟩ true c := by
  obtain ⟨h1, h2, h3, h4, h5, h6, h7, h8, h9⟩ := hl
  have h5' : (h.fn != 0 && !vfMay h.fn c) = false := by rcases h5 with h5 | h5 <;> simp [h5]
  have h4' : ¬ lenLimit c < h.len := by omega
  unfold State.direct State.submit
  simp [ht, h7, h1, h2, h3, h5', h6, h8, h9, h4']

/-- A command without an apply tick, let through to its lane, acts there. -/
theorem State.direct_lane {u : State} {h : CmdHead} {c : HostCmd} {l : LaneId} (ht : usesApply c = false)
    (hl : u.LetsThrough h c l (u.lane l).tick) :
    State.direct h c u = u.takeLane l h ⟨h.fn, h.tag, cmdOp c, 0, none, false⟩ c := by
  obtain ⟨h1, h2, h3, h4, h5, h6, h7, h8, h9⟩ := hl
  have h5' : (h.fn != 0 && !vfMay h.fn c) = false := by rcases h5 with h5 | h5 <;> simp [h5]
  have h4' : ¬ lenLimit c < h.len := by omega
  unfold State.direct State.submit
  simp [ht, h7, h1, h2, h3, h5', h6, h8, h9, h4']

/-- A command of LANE 4 without an apply tick acts on the host complex. -/
theorem State.direct_host {u : State} {h : CmdHead} {c : HostCmd} (ht : usesApply c = false)
    (hl : u.TakesHost h c) : State.direct h c u = u.takeHost h ⟨h.fn, h.tag, cmdOp c, 0, none, false⟩ c := by
  obtain ⟨h1, h2, h3, h4, h5, h6⟩ := hl
  have h6' : (h.fn != 0 && !vfMay h.fn c) = false := by rcases h6 with h5 | h5 <;> simp [h5]
  have h5' : ¬ lenLimit c < h.len := by omega
  unfold State.direct State.submit
  simp [ht, h1, h2, h3, h4, h5', h6']

end Sys2Proof.Machine
end

