-- ==== Sys2Proof/WellFormed.lean ====
section
/-! DEFINITION. Which commands name parts that exist: every index, port, class and number of fixed width lies in the
range the spec gives it. A command may be well formed and still have no effect in the state it meets. -/

namespace Sys2Proof

open Sys2Proof.Machine

/-- The number names a port: 0 PA, 1 PB, 2 PX1, 3 PX2 (R243). -/
def portOk (n : Nat) : Bool := decide (n < 4)

/-- The number names a traffic class (R248). -/
def classOk (n : Nat) : Bool := decide (n < 8)

/-- The number names an intake subscription (R53). -/
def subOk (n : Nat) : Bool := decide (n < 256)

/-- The number names a GOOSE subscription (R198). -/
def gsSubOk (n : Nat) : Bool := decide (n < 32)

/-- The number names a fabric stage, counted from 0 (R98). -/
def stageOk (n : Nat) : Bool := decide (n < 4)

/-- The number names a GOOSE publication (R147). -/
def pubOk (n : Nat) : Bool := decide (n < 4)

/-- The number names an application core (R164). -/
def coreOk (n : Nat) : Bool := decide (n < 8)

/-- The number names a parcel (R165). -/
def parcelOk (n : Nat) : Bool := decide (n < 16)

/-- The number names a strand (R167). -/
def strandOk (n : Nat) : Bool := decide (n < 8)

/-- The number names a command channel (R150). -/
def chanOk (n : Nat) : Bool := decide (n < 64)

/-- The number names a history channel (R63). -/
def histOk (n : Nat) : Bool := decide (n < 2048)

/-- The number names an ILU program (R200). -/
def progOk (n : Nat) : Bool := decide (n < 4)

/-- The number fits a 12-bit operand of a Farusk word (R201). -/
def operandOk (n : Nat) : Bool := decide (n < 4096)

/-- The number names an ILU timer (R203). -/
def timerOk (n : Nat) : Bool := decide (n < 512)

/-- The number names an ILU counter (R204). -/
def counterOk (n : Nat) : Bool := decide (n < 256)

/-- The number names a published stream (R155). -/
def streamOk (n : Nat) : Bool := decide (n < 16)

/-- The number names a pulse pair (R157). -/
def pulsePairOk (n : Nat) : Bool := decide (n < 4)

/-- The number names a safety input pair (R356). -/
def inputPairOk (n : Nat) : Bool := decide (n < 8)

/-- The number names a reference candidate: the four ports and 1PPS (R283). -/
def candOk (n : Nat) : Bool := decide (n < 5)

/-- The number names a ring (R296). -/
def ringOk (n : Nat) : Bool := decide (n < 11)

/-- The number names a function (R295). -/
def fnOk (n : Nat) : Bool := decide (n < 64)

/-- The number names an MSI-X vector (R313). -/
def vectorOk (n : Nat) : Bool := decide (n < 64)

/-- The number names a record definition (R324). -/
def rdOk (n : Nat) : Bool := decide (n < 16)

/-- The number names a part with its own flash: lanes, host complex, safety lane (R410). -/
def partOk (n : Nat) : Bool := decide (n < 6)

/-- The number names a lane by number. -/
def laneOk (n : Nat) : Bool := decide (n < 4)

/-- The number names an element slot (R98). -/
def slotOk (n : Nat) : Bool := decide (n < 4096)

/-- The number names a key slot (R421). -/
def keySlotOk (n : Nat) : Bool := decide (n < 256)

/-- The number names a field IO pin (R374). -/
def pinOk (n : Nat) : Bool := decide (n < 8)

/-- The number names one of two: a brake, a speed input. -/
def brakeOk (n : Nat) : Bool := decide (n < 2)

/-- The number names a power domain (R380). -/
def domainOk (n : Nat) : Bool := decide (n < 96)

/-- The number names a trunk hash entry (R264). -/
def hashOk (n : Nat) : Bool := decide (n < 256)

/-- The number is a VLAN identifier. -/
def vidOk (n : Nat) : Bool := decide (n < 4096)

/-- The number fits 16 bits. -/
def bits16 (n : Nat) : Bool := decide (n < 65536)

/-- The number names a virtual function (R295). -/
def vfOk (n : Nat) : Bool := decide (1 ≤ n ∧ n < 64)

/-- The number fits 64 bits. -/
def bits64 (n : Nat) : Bool := decide (n < 2 ^ 64)

/-- The number is a MAC address. -/
def macOk (n : Nat) : Bool := decide (n < 2 ^ 48)

/-- A slot descriptor of 64 words (R126). -/
def descOk (d : Desc) : Bool := d.length == 64

/-- One signature for each logic partition (R389). -/
def sigsOk (l : List Nat) : Bool := l.length == 11 && l.all bits64

/-- A command header's fields fit the descriptor's (R301). -/
def CmdHead.wf (h : CmdHead) : Bool :=
  fnOk h.fn && bits16 h.tag && decide (h.lane < 8) && bits64 h.apply && bits64 h.addr && decide (h.len < 2 ^ 32)

/-- The command is well formed. -/
def Instr.wf : Instr → Bool
  | .tickEdge _ => true
  | .sampledValueFrame _ port _ _ => portOk port
  | .burstFrame _ port _ _ => portOk port
  | .gooseFrame _ port _ _ => portOk port
  | .switchForward _ port _ _ _ _ => portOk port
  | .pfcRepeat _ port cls => portOk port && classOk cls
  | .pfcResume _ port cls => portOk port && classOk cls
  | .egressTransmit _ port _ => portOk port
  | .pfcFrame _ port _ _ => portOk port
  | .pauseFrame _ port => portOk port
  | .preemptionVerify _ port _ _ => portOk port
  | .portLinkDown _ port _ => portOk port
  | .portLinkUp _ port _ _ _ => portOk port
  | .trunkMoveBack _ entry _ => hashOk entry
  | .addressAgeing _ mac vid _ => macOk mac && vidOk vid
  | .supervisionFrameSend _ _ => true
  | .supervisionFrame _ port _ node => portOk port && macOk node
  | .nodeForget _ node _ => macOk node
  | .entryForget _ src seq _ => macOk src && bits16 seq
  | .wakePattern _ _ => true
  | .wakeTx _ _ _ => true
  | .intakeCutoff _ _ => true
  | .streamLost _ sub => subOk sub
  | .streamRecovered _ sub => subOk sub
  | .backstopLatch _ => true
  | .elementStage _ stage1 _ _ => stageOk stage1
  | .inputBlockCopy _ => true
  | .tripMatrixLatch _ => true
  | .gooseRepeat _ pub => pubOk pub
  | .sliceStart _ core parcel => coreOk core && parcelOk parcel
  | .sliceEnd _ core parcel _ _ => coreOk core && parcelOk parcel
  | .done _ parcel strand _ _ => parcelOk parcel && strandOk strand
  | .cmdWr _ parcel strand channel _ _ => parcelOk parcel && strandOk strand && chanOk channel
  | .historyApertureRead _ parcel strand channel _ _ => parcelOk parcel && strandOk strand && histOk channel
  | .guardViolation _ parcel strand _ _ _ => parcelOk parcel && strandOk strand
  | .parcelTrap _ parcel strand _ _ _ => parcelOk parcel && strandOk strand
  | .iluSlice _ _ => true
  | .iluFault _ _ _ => true
  | .ld _ p f => progOk p && operandOk f
  | .ldn _ p f => progOk p && operandOk f
  | .and _ p f => progOk p && operandOk f
  | .andn _ p f => progOk p && operandOk f
  | .or _ p f => progOk p && operandOk f
  | .orn _ p f => progOk p && operandOk f
  | .xor _ p f => progOk p && operandOk f
  | .xorn _ p f => progOk p && operandOk f
  | .st _ p f => progOk p && operandOk f
  | .stn _ p f => progOk p && operandOk f
  | .set _ p f => progOk p && operandOk f
  | .rst _ p f => progOk p && operandOk f
  | .re _ p f => progOk p && operandOk f
  | .fe _ p f => progOk p && operandOk f
  | .ton _ p t => progOk p && timerOk t
  | .tof _ p t => progOk p && timerOk t
  | .tp _ p t => progOk p && timerOk t
  | .ctu _ p c => progOk p && counterOk c
  | .ctd _ p c => progOk p && counterOk c
  | .crs _ p c => progOk p && counterOk c
  | .cld _ p c => progOk p && counterOk c
  | .faruskNop _ p => progOk p
  | .push _ p => progOk p
  | .popa _ p => progOk p
  | .popo _ p => progOk p
  | .page0 _ p => progOk p
  | .page1 _ p => progOk p
  | .endScan _ p => progOk p
  | .jc _ p k => progOk p && operandOk k
  | .jcn _ p k => progOk p && operandOk k
  | .readback _ levels => bits16 levels
  | .fieldIoExchange _ => true
  | .publishedStreamFrame _ stream => streamOk stream
  | .digestSend _ => true
  | .closure _ _ _ => true
  | .laneFaultHandling _ _ => true
  | .periodStart _ pair _ => pulsePairOk pair
  | .talExpiry _ sub => gsSubOk sub
  | .intakeRecord _ _ _ => true
  | .cutoffMarker _ _ _ _ _ => true
  | .forwardSubstitution _ => true
  | .digest _ _ _ _ _ _ _ _ _ _ _ => true
  | .backsightCompare _ _ => true
  | .mismatch _ _ => true
  | .selfCheckComplete _ _ _ _ => true
  | .withdraw _ _ _ => true
  | .lossOfActive _ _ => true
  | .takeover _ => true
  | .pairingAttempt _ _ _ => true
  | .pairingComplete _ _ _ => true
  | .sightlineLockLoss _ _ => true
  | .sightlineLock _ => true
  | .awaitExpiry _ _ => true
  | .witnessLost _ _ => true
  | .copy _ _ _ _ _ _ => true
  | .pagedig _ _ _ _ => true
  | .freezeStart _ _ => true
  | .stateTransferRestart _ _ => true
  | .cmd _ _ fn tag _ _ => fnOk fn && bits16 tag
  | .cmdAck _ _ fn tag => fnOk fn && bits16 tag
  | .cmdCommit _ _ fn tag => fnOk fn && bits16 tag
  | .commitDeadline _ => true
  | .standbyCommitTimeout _ => true
  | .plannedSwap _ => true
  | .requalified _ _ => true
  | .outputProofTest _ _ _ => true
  | .twinOffsetAlarm _ _ => true
  | .announce _ m _ _ _ => portOk m.port
  | .sync _ m _ _ _ _ => portOk m.port
  | .followUp _ m _ => portOk m.port
  | .pdelayReq _ m _ _ => portOk m.port
  | .pdelayResp _ m _ _ _ => portOk m.port
  | .pdelayRespFollowUp _ m _ => portOk m.port
  | .ptpMessageIgnored _ port => portOk port
  | .syncTransmit _ port _ => portOk port
  | .announceTransmit _ port => portOk port
  | .pdelayReqTransmit _ port _ => portOk port
  | .holdoverAnnounceStop _ => true
  | .ppsPulse _ _ => true
  | .announceTimeout _ _ => true
  | .qualificationComplete _ cand _ => candOk cand
  | .switchEnd _ _ => true
  | .stepDetected _ _ => true
  | .slewEnd _ _ => true
  | .initialSet _ _ => true
  | .datumUnsetEvent _ => true
  | .datumBeacon _ => true
  | .hostClockBeacon _ => true
  | .doorbell fn ring _ _ _ => fnOk fn && ringOk ring
  | .commandFetch fn _ _ => fnOk fn
  | .commandCompletion _ _ => true
  | .transmitDescriptor fn ring _ _ => fnOk fn && ringOk ring
  | .transmitWriteBack fn ring _ => fnOk fn && ringOk ring
  | .receiveDelivery _ _ _ => true
  | .eventPlacement _ _ => true
  | .overflowEntry fn _ => fnOk fn
  | .msixMessage fn ring _ => fnOk fn && ringOk ring
  | .msixUnmask fn vector => fnOk fn && vectorOk vector
  | .ringEnable fn ring _ => fnOk fn && ringOk ring
  | .ringDrain fn ring => fnOk fn && ringOk ring
  | .drainComplete fn ring => fnOk fn && ringOk ring
  | .dmaReadError fn ring idx _ => fnOk fn && ringOk ring && bits16 idx
  | .dmaCompletionTimeout fn ring idx _ => fnOk fn && ringOk ring && bits16 idx
  | .functionReset fn => fnOk fn
  | .hcxFnReset fn => fnOk fn
  | .functionLevelReset fn => fnOk fn
  | .functionResetComplete fn _ => fnOk fn
  | .pcieLinkDown _ => true
  | .hotReset => true
  | .laneLinkTimeout _ _ => true
  | .hostWatchdogExpiry _ => true
  | .registerReadLo fn _ _ _ => fnOk fn
  | .registerWriteHi fn _ _ _ _ => fnOk fn
  | .registerWrite fn _ _ _ _ => fnOk fn
  | .bspLock _ fn _ _ => fnOk fn
  | .nop h => h.wf
  | .loadImage h _ => h.wf
  | .readSlot h slot => h.wf && slotOk slot
  | .writeSlot h slot d => h.wf && slotOk slot && descOk d
  | .setQuota h vf _ => h.wf && vfOk vf
  | .parcelLoad h p _ _ => h.wf && parcelOk p
  | .parcelStart h p => h.wf && parcelOk p
  | .parcelStop h p => h.wf && parcelOk p
  | .parcelRestart h p _ => h.wf && parcelOk p
  | .parcelUnload h p => h.wf && parcelOk p
  | .parcelFreeze h p => h.wf && parcelOk p
  | .parcelResume h p => h.wf && parcelOk p
  | .parcelReload _ _ => true
  | .migrateTrack h p target q => h.wf && parcelOk p && laneOk target && parcelOk q
  | .trackReady _ parcel _ _ => parcelOk parcel
  | .migrateSwitch h p target q => h.wf && parcelOk p && laneOk target && parcelOk q
  | .migrateCancel h p => h.wf && parcelOk p
  | .migrateSave h p => h.wf && parcelOk p
  | .migrateRestore h p target q _ => h.wf && parcelOk p && laneOk target && parcelOk q
  | .migrateRelease h p => h.wf && parcelOk p
  | .setTarget h ch _ => h.wf && chanOk ch
  | .forceBits h value mask => h.wf && bits64 value && bits64 mask
  | .hostFlags h value mask => h.wf && bits64 value && bits64 mask
  | .tlReset h lines => h.wf && bits16 lines
  | .iluStop h p => h.wf && progOk p
  | .iluStart h p => h.wf && progOk p
  | .iluClear h p => h.wf && progOk p
  | .twinSwap h => h.wf
  | .setTod h _ => h.wf
  | .timeAccept h _ => h.wf
  | .timeReject h => h.wf
  | .archiveAttach h _ => h.wf
  | .archiveDetach h => h.wf
  | .archiveFormat h _ => h.wf
  | .archiveRead h _ _ => h.wf
  | .archiveWrite h _ _ => h.wf
  | .archiveAlloc h => h.wf
  | .archiveClose h _ => h.wf
  | .archivePin h _ => h.wf
  | .archiveUnpin h _ => h.wf
  | .archiveFree h _ => h.wf
  | .archiveList h _ _ => h.wf
  | .archiveTrigger h defs => h.wf && bits16 defs
  | .fieldbookRead h _ _ => h.wf
  | .fieldbookFlush h => h.wf
  | .clearGen h => h.wf
  | .clearSafe h => h.wf
  | .keyPut h k => h.wf && keySlotOk k.slot
  | .keyPrepare h => h.wf
  | .keyRoll h slots => h.wf && slots.all keySlotOk
  | .keyDrop h _ slots => h.wf && slots.all keySlotOk
  | .own h _ _ => h.wf
  | .keyRelease h => h.wf
  | .enterService h => h.wf
  | .leaveService h => h.wf
  | .retire h => h.wf
  | .stage h _ _ => h.wf
  | .activate h => h.wf
  | .raiseSvn h => h.wf
  | .fnReset h fn => h.wf && fnOk fn
  | .captureEnd _ rd => rdOk rd
  | .bufferFull _ => true
  | .recordTransferFrame _ => true
  | .nvmeCompletion cid _ _ _ => bits16 cid
  | .nvmeOverdue cid _ => bits16 cid
  | .catalogueCommit _ _ => true
  | .recoveryComplete _ _ _ _ => true
  | .fieldBookOccurrence _ => true
  | .fieldBookFlushEnd _ => true
  | .sealRead _ => true
  | .sealSample _ => true
  | .inputSample _ _ _ _ => true
  | .testPulse _ _ _ _ => true
  | .safetyCycle _ _ _ _ => true
  | .discrepancyTimeout pair => inputPairOk pair
  | .switchTestRound _ => true
  | .coilCurrentFailure brake => brakeOk brake
  | .holdingTestWindowOpen => true
  | .holdingTestWindowClose => true
  | .speedPulse input => brakeOk input
  | .diagnosticFailure _ => true
  | .watchdogMiss => true
  | .safetyStartComplete => true
  | .safetySag => true
  | .safetyStatus _ => true
  | .programmingPage _ _ p => p.octets.length == 256
  | .fieldIoFrameToField _ _ => true
  | .fieldIoFrameFromField _ _ _ => true
  | .fieldIoFrameTimeout _ _ _ => true
  | .outputOverload _ pin => pinOk pin
  | .overloadRetry _ pin _ => pinOk pin
  | .powerGood _ _ => true
  | .stageStart => true
  | .domainFault domain _ => domainOk domain
  | .hostComplexReady _ _ _ => true
  | .laneStart _ => true
  | .memorySelfTestEnd _ _ _ _ _ _ _ => true
  | .logicSelfTestEnd _ pipes others _ _ => decide (pipes.length = 5) && sigsOk (pipes ++ others)
  | .generationCheck _ _ => true
  | .laneEnterService _ _ _ => true
  | .holdUpChargeMeasure _ _ => true
  | .holdOk _ => true
  | .holdLowTimeout _ => true
  | .sagDetected _ _ => true
  | .dip => true
  | .flushEnd _ => true
  | .supplyReturn _ => true
  | .sleepSupplyLoss => true
  | .coldReset => true
  | .warmModuleReset _ _ => true
  | .laneReset _ _ => true
  | .parkAttended _ _ => true
  | .parkSleeping _ _ => true
  | .unpark _ _ => true
  | .trefAlarm _ _ => true
  | .dieOvertemp _ _ _ => true
  | .lpddrScrub _ => true
  | .bootSelection part _ => partOk part
  | .bootConfirm part => partOk part
  | .eraseSuspend part => partOk part
  | .eraseResume part => partOk part
  | .slotWriteComplete _ => true
  | .dailySlotCheck _ _ _ => true
  | .keyRemask _ => true
  | .pfcPauseExpiry _ port cls _ => portOk port && classOk cls
  | .pcieLinkUp _ _ _ => true
  | .vfEnable n => fnOk n
  | .holdUpEnergyEnd _ _ _ _ _ => true
  | .generalClassNorSave => true
  | .factoryProvisioning _ => true
  | .fieldSupplyLow _ _ => true

end Sys2Proof
end

