-- ==== Sys2Proof/Tests/Slice0.lean ====
section
/-! SUPPORT. Tests of the model: ill-formed commands are refused by the check; single steps; and states that meet the
hypotheses of the statements. -/

namespace Sys2Proof.Tests

open Sys2Proof Sys2Proof.Machine

set_option maxRecDepth 20000

/-- A lane in service at Level 0 with every domain on. -/
def up : Lane := ((Lane.fresh 0x0200).setFld .PWR_STAT 31 28 8).setReg .PWR_PD 0xFFFFF

/-- The module after reset with lane A replaced. -/
def withA (L : Lane) : State := { State.reset with lanes := State.reset.lanes.set .a L }

/-- A lane with subscription 0 to untagged sampled values of 1 Hz on port 0, and a frame of it. -/
def subUp : Lane := ((((up.setReg .INT_SUB_CFG (w32 (2 ^ 31 + 2 ^ 6 + 2 ^ 5))).setReg .INT_SUB_RATE 1).setReg .INT_SUB_CONFREV 7).setReg .INT_SUB_SVID 0x61)

/-- A sampled-value frame for subUp. -/
def svF : SvFrame :=
  { dst := 0, src := 1, tag := none, etype := 0x88BA, appId := 0, length := 0, apdu := 0, extLen := 0, sim := false, noAsdu := 1,
    asdus := [{ svId := [0x61#8], smpCnt := 0, confRev := 7, synch := 0, gm := none, rate := none, smpMod := none, vals := [(5, 0)] }],
    berOk := true, ext := none }

/-- A lane with a burst subscription of one channel at 1 Hz, and a frame of it. -/
def burstUp : Lane := ((up.setReg .INT_SUB_CFG (w32 (2 ^ 31 + 2 ^ 29 + 2 ^ 6 + 2 ^ 5))).setReg .INT_SUB_RATE 1).setReg .INT_SUB_CONFREV 0x101

/-- A burst frame for burstUp: VER 1, PACK 1, RATE 1, one sample of 1 on one channel, untagged. -/
def burstF : BurstFrame :=
  let z := fun (n : Nat) => List.replicate n (0#8)
  { dst := 0, src := 1, tag := none, etype := 0x88B5,
    bytes := [0x10, 1] ++ z 26 ++ [0, 0, 0, 1, 0, 1, 1, 0] ++ z 8 ++ [0, 1] }

/-- A lane in REPLICA with the channel locked. -/
def replica (L : Lane) : Lane := (L.setFlag .TWN_STAT 27 true).setPs psReplica

/-- A lane that forwards its intake, and one that follows a forwarded set. -/
def feeding (L : Lane) : Lane := (replica L).setFlag .TWN_STAT 28 true

def following (L : Lane) : Lane := (replica L).startFollow

/-- A lane whose switch forwards between ports 0 and 1 for VLAN 1, with one entry for address 5, and a frame to it. -/
def swUp : Lane :=
  let L := (up.setFlag .SWM_STAT 31 true).setFld .SWM_PORT_CFG 11 0 1
  { L with img := { L.img with fdb := L.img.fdb.put 0 [5#32, w32 (2 ^ 31 + 2 ^ 16), 3#32, 0#32] } }

def swF : Frame := { dst := 5, src := 9, tag := none, etype := 0x800, len := 64, ecn := none, red := none, body := .data [] }

/-- A lane with one frame queued in TC7 of port 0. -/
def qIt : QItem := { buf := 0, cells := 1, tag := none, red := none, len := 64, ecn := none, own := true, out := 0, hash := none }

def qBuf : Buf := { frame := swF, ingress := 0, cls := 3, cells := 1, copies := 1, chip := 1, host := none, sent := 0, ts := [], vid := 1, rx := 0 }

def queuedUp : Lane :=
  let L := up.setFlag .SWM_PORT_STAT 31 true 0
  { L with net := { L.net with queues := L.net.queues.put (qIdx 0 7) [qIt], bufs := L.net.bufs.put 0 qBuf } }

/-- A lane with XOFF in force on port 0 for TC3 and one cell above an LWM of 0. -/
def heldBack : Lane :=
  let L := (up.setFlag .SWM_PORT_STAT 11 true 0).setFld .SWM_Q_THR 15 0 0 0 3
  { L with net := { L.net with bufs := L.net.bufs.put 0 qBuf } }

/-- A lane with link up on a port. -/
def linkUp (port : Nat) : Lane := up.setFlag .SWM_PORT_STAT 31 true port

/-- A lane with line 15 enabled and backstop bit 7 routed to it and set by comparator 7, whose run stands at K. -/
def bspUp : Lane :=
  let L := ((up.setReg .TRM_TL_CFG (w32 (2 ^ 31)) 15).setReg .TRM_BSP_DST (w32 (2 ^ 15)) 7).setReg .TRM_BSP_CFG (w32 (2 ^ 31)) 7
  { L with trip := { L.trip with bsp := 128, runs := L.trip.runs.put 7 1 } }

/-- A lane with publication 3 begun and due. -/
def pubUp : Lane :=
  let L := (up.setReg .TRM_GP_CFG (w32 (2 ^ 31)) 3).setPub 3 { GoosePub.fresh with begun := true, sentAt := 5 }
  { L with trip := { L.trip with stop := false } }

/-- A lane with stream 15 enabled with D = 1. -/
def streamUp : Lane := up.setReg .CMD_PS_CFG (w32 (2 ^ 31 + 2 ^ 10)) 15

/-- A strand at the start of its cycle, and a lane whose parcel 15 runs one strand on core 7. -/
def freshStrand : Strand := { regs := strandZero, begun := false, done := false, used := 0 }

def strandCfg : StrandCfg := { core := 7, off := 0, len := 500, entry := 0, stack := 0, block := 0, budget := 1, data := (0, 16), code := (0, 0) }

def pclUp : Lane :=
  let L := ((up.setFld .LCT_PCL_STAT 31 29 2 15).setFlag .LCT_PCL_STAT 27 true 15).setReg .CMD_CH_CFG (w32 (2 ^ 31 + 2 ^ 28 + 15)) 63
  let img := { noImg with strands := [strandCfg], hist := true, chans := [0] }
  { L.setParcel 15 { Parcel.fresh with img := some img, strands := [freshStrand] } with cores := L.cores.put 7 ⟨15, 0, []⟩ }

/-- A lane in a freeze tick. -/
def freezing (L : Lane) : Lane := L.setTwin { L.twin with freeze := some L.tick }

/-- The lane `pclUp` with a code word at the strand's first address and values in x5 and x6. -/
def atWord (w x5 x6 : Nat) : Lane :=
  let st : Strand := { freshStrand with regs := { strandZero with x := NMap.ofList [(5, BitVec.ofNat 64 x5), (6, BitVec.ofNat 64 x6)] } }
  let x := pclUp.parcel 15
  { pclUp.setParcel 15 { x with strands := [st], mem := memWrite x.mem 0 (leBytes 4 w) } with
    cores := pclUp.cores.put 7 ⟨15, 0, [⟨0, 64, true, false, true⟩]⟩ }

/-- The same lane at SW x6, 0(x5), and at LD x6, 0(x5), of the unprivileged RISC-V encodings. -/
def storing (a v : Nat) : Lane := atWord 0x0062A023 a v

def loading (a : Nat) : Lane := atWord 0x0002B303 a 0

/-- A lane whose program 3 runs a scan, with `n` steps in a tick and the flag 4,095 of its own. -/
def iluUp (n : Nat) : Lane :=
  let L := ((up.setFld .ILU_PRG_STAT 31 30 2 3).setFld .ILU_PRG_BUDGET 27 16 n 3)
  { L.setProg 3 { IluProg.fresh with scan := true } with img := { L.img with iluOwn := L.img.iluOwn.put 3 [(4095, 4095)] } }

/-- A lane with GOOSE subscription 31 to untagged frames on port 0, and a frame of it. -/
def gsUp : Lane := up.setReg .ILU_GS_CFG (w32 (2 ^ 31 + 2 ^ 27 + 2 ^ 21)) 31

def gsF : GooseFrame :=
  { dst := 0, src := 1, tag := none, etype := 0x88B8, appId := 0, gocbRef := [], datSet := [], goId := [], confRev := 0, t := 0, tq := 0, tal := 1,
    stNum := 0, sqNum := 0, sim := false, test := false, ndsCom := false, members := [], berOk := true, ext := none }

/-- A lane whose port 3 is a slave port of domain 0, and a message to it. -/
def ptpUp : Lane := (up.setFld .DTM_PORT_CFG 31 29 3 3).setFld .DTM_CFG 23 16 0

def ptpM : PtpHead := { port := 3, domain := 0, seq := 65535, src := 77, corr := 0 }

/-- The module after reset with its host complex ready and no lane in service. -/
def hostUpS : State :=
  { State.reset with host := State.reset.host.setReg .HCX_PD_STAT 0xFFFFFFFF, power := { State.reset.power with hcxUp := true } }

/-- A parcel image with one strand. -/
def goodImg : ParcelImg := { noImg with strands := [{ strandCfg with data := (0x1000, 16) }], ok := true }

/-- A module with lane A in service: parcels 0 to 3 loaded, running, frozen and in fallback, and a step pending. -/
def cmdS : State :=
  let up := ((up.setFld .ILU_PRG_STAT 31 30 2 3).setFld .ILU_PRG_STAT 31 30 1 0).setFld .ILU_PRG_STAT 31 30 1 1
  let L := (((up.setFld .LCT_PCL_STAT 31 29 1 0).setFld .LCT_PCL_STAT 31 29 2 1).setFld .LCT_PCL_STAT 31 29 4 2).setFld .LCT_PCL_STAT 31 29 3 3
  { hostUpS with lanes := hostUpS.lanes.set .a ((L.setFld .DTM_STAT 31 29 4).setParcel 1 { Parcel.fresh with img := some goodImg }) }

def cmdH : CmdHead := ⟨0, 7, 0, 0, 0, 0, 0⟩

def goodSaved : SavedRec := { noSaved with img := goodImg, ok := true }

def goodQuota : Quota := { lane := ⟨⟨0, 0, 0, [], 0, 0, 0⟩, ⟨0, 0, 0, [], 0, 0, 0⟩, ⟨0, 0, 0, [], 0, 0, 0⟩, ⟨0, 0, 0, [], 0, 0, 0⟩⟩, extents := 0, entries := 704, vectors := 1 }

/-- The descriptor of a disabled slot that names history channel 0, with its CRC. -/
def blankDesc : Desc :=
  let d : Desc := [0, 0, 0, 0, w32 (2 ^ 28)] ++ List.replicate 57 0
  d ++ [w32 (crc32 (descBytes d 62))]

/-- A module whose lane A has its datum set, with commands that wait. -/
def edgeS (l : List Pend) : State :=
  withA { up with datum := { up.datum with maps := [⟨0, 0, 0, rateNominal⟩] }, pend := l }

/-- The header of a good lane image. -/
def okHdr : FwHeader :=
  let h : FwHeader := { (Lane.fresh 0).flash.bank0 with
    magic := fwMagic, kind := 2, svn := 5, pmin := 7, pmax := 7,
    sigOk := true, bodyOk := true, commit := markSet, eip := markErased, retire := markErased, confirm := markSet }
  { h with hcrc := fwCrc h }

def cmdH4 : CmdHead := { cmdH with lane := 4 }

/-- A valid attach record of 10 extents, and a module with that archive attached: extents 2, 3 and 4 OPEN, CLOSED, PINNED. -/
def okAtt : AttachRec :=
  { sqDb := 0, cqDb := 0, size := 10 * 2 ^ 20, nsid := 1, lbs := 9, mdts := 16, sqN := 2, cqN := 2, resvOk := true }

def arcS : State :=
  let H := ((hostUpS.host.setFld .HCX_ARC_STAT 31 30 2).setReg .HCX_ARC_EXT 10)
  { hostUpS with host := { H with arc := { H.arc with attach := some okAtt, nextSeq := 4, cat := ⟨[(2, ⟨1, eOpen, 0, 4, false, 0, 0⟩),
    (3, ⟨2, eClosed, 0, 4, false, 0, 0⟩), (4, ⟨3, ePinned, 0, 4, false, 0, 0⟩)]⟩ } } }

/-- A module whose function 0 is active with a command ring of 64 entries that holds one, and a completion ring. -/
def ringS : State :=
  hostUpS.mapFn 0 (fun F => (((((F.setFld .FN_STAT 31 30 1).setRing 0 rRun).setRing 1 rRun).setFld .FN_RING_CFG 27 24 6 0).setFld
    .FN_RING_CFG 27 24 6 1).setFld .FN_RING_IDX 31 16 1 0)

/-- A module whose safety lane is powered, its seals read: pair 0 in use. -/
def safS : State :=
  { State.reset with safety := { Safety.fresh with seals := some 0x100 }, host := State.reset.host.setReg .HCX_PD_STAT 0xF000 }
/-! ### Ill-formed commands, one for each check -/

theorem test_port_range : (Instr.pfcResume .a 3 7).wf = true ∧ (Instr.pfcResume .a 4 0).wf = false := by decide
theorem test_class_range : (Instr.pfcRepeat .a 3 8).wf = false := by decide
theorem test_sub_range : (Instr.streamLost .a 255).wf = true ∧ (Instr.streamLost .a 256).wf = false := by decide
theorem test_goose_sub_range : (Instr.talExpiry .a 31).wf = true ∧ (Instr.talExpiry .a 32).wf = false := by decide
theorem test_stage_range : (Instr.elementStage .a 3 none 0).wf = true ∧ (Instr.elementStage .a 4 none 0).wf = false := by decide
theorem test_publication_range : (Instr.gooseRepeat .a 3).wf = true ∧ (Instr.gooseRepeat .a 4).wf = false := by decide
theorem test_core_range : (Instr.sliceStart .a 7 15).wf = true ∧ (Instr.sliceStart .a 8 0).wf = false := by decide
theorem test_parcel_range : (Instr.sliceStart .a 0 16).wf = false := by decide
theorem test_strand_range : (Instr.done .a 0 7 0 0).wf = true ∧ (Instr.done .a 0 8 0 0).wf = false := by decide
theorem test_channel_range : (Instr.cmdWr .a 0 0 63 0 0).wf = true ∧ (Instr.cmdWr .a 0 0 64 0 0).wf = false := by decide
theorem test_history_range :
    (Instr.historyApertureRead .a 0 0 2047 0 0).wf = true ∧ (Instr.historyApertureRead .a 0 0 2048 0 0).wf = false := by decide
theorem test_program_range : (Instr.faruskNop .a 3).wf = true ∧ (Instr.faruskNop .a 4).wf = false := by decide
theorem test_operand_range : (Instr.ld .a 0 4095).wf = true ∧ (Instr.ld .a 0 4096).wf = false := by decide
theorem test_timer_range : (Instr.ton .a 0 511).wf = true ∧ (Instr.ton .a 0 512).wf = false := by decide
theorem test_counter_range : (Instr.ctu .a 0 255).wf = true ∧ (Instr.ctu .a 0 256).wf = false := by decide
theorem test_stream_range :
    (Instr.publishedStreamFrame .a 15).wf = true ∧ (Instr.publishedStreamFrame .a 16).wf = false := by decide
theorem test_pulse_pair_range : (Instr.periodStart .a 3 0).wf = true ∧ (Instr.periodStart .a 4 0).wf = false := by decide
theorem test_input_pair_range : (Instr.discrepancyTimeout 7).wf = true ∧ (Instr.discrepancyTimeout 8).wf = false := by decide
theorem test_candidate_range :
    (Instr.qualificationComplete .a 4 0).wf = true ∧ (Instr.qualificationComplete .a 5 0).wf = false := by decide
theorem test_ring_range : (Instr.ringDrain 0 10).wf = true ∧ (Instr.ringDrain 0 11).wf = false := by decide
theorem test_function_range : (Instr.functionReset 63).wf = true ∧ (Instr.functionReset 64).wf = false := by decide
theorem test_vector_range : (Instr.msixUnmask 0 63).wf = true ∧ (Instr.msixUnmask 0 64).wf = false := by decide
theorem test_definition_range : (Instr.captureEnd .a 15).wf = true ∧ (Instr.captureEnd .a 16).wf = false := by decide
theorem test_part_range : (Instr.bootConfirm 5).wf = true ∧ (Instr.bootConfirm 6).wf = false := by decide
theorem test_lane_number_range :
    (Instr.migrateTrack cmdH 0 3 0).wf = true ∧ (Instr.migrateTrack cmdH 0 4 0).wf = false := by decide
theorem test_slot_range : (Instr.readSlot cmdH 4095).wf = true ∧ (Instr.readSlot cmdH 4096).wf = false := by decide
theorem test_key_slot_range : (Instr.keyRoll cmdH [255]).wf = true ∧ (Instr.keyRoll cmdH [0, 256]).wf = false := by decide
theorem test_pin_range : (Instr.outputOverload .a 7).wf = true ∧ (Instr.outputOverload .a 8).wf = false := by decide
theorem test_brake_range : (Instr.speedPulse 1).wf = true ∧ (Instr.speedPulse 2).wf = false := by decide
theorem test_domain_range : (Instr.domainFault 95 0).wf = true ∧ (Instr.domainFault 96 0).wf = false := by decide
theorem test_hash_range : (Instr.trunkMoveBack .a 255 0).wf = true ∧ (Instr.trunkMoveBack .a 256 0).wf = false := by decide
theorem test_vid_range : (Instr.addressAgeing .a 0 4095 0).wf = true ∧ (Instr.addressAgeing .a 0 4096 0).wf = false := by decide
theorem test_mac_range : (Instr.nodeForget .a (2 ^ 48 - 1) 0).wf = true ∧ (Instr.nodeForget .a (2 ^ 48) 0).wf = false := by decide
theorem test_16_bit_range : (Instr.readback .a 65535).wf = true ∧ (Instr.readback .a 65536).wf = false := by decide
theorem test_vf_range : (Instr.setQuota cmdH 63 goodQuota).wf = true ∧ (Instr.setQuota cmdH 0 goodQuota).wf = false ∧
    (Instr.setQuota cmdH 64 goodQuota).wf = false := by decide
theorem test_64_bit_range :
    (Instr.forceBits cmdH (2 ^ 64 - 1) 0).wf = true ∧ (Instr.forceBits cmdH 0 (2 ^ 64)).wf = false := by decide
theorem test_descriptor_length :
    (Instr.writeSlot cmdH 0 (List.replicate 64 0)).wf = true ∧ (Instr.writeSlot cmdH 0 []).wf = false := by decide
theorem test_signature_count : (Instr.logicSelfTestEnd .a (List.replicate 5 0) (List.replicate 6 0) 0 0).wf = true ∧
    (Instr.logicSelfTestEnd .a [] [] 0 0).wf = false := by decide
theorem test_command_header : (Instr.nop cmdH).wf = true ∧ (Instr.nop { cmdH with tag := 65536 }).wf = false ∧
    (Instr.nop { cmdH with lane := 8 }).wf = false := by decide

/-! ### The spec's worked examples and figures -/

/-- Ticks 1 to 3 of a second: 10,417, 10,417 and 10,416 ns (R28). -/
theorem test_tick_intervals : [1, 2, 3].map edgeNs = [10417, 20834, 31250] := by decide

/-- Channel 7 of the worked example of R152: UP 10, DN 20, HBAND 0.5. -/
theorem test_ramp_example :
    let up : Word := 0x41200000#32
    let dn : Word := 0x41A00000#32
    let hb : Word := 0x3F000000#32
    rampStep 0#32 0x42C80000#32 up dn hb = (0x41200000#32, true, some false) ∧            -- to 100: 10
    rampStep 0x41F00000#32 0x40A00000#32 up dn hb = (0x41200000#32, true, some true) ∧    -- 30 to 5: 10
    rampStep 0x41200000#32 0x40A00000#32 up dn hb = (0x40A00000#32, false, some true) ∧   -- 10 to 5: 5
    rampStep 0x40A00000#32 0x40ACCCCD#32 up dn hb = (0x40A00000#32, false, none) ∧        -- 5 to 5.4: held
    rampStep 0x40A00000#32 0x40C00000#32 up dn hb = (0x40C00000#32, false, some false)    -- 5 to 6: 6
    := by decide +kernel

/-- Periods 1 to 7 of the worked example of R159, in steps of 1/1,200 µs. -/
theorem test_pulse_example :
    issue 6000 0 120000 2400 6000 false = ⟨.off, 6000, 0, true, false⟩ ∧
    issue 6000 6000 120000 2400 6000 false = ⟨.until_ 12000, 0, 0, false, false⟩ ∧
    issue 3600 0 120000 2400 6000 false = ⟨.off, 3600, 0, true, false⟩ ∧
    issue 3600 3600 120000 2400 6000 false = ⟨.off, 6000, 1200, true, false⟩ ∧
    issue 3600 6000 120000 2400 6000 false = ⟨.until_ 9600, 0, 0, false, false⟩ ∧
    issue 114000 0 120000 2400 6000 false = ⟨.on, -6000, 0, false, true⟩ ∧
    issue 114000 (-6000) 120000 2400 6000 true = ⟨.until_ 108000, 0, 0, false, false⟩ := by decide

/-- The addresses of the worked example of R460 and its doorbell. -/
theorem test_address_example :
    regRef 0 0x03048448 = some ⟨.lane .c, .TRM_TERM_LIT, 17, 1⟩ ∧ regRef 0 0x020715C8 = some ⟨.lane .b, .SWM_Q_DEPTH, 2, 6⟩ ∧
    regRef 12 0x48 = some ⟨.page 12, .FN_DB, 9, 0⟩ := by decide +kernel

/-- Tick 1,440 begins exactly at 15 ms (R27). -/
theorem test_tick_of : tickOf 15000000 = 1440 ∧ edgeNs 1440 = 15000000 := by decide

/-- The CRC-32 and CRC-16 of "123456789" are the published check values of these codes (R465, R354). -/
theorem test_crc_check_values :
    crc32 [0x31, 0x32, 0x33, 0x34, 0x35, 0x36, 0x37, 0x38, 0x39] = 0xCBF43926 ∧
    crc16 [0x31, 0x32, 0x33, 0x34, 0x35, 0x36, 0x37, 0x38, 0x39] = 0x29B1 ∧
    crc64 [0x31, 0x32, 0x33, 0x34, 0x35, 0x36, 0x37, 0x38, 0x39] = 0x6C40DF5F0B497347 := by decide +kernel

/-- An idle step changes nothing, and a step takes the command in front (assumption log 2). -/
theorem test_idle_step : step State.reset = .next State.reset := by rfl


/-- A queue with one command, and the empty queue, for StepRunsFrontCommand. -/
theorem witness_StepRunsFrontCommand :
    ({ State.reset with pending := [Instr.dip] } : State).pending = Instr.dip :: [] ∧ State.reset.pending = [] := ⟨rfl, rfl⟩

/-- A command of one lane, for LaneCommandsStayInTheirLane. -/
theorem witness_LaneCommandsStayInTheirLane :
    (Instr.backstopLatch .b).laneOf = some .b ∧ ∃ t, exec (.backstopLatch .b) State.reset = .next t := ⟨rfl, _, rfl⟩

/-- Commands of each clause of FaultsStayOutOfTheSafetyLane. -/
theorem witness_FaultsStayOutOfTheSafetyLane :
    (Instr.pcieLinkDown 0).reachesSafety = false ∧ (∃ t, exec (.pcieLinkDown 0) State.reset = .next t) ∧
    (∃ t, exec (.domainFault 16 0) State.reset = .next t) ∧ (∃ t, exec (.bootSelection 4 0) State.reset = .next t) ∧
    Instr.watchdogMiss.ofSafetyLane = true ∧ ∃ t, exec .watchdogMiss State.reset = .next t :=
  ⟨rfl, ⟨_, rfl⟩, ⟨_, rfl⟩, ⟨_, rfl⟩, rfl, _, rfl⟩

/-- A state of the invariant and a step, for BrakesHeldOutsideRun. -/
theorem witness_BrakesHeldOutsideRun : State.reset.safety.Held ∧ step State.reset = .next State.reset := ⟨by decide, rfl⟩

/-- A safety lane in SAFE, and a step, for SafeStateIsLatched. -/
theorem witness_SafeStateIsLatched :
    let s : State := { State.reset with safety := { Safety.fresh with st := sSafe, cause := 7 } }
    s.safety.st = sSafe ∧ step s = .next s := ⟨rfl, rfl⟩

/-- Frames for each branch of SampledValueIntake: from the lane itself, unmatched, of a wrong confRev, unauthenticated,
accepted. -/
theorem witness_SampledValueIntake :
    (subUp.intakeOpen 0 = true ∧ subUp.twin.follow = false ∧ subUp.feeds = false ∧ subUp.isOwnMac 0x203 = true ∧ subUp.isOwnMac 0x204 = false ∧
      subUp.matchSv 0 { svF with appId := 1 } = none ∧ subUp.matchSv 0 svF = some 0) ∧
    subUp.svDrop 0 { svF with asdus := svF.asdus.map (fun a => { a with confRev := 6 }) } = some 5 ∧
    subUp.svDrop 0 svF = none ∧ subUp.authKey 0 0 none = some false ∧ subUp.authKey 1 0 none = none ∧
    (((subUp.countSynch svF).convert 0).2.takeAsdus 0 svF false (subUp.convert 0).1 0 svF.asdus).2 = true := by decide

/-- Burst frames for each branch of BurstIntake. -/
theorem witness_BurstIntake :
    burstUp.intakeOpen 0 = true ∧ burstUp.twin.follow = false ∧ burstUp.feeds = false ∧ burstUp.isOwnMac 1 = false ∧ burstUp.matchBurst 0 { burstF with etype := 0x88B6 } = none ∧
    burstUp.matchBurst 0 burstF = some 0 ∧ burstUp.burstDrop 0 { burstF with bytes := burstF.bytes.set 0 (0x20#8) } = some 0xC ∧
    burstUp.burstDrop 0 burstF = none ∧ burstUp.authKey 0 0 none = some false ∧ burstUp.authKey 2 0 none = none := by decide

/-- A lane that forwards with a subscription, one that follows, one in service, and streams with a loss and a recovery to
report, for IntakeForwardsAndCloses. -/
theorem witness_IntakeForwardsAndCloses :
    (let L := feeding subUp; L.twin.follow = false ∧ L.feeds = true ∧ L.matchSv 0 svF = some 0) ∧
    (let L := feeding burstUp; L.twin.follow = false ∧ L.feeds = true ∧ L.matchBurst 0 burstF = some 0) ∧
    (following subUp).twin.follow = true ∧ up.inService = true ∧ up.level < 3 ∧
    (((up.setStream 255 { Stream.fresh 0 with lostEvt := 1 }).stream 255).lostEvt ≠ 0) ∧
    ((up.setStream 0 { Stream.fresh 0 with recEvt := 1 }).stream 0).recEvt ≠ 0 := by decide

/-- Frames for each branch of SwitchForwardsFrames: one of VLAN 1 with an entry, one of a VLAN with none, one oversized. -/
theorem witness_SwitchForwardsFrames :
    swUp.forwards 0 = true ∧ 1522 < ({ swF with len := 1523 } : Frame).len ∧ swUp.classOf 0 swF = 0 ∧ swUp.red = 0 ∧
    (swUp.vlanPorts (swUp.vidOf 0 swF)).testBit 0 = true ∧ (swUp.vlanPorts 2).testBit 0 = false ∧
    ((swUp.route 0 0 0 1 swF).2.isSome = true) ∧ (swUp.route 0 0 7 1 { swF with dst := 9 }).2 = none ∧
    (swUp.route 0 0 0 1 swF).1.red = 0 ∧
    swUp.classOf 0 { swF with tag := some ⟨1, 7⟩ } = 7 ∧
    (let L := swUp.setFld .SWM_RED_CFG 31 30 2
     (L.bump .SWM_PORT_RXFRM 0).red = 2 ∧ L.mac ≤ 0x200 ∧ (L.route 0 0 0 1 swF).2.isSome = true ∧
     (L.route 0 0 0 1 swF).1.red ≠ 0 ∧ swF.red = none ∧
     ({ swF with red := some ⟨true, 0, 0⟩ } : Frame).etype ≠ 0x88F7) := by decide

/-- A lane with one frame queued on port 0, for SwitchSendsAndReleases. -/
theorem witness_SwitchSendsAndReleases :
    let L := queuedUp
    L.flag .SWM_PORT_STAT 31 0 = true ∧ L.portKept 0 = true ∧ L.nextClass 0 = some (7, (0, 0)) ∧
    (L.net.fetchBack 0 7).queue 0 7 = [qIt] ∧ ((L.net.fetchBack 0 7).bufs.get? qIt.buf).isSome = true := by decide

/-- Ingress counts on both sides of LWM with XOFF in force, a kept port, and a pause that has just run, for
PriorityPause. -/
theorem witness_PriorityPause :
    let L := up.setFlag .SWM_PORT_STAT 11 true
    L.xoff 0 3 = true ∧ L.net.ingressCount 0 3 ≤ (L.waterMarks 0 3).2.1 ∧
    (let K := heldBack; K.xoff 0 3 = true ∧ (K.waterMarks 0 3).2.1 < K.net.ingressCount 0 3) ∧ L.portKept 0 = true ∧
    (let K : Lane := { up with net := { up.net with pause := up.net.pause.put (qIdx 0 3) (0, 25) } }
     K.net.pause.get? (qIdx 0 3) = some (0, 25) ∧ 25 * 1536 ≤ rawSince 1536 0 * 25) := by decide

/-- Lanes for each clause of LinksAndTrunk: ports with link up and down, a port that verifies, an entry away from home. -/
theorem witness_LinksAndTrunk :
    (linkUp 0).flag .SWM_PORT_STAT 31 0 = true ∧ (linkUp 3).flag .SWM_PORT_STAT 31 3 = true ∧
    up.flag .SWM_PORT_STAT 31 3 = false ∧ (up.setFlag .SWM_PORT_CFG 31 true 3).flag .SWM_PORT_CFG 31 3 = true ∧
    (up.setFlag .SWM_PORT_CFG 28 true 1).flag .SWM_PORT_CFG 28 1 = true ∧
    (let L : Lane := { linkUp 2 with net := { up.net with moved := [4], upAt := up.net.upAt.put 2 0 } }
     L.net.moved.contains 4 = true ∧ L.flag .SWM_PORT_STAT 31 (2 + 4 % 2) = true ∧
     (∀ c ∈ List.range 8, L.net.queue 2 c = [] ∧ L.net.queue 3 c = []) ∧ L.net.upAt.get? (2 + 4 % 2) = some 0 ∧
     rawMs 1000 ≤ rawSince 1200000000 0) := by decide

/-- States for each clause of TablesForgetSupervisionAndWake. -/
theorem witness_TablesForgetSupervisionAndWake :
    (let L := (swUp.setFld .SWM_RED_CFG 31 30 1)
     L.red ≠ 0 ∧ L.flag .SWM_STAT 31 = true ∧ L.net.supRaw = none ∧ L.forwards 1 = true ∧ L.net.nodes = []) ∧
    up.portKept 3 = true ∧ up.flag .SWM_PORT_STAT 31 3 = false ∧ (linkUp 2).flag .SWM_PORT_STAT 31 2 = true ∧
    wakeCode ⟨1000, [100, 100, 100, 100, 100, 100, 100, 100, 100, 100, 100, 300, 100, 100, 300, 300],
      List.replicate 17 200, 1000⟩ = some 1 ∧
    wakeCode ⟨1101, [], [], 1000⟩ = none ∧
    (let s : State := { State.reset with power := { State.reset.power with mstate := .sleeping } }; s.power.mstate = .sleeping) := by
  decide

/-- A lane in service at Level 0 outside a freeze tick, for LatchesRunTheirPhases. -/
theorem witness_LatchesRunTheirPhases :
    up.inService = true ∧ up.level < 2 ∧ up.frozen = false := by
  decide

/-- A lane whose backstop has demand on an enabled line, for BackstopDemandTrips. -/
theorem witness_BackstopDemandTrips :
    let L := bspUp
    L.inService = true ∧ L.level < 3 ∧ L.lineEn 15 = true ∧ (L.line 15).safe = none ∧ L.bspDemand 15 = true ∧
    (L.bspTick 7).bspDemand 15 = true := by decide

/-- A lane in service, with its line 0 commanded off, for ReadbackFindsMismatch. -/
theorem witness_ReadbackFindsMismatch :
    up.inService = true ∧ (0 : Nat).testBit 0 = up.lineLevel 0 ∧ (2 ^ 15 : Nat).testBit 15 ≠ up.lineLevel 15 := by decide

/-- Both sides of BackstopLockIsPf0s. -/
theorem witness_BackstopLockIsPf0s :
    bit (1#32 : Word) 0 = true ∧ up.flag .TRM_BSP_LOCK 0 = false ∧ bit (0#32 : Word) 0 = false ∧
    (up.setFlag .TRM_BSP_LOCK 0 true).flag .TRM_BSP_LOCK 0 = true := by decide

/-- A publication due and a stream of the tick, on a lane that drives and on one that does not. -/
theorem witness_PublicationsAndStreamsSend :
    (let L := pubUp
     L.flag .TRM_GP_CFG 31 3 = true ∧ L.trip.stop = false ∧ (L.pub 3).begun = true ∧ (L.pub 3).next ≤ L.tick ∧
     (L.pub 3).sentAt ≠ L.tick ∧ (L.pub 3).want = 0 ∧ L.trav.done.testBit 6 = false ∧
     ({ L with trav := { L.trav with done := 64 } } : Lane).trav.done.testBit 6 = true) ∧
    (let L := streamUp
     L.level < 2 ∧ L.inService = true ∧ L.psDue 15 = true ∧ L.cmds.served.testBit 15 = false ∧ (L.setFlag .TWN_STAT 28 false).drives = false ∧
     (L.setFlag .TWN_STAT 28 true).drives = true ∧ L.net.ingressCount 4 4 < (L.waterMarks 4 4).1) := by decide

/-- A pair enabled on a driving lane at a period start, for CarrierPeriodIsIssued. -/
theorem witness_CarrierPeriodIsIssued :
    let L := ((up.setReg .CMD_PP_CFG (w32 (2 ^ 31)) 3).setReg .CMD_PP_PER 12000 3).setFlag .TWN_STAT 28 true
    L.flag .CMD_PP_CFG 31 3 = true ∧ L.level < 2 ∧ L.inService = true ∧ L.flag .PWR_PD 16 = true ∧ L.drives = true ∧ L.fld .CMD_PP_PER 23 0 3 ≠ 0 ∧
    24000 % 1200000000 % L.fld .CMD_PP_PER 23 0 3 = 0 ∧ (L.pulse 3).start ≤ 24000 := by decide

/-- A lane below Level 2, a stage and a fault, for StageWindowEvaluates. -/
theorem witness_StageWindowEvaluates : up.level < 2 ∧ (2 < 3) ∧ (⟨2, 0, 0⟩ : FabFault).cause ≠ 1 := by decide

/-- A lane with one running strand on core 7, and one that has come to a write to DONE, for ParcelSlices. -/
theorem witness_ParcelSlices :
    let L := pclUp
    L.level < 2 ∧ L.frozen = false ∧ L.inService = true ∧ (L.parcel 15).strandOn 7 = some 0 ∧ L.canRun 15 0 = true ∧
    L.coreOn 7 = true ∧ ((L.parcel 15).strand 0).isSome = true ∧ (L.parcel 15).strandOn 6 = none ∧
    (L.cores.get? 7).isSome = true ∧ (L.running 15 0).isSome = true ∧
    ((storing 0x080003F0 7).strandNext 15 0).any (fun o => o.1.isDone) = true := by decide

/-- Operands for each clause of ParcelAccesses on a running parcel: ages 1,023 and 1,024, owned and other channels, and
strands that have come to each of the four accesses. -/
theorem witness_ParcelAccesses :
    (let L := pclUp
     L.ownsCmd 15 63 = true ∧ L.ownsCmd 15 62 = false ∧ (L.parcel 15).image.hist = true ∧
     L.pN 15 = 1 ∧ (L.parcel 15).image.chans.contains 0 = true ∧ (L.parcel 15).image.chans.contains 1 = false) ∧
    (((storing 0x080002FC 7).strandNext 15 0).any (fun o => o.1.isCmd 63 7) = true) ∧
    (((storing 0x080002F8 7).strandNext 15 0).any (fun o => o.1.isViol 0x05 0x080002F8) = true) ∧
    (((loading 0x20000000).strandNext 15 0).any (fun o => o.1.isAperture 0 0) = true) ∧
    (((loading 0x20002000).strandNext 15 0).any (fun o => o.1.isViol 0x04 0x20002000) = true) ∧
    (((storing 0x50000000 7).strandNext 15 0).any (fun o => o.1.isViol 0x01 0x50000000) = true) ∧
    ((storing 0x100 7).strandNext 15 0).any (fun o => o.1.isTrap 7 0x100) = true := by decide

/-- A strand that has come to a store that the PMP refuses, for HaltedParcelKeepsOutputs. -/
theorem witness_HaltedParcelKeepsOutputs :
    ((storing 0x100 7).strandNext 15 0).any (fun o => o.1.isTrap 7 0x100) = true := by decide

/-- Programs with a step left and 0, 1, 63 and 64 bits on the stack, for FaruskLogicStackAndEnd. -/
theorem witness_FaruskLogicStackAndEnd :
    let L := iluUp 1
    let put := fun (n : Nat) => L.setProg 3 { L.iluProg 3 with stack := List.replicate n true }
    (put 0).CanStep 3 1 ∧ (put 63).CanStep 3 1 ∧ (put 64).CanStep 3 1 ∧ ((put 63).iluProg 3).stack.length < 64 ∧
    64 ≤ ((put 64).iluProg 3).stack.length ∧ ((put 1).iluProg 3).stack = true :: [] ∧ ((put 0).iluProg 3).stack = [] := by
  decide

set_option exponentiation.threshold 5000 in
/-- A program with a step left that owns flag 4,095 and not flag 0, for FaruskStores. -/
theorem witness_FaruskStores :
    let L := iluUp 1
    L.CanStep 3 1 ∧ (L.ownMask 3).testBit (((L.iluProg 3).charge 1).addr 4095) = true ∧
    (L.ownMask 3).testBit (((L.iluProg 3).charge 1).addr 0) = false := by decide

/-- A program with three steps left and timer 511 of its own, for FaruskTimers. -/
theorem witness_FaruskTimers :
    let L := (iluUp 3).setReg .ILU_TMR_CFG (w32 (2 ^ 31 + 3 * 2 ^ 29 + 5)) 511
    L.CanStep 3 3 ∧ L.allocTo .ILU_TMR_CFG 511 3 = true := by decide

/-- A program with two steps left and counter 255 of its own, for FaruskCounters. -/
theorem witness_FaruskCounters :
    let L := (iluUp 2).setReg .ILU_CTR_PV (w32 (2 ^ 31 + 3 * 2 ^ 29 + 5)) 255
    L.CanStep 3 2 ∧ L.allocTo .ILU_CTR_PV 255 3 = true ∧ (L.counterOf ((L.iluProg 3).charge 2) 255).cv ≤ 65535 ∧ L.level < 2 ∧
    L.flag .ILU_STAT 30 = false ∧ (L.setFld .ILU_PRG_STAT 31 30 1 3).iluState 3 = 1 ∧ L.bestSnap = none := by decide

/-- A program within its allotment and a slice, for StepsStayInTheAllotment. -/
theorem witness_StepsStayInTheAllotment :
    ((iluUp 3).iluProg 3).spent ≤ (iluUp 3).iluSteps 3 ∧
    ∃ t, exec (.iluSlice .a []) (withA (iluUp 3)) = .next t := ⟨by decide, _, rfl⟩

/-- Lanes for each clause of IluSlicesAndFaults. -/
theorem witness_IluSlicesAndFaults :
    up.frozen = false ∧ (freezing up).frozen = true ∧ up.inService = true ∧ up.flag .ILU_STAT 30 = false ∧
    (up.setFlag .ILU_STAT 30 true).flag .ILU_STAT 30 = true := by decide

/-- Frames for each clause of GooseIntake, and a subscription with an expiry to report. -/
theorem witness_GooseIntake :
    let L := gsUp
    L.intakeOpen 0 = true ∧ L.isOwnMac 0x203 = true ∧ L.isOwnMac gsF.src = false ∧
    (List.range 32).find? (fun g => L.gsMatches 0 { gsF with appId := 1 } g) = none ∧
    (List.range 32).find? (fun g => L.gsMatches 0 gsF g) = some 31 ∧ L.gsAccept 31 { gsF with confRev := 1 } = false ∧
    L.gsAccept 31 gsF = true ∧ L.gsAuth 31 gsF = some false ∧
    (L.setReg .ILU_GS_AUTH (w32 (2 ^ 30)) 31).gsAuth 31 gsF = none ∧ (L.gsSub 31).isNew gsF = true ∧
    ({ L.gsSub 31 with last := some (0, 0) } : GsSub).isNew gsF = false ∧
    (((L.setGs 31 { L.gsSub 31 with evt := 1 }).gsExpire 31).gsSub 31).evt ≠ 0 := by decide

/-- Frames for each clause of FieldIoFrames: right, wrong CRC, wrong SEQ, one and three behind. -/
theorem witness_FieldIoFrames :
    up.fioRuns = true ∧ fioCrcOk (up.fioFrame ^^^ 0#32) = true ∧ fioCrcOk (up.fioFrame ^^^ 1#32) = false ∧ up.fio.fSeq = none ∧
    ({ up with fio := { up.fio with fSeq := some 1 } } : Lane).fio.fSeq = some 1 ∧ bits (up.fioFrame ^^^ 0#32) 31 30 = 0 ∧
    fioCrcOk ((up.fio.sampled up.outPins 5).frame ^^^ 0#32) = true ∧
    (up.fio.txSeq + 4 - bits ((up.fio.sampled up.outPins 5).frame ^^^ 0#32) 31 30) % 4 = 1 ∧
    (up.fio.txSeq + 4 - bits (w32 (fioWord 2 0 0)) 31 30) % 4 = 2 ∧
    (up.fio.txSeq + 4 - bits (w32 (fioWord 1 0 0)) 31 30) % 4 = 3 ∧ (up.fio.txSeq + 4 - bits (w32 (fioWord 0 0 0)) 31 30) % 4 = 0 := by
  decide

/-- An output pin that drives and one in overload, for FieldOutputsProtectThemselves. -/
theorem witness_FieldOutputsProtectThemselves :
    (up.setFld .ILU_FIO_DIR 7 0 128).outPins.testBit 7 = true ∧ up.fio.fOver.testBit 7 = false ∧ (128 : Nat).testBit 7 = true := by
  decide

/-- A frame with a bad tag, and a counter equal to the last, for SightlineDiscards. -/
theorem witness_SightlineDiscards :
    (⟨1, false⟩ : TwinHead).tagOk = false ∧
    ((up.setTwin { up.twin with rxCtr := up.twin.rxCtr.put 3 7 }).twin.rxCtr.get? 3 = some 7 ∧ 7 ≤ 7) := by decide

/-- Lanes and frames for each clause of SightlineIntakeAndTransfer. -/
theorem witness_SightlineIntakeAndTransfer :
    (let L := following up
     L.sightOk 1 ⟨0, true⟩ = true ∧ L.twin.follow = true ∧ ((up.cutStreams 5).intake.cutTick = 5) ∧ up.intake.cutTick = 0) ∧
    (let L := (up.setFld .TWN_STAT 31 29 2).setFlag .TWN_STAT 28 false
     L.sightOk 3 ⟨0, true⟩ = true ∧ L.copying = true ∧ L.pstate = psCopy ∧ L.sightOk 2 ⟨9, true⟩ = true) := by decide

/-- Lanes for each clause of TwinDigestAndDivergence. -/
theorem witness_TwinDigestAndDivergence :
    (replica up).inService = true ∧ (replica up).level < 3 ∧ (replica up).paired = true ∧
    (replica up).sightOk 0 ⟨0, true⟩ = true ∧ (replica up).pstate = psReplica ∧
    ((replica up).setFlag .TWN_STAT 28 true).holdsActive = true ∧ ((replica up).setFlag .TWN_STAT 28 false).holdsActive = false ∧
    (replica up).faultLatched = false ∧ (replica up).twin.check = false ∧ (replica up).twin.subst = none ∧
    ((replica up).setFlag .TWN_STAT 28 false).role = false ∧ (((replica up).setFlag .ILU_STAT 30 true).setFlag .TWN_STAT 28 true).role = true ∧
    ((replica up).setFlag .ILU_STAT 30 true).faultLatched = true ∧
    (let L := (replica up).setTwin { up.twin with mine := some (0, 1), peer := some (0, 2), check := true }
     L.twin.mine = some (0, 1) ∧ L.twin.peer = some (0, 2) ∧ L.pstate = psReplica ∧ L.twin.check = true) := by decide

/-- Lanes for each clause of TakeoverAndLoss. -/
theorem witness_TakeoverAndLoss :
    (replica up).flag .TWN_STAT 27 = true ∧ (replica up).twin.peer = none ∧
    (let L := ((replica up).setFlag .TWN_STAT 28 false).setTwin { up.twin with loss := some 0 }
     let K := L.setReg .LCT_TICK_NUM_LO 2
     K.twin.loss = some 0 ∧ 0 + 2 ≤ K.tick ∧ K.inService = true ∧ K.role = false) ∧
    (up.setPs psDetached).pstate = psDetached ∧ (up.setPs psDetached).witnessOk = false ∧
    (let L := (up.setPs psAwait).setReg .LCT_TICK_NUM_LO 24000; L.pstate = psAwait ∧ 24000 ≤ L.tick - L.twin.svcAt ∧ L.witnessOk = false) ∧
    (let L := (feeding up).setFlag .TWN_STAT 27 true
     L.flag .TWN_STAT 27 = true ∧ L.pstate ≠ psPairing ∧ L.paired = true ∧ L.holdsActive = true) ∧
    (let L := (replica up).setFlag .TWN_STAT 28 false
     L.flag .TWN_STAT 27 = true ∧ L.pstate ≠ psPairing ∧ L.paired = true ∧ L.holdsActive = false ∧ L.twin.loss = none) ∧
    (let L := (up.setFlag .TWN_STAT 27 true).setPs psPairing; L.flag .TWN_STAT 27 = true ∧ L.pstate = psPairing) := by decide

/-- Lanes and facts for each clause of PairingAndTransfer. -/
theorem witness_PairingAndTransfer :
    (let L := (up.setFlag .TWN_CFG 31 true).setFlag .TWN_STAT 27 true
     L.flag .TWN_CFG 31 = true ∧ L.flag .TWN_STAT 27 = true ∧ L.inService = true ∧ L.level < 2 ∧ L.pstate = psAlone ∧
     L.pairReason ⟨true, 0, true, true, L.img.gen, 0, List.replicate 16 1000⟩ = 0 ∧
     L.pairReason ⟨true, 0, true, true, L.img.gen, 0, List.replicate 16 1001⟩ = 6) ∧
    (up.setPs psPairing).pstate = psPairing ∧ (up.setPs psCopy).pstate = psCopy ∧ rangesLen up.twin.dirty ≤ 36 ∧
    (let L := (up.setPs psCopy).setReg .LCT_TICK_NUM_LO 1152000; L.pstate = psCopy ∧ 1152000 ≤ L.tick - L.twin.copyAt) ∧
    (let L := (following up).setReg .LCT_TICK_NUM_LO 9
     L.twin.follow = true ∧ L.twin.subst ≠ some L.tick ∧ L.intake.cutTick ≠ L.tick ∧ L.twin.marker = none) := by decide

/-- Lanes for each clause of CommandsInThePair. -/
theorem witness_CommandsInThePair :
    (let L := (replica up).setFlag .TWN_STAT 28 false
     L.sightOk 2 ⟨0, true⟩ = true ∧ L.paired = true ∧ L.role = false ∧ L.pstate = psReplica) ∧
    (let L := (replica up).setFlag .TWN_STAT 28 true
     L.sightOk 0 ⟨0, true⟩ = true ∧ L.pstate = psReplica ∧ L.paired = true ∧ L.role = true ∧ L.pend = []) ∧
    (let L := ((replica up).setTwin { up.twin with turn := some 0 }).setReg .LCT_TICK_NUM_LO 1
     L.twin.turn = some 0 ∧ 0 < L.tick ∧ L.pstate = psReplica) ∧
    (let L := (((replica up).setFlag .TWN_STAT 28 false).setFlag .TWN_CFG 30 true).setFlag .TWN_CFG 29 true
     let K := L.setReg .TWN_REQUAL 0
     K.flag .TWN_CFG 30 = true ∧ K.flag .TWN_CFG 29 = true ∧ K.fld .TWN_REQUAL 22 0 ≤ K.fld .TWN_STAT 22 0 ∧ K.tick + 64 ≤ 64 ∧ K.pend = []) ∧
    (let L := ((replica up).setFlag .TWN_STAT 28 false).setFld .TWN_PROOF_CFG 31 21 1
     L.inService = true ∧ L.paired = true ∧ L.fld .TWN_PROOF_CFG 31 21 ≠ 0 ∧ nextProof (2 ^ 23) 23 = some 23 ∧
     L.twin.proofAt + (L.setFld .TWN_PROOF_CFG 20 0 0).fld .TWN_PROOF_CFG 20 0 ≤ L.tick) ∧
    (let L : Lane := { up with datum := { up.datum with twinRun := 96 } }; 96 ≤ L.datum.twinRun ∧ L.flag .DTM_STAT 23 = false) := by
  decide

/-- Lanes and messages for each clause of DatumHearsMessages. -/
theorem witness_DatumHearsMessages :
    up.ptpTakes ptpM = false ∧
    (ptpUp.ptpTakes ptpM = true ∧ ptpUp.slaveCapable 3 = true ∧ ptpUp.ptpMode 3 ≠ 4 ∧ ptpUp.dstate = 0 ∧ (ptpUp.cand 3).heard = false) ∧
    (let L := ptpUp.setPtpPort 3 { PtpPort.fresh with syncSeq := some (65535, 1, 2), reqSeq := some (65535, 0), resp := some (4, 2, 0) }
     L.ptpTakes ptpM = true ∧ (L.ptpPort 3).syncSeq = some (65535, 1, 2) ∧ (L.ptpPort 3).resid = none ∧
     (((L.bump .DTM_PORT_RXCNT 3).convert 0).2.ptpPort 3).reqSeq = some (65535, 0) ∧ (L.ptpPort 3).resp = some (4, 2, 0)) ∧
    (let L := ptpUp.setCand 3 { Cand.fresh with heard := true, src := ptpM.src }
     L.ptpTakes ptpM = true ∧ (L.cand 3).heard = true ∧ (L.cand 3).src = ptpM.src ∧
     bestForeign ⟨ptpM.src, Cand.fresh.ds, 0⟩ (L.foreignWith ptpM Cand.fresh.ds 0) = ⟨ptpM.src, Cand.fresh.ds, 0⟩ ∧
     (L.cand 3).lastNs + L.annInterval 3 / 2 ≤ 500000000 ∧ L.dstate ≠ dSwitching ∧ L.datum.ref ≠ some 3) ∧
    (let L := up.setFlag .DTM_CFG 31 true
     let K : Lane := { L with datum := { L.datum with ppsPrev := some 0 } }
     L.inService = true ∧ L.flag .DTM_CFG 31 = true ∧ L.datum.ppsPrev = none ∧ K.flag .DTM_CFG 31 = true ∧
     K.datum.ppsPrev = some 0 ∧ (K.convert 0).1 - (K.fld .DTM_PPS_DLY 19 0 : Int) * 65536 = 0) := by decide

/-- Lanes for each clause of DatumSendsMessages. -/
theorem witness_DatumSendsMessages :
    ((ptpUp.setFld .DTM_STAT 31 29 1).setFld .DTM_PORT_CFG 31 29 2 3).masterPort 3 = true ∧
    (ptpUp.ptpOn = true ∧ ptpUp.ptpMode 3 ≠ 0) ∧
    (let L := ptpUp.setFld .DTM_STAT 31 29 3
     let K := L.setPtpPort 3 { L.ptpPort 3 with stop := true }
     L.dstate = dHoldover ∧ (L.setFld .DTM_SLEW 3 0 0).fld .DTM_SLEW 3 0 ≤ (L.ptpPort 3).hold ∧ K.dstate = dHoldover ∧
     (K.ptpPort 3).stop = true) ∧
    (let s := withA ptpUp; (∀ f, f < 64 → s.host.hasFn f = true → (s.host.fn f).ring 2 ≠ rRun) ∧ ptpUp.tick % 96000 ≤ 9) ∧
    (ptpUp.setReg .LCT_TICK_NUM_LO 10).tick % 96000 = 10 ∧
    hostUpS.hostUp = true ∧ hostUpS.quiet.timeLane = none ∧ hostUpS.host.clock ≤ 0 := by decide

/-- Lanes for each clause of DatumChangesState. -/
theorem witness_DatumChangesState :
    (∀ k, k < 5 → (up.cand k).heard = false) ∧
    (let L := (ptpUp.setFld .DTM_STAT 31 29 1).setCand 3 { Cand.fresh with heard := true }
     let K : Lane := { L with datum := { L.datum with ref := some 3 } }
     K.dstate = dLocked ∧ K.refLost 0 = false ∧ K.refLost 10000000001 = true) ∧
    (let L := ((ptpUp.setFld .DTM_STAT 31 29 1).setCand 0 { Cand.fresh with heard := true, count := 16 })
     let K : Lane := { L with datum := { L.datum with ref := some 3 } }
     let J := K.setFld .DTM_CFG 15 8 16
     (J.cand 0).qual = false ∧ J.candNeed 0 ≤ (J.cand 0).count ∧ J.dstate = dLocked ∧
     J.outranks 0 (J.cand 0) 3 (J.refCand 3) = true) ∧
    (let L := ptpUp.setFld .DTM_STAT 31 29 2
     let K : Lane := { L with datum := { L.datum with ref := some 3, settle := 16 } }
     let J : Lane := { L with datum := { L.datum with ref := some 3, settle := 15 } }
     K.dstate = dSwitching ∧ K.datum.ref = some 3 ∧ K.datum.settle = 16 ∧ J.datum.beyond = [] ∧ J.refLost 60000000000 = false ∧ J.datum.swNs = 0) ∧
    (let L := ptpUp.setFld .DTM_STAT 31 29 5
     let K : Lane := { L with datum := { L.datum with beyond := [1001, 1002, 1001] } }
     let J : Lane := { L with datum := { L.datum with slew := some ⟨5, 1, 0, 2, 0, 0⟩ } }
     K.dstate = dSlewing ∧ K.datum.beyond = [1001, 1002, 1001] ∧ J.datum.slew = some ⟨5, 1, 0, 2, 0, 0⟩ ∧ Slew.done ⟨5, 1, 0, 2, 0, 0⟩ = true) ∧
    up.dstate = dUnset ∧ (up.setFld .PWR_STAT 31 28 7).phase = 7 ∧ (up.setFld .PWR_STAT 31 28 7).dstate = dUnset ∧
    State.reset.host.tod = none := by decide

/-- A command that a state lets through to lane A, with its tick and its arguments right. -/
abbrev Taken (s : State) (h : CmdHead) (c : HostCmd) : Prop :=
  let a := if h.apply = 0 then (s.lane .a).tick + leadTicks c else h.apply
  s.LetsThrough h c .a a ∧ (changesLane c = false ∨ (s.lane .a).standsBy = false) ∧ (s.lane .a).tickStatus c a = 0 ∧
  s.argStatus h.fn .a a c = 0

/-- Commands of each kind that a lane accepts: states of its parcels, a pending step, a pair in replica. -/
theorem witness_TimedCommandsWait_1 :
    cmdS.hostUp = true ∧ ∀ c ∈ [HostCmd.parcel 4 1 { goodImg with strands := goodImg.strands.map (fun x => { x with core := 6 }) } false true, .parcel 0 2 noImg false false, .parcel 1 3 noImg false false,
      .parcel 3 4 noImg true false, .parcel 0 5 noImg false false, .parcel 1 6 noImg false false, .parcel 2 7 noImg false false],
      Taken cmdS.quiet cmdH c := by decide

theorem witness_TimedCommandsWait_2 :
    ∀ c ∈ [HostCmd.setTarget 63 5, .forceBits 1 1, .hostFlags 0 0, .tlReset 65535, .iluCtrl 3 1, .iluCtrl 0 2, .iluCtrl 1 3,
      .timeAccept 0, .timeReject, .keyRoll [255], .keyDrop true [0], .migrate 2 6 0 0 noSaved 0, .setQuota 63 goodQuota],
      Taken cmdS.quiet cmdH c := by decide

theorem witness_TimedCommandsWait_3 :
    Taken cmdS.quiet cmdH (.migrate 1 1 1 15 noSaved 0) ∧
    (let s := cmdS.hcx (fun H => { H with migs := [⟨0, .a, 1, .b, 0, 0, false, false, none, 0, none, false, false, false⟩] })
     Taken s.quiet cmdH (.migrate 1 2 1 0 noSaved 0) ∧ Taken s.quiet cmdH (.migrate 1 3 0 0 noSaved 0)) ∧
    Taken cmdS.quiet cmdH (.migrate 0 5 0 4 { goodSaved with img := { goodImg with strands := goodImg.strands.map (fun x => { x with core := 6 }) } } 0) := by decide

theorem witness_TimedCommandsWait_4 :
    Taken (cmdS.mapLane .a (fun L => (L.setFlag .TWN_STAT 28 true).setPs psReplica)).quiet cmdH .twinSwap ∧
    ((cmdS.mapLane .a (fun L => (L.setFlag .TWN_STAT 28 false).setPs psReplica)).quiet.lane .a).standsBy = true ∧
    (cmdS.lane .a).tickStatus (.iluCtrl 0 1) ((cmdS.lane .a).tick + 31) = 1 ∧
    (cmdS.lane .a).tickStatus (.iluCtrl 0 1) ((cmdS.lane .a).tick + 16777216) = 2 ∧
    cmdS.argStatus 0 .a 32 (.iluCtrl 4 1) = 0x000D := by decide

theorem witness_TimedCommandsWait_5 :
    Taken cmdS.quiet cmdH (.loadImage ⟨{ (cmdS.lane .a).img with gen := 7 }, true, true, 0⟩) := by decide +kernel

theorem witness_TimedCommandsWait_6 : Taken cmdS.quiet cmdH (.writeSlot 4095 blankDesc) := by decide +kernel

theorem witness_TimedCommandsWait_7 : cmdS.argStatus 0 .a 32 (.writeSlot 4095 (blankDesc.set 0 1)) = 0x000E := by decide +kernel

/-- Lanes for each clause of TraverseRunsItsEdges. -/
theorem witness_TraverseRunsItsEdges :
    up.datum.maps = [] ∧
    (let s := edgeS []; let s1 := s.quiet.mapLane .a Lane.edgeClock; let s2 := s1.mapLane .a (Lane.edgeLevel (s1.othersDown .a))
     (s.now .a).datum.maps ≠ [] ∧ (s2.lane .a).pend = [] ∧ (s2.lane .a).frozen = false) ∧
    (let s := edgeS [⟨⟨0, 7, 7, 1, none, false⟩, .setTarget 0 0, false, false, false, false⟩]
     let s1 := s.quiet.mapLane .a Lane.edgeClock; let s2 := s1.mapLane .a (Lane.edgeLevel (s1.othersDown .a))
     (s2.lane .a).pend.length = 1 ∧ (s2.lane .a).tick = 1 ∧ (s2.lane .a).frozen = false) ∧
    (let s := edgeS [⟨⟨0, 7, 7, 1, none, false⟩, .parcel 0 3 goodImg false false, false, false, false, false⟩]
     let s1 := s.quiet.mapLane .a Lane.edgeClock; let s2 := s1.mapLane .a (Lane.edgeLevel (s1.othersDown .a))
     (s2.lane .a).pend.length = 1 ∧ (s2.lane .a).tick = 1 ∧ (s2.lane .a).frozen = false ∧ (s2.lane .a).pState 0 ∉ pclFrom 3) := by
  decide +kernel

theorem witness_TraverseRunsItsEdges_2 :
    up.inService = true ∧ up.level < 3 ∧ up.missed 0 ≠ 0 ∧
    ({ up with trav := { up.trav with done := 0xFFFF } } : Lane).missed 0 = 0 ∧
    (let L := (up.setFld .LCT_TRAV_STAT 27 26 3).setFld .PWR_STAT 31 28 0xA
     let K := L.setFlag .PWR_PD 0 true
     K.phase = 0xA ∧ K.level = 3 ∧ K.flag .PWR_PD 0 = true ∧ K.trav.resets = [] ∧ K.trav.held = false ∧
     ([1, 2].filter (fun t => decide ((600000000000 : Int) - t < 600 * secNs))).length = 2) ∧
    (let L : Lane := { up with reload := some true, copies := ⟨[(15, (goodImg, true))]⟩ }
     L.reload = some true ∧ L.copies = ⟨[(15, (goodImg, true))]⟩ ∧ L.pState 15 = pUnloaded ∧ L.level < 2) ∧
    (let m : Mig := ⟨0, .a, 1, .b, 0, 0, false, false, none, 0, none, false, false, false⟩
     (cmdS.hcx (fun H => { H with migs := [m] })).host.migOf .a 1 = some m ∧ m.ready = false ∧ (cmdS.lane .a).migLeft 1 = 0) ∧
    cmdS.host.migs = [] ∧ State.reset.power.mstate ≠ .parked ∧
    ({ up with trav := { up.trav with parkReq := true } } : Lane).trav.parkReq = true ∧ up.trav.parkReq = false ∧
    pUnloaded ∈ pclFrom 1 ∧ pclNeedsCores 1 = true := by decide

/-- Commands that a state lets through to lane A, for each clause of LaneCommandsAct. -/
theorem witness_LaneCommandsAct :
    cmdS.hostUp = true ∧ (∀ c ∈ [HostCmd.readSlot 4095, .readSlot 4096, .migrate 2 4 0 0 noSaved 0, .migrate 15 4 0 0 noSaved 0, .arcTrigger 0,
      .arcTrigger 65536, .keyPrepare, .fbRead 0 4096, .fbFlush, .clearGen, .clearSafe, .activate, .raiseSvn],
      cmdS.quiet.LetsThrough cmdH c .a (cmdS.now .a).tick) ∧
    (cmdS.now .a).pState 2 = pFrozen ∧ (cmdS.now .a).pState 15 ≠ pFrozen ∧ (cmdS.now .a).inService = true ∧
    (cmdS.now .a).nextMeas = none ∧ (cmdS.now .a).flash.staged = none ∧ (cmdS.now .a).flash.job = none ∧
    (let s := cmdS.mapLane .a (fun L => L.setFld .PWR_STAT 31 28 9)
     s.hostUp = true ∧ s.quiet.LetsThrough cmdH .clearSafe .a (s.now .a).tick ∧ (s.now .a).inService = false) := by decide

theorem witness_LaneCommandsAct_2 :
    (let s := cmdS.mapLane .a (fun L => { L with keys := { L.keys with test := false, owner := some 1, nonce := some 0 }, flash :=
        { L.flash with run := some 0, bank0 := okHdr, bank1 := okHdr, running := okHdr, staged := some 1 } })
     let k : KeyPkg := { slot := 255, next := true, keyId := 1, alg := 1, key := 5, nextImg := false, sigOk := true, wrapOk := true }
     s.hostUp = true ∧ s.quiet.LetsThrough cmdH (.keyPut k) .a (s.now .a).tick ∧ (s.now .a).keys.lifecycle = 3 ∧
     (s.now .a).keys.owner.isSome = true ∧ (s.now .a).nextMeas = some okHdr.digest ∧ (s.now .a).flash.staged = some 1 ∧
     ((s.now .a).flash.raiseSvn 2).isSome = true ∧ (cmdS.now .a).flash.raiseSvn 2 = none) ∧
    (let F := (cmdS.now .a).flash
     cmdS.quiet.LetsThrough cmdH (.stage okHdr none) .a (cmdS.now .a).tick ∧ F.fuseSvn ≤ okHdr.svn ∧
     cmdS.quiet.stageWindows true okHdr = true ∧ cmdS.quiet.stageWindows true { okHdr with pmax := 6 } = false ∧
     ({ F with fuseSvn := 6 } : Flash).fuseSvn > okHdr.svn ∧
     ({ F with job := some ⟨⟨0, 8, 0x13, 0, none, false⟩, 1, 0, okHdr, false, false⟩ } : Flash).job.isSome = true) := by decide

/-- A module that takes commands of LANE 4, its keys in a lifecycle state, parked or not, for HostCommandsAct. -/
theorem witness_HostCommandsAct :
    hostUpS.hostUp = true ∧ (∀ c ∈ [HostCmd.nop, .setTod 0, .own 1 true, .keyRelease, .enterService, .leaveService, .retire, .fnReset 63,
      .fnReset 64, .fbFlush, .clearSafe, .arcAttach okAtt, .arcDetach, .arcFormat okAtt, .arcRead 0 1, .arcWrite 0 [], .arcAlloc, .arcClose 2,
      .arcPin 2, .arcUnpin 2, .arcFree 2, .arcList 0 1], hostUpS.quiet.TakesHost cmdH4 c) ∧
    hostUpS.quiet.parked = false ∧ hostUpS.host.hasFn 63 = false ∧ hostUpS.host.hasFn 0 = true ∧
    hostUpS.host.arcState = aDetached ∧ hostUpS.host.arc.attach = none ∧ attachOk okAtt = true ∧ attachOk { okAtt with lbs := 10 } = false := by
  decide

theorem witness_HostCommandsAct_2 :
    let park := fun (K : KeyStore) => ({ hostUpS with power := { hostUpS.power with mstate := .parked }, host := { hostUpS.host with keys := K } } : State)
    let K : KeyStore := { KeyStore.fresh with root := true, test := false }
    (park K).parked = true ∧ (park K).hostUp = true ∧ K.lifecycle = 1 ∧ ({ K with owner := some 1 } : KeyStore).lifecycle = 2 ∧
    ({ K with owner := some 1, nonce := some 0 } : KeyStore).lifecycle = 3 := by decide

theorem witness_HostCommandsAct_3 :
    let H := arcS.host
    arcS.hostUp = true ∧ (∀ c ∈ [HostCmd.arcRead 0 1, .arcAlloc, .arcClose 2, .arcPin 3, .arcUnpin 4, .arcFree 2, .arcList 9 1],
      arcS.quiet.TakesHost cmdH4 c) ∧ H.arcState = aAttached ∧ H.extents = 10 ∧
    H.accessStatus 0 0 1 false = 0 ∧ H.accessStatus 0 0 0 false = 0x000D ∧ H.accessStatus 0 (2 * 2 ^ 20) 4096 true = 0 ∧
    (H.allocExtent 0 4 0).2 = some 5 ∧
    (({ H with arc := { H.arc with cat := ⟨[2, 3, 4, 5, 6, 7, 8, 9].map (fun k => (k, ⟨1, ePinned, 0, 4, false, 0, 0⟩))⟩ } } : Hcx).allocExtent 0 4 0).2 = none ∧
    H.ownsExtent 0 2 = true ∧ (H.arc.cat.get? 2).map (·.state) = some eOpen ∧ (H.arc.cat.get? 3).map (·.state) = some eClosed ∧
    (H.arc.cat.get? 4).map (·.state) = some ePinned ∧ H.arc.writing = [] := by decide

/-- A module whose function 0 has its command and completion rings in RUN, for RingsCarryCommands. -/
theorem witness_RingsCarryCommands :
    let F := ringS.host.fn 0
    ringS.hostUp = true ∧ ringS.host.hasFn 0 = true ∧ ringS.host.hasFn 1 = false ∧ F.ring 0 = rRun ∧ F.ring 1 = rRun ∧ F.ring 10 = rOff ∧
    F.fstate = 1 ∧ F.fill 0 = 1 ∧ F.size 0 = 64 ∧ F.size 1 = 64 ∧ F.takes 1 = true ∧
    idxSub 64 (F.cons 0) = 64 ∧ idxSub 65 (F.cons 0) = 65 ∧ idxSub (F.prod 1) 0 ≤ F.size 1 ∧ idxSub 0 (F.cons 1) ≤ F.fill 1 ∧
    ringS.quiet.host.mayFetch 0 0 = true ∧ F.cmdOut < F.size 0 ∧
    ((F.ring 1 == rRun || F.ring 1 == rDrain) && decide (F.cmdOut + F.fill 1 < F.size 1)) = true ∧
    ((F.setFld .FN_RING_IDX 31 16 64 1).fill 1 = 64) ∧
    (let v : Word := w32 (2 ^ 31 + 6 * 2 ^ 24)
     bit v 31 = true ∧ ringS.host.ringCheck 0 10 (F.setReg .FN_RING_CFG v 10) = 0 ∧
     ringS.host.ringCheck 0 10 (F.setReg .FN_RING_CFG (w32 (2 ^ 31)) 10) = 2) ∧
    ((F.setRing 10 rDrain).ring 10 = rDrain ∧ (F.setRing 10 rDrain).flight 10 = 0 ∧ ((F.setRing 10 rDrain).setFlight 10 1).flight 10 = 1) ∧
    F.epoch = 0 ∧ ringS.fenced .a = false ∧
    (let d : CmdDesc := ⟨List.replicate 64 0#8, .none⟩
     d.cmd = some .nop ∧ d.headOk = true ∧ (⟨255#8 :: List.replicate 63 0#8, .none⟩ : CmdDesc).cmd = none) := by decide

/-- A module whose function 0 has a transmit ring in RUN, for RingsCarryFramesAndEvents. -/
theorem witness_RingsCarryFramesAndEvents :
    let s := ringS.mapFn 0 (fun F => ((F.setRing 10 rRun).setFld .FN_RING_CFG 27 24 6 10).setFld .FN_RING_IDX 31 16 1 10)
    let F := s.host.fn 0
    s.hostUp = true ∧ s.quiet.host.mayFetch 0 10 = true ∧ F.ringLane 10 = .a ∧ F.ring 10 = rRun ∧ s.fenced .a = false ∧
    txExpress (s.lane .a).burstEtype swF = false ∧ txExpress (s.lane .a).burstEtype { swF with etype := 0x88BA } = true ∧
    (s.now .a).takeIn = none ∧ (s.now .a).net.txDone.find? (fun x => x.fn == 0) = none ∧
    ({ F with tx := F.tx.put 10 [(0, true, .a)] } : Fn).tx.getD 10 [] = [(0, true, .a)] ∧
    (∀ z ∈ LaneId.all, (s.now z).datum.beacons.get? 0 = none) ∧ F.beacon = none ∧ F.lost = 0 ∧
    (({ F with lost := 1 } : Fn).setRing 2 rRun).takes 2 = true ∧
    (⟨List.replicate 8 0#8 ++ [60#8] ++ List.replicate 55 0#8, swF⟩ : TxDesc).good = true ∧
    (⟨List.replicate 8 0#8 ++ [59#8] ++ List.replicate 55 0#8, swF⟩ : TxDesc).good = false ∧
    F.msgDue 10 0 = false ∧ (F.owe 10 0).msgDue 10 0 = true ∧ F.unmask.testBit 63 = false ∧ F.flag .FN_PBA 31 1 = false ∧
    (F.setFlag .FN_PBA 31 true 1).flag .FN_PBA 31 1 = true := by decide

theorem witness_RingsCarryFramesAndEvents_2 :
    let L : Lane := { swUp with net := { swUp.net with bufs := swUp.net.bufs.put 0 qBuf, queues := swUp.net.queues.put (qIdx 4 7) [qIt] } }
    L.takeIn.isSome = true ∧ hostUpS.quiet.host.rxRing .a L.mac swF = none ∧
    (let s := ringS.mapFn 0 (fun F => ((F.setRing 3 rRun).setReg .FN_RING_FILT (w32 (2 ^ 31 + 15 * 2 ^ 27 + 0x800)) 3).setFld .FN_RING_CFG 27 24 6 3)
     s.quiet.host.rxRing .a L.mac swF = some (0, 3) ∧ (s.host.fn 0).fill 3 = 0 ∧ ((s.host.fn 0).setFld .FN_RING_IDX 31 16 1 3).fill 3 = 1) := by decide

/-- Addresses for each clause of RegistersFollowTheirAccess. -/
theorem witness_RegistersFollowTheirAccess :
    hostUpS.hostUp = true ∧ regRef 0 0x20000 = none ∧ barAt 0 0x20000 = none ∧
    (barAt 0 0x1000000).map (·.1) = some (.lane .a) ∧ hostUpS.quiet.windowDark .a = true ∧
    (let s : State := { hostUpS with lanes := hostUpS.lanes.set .a (up.setReg .PWR_PD 0xFFFFF#32) }
     s.quiet.windowDark .a = false ∧ s.quiet.latchOf (.lane .a) = ⟨[]⟩ ∧ Reg.PWR_STAT.latches = [] ∧
     (regRef 0 (0x1000000 + 0x10000)).isSome = true) ∧
    Reg.HCX_FENCE_LO.latches = [.HCX_FENCE_HI] ∧ isDoorbell 0 0x1000000 = false ∧
    hostUpS.host.latch.get? (Reg.HCX_FENCE_LO.key 0 0) = none := by decide +kernel

/-- States for each clause of HostResetsAndLinks. -/
theorem witness_HostResetsAndLinks :
    hostUpS.hostUp = true ∧ hostUpS.host.hasFn 0 = true ∧ hostUpS.host.hasFn 1 = false ∧ (hostUpS.host.fn 0).fstate ≠ 3 ∧
    ((hostUpS.resetFn 0).host.fn 0).fstate = 3 ∧ hostUpS.endpointUp = true ∧ (State.reset.coldTo .off).endpointUp = false ∧ hostUpS.fenced .d = false ∧
    (hostUpS.hcx (fun H => H.setFlag .HCX_LANE_LINK 3 true)).fenced .d = true ∧ hostUpS.hostOn = true ∧
    (State.reset.coldTo .off).hostOn = false := by decide

/-- States for each clause of RecordsAndBooksAreKept. -/
theorem witness_RecordsAndBooksAreKept :
    let r : OutRec := { d := 0, id := 5, bytes := [1], host := true, net := none }
    let L : Lane := { up with acq := { up.acq with out := [r] } }
    up.acq.caps.any (fun x => x.d == 0 && x.ended) = false ∧ L.outFill < 67108864 ∧
    (L.acq.out.find? (fun r => r.net.isSome) = none) ∧
    (({ L with acq := { L.acq with out := [{ r with net := some 0 }] } } : Lane).acq.out.find? (fun r => r.net.isSome)).isSome = true ∧
    arcS.hostUp = true ∧ arcS.quiet.host.arcState = aAttached ∧ arcS.quiet.host.arc.dirty.contains 0 = false ∧
    (arcS.host.arc.touch 0).dirty.contains 0 = true ∧ arcS.quiet.host.arc.recover = none ∧
    arcS.quiet.host.arc.out.get? 0 = none ∧ up.phase = 8 ∧ (Lane.fresh 0).phase < 7 ∧
    hostUpS.quiet.hDomains.testBit 7 = true ∧ State.reset.quiet.hDomains.testBit 7 = false ∧ up.flush = [] ∧
    (arcS.hcx (fun H => H.setReg .HCX_PCIE_STAT 0x14000000)).quiet.host.linkUp = true ∧ up.net.inOff.testBit 3 = false := by decide

theorem witness_RecordsAndBooksAreKept_2 :
    let x : Capture := { d := 0, t := 0, first := 0, last := 0, trigs := [], trunc := false, read := 0, ended := true, list := [], chans := [], events := [],
                         todo := [], role := false, synced := false, dtm := 0, gm := 0, arch := true, net := false, wait := 0 }
    let L : Lane := { up with acq := { up.acq with caps := [x] } }
    L.acq.caps.any (fun x => x.d == 0 && x.ended) = true := by decide

/-- Safety lanes for each clause of SafetyLaneJudgesItsInputs. -/
theorem witness_SafetyLaneJudgesItsInputs :
    State.reset.safetyOn = false ∧ safS.safetyOn = true ∧ State.reset.safety.seals = none ∧
    ({ Safety.fresh with seals := some 0x100 } : Safety).cfgOk = true ∧ ({ Safety.fresh with seals := some 0 } : Safety).cfgOk = false ∧
    safS.safety.seals = some 0x100 ∧ safS.safety.st ≠ sSafe ∧ safS.safety.used 0 = true ∧ safS.safety.used 7 = false ∧
    (let x := safS.safety.setPair 0 { Pair.fresh with a := true, timer := some 10 }
     (x.pair 0).a = true ∧ Nat.testBit 1 0 = true ∧ (x.pair 0).fault = false ∧ (x.pair 0).timer = some 10 ∧ x.discMs = 10) := by decide

/-- Safety lanes for each clause of SafetyLaneActs. -/
theorem witness_SafetyLaneActs :
    let x := safS.safety
    let run : Safety := { x with st := sRun, cmd := 3, testMs := 100 }
    safS.safetyOn = true ∧ run.st = sRun ∧ run.cmd ≠ 0 ∧ run.testEvery ≤ run.testMs ∧ x.st ≠ sRun ∧ x.cmd = 0 ∧
    x.badCoil0 < 20 ∧ ({ x with badCoil1 := 20 } : Safety).badCoil1 = 20 ∧ x.ht = .idle ∧
    ({ x with ht := .window 999 } : Safety).request = false ∧ x.held = false ∧ x.sag = false ∧ x.seals.isSome = true ∧ x.cfgOk = true ∧
    ({ x with flash := { x.flash with run := some 0 } } : Safety).flash.run.isSome = true ∧
    safS.power.mstate ≠ .holdUp ∧ x.page = 0 ∧ safS.receiverOn = false ∧
    (safS.hcx (fun H => H.setFlag .HCX_PD_STAT 11 true)).receiverOn = true := by decide

/-- A page whose CRC-32 is right and one whose CRC-32 is not, for SafetyLaneActs. -/
theorem witness_SafetyLaneActs_2 :
    let p : ProgPage := ⟨List.replicate 256 0#8, 0⟩
    pageCrcOk { p with crc := crc32 (leBytes 4 0 ++ p.octets) } 0 = true ∧ pageCrcOk ⟨[], 0⟩ 0 = false ∧
    0 + 256 < 4096 + (fwRead p.octets okHdr).len := by decide +kernel

/-- States for each clause of StartRunsItsStages. -/
theorem witness_StartRunsItsStages :
    let off := State.reset.coldTo .off
    off.power.mstate = .off ∧ off.anyService = false ∧ (State.reset.hcx (fun H => H.setFld .HCX_PD_STAT 15 12 15)).anyService = true ∧ State.reset.power.mstate = .starting ∧ State.reset.stage_ = 0 ∧ (State.reset.setStage 2).stage_ = 2 ∧
    State.reset.host.flag .HCX_PWR_STAT 26 = false ∧ State.reset.host.flag .HCX_PWR_STAT 25 = false ∧
    (State.reset.hcx (fun H => H.setReg .HCX_PWR_CAP 800)).host.fld .HCX_PWR_CAP 15 0 = 800 ∧
    (let s := ((hostUpS.setStage 3).pwr (fun P => { P with hcxUp := false })).hcx (fun H => { H with flash := { H.flash with run := some 0 } })
     s.stage_ = 3 ∧ s.power.hcxUp = false ∧ s.host.flag .HCX_PWR_STAT 24 = false ∧ s.host.flash.run.isSome = true ∧ s.hDomains = 0xFF) ∧
    (let s := hostUpS.hcx (fun H => H.setFlag .HCX_PWR_STAT 26 true)
     s.power.queue = [.a, .b, .c, .d] ∧ s.power.hcxUp = true ∧ s.host.flag .HCX_PWR_STAT 26 = true ∧ ∀ k ∈ LaneId.all, (s.now k).inStage = false) ∧
    (up.setPhase 2).phase = 2 ∧ (up.setPhase 3).phase = 3 ∧ logicResult (2 ^ 7) = 3 ∧ (up.setPhase 5).phase = 5 ∧ up.flash.imgSlot = none ∧
    (let L := (up.setPhase 7).setFld .DTM_STAT 31 29 3; L.phase = 7 ∧ L.dstate ≠ dUnset ∧ L.keys.lifecycle ≠ 4) := by decide

/-- States for each clause of PowerLossResetsAndParking. -/
theorem witness_PowerLossResetsAndParking :
    let m := fun (k : MState) => State.reset.pwr (fun P => { P with mstate := k })
    up.flag .PWR_PD 19 = true ∧ (up.setFlag .PWR_PD 19 false).flag .PWR_PD 19 = false ∧ (m .sleeping).power.mstate = .sleeping ∧
    (m .service).hostOn = true ∧ (m .parked).hostOn = true ∧ (m .holdUp).power.mstate = .holdUp ∧ (m .off).power.mstate = .off ∧
    bits (0x574D0001 : Word) 31 16 = 0x574D ∧ bit (0x574D0001 : Word) 0 = true ∧
    bits (0x4C520103 : Word) 31 16 = 0x4C52 ∧ LaneId.ofNum (bits (0x4C520103 : Word) 1 0) = some .d ∧ bit (0x4C520103 : Word) 8 = true ∧
    (let L := (replica up).setFlag .TWN_STAT 28 false; L.pstate = psReplica ∧ L.role = false) ∧
    ((m .service).hcx (fun H => H.setFlag .SFS_STAT 29 true)).sfsApplied = true ∧ (m .service).host.fld .SFS_STAT 31 30 ≠ 2 ∧
    (m .service).power.hot = none ∧ up.level < 3 ∧ (m .starting).resetting = true ∧ (m .starting).hostOn = true ∧
    (m .service).resetting = false := by decide

/-- Lanes for each clause of FirmwareAndKeys. -/
theorem witness_FirmwareAndKeys :
    (up.setPhase 4).phase = 4 ∧ ((up.flash.boot 2).1.run = none ∨ ((up.flash.boot 2).1.run).isSome = true) ∧
    ((({ up.flash with bank0 := okHdr } : Flash).boot 2).1.run).isSome = true ∧
    (let s := (hostUpS.pwr (fun P => { P with hcxUp := false })).setStage 2
     s.power.hcxUp = false ∧ s.hostOn = true ∧ s.stage_ = 2 ∧ s.host.flash.run = none) ∧
    safS.safetyOn = true ∧ safS.safety.st = sStart ∧ safS.safety.flash.run = none ∧
    up.inService = true ∧ up.level ≤ 1 ∧ (Lane.fresh 0).inService = false ∧ hostUpS.power.hcxUp = true ∧
    (let j : StageJob := ⟨⟨0, 8, 0x13, 0, none, false⟩, 1, 2, okHdr, true, false⟩
     let L : Lane := { up with flash := { up.flash with job := some j } }; L.flash.job = some j ∧ j.erasing = true ∧ j.susp = false) ∧
    ({ up with flash := { up.flash with slot0 := { up.flash.slot0 with applied := true } } } : Lane).flash.slot0.applied = true ∧
    up.flag .LCT_TIMG_STAT 31 = false ∧ up.flash.slot0.applied = false ∧
    State.reset.host.keys.lifecycle = 0 := by decide

/-- A tick of TickEdgesAreExact. -/
theorem witness_TickEdgesAreExact : (95999 : Nat) < 96000 := by decide

/-- Settings of PulsePairsKeepTheirOnTime. -/
theorem witness_PulsePairsKeepTheirOnTime : (0 : Int) ≤ 120000 ∧ (0 : Int) ≤ 2400 ∧ (0 : Int) ≤ 6000 := by decide

/-- A safety lane with a test waiting and a fault on pair 7 due, for SpeedPulsesOutsideATestWindow. -/
theorem witness_SpeedPulsesOutsideATestWindow :
    safS.safetyOn = true ∧ (∀ t ∈ [0, 1], safS.safety.ht ≠ .window t) ∧
    (let x : Safety := { safS.safety.setPair 7 { Pair.fresh with a := true, timer := some 500 } with ht := .waiting, seals := some 0x8000 }
     x.st ≠ sSafe ∧ (x.pair 7).fault = false ∧ (x.pair 7).a = true ∧ Nat.testBit 128 7 = true ∧ (x.pair 7).timer = some 500 ∧
     x.discMs ≤ 500 ∧ x.ht ≠ .idle ∧ x.used 7 = true) := by decide

end Sys2Proof.Tests
end

section
/-! PROOFS. The four statements on the scope of the model: every command answers, registers follow their access, resets
and links of the host complex, and power loss, resets and parking. First the laws of the operations they speak of, then
the statements. -/

namespace Sys2Proof.Machine

open Sys2Proof

/-! ### What a command reaches (R10, R14) -/

/-- A command that reaches one lane (R10, R14) replaces that lane and leaves the rest of the module as it was. -/
theorem exec_of_laneOf {c : Instr} {l : LaneId} (h : c.laneOf = some l) (s : State) : ∃ L, exec c s = .next (s.put l L) := by
  cases c <;> simp only [Instr.laneOf, Option.some.injEq, reduceCtorEq] at h <;> subst h <;> exact ⟨_, rfl⟩

/-- Any other command is one operation of the module, which leaves the queue alone. -/
theorem exec_of_laneOf_none {c : Instr} (h : c.laneOf = none) (s : State) :
    ∃ t, exec c s = .next t ∧ t.pending = s.pending := by
  cases c <;> simp only [Instr.laneOf, reduceCtorEq] at h <;> exact ⟨_, rfl, by simp [apply_ite State.pending]⟩

/-! ### Reads of registers (R7, R461, R462, R464) -/

/-- All four octets of a word are the word. -/
theorem wordOctets_all (w : Word) : wordOctets w 0 4 = w := by
  simp only [wordOctets, w32, Nat.mul_zero, Nat.shiftRight_zero]
  rw [Nat.mod_eq_of_lt w.isLt, BitVec.ofNat_toNat, BitVec.setWidth_eq]

/-- A read of one aligned word gives the host its value. -/
theorem State.readReg8_word {addr : Nat} (ha : addr % 4 = 0) (f raw : Nat) (s : State) :
    s.readReg8 f addr 4 raw =
      (s.readWord f addr raw).1.hcx (fun H => H.emit (.value (s.readWord f addr raw).2)) := by
  have hbase : addr / 4 * 4 = addr := by omega
  simp [State.readReg8, List.range_succ, hbase, wordOctets_all]

theorem execRegisterReadLo_word {s : State} (hup : s.hostUp = true) {addr : Nat} (ha : addr % 4 = 0) (f raw : Nat) :
    exec (.registerReadLo f addr 4 raw) s =
      .next ((s.quiet.readWord f addr raw).1.hcx (fun H => H.emit (.value (s.quiet.readWord f addr raw).2))) := by
  rw [execRegisterReadLo_eq, if_pos hup, State.readReg8_word ha]

/-- A register lies in the window that its address names. -/
theorem barAt_of_regRef {f addr : Nat} {x : RegRef} (h : regRef f addr = some x) :
    ∃ w o, barAt f addr = some (x.part, w, o) := by
  unfold regRef at h
  split at h
  · cases h
  · next hb =>
    obtain ⟨y, -, rfl⟩ := Option.map_eq_some_iff.1 h
    exact ⟨_, _, hb⟩

/-- A lane's window that is out of reach reads as all ones. -/
theorem State.readWord_dark {s : State} {f addr : Nat} {l : LaneId} {w : Win} {o : Nat} (hb : barAt f addr = some (.lane l, w, o))
    (hd : s.windowDark l = true) (raw : Nat) : s.readWord f addr raw = (s, 0xFFFFFFFF#32) := by
  simp [State.readWord, hb, hd]

/-- An address where no register lies reads as zero, in a lane's window while that is in reach. -/
theorem State.readWord_none {s : State} {f addr : Nat} (hr : regRef f addr = none)
    (hd : ∀ k w o, barAt f addr = some (.lane k, w, o) → s.windowDark k = false) (raw : Nat) :
    s.readWord f addr raw = (s, 0) := by
  unfold State.readWord
  split
  · next hb => simp [hd _ _ _ hb, hr]
  · simp [hr]

/-- A register of the host complex or of a lane's window in reach is read. -/
theorem State.readWord_reg {s : State} {f addr : Nat} {x : RegRef} (hr : regRef f addr = some x)
    (hd : ∀ k, x.part = .lane k → s.windowDark k = false) (raw : Nat) : s.readWord f addr raw = s.readReg raw x := by
  obtain ⟨w, o, hb⟩ := barAt_of_regRef hr
  unfold State.readWord
  rw [hb, hr]
  split
  · next k _ _ he =>
    simp only [Option.some.injEq, Prod.mk.injEq] at he
    simp [hd k he.1]
  · simp

/-- A latched value is given once. -/
theorem State.readReg_latched {s : State} {x : RegRef} {v : Word} (h : (s.latchOf x.part).get? (x.reg.key x.i x.j) = some v)
    (raw : Nat) : s.readReg raw x = (s.setLatch x.part ((s.latchOf x.part).del (x.reg.key x.i x.j)), v) := by
  simp [State.readReg, h]

/-- A register that latches nothing is read as it stands. -/
theorem State.readReg_plain {s : State} {x : RegRef} (h : (s.latchOf x.part).get? (x.reg.key x.i x.j) = none)
    (hl : x.reg.latches = []) (raw : Nat) : s.readReg raw x = (s, s.viewReg raw x) := by
  simp [State.readReg, h, hl]

/-- A register of a pair latches its other half. -/
theorem State.readReg_latches {s : State} {x : RegRef} {r : Reg} (h : (s.latchOf x.part).get? (x.reg.key x.i x.j) = none)
    (hl : x.reg.latches = [r]) (raw : Nat) :
    s.readReg raw x = (s.setLatch x.part ((s.latchOf x.part).put (r.key x.i x.j) (s.viewReg raw ⟨x.part, r, x.i, x.j⟩)),
      s.viewReg raw x) := by
  simp [State.readReg, h, hl]

/-! ### Writes of registers (R6, R7, R8, R297, R461, R462, R464) -/

/-- REGISTER_WRITE and REGISTER_WRITE_HI are one operation. -/
theorem exec_registerWrites {s : State} (hup : s.hostUp = true) {f addr width value : Nat} {now : Int} {c : Instr}
    (hc : c ∈ [Instr.registerWrite f addr width value now, .registerWriteHi f addr width value now]) :
    exec c s = .next (s.quiet.writeRegs f addr width value now) := by
  simp only [List.mem_cons, List.not_mem_nil, or_false] at hc
  rcases hc with rfl | rfl
  · rw [execRegisterWrite_eq, if_pos hup]
  · rw [execRegisterWriteHi_eq, if_pos hup]

/-- A write that is neither one aligned word nor two has no effect. -/
theorem State.writeRegs_misfit {f addr width : Nat} (hd : isDoorbell f addr = false) (h4 : width ≠ 4 ∨ addr % 4 ≠ 0)
    (h8 : width ≠ 8 ∨ addr % 8 ≠ 0) (value : Nat) (now : Int) (s : State) : s.writeRegs f addr width value now = s := by
  rw [State.writeRegs, if_neg (by simp [hd]), if_neg (by omega), if_neg (by omega)]

/-- A write of four octets to an aligned address writes that word. -/
theorem State.writeRegs_word {f addr : Nat} (hd : isDoorbell f addr = false) (ha : addr % 4 = 0) (value : Nat) (now : Int)
    (s : State) : s.writeRegs f addr 4 value now = s.writeWord f addr (w32 value) 4 now := by
  rw [State.writeRegs, if_neg (by simp [hd]), if_pos ⟨rfl, ha⟩]

theorem State.writeWord_none {f addr : Nat} (hr : regRef f addr = none) (v : Word) (width : Nat) (now : Int) (s : State) :
    s.writeWord f addr v width now = s := by simp [State.writeWord, hr]

/-- A write to a lane that is out of reach, or to a block whose domain is off, has no effect. -/
theorem State.writeWord_lane_off {s : State} {f addr : Nat} {l : LaneId} {r : Reg} {i j : Nat}
    (hr : regRef f addr = some ⟨.lane l, r, i, j⟩)
    (h : s.windowDark l = true ∨ (s.lane l).flag .PWR_PD (Reg.domain r.info.off) = false) (v : Word) (width : Nat) (now : Int) : s.writeWord f addr v width now = s := by
  rcases h with h | h <;> simp [State.writeWord, hr, h]

theorem State.writeWord_lane {s : State} {f addr : Nat} {l : LaneId} {r : Reg} {i j : Nat}
    (hr : regRef f addr = some ⟨.lane l, r, i, j⟩) (hw : s.windowDark l = false)
    (hp : (s.lane l).flag .PWR_PD (Reg.domain r.info.off) = true) (v : Word) (width : Nat) (now : Int) :
    s.writeWord f addr v width now = s.mapLane l (Lane.writeReg f r i j v now) := by
  simp [State.writeWord, hr, hw, hp]

theorem State.writeWord_page {s : State} {f addr g : Nat} {r : Reg} {i j : Nat} (hr : regRef f addr = some ⟨.page g, r, i, j⟩)
    (v : Word) (width : Nat) (now : Int) : s.writeWord f addr v width now = s.writeFn g r i j v width now := by
  simp [State.writeWord, hr]

/-- A write to a read-only lane register changes nothing. -/
theorem Lane.writeReg_ro {r : Reg} (h : r.info.acc = .ro) (h1 : r ≠ .TRM_BSP_LOCK) (h2 : r ≠ .SWM_WAKE_TX) (f i j : Nat) (v : Word)
    (now : Int) (L : Lane) : L.writeReg f r i j v now = L := by
  unfold Lane.writeReg
  split
  · exact absurd rfl h1
  · exact absurd rfl h2
  · simp [h]

/-- A write to a lane register that takes writes stores what its access type makes of the old value and the written one. -/
theorem Lane.writeReg_stores {r : Reg} (h : r.info.acc = .rw ∨ r.info.acc = .rws ∨ r.info.acc = .w1c) (h1 : r ≠ .TRM_BSP_LOCK)
    (h2 : r ≠ .SWM_WAKE_TX) (f i j : Nat) (v : Word) (now : Int) (L : Lane) :
    L.writeReg f r i j v now = L.setReg r (plainWrite r.info (L.reg r i j) v) i j := by
  unfold Lane.writeReg
  split
  · exact absurd rfl h1
  · exact absurd rfl h2
  · rcases h with h | h | h <;> simp [h]

/-- A ring that is OFF stages the low half of its base. -/
theorem State.writeBase_lo {s : State} {g r : Nat} (hoff : (s.host.fn g).ring r = rOff) (v : Word) :
    s.writeBase g r false v = s.mapFn g (fun F => { F with staged := F.staged.put (Reg.FN_RING_BASE_LO.key r 0) v }) := by
  simp [State.writeBase, hoff]

/-- A ring that is OFF takes its base with the high half, the low half as it was staged. -/
theorem State.writeBase_hi {s : State} {g r : Nat} {v : Word} (hoff : (s.host.fn g).ring r = rOff)
    (hst : (s.host.fn g).staged.get? (Reg.FN_RING_BASE_LO.key r 0) = some v) (w : Word) :
    s.writeBase g r true w = s.mapFn g (fun F =>
      (({ F with staged := F.staged.del (Reg.FN_RING_BASE_LO.key r 0) } : Fn).setReg .FN_RING_BASE_LO v r).setReg
        .FN_RING_BASE_HI w r) := by
  simp [State.writeBase, hoff, State.mapFn, State.hcx, hst]

theorem State.writeFn_base_lo {s : State} {g : Nat} (hg : s.host.hasFn g = true) (i : Nat) (v : Word) (width : Nat) (now : Int) :
    s.writeFn g .FN_RING_BASE_LO i 0 v width now = s.writeBase g i false v := by simp [State.writeFn, hg]

theorem State.writeFn_base_hi {s : State} {g : Nat} (hg : s.host.hasFn g = true) (i : Nat) (v : Word) (width : Nat) (now : Int) :
    s.writeFn g .FN_RING_BASE_HI i 0 v width now = s.writeBase g i true v := by simp [State.writeFn, hg]

/-! ### Folds, and the lanes behind a change of another part -/

/-- A fold of changes that each add one entry to a list adds them in order. -/
theorem foldl_adds {σ β γ : Type} (g : σ → List γ) (f : σ → β → σ) (e : β → γ)
    (h : ∀ s x, g (f s x) = g s ++ [e x]) (l : List β) (s : σ) : g (l.foldl f s) = g s ++ l.map e := by
  induction l generalizing s with
  | nil => simp
  | cons x t ih => simp [ih, h]

@[simp] theorem State.hcx_lane (s : State) (f : Hcx → Hcx) (k : LaneId) : (s.hcx f).lane k = s.lane k := (rfl)
@[simp] theorem State.pwr_lane (s : State) (f : Power → Power) (k : LaneId) : (s.pwr f).lane k = s.lane k := (rfl)
@[simp] theorem State.raiseHost_lane (s : State) (src code : Nat) (now : Int) (data : List Byte) (k : LaneId) :
    (s.raiseHost src code now data).lane k = s.lane k := (rfl)

@[simp] theorem State.quiet_hostOn (s : State) : s.quiet.hostOn = s.hostOn := (rfl)
@[simp] theorem State.quiet_endpointUp (s : State) : s.quiet.endpointUp = s.endpointUp := (rfl)

/-- Whether a lane is in service stands in its registers. -/
theorem Lane.inService_congr {L M : Lane} (h : L.regs = M.regs) : L.inService = M.inService := by
  simp [Lane.inService, Lane.fld, Lane.reg, h]

/-- The lane that times events of the host complex depends on which lanes are in service only. -/
theorem State.timeNum_congr {s t : State} (h : ∀ k, (t.lane k).inService = (s.lane k).inService) : t.timeNum = s.timeNum := by
  simp [State.timeNum, State.timeLane, h]

/-! ### Function resets (R295, R315, R316) -/

@[simp] theorem Fn.setFld_fld_self (F : Fn) (r : Reg) {hi lo : Nat} (h : lo ≤ hi) (hh : hi < 32) (v i : Nat) :
    (F.setFld r hi lo v i).fld r hi lo i = v % 2 ^ (hi + 1 - lo) := by
  simp [Fn.setFld, Fn.fld, bits_putBits_self _ h hh]

theorem Fn.setFld_fld_other (F : Fn) {r q : Reg} (h : q ≠ r) (hi lo v i hi' lo' k : Nat) :
    (F.setFld r hi lo v i).fld q hi' lo' k = F.fld q hi' lo' k := by
  simp [Fn.setFld, Fn.fld, Fn.setReg_reg_ne F (r := r) (q := q) (fun e => h e.1)]

/-- A function in RESETTING: at reset but for its state, its credits and the count of its resets (R315). -/
theorem State.resetFn_fn {s : State} {f : Nat} (h : s.host.hasFn f = true) : (s.resetFn f).host.fn f =
    (({ Fn.fresh with epoch := (s.host.fn f).epoch + 1 } : Fn).setFld .FN_STAT 31 30 3).setFld .FN_OUTST 16 0 (s.host.fn f).outst := by
  simp only [State.resetFn, h, Bool.not_true, Bool.false_eq_true, if_false]
  exact Hcx.setFn_fn_self ..

/-- A function reset leaves the registers of every lane as they are. -/
@[simp] theorem State.resetFn_lane_regs (s : State) (f : Nat) (k : LaneId) : ((s.resetFn f).lane k).regs = (s.lane k).regs := by
  unfold State.resetFn
  split
  · rfl
  · simp [State.lane]

@[simp] theorem State.resetAllFns_lane_regs (s : State) (k : LaneId) : (s.resetAllFns.lane k).regs = (s.lane k).regs :=
  foldl_keep (fun t : State => (t.lane k).regs) _ (fun t f => State.resetFn_lane_regs t f k) _ s

@[simp] theorem State.pcieDown_lane_regs (s : State) (now : Int) (k : LaneId) : ((s.pcieDown now).lane k).regs = (s.lane k).regs := by
  simp [State.pcieDown]

/-- What RESETTING shows of a function: its state, its rings, the count of its resets and no message owed. -/
theorem State.resetFn_shows {s : State} {f : Nat} (h : s.host.hasFn f = true) :
    ((s.resetFn f).host.fn f).fstate = 3 ∧ (∀ r, ((s.resetFn f).host.fn f).ring r = rOff) ∧
    ((s.resetFn f).host.fn f).epoch = (s.host.fn f).epoch + 1 ∧ ((s.resetFn f).host.fn f).owed = ⟨[]⟩ := by
  rw [State.resetFn_fn h]
  refine ⟨?_, fun r => ?_, by simp, by simp [Fn.fresh]⟩
  · rw [Fn.fstate, Fn.setFld_fld_other _ (by decide), Fn.setFld_fld_self _ _ (by decide) (by decide)]
    rfl
  · rw [Fn.ring, Fn.setFld_fld_other _ (by decide), Fn.setFld_fld_other _ (by decide)]
    show bits Reg.FN_RING_STAT.reset 31 30 = rOff
    decide

theorem State.resetFnDone_resetting {s : State} {f : Nat} (h : (s.host.fn f).fstate = 3) (now : Int) :
    s.resetFnDone f now = (s.mapFn f (fun F => (F.setFld .FN_STAT 31 30 1).setFld .FN_OUTST 16 0 0)).raiseHost
      4 0x02 now (leBytes 1 f) := by
  simp [State.resetFnDone, h]

theorem State.resetFnDone_other {s : State} {f : Nat} (h : (s.host.fn f).fstate ≠ 3) (now : Int) : s.resetFnDone f now = s := by
  simp [State.resetFnDone, h]

/-- After a write of NumVFs the functions up to that number exist, at most 64 of them (R295). -/
theorem State.vfEnable_hasFn (s : State) (n k : Nat) (hk : k < 64) : (s.vfEnable n).host.hasFn k = decide (k ≤ min n 63) := by
  show decide (k ≤ min n 63 ∧ k < 64) = _
  simp [hk]

/-! ### A lane link that is overdue (R12) -/

/-- A command that completes nothing more. -/
def CmdId.muted (i : CmdId) : CmdId := { i with quiet := true }

/-- A lane whose link is fenced: the completions it held are gone, and what waits completes nothing more. -/
def Lane.muted (L : Lane) : Lane :=
  { L with fin := [], pend := L.pend.map (fun x => { x with id := x.id.muted }),
           trip := { L.trip with jobs := L.trip.jobs.map (fun j => { j with id := j.id.muted }) },
           flush := L.flush.map (fun f => (f.1, f.2.map CmdId.muted)),
           flash := { L.flash with job := L.flash.job.map (fun j => { j with id := j.id.muted }) } }

/-- A migration of a lane's parcel whose switch has frozen its source. -/
def Mig.frozenOn (l : LaneId) (m : Mig) : Bool := m.src == l && m.froze

/-- The commands that a lane holds when its link is fenced, but for those that complete nothing. -/
def State.linkIds (s : State) (l : LaneId) : List CmdId :=
  let L := s.lane l
  (L.fin.map (·.id) ++ L.pend.map (·.id) ++ L.trip.jobs.map (·.id) ++ L.flush.filterMap (·.2) ++ (L.flash.job.map (·.id)).toList ++
    (s.host.migs.filter (Mig.frozenOn l)).filterMap (·.switch)).filter (fun i => !i.quiet)

/-- The module with a lane's link fenced and that lane's commands muted. -/
def State.linkCut (s : State) (l : LaneId) : State :=
  ((s.mapLane l Lane.muted).hcx (fun H => { H with migs := H.migs.map (fun m =>
    if m.frozenOn l then { m with switch := m.switch.map CmdId.muted } else m) })).hcx (fun H => H.setFlag .HCX_LANE_LINK l.num true)

/-- A command completes with LINKF; one of a ring is in flight in the host complex until its completion is written. -/
def State.linkFail (s : State) (i : CmdId) : State :=
  (if i.ep == some (s.host.fn i.fn).epoch then s.mapFn i.fn (fun F => F.setFlight 0 (F.flight 0 + 1)) else s).refuse i 0x000A

/-- A link that is overdue is cut, each command that its lane holds completes with LINKF, and the event is raised. -/
theorem State.linkTimeout_open {s : State} {l : LaneId} (h : s.fenced l = false) (now : Int) : s.linkTimeout l now =
    ((s.linkIds l).foldl State.linkFail (s.linkCut l)).raiseHost 1 0x01 now (leBytes 1 l.num) := by
  rw [State.linkTimeout, if_neg (by simp [h])]
  rfl

theorem State.linkTimeout_fenced {s : State} {l : LaneId} (h : s.fenced l = true) (now : Int) : s.linkTimeout l now = s := by
  rw [State.linkTimeout, if_pos h]

/-- Commands that complete with LINKF leave the lanes alone. -/
theorem State.linkFails_lanes (ids : List CmdId) (s : State) : (ids.foldl State.linkFail s).lanes = s.lanes :=
  foldl_keep (fun t : State => t.lanes) _ (fun t i => by unfold State.linkFail; split <;> rfl) ids s

theorem State.linkFails_regs (ids : List CmdId) (s : State) : (ids.foldl State.linkFail s).host.regs = s.host.regs :=
  foldl_keep (fun t : State => t.host.regs) _ (fun t i => by unfold State.linkFail; split <;> rfl) ids s

theorem State.linkFails_occ (ids : List CmdId) (s : State) : (ids.foldl State.linkFail s).host.occ = s.host.occ :=
  foldl_keep (fun t : State => t.host.occ) _ (fun t i => by unfold State.linkFail; split <;> rfl) ids s

theorem State.linkFails_done (ids : List CmdId) (s : State) :
    (ids.foldl State.linkFail s).host.done = s.host.done ++ ids.map (⟨·, 0x000A, []⟩) :=
  foldl_adds (fun t : State => t.host.done) _ _ (fun t i => by unfold State.linkFail; split <;> rfl) ids s

section
variable {s : State} {l : LaneId} (h : s.fenced l = false) (now : Int)
include h

theorem State.linkTimeout_lane : (s.linkTimeout l now).lane l = (s.lane l).muted := by
  rw [State.linkTimeout_open h]
  show ((s.linkIds l).foldl State.linkFail (s.linkCut l)).lanes.get l = _
  rw [State.linkFails_lanes]
  exact State.mapLane_lane s l Lane.muted

theorem State.linkTimeout_fences : (s.linkTimeout l now).fenced l = true := by
  rw [State.linkTimeout_open h]
  show bit (((s.linkIds l).foldl State.linkFail (s.linkCut l)).host.regs.get .HCX_LANE_LINK 0 0) l.num = true
  rw [State.linkFails_regs]
  cases l <;> simp [State.linkCut, Hcx.setFlag, Hcx.setReg, LaneId.num]

theorem State.linkTimeout_done : (s.linkTimeout l now).host.done = s.host.done ++ (s.linkIds l).map (⟨·, 0x000A, []⟩) := by
  rw [State.linkTimeout_open h]
  exact State.linkFails_done ..

end

/-- Each command that the lane held completes with LINKF. -/
theorem State.linkTimeout_fails {s : State} {l : LaneId} (h : s.fenced l = false) (now : Int) {i : CmdId} (hi : i ∈ s.linkIds l) :
    (⟨i, 0x000A, []⟩ : Done) ∈ (s.linkTimeout l now).host.done := by
  rw [State.linkTimeout_done h]
  exact List.mem_append_right _ (List.mem_map_of_mem hi)

theorem Lane.muted_pend_quiet (L : Lane) : ∀ x ∈ L.muted.pend, x.id.quiet = true := by
  intro x hx
  obtain ⟨y, -, rfl⟩ := List.mem_map.1 hx
  rfl

/-- Cutting a link leaves the registers of every lane as they are. -/
theorem State.linkCut_lane_regs (s : State) (l k : LaneId) : ((s.linkCut l).lane k).regs = (s.lane k).regs := by
  by_cases hk : k = l
  · subst hk
    simp [State.linkCut, Lane.muted]
  · simp [State.linkCut, State.mapLane_lane_ne s hk]

theorem State.linkTimeout_occ {s : State} {l : LaneId} (h : s.fenced l = false) (now : Int) : (s.linkTimeout l now).host.occ =
    s.host.occ ++ [(⟨1, 0x01, (hostEvent 1 0x01).1, (hostEvent 1 0x01).2, now, leBytes 1 l.num⟩, s.timeNum)] := by
  have hsrv : ∀ k, (((s.linkIds l).foldl State.linkFail (s.linkCut l)).lane k).inService = (s.lane k).inService := by
    intro k
    rw [State.lane, State.linkFails_lanes]
    exact Lane.inService_congr (s.linkCut_lane_regs l k)
  rw [State.linkTimeout_open h, ← State.timeNum_congr hsrv]
  exact congrArg (· ++ _) (State.linkFails_occ ..)

theorem State.mem_linkIds_pend {s : State} {l : LaneId} {x : Pend} (hx : x ∈ (s.lane l).pend) (hq : x.id.quiet = false) :
    x.id ∈ s.linkIds l := by
  simp only [State.linkIds, List.mem_filter, List.mem_append, hq]
  simp [List.mem_map_of_mem hx]

theorem State.mem_linkIds_fin {s : State} {l : LaneId} {d : Done} (hd : d ∈ (s.lane l).fin) (hq : d.id.quiet = false) :
    d.id ∈ s.linkIds l := by
  simp only [State.linkIds, List.mem_filter, List.mem_append, hq]
  simp [List.mem_map_of_mem hd]

/-- A SWITCH that has frozen its source is held by the source's lane. -/
theorem State.mem_linkIds_switch {s : State} {l : LaneId} {m : Mig} {i : CmdId} (hm : m ∈ s.host.migs) (hsrc : m.src = l)
    (hfr : m.froze = true) (hi : m.switch = some i) (hq : i.quiet = false) : i ∈ s.linkIds l := by
  have hfrozen : m ∈ s.host.migs.filter (Mig.frozenOn l) := List.mem_filter.2 ⟨hm, by simp [Mig.frozenOn, hsrc, hfr]⟩
  exact List.mem_filter.2 ⟨List.mem_append_right _ (List.mem_filterMap.2 ⟨m, hfrozen, hi⟩), by simp [hq]⟩

/-! ### Resets of lanes and of the module (R9, R12, R23, R392) -/

@[simp] theorem State.arcDrop_power (s : State) (r : ArcRec) (now : Int) : (s.arcDrop r now).power = s.power := (rfl)

@[simp] theorem State.arcDrop_lanes (s : State) (r : ArcRec) (now : Int) : (s.arcDrop r now).lanes = s.lanes := (rfl)

@[simp] theorem State.arcRelease_power (s : State) (status : Nat) (now : Int) : (s.arcRelease status now).power = s.power :=
  foldl_keep (fun t : State => t.power) _ (fun t r => State.arcDrop_power t r now) _ _

@[simp] theorem State.arcRelease_lanes (s : State) (status : Nat) (now : Int) : (s.arcRelease status now).lanes = s.lanes :=
  foldl_keep (fun t : State => t.lanes) _ (fun t r => State.arcDrop_lanes t r now) _ _

@[simp] theorem State.setArcState_power (s : State) (st : Nat) (status : Option Nat) (now : Int) :
    (s.setArcState st status now).power = s.power := (rfl)

@[simp] theorem State.arcRelease_lane (s : State) (status : Nat) (now : Int) (k : LaneId) :
    (s.arcRelease status now).lane k = s.lane k := by rw [State.lane, State.arcRelease_lanes, State.lane]

@[simp] theorem State.arcWarm_power (s : State) (now : Int) : (s.arcWarm now).power = s.power := by
  simp only [State.arcWarm]
  split <;> simp

@[simp] theorem State.reopenLink_power (l : LaneId) (now : Int) (s : State) : (s.reopenLink l now).power = s.power := by
  unfold State.reopenLink; split <;> rfl

@[simp] theorem State.migDrop_power (l : LaneId) (m : Mig) (s : State) : (s.migDrop l m).power = s.power := by
  unfold State.migDrop
  dsimp only
  repeat' split
  all_goals rfl

@[simp] theorem State.migAbort_power (l : LaneId) (s : State) : (s.migAbort l).power = s.power :=
  foldl_keep (fun t : State => t.power) _ (fun t m => State.migDrop_power l m t) _ s

/-- Of the sequencer a lane reset changes only the queue of lane stages. -/
theorem State.laneReset_power (l : LaneId) (kind : Nat) (now : Int) (s : State) :
    (s.laneReset l kind now).power = { s.power with queue := s.power.queue.filter (fun k => k != l) ++ [l] } := by
  simp [State.laneReset, State.pwr]

theorem State.warmLane_mstate (now : Int) (s : State) (l : LaneId) : (s.warmLane now l).power.mstate = s.power.mstate := by
  unfold State.warmLane
  split
  · simp [State.laneReset_power]
  · rfl

/-- A warm module reset takes the host complex down and starts the lanes again, unless the module is parked (R9, R404). -/
theorem State.warmReset_power {s : State} (h : s.hostOn = true) (watchdog : Bool) (now : Int) :
    (s.warmReset watchdog now).power.hcxUp = false ∧
    (s.warmReset watchdog now).power.queue = (if s.power.mstate = .parked then [] else LaneId.all) ∧
    (s.warmReset watchdog now).power.mstate = (if s.power.mstate = .parked then .parked else .starting) := by
  have hm : (LaneId.all.foldl (State.warmLane now) ((s.raiseHost 2 (if watchdog then 1 else 2) now).arcWarm now)).power.mstate =
      s.power.mstate := by
    rw [foldl_keep (fun t : State => t.power.mstate) _ (State.warmLane_mstate now)]
    simp
  rw [State.warmReset, if_neg (by simp [h])]
  simp [State.setStage, State.pwr, hm]

theorem State.warmReset_off {s : State} (h : s.hostOn = false) (watchdog : Bool) (now : Int) : s.warmReset watchdog now = s := by
  simp [State.warmReset, h]

/-- FUNCTION_RESET and HCX_FN_RESET are one operation. -/
theorem exec_fnResets {s : State} (hup : s.hostUp = true) {f : Nat} {c : Instr} (hc : c ∈ [Instr.functionReset f, .hcxFnReset f]) :
    exec c s = .next (if s.host.hasFn f = true then s.quiet.resetFn f else s.quiet) := by
  simp only [List.mem_cons, List.not_mem_nil, or_false] at hc
  rcases hc with rfl | rfl
  · rw [execFunctionReset_eq, if_pos hup]
    rfl
  · rw [execHcxFnReset_eq, if_pos hup]
    rfl

/-! ### A reset to cold (R9, R396) -/

/-- Start times that are not yet known change nothing else of the host complex. -/
theorem Hcx.noStartTimes_keeps {γ : Type} (g : Hcx → γ) (h : ∀ (H : Hcx) (i : Nat), g (H.setReg .HCX_START_T 0xFFFF#32 i) = g H)
    (n : Nat) (H : Hcx) : g (foldTo n (fun (H : Hcx) i => H.setReg .HCX_START_T 0xFFFF#32 i) H) = g H := foldl_keep g _ h _ H

theorem State.coldTo_power (m : MState) (s : State) : (s.coldTo m).power = { Power.fresh with mstate := m } := (rfl)

theorem State.coldTo_safety (m : MState) (s : State) :
    (s.coldTo m).safety = { Safety.fresh with flash := s.safety.flash.stopped } := (rfl)

theorem State.coldTo_lane (m : MState) (s : State) (k : LaneId) : (s.coldTo m).lane k = (s.lane k).afterCold :=
  Quad.get_mapv ..

theorem State.coldTo_nor (m : MState) (s : State) : (s.coldTo m).host.nor = s.host.nor := by
  simp only [State.coldTo, State.hcx_host]
  rw [Hcx.noStartTimes_keeps (fun H => H.nor) (fun H i => Hcx.setReg_nor H _ _ i 0), Hcx.setFld_nor, Hcx.setFld_nor, Hcx.afterCold]

theorem State.coldTo_keys (m : MState) (s : State) : (s.coldTo m).host.keys = s.host.keys := by
  simp only [State.coldTo, State.hcx_host]
  rw [Hcx.noStartTimes_keeps (fun H => H.keys) (fun H i => Hcx.setReg_keys H _ _ i 0), Hcx.setFld_keys, Hcx.setFld_keys, Hcx.afterCold]

@[simp] theorem Lane.setNum64_reg (L : Lane) {lo hi q : Reg} (hlo : q ≠ lo) (hhi : q ≠ hi) (v i k j : Nat) :
    (L.setNum64 lo hi v i).reg q k j = L.reg q k j := by
  rw [Lane.setNum64, Lane.setReg_reg_other _ hhi, Lane.setReg_reg_other _ hlo]

/-- A cold reset keeps a lane's field book in MRAM and the parcels in NOR. -/
theorem Lane.afterCold_keeps (L : Lane) : L.afterCold.saved = L.saved ∧ L.afterCold.copies = L.copies := by
  unfold Lane.afterCold
  dsimp only
  split <;> exact ⟨rfl, rfl⟩

theorem Lane.afterCold_pwrStat (L : Lane) : L.afterCold.reg .PWR_STAT = Reg.PWR_STAT.reset := by
  unfold Lane.afterCold
  dsimp only
  split
  · rfl
  · rw [Lane.setNum64_reg _ (by decide) (by decide), Lane.setNum64_reg _ (by decide) (by decide),
      Lane.setNum64_reg _ (by decide) (by decide)]
    rfl

/-- After a cold reset a lane is out of service. -/
theorem Lane.afterCold_inService (L : Lane) : L.afterCold.inService = false := by
  rw [Lane.inService, Lane.fld, Lane.afterCold_pwrStat]
  decide

/-! ### Hold-up (R393 to R397) -/

/-- At a sag a lane leaves service. -/
theorem Lane.sagged_inService (now : Int) (L : Lane) : (L.sagged now).inService = false := by
  have hoff : ∀ M : Lane, (M.setFld .PWR_STAT 31 28 0).inService = false := fun M => by
    simp [Lane.inService]
  unfold Lane.sagged
  dsimp only
  split <;> exact hoff _

theorem State.sag_sleeping {s : State} (h : s.power.mstate = .sleeping) (vin : Nat) (now : Int) : s.sag vin now = s.coldTo .off := by
  simp [State.sag, h]

theorem State.hostOn_not_sleeping {s : State} (h : s.hostOn = true) : s.power.mstate ≠ .sleeping := by
  intro hs
  simp [State.hostOn, hs] at h

/-- A dip is no sag. -/
theorem State.sag_dip {s : State} (h : s.hostOn = true) {vin : Nat} (hv : 14700 ≤ vin) (now : Int) : s.sag vin now = s := by
  simp [State.sag, State.hostOn_not_sleeping h, hv]

/-- A sag of a module that is on: hold-up, the host complex down, every lane out of service, the safety lane as it was. -/
theorem State.sag_holdUp {s : State} (h : s.hostOn = true) {vin : Nat} (hv : vin < 14700) (now : Int) :
    (s.sag vin now).power.mstate = .holdUp ∧ (s.sag vin now).power.sagAt = now ∧ (s.sag vin now).power.hcxUp = false ∧
    (s.sag vin now).safety = s.safety ∧ ∀ k, ((s.sag vin now).lane k).inService = false := by
  rw [State.sag, if_neg (State.hostOn_not_sleeping h), if_neg (by simp [h, hv])]
  refine ⟨rfl, rfl, rfl, by simp [State.pwr, State.setH], fun k => ?_⟩
  simp only [State.pwr_lane, State.setH, State.hcx_lane, State.arcRelease_lane]
  rw [Lane.inService_congr (State.pcieDown_lane_regs _ now k)]
  simp [State.lane, Lane.sagged_inService]

/-- The end of the flush is a cold reset to OFF (R396). -/
theorem State.flushEnd_holdUp {s : State} (h : s.power.mstate = .holdUp) (us : Nat) : (s.flushEnd us).power.mstate = .off ∧
    (s.flushEnd us).safety = { Safety.fresh with flash := s.safety.flash.stopped } := by
  rw [State.flushEnd, if_neg (by simp [h])]
  refine ⟨rfl, ?_⟩
  rw [State.coldTo_safety, State.hcx_safety, State.flushAll_safety]

/-- So is the end of the energy (R397). -/
theorem State.energyEnd_holdUp {s : State} (h : s.power.mstate = .holdUp) (a b c d us : Nat) :
    (s.energyEnd a b c d us).power.mstate = .off := by
  rw [State.energyEnd, if_neg (by simp [h])]
  rfl

/-! ### Domains (R381) -/

theorem domainOf_lane (l : LaneId) {x : Nat} (hx : x < 20) :
    domainOf ((16 + 20 * l.num + x) / 32) ((16 + 20 * l.num + x) % 32) = some (l, x) := by
  have hk : (16 + 20 * l.num + x) / 32 * 32 + (16 + 20 * l.num + x) % 32 = 16 + 20 * l.num + x := by omega
  have hl : (16 + 20 * l.num + x - 16) / 20 = l.num := by omega
  have hr : (16 + 20 * l.num + x - 16) % 20 = x := by omega
  have hn : LaneId.ofNum l.num = some l := by cases l <;> rfl
  unfold domainOf
  simp only [hk, hl, hr, hn]
  exact if_neg (by omega)

theorem State.domainFault_none {d : Nat} (h : 96 ≤ d) (now : Int) (s : State) : s.domainFault d now = s := by
  simp [State.domainFault, h]

/-- A fault of a lane's domain: it acts on the lane while the domain is on. -/
theorem State.domainFault_lane (s : State) (l : LaneId) {x : Nat} (hx : x < 20) (now : Int) :
    s.domainFault (16 + 20 * l.num + x) now = if (s.lane l).flag .PWR_PD x = true then
      (((s.raiseHost 7 0x03 now (leBytes 1 (16 + 20 * l.num + x))).mapLane l (Lane.domainFault x now)).startDone) else s := by
  have hd : ¬96 ≤ 16 + 20 * l.num + x := by cases l <;> simp only [LaneId.num] <;> omega
  rw [State.domainFault, if_neg hd, domainOf_lane l hx]
  by_cases hp : (s.lane l).flag .PWR_PD x = true <;> simp [hp]

/-! ### Temperatures (R454) -/

@[simp] theorem Lane.sendWithdraw_regs (L : Lane) (cause : Nat) (now : Int) : (L.sendWithdraw cause now).regs = L.regs := by
  unfold Lane.sendWithdraw
  split
  · rfl
  · dsimp only
    split <;> rfl

@[simp] theorem Lane.dropTo_regs (L : Lane) (lvl cause : Nat) (now : Int) : (L.dropTo lvl cause now).regs = L.regs := by
  unfold Lane.dropTo
  split
  · dsimp only
    split <;> simp
  · rfl

/-- A lane below a level that it is asked for is on its way there, or to a higher one. -/
theorem Lane.dropTo_toLevel {L : Lane} {lvl : Nat} (h : L.level < lvl) (cause : Nat) (now : Int) :
    lvl ≤ (L.dropTo lvl cause now).trav.toLevel := by
  unfold Lane.dropTo
  split
  · exact le_rfl
  · omega

theorem wrap_lt (n : Nat) (x : Int) : wrap n x < 2 ^ n := by
  have hpos : (0 : Int) < (2 ^ n : Nat) := by positivity
  have hlt := Int.emod_lt_of_pos x hpos
  have hnn := Int.emod_nonneg x hpos.ne'
  unfold wrap
  omega

/-- PWR_TEMP shows the die temperature in its low half. -/
theorem Lane.dieTemp_shows (temp now : Int) (L : Lane) : bits ((L.dieTemp temp now).reg .PWR_TEMP) 15 0 = wrap 16 temp := by
  have hlow : ∀ p, bits (w32 (p * 65536 + wrap 16 temp)) 15 0 = wrap 16 temp := by
    intro p
    have hlt := wrap_lt 16 temp
    simp only [bits, w32_toNat, Nat.shiftRight_zero]
    omega
  unfold Lane.dieTemp
  dsimp only
  split
  · rw [Lane.setReg_reg_self, hlow]
  · rw [Lane.reg, Lane.dropTo_regs, Lane.raise_regs]
    exact (congrArg (bits · 15 0) (Lane.setReg_reg_self ..)).trans (hlow _)

theorem Lane.dieTemp_cool {temp : Int} (h : temp < 125 * 16) (now : Int) (L : Lane) : (L.dieTemp temp now).occ = L.occ := by
  simp only [Lane.dieTemp, if_pos h]
  exact Lane.setReg_occ ..

/-- At 125 degrees a lane asks for its safe state (R454). -/
theorem Lane.dieTemp_hot {temp : Int} (h : 125 * 16 ≤ temp) {L : Lane} (hl : L.level < 3) (now : Int) :
    3 ≤ (L.dieTemp temp now).trav.toLevel := by
  unfold Lane.dieTemp
  dsimp only
  rw [if_neg (by omega)]
  refine Lane.dropTo_toLevel ?_ 7 now
  simpa [Lane.level, Lane.fld, Lane.setReg_reg_other _ (show Reg.LCT_TRAV_STAT ≠ .PWR_TEMP by decide)] using hl

theorem State.trefAlarm_cool {tref : Int} (h : tref ≤ 75 * 16) (now : Int) (s : State) :
    (s.trefAlarm tref now).power.hot = none ∧ (s.trefAlarm tref now).host.occ = s.host.occ := by
  rw [State.trefAlarm, if_pos h]
  exact ⟨rfl, rfl⟩

/-- The first time that TREF is above 75 degrees is remembered with its event (R454). -/
theorem State.trefAlarm_first {tref : Int} (h : 75 * 16 < tref) {s : State} (hn : s.power.hot = none) (now : Int) :
    (s.trefAlarm tref now).power.hot = some (tref / 16) ∧ (s.trefAlarm tref now).host.occ.length = s.host.occ.length + 1 := by
  rw [State.trefAlarm, if_neg (by omega), if_pos (by simp [hn])]
  exact ⟨rfl, List.length_append⟩

/-! ### Writes of HCX_WARM_RESET and HCX_LANE_RESET (R9, R392) -/

section
variable {s : State} {w : Word} (hon : s.hostOn = true)
include hon

theorem State.warmWrite_badKey (hk : bits w 31 16 ≠ 0x574D) (now : Int) : s.warmWrite w now = s.badKey 0x7014 0 now := by
  simp [State.warmWrite, hon, hk]

theorem State.warmWrite_key (hk : bits w 31 16 = 0x574D) (hb : bit w 0 = true) (now : Int) :
    s.warmWrite w now = s.warmReset false now := by
  simp [State.warmWrite, hon, hk, hb]

theorem State.laneResetWrite_badKey (hk : bits w 31 16 ≠ 0x4C52) (now : Int) :
    s.laneResetWrite w now = s.badKey 0x7010 0 now := by simp [State.laneResetWrite, hon, hk]

variable {l : LaneId} (hk : bits w 31 16 = 0x4C52) (hl : LaneId.ofNum (bits w 1 0) = some l)
include hk hl

/-- STBY_ONLY asks for a standby in REPLICA. -/
theorem State.laneResetWrite_notStandby (hb : bit w 8 = true) (hst : ¬((s.lane l).pstate = psReplica ∧ (s.lane l).role = false))
    (now : Int) : s.laneResetWrite w now = s.badKey 0x7010 1 now := by
  simp only [State.laneResetWrite, hl, Option.getD_some]
  rw [if_neg (by simp [hon]), if_neg (by simp [hk]), if_pos (by simpa [hb, imp_iff_not_or] using hst)]

/-- A lane reset is discarded while a wider one is in progress and on a parked module. -/
theorem State.laneResetWrite_discarded (hst : bit w 8 = false ∨ (s.lane l).pstate = psReplica ∧ (s.lane l).role = false)
    (hdis : s.resetting = true ∨ s.power.mstate = .parked) (now : Int) : s.laneResetWrite w now = s := by
  simp only [State.laneResetWrite, hl, Option.getD_some]
  rw [if_neg (by simp [hon]), if_neg (by simp [hk]), if_neg (by rcases hst with h | h <;> simp [h]), if_pos (by simpa using hdis)]

theorem State.laneResetWrite_done (hst : bit w 8 = false ∨ (s.lane l).pstate = psReplica ∧ (s.lane l).role = false)
    (hr : s.resetting = false) (hp : s.power.mstate ≠ .parked) (now : Int) : s.laneResetWrite w now =
      (s.mapLane l (fun M => { M with trav := { M.trav with resets := [] } })).laneReset l (if bit w 8 then 2 else 0) now := by
  simp only [State.laneResetWrite, hl, Option.getD_some]
  rw [if_neg (by simp [hon]), if_neg (by simp [hk]), if_neg (by rcases hst with h | h <;> simp [h]), if_neg (by simp [hr, hp])]

end

/-! ### Parking (R404) -/

/-- A parking is carried out with its key, the brakes applied and the module in service. -/
theorem State.parkAttended_done {s : State} (hon : s.hostOn = true) (hb : s.sfsApplied = true) (hm : s.power.mstate = .service)
    (now : Int) : s.parkAttended 0x504B now = { s.parkLanes now with safety := s.safety.park } := by
  simp [State.parkAttended, hon, hb, hm]

theorem State.parkAttended_refused {s : State} (hon : s.hostOn = true) (h : s.sfsApplied = false ∨ s.power.mstate ≠ .service)
    (now : Int) : s.parkAttended 0x504B now = s.badKey 0x7018 1 now := by
  rcases h with h | h <;> simp [State.parkAttended, hon, h]

/-- A module in service goes to sleep with the safety lane not in SAFE: that lane and the host complex go off. -/
theorem State.parkSleeping_sleeps {s : State} (hon : s.hostOn = true) (hb : s.sfsApplied = true) (hm : s.power.mstate = .service)
    (hs : s.host.fld .SFS_STAT 31 30 ≠ 2) (now : Int) : (s.parkSleeping 0x504B now).power.mstate = .sleeping ∧
    (s.parkSleeping 0x504B now).safety = { Safety.fresh with flash := s.safety.flash.stopped } := by
  have hdone : s.parkSleeping 0x504B now = { (s.parkLanes now).coldTo .sleeping with lanes := (s.parkLanes now).lanes } := by
    simp [State.parkSleeping, hon, hb, hm, hs]
  simp only [hdone, State.coldTo_power, State.coldTo_safety, State.parkLanes_safety, and_self]

/-- Unparking a parked module starts the lanes again and releases the hold of the safety lane. -/
theorem State.unpark_parked {s : State} (hon : s.hostOn = true) (hm : s.power.mstate = .parked) (now : Int) :
    (s.unpark 0x504B now).power.mstate = .starting ∧ (s.unpark 0x504B now).power.queue = LaneId.all ∧
    (s.unpark 0x504B now).safety = s.safety.unpark := by
  rw [State.unpark, if_neg (by simp [hon]), if_neg (by simp), if_neg (by simp [hm])]
  refine ⟨rfl, rfl, ?_⟩
  simp [State.setStage, State.pwr]

/-! ### The statements -/

/-- Settles O2: a command either replaces one lane (`exec_of_laneOf`) or is one operation of the module, none of which
touches the queue (`exec_of_laneOf_none`). That every command answers is the model's choice (assumption log 128). -/
theorem everyCommandAnswersNext : Obligations.EveryCommandAnswersNext := by
  intro c s
  cases h : c.laneOf with
  | some l =>
    obtain ⟨L, hL⟩ := exec_of_laneOf h s
    exact ⟨_, hL, State.put_pending s l L⟩
  | none => exact exec_of_laneOf_none h s

/-- Settles O50: a read is the read of its word (`execRegisterReadLo_word`), a write the write of its word
(`State.writeRegs_word`), and each clause is what that does to the register at the address. -/
theorem registersFollowTheirAccess : Obligations.RegistersFollowTheirAccess := by
  intro s f addr width value raw i j r l v now u gives hup
  refine ⟨fun ha => ⟨fun hr hd => ?_, fun w o hb hd => ?_, fun hr => ?_, fun hr hd hlat hl => ?_⟩,
    fun c hc hdb => ⟨fun h4 h8 => ?_, ?_⟩, fun g hg hoff => ⟨fun hr hdb ha => ?_, fun hr hdb ha hst => ?_⟩⟩
  -- reads
  · rw [execRegisterReadLo_word hup ha, State.readWord_none hr hd]
  · rw [execRegisterReadLo_word hup ha, State.readWord_dark hb hd]
  · have hread : exec (.registerReadLo f addr 4 raw) s =
        .next (gives (u.readReg raw ⟨.host, r, i, j⟩).1 (u.readReg raw ⟨.host, r, i, j⟩).2) := by
      rw [execRegisterReadLo_word hup ha, State.readWord_reg hr (by simp)]
    refine ⟨fun v hv => ?_, fun hv hl => ?_, fun h hv hl => ?_⟩
    · rw [hread, State.readReg_latched (x := ⟨.host, r, i, j⟩) hv]
      rfl
    · rw [hread, State.readReg_plain (x := ⟨.host, r, i, j⟩) hv hl]
      rfl
    · rw [hread, State.readReg_latches (x := ⟨.host, r, i, j⟩) hv hl]
      rfl
  · have hin : ∀ k, RegPart.lane l = .lane k → u.windowDark k = false := by rintro k ⟨⟩; exact hd
    have hnone : (u.latchOf (.lane l)).get? (r.key i j) = none := by rw [hlat]; rfl
    rw [execRegisterReadLo_word hup ha, State.readWord_reg hr hin, State.readReg_plain hnone hl]
  -- writes
  · rw [exec_registerWrites hup hc, State.writeRegs_misfit hdb h4 h8]
  · rintro rfl ha
    have hwrite : exec c s = .next (u.writeWord f addr (w32 value) 4 now) := by
      rw [exec_registerWrites hup hc, State.writeRegs_word hdb ha]
    refine ⟨fun hr => ?_, fun hr => ⟨fun hoff => ?_, fun hw hp h1 h2 => ?_⟩⟩
    · rw [hwrite, State.writeWord_none hr]
    · rw [hwrite, State.writeWord_lane_off hr hoff]
    · rw [hwrite, State.writeWord_lane hr hw hp]
      refine ⟨fun hacc => ?_, fun hacc => ?_, fun hacc => ?_⟩
      · rw [funext (Lane.writeReg_ro hacc h1 h2 f i j (w32 value) now)]
      · rw [funext (Lane.writeReg_stores (by tauto) h1 h2 f i j (w32 value) now)]
        rcases hacc with hacc | hacc <;> simp only [plainWrite, hacc]
      · rw [funext (Lane.writeReg_stores (.inr (.inr hacc)) h1 h2 f i j (w32 value) now)]
        simp only [plainWrite, hacc]
  -- a ring's base
  · rw [execRegisterWrite_eq, if_pos hup, State.writeRegs_word hdb ha, State.writeWord_page hr, State.writeFn_base_lo (s := u) hg,
      State.writeBase_lo (s := u) hoff]
  · rw [execRegisterWriteHi_eq, if_pos hup, State.writeRegs_word hdb ha, State.writeWord_page hr, State.writeFn_base_hi (s := u) hg,
      State.writeBase_hi (s := u) hoff hst]

/-- Settles O51: each clause is the law of its operation: what RESETTING shows (`State.resetFn_shows`), what a cut link
completes (`State.linkTimeout_fails`), what a warm reset leaves of the sequencer (`State.warmReset_power`). -/
theorem hostResetsAndLinks : Obligations.HostResetsAndLinks := by
  intro s f n speed width ecrc l now u
  refine ⟨fun hup => ⟨fun hf => ⟨fun c hc => ?_, ?_⟩, fun hf c hc => ?_, ?_, fun hst => ?_, fun hst => ?_, ?_, ?_, fun hl => ?_,
    fun hl => ?_⟩, fun hep => ⟨?_, ?_⟩, fun hep => ⟨?_, ?_⟩, fun hon => ?_, fun hon => ?_⟩
  -- function resets and VF Enable
  · rw [exec_fnResets hup hc, if_pos hf]
  · obtain ⟨hst, hring, hep, how⟩ := State.resetFn_shows (s := u) hf
    exact ⟨u.resetFn f, by rw [exec_fnResets hup (List.mem_cons_self ..), if_pos hf], hst, fun r _ => hring r, hep, how⟩
  · rw [exec_fnResets hup hc, if_neg (by simp [hf])]
  · rw [execFunctionLevelReset_eq, if_pos hup]
    rfl
  · rw [execFunctionResetComplete_eq, if_pos hup, State.resetFnDone_resetting (s := u) hst]
  · rw [execFunctionResetComplete_eq, if_pos hup, State.resetFnDone_other (s := u) hst]
  · rw [execHotReset_eq, if_pos hup]
  · exact ⟨u.vfEnable n, by rw [execVfEnable_eq, if_pos hup], rfl, u.vfEnable_hasFn n⟩
  -- a lane link that is overdue
  · have hlane := State.linkTimeout_lane (s := u) hl now
    refine ⟨_, execLaneLinkTimeout_eq l now s, State.linkTimeout_fences (s := u) hl now, by rw [hlane]; rfl, ?_,
      State.linkTimeout_occ (s := u) hl now, fun x hx hq => ?_, fun m hm hsrc hfr i hi hq => ?_, fun d hd hq => ?_⟩
    · rw [hlane]
      exact Lane.muted_pend_quiet _
    · exact State.linkTimeout_fails (s := u) hl now (State.mem_linkIds_pend (by rwa [State.quiet_lane_now]) hq)
    · exact State.linkTimeout_fails (s := u) hl now (State.mem_linkIds_switch (s := u) hm hsrc hfr hi hq)
    · exact State.linkTimeout_fails (s := u) hl now (State.mem_linkIds_fin (by rwa [State.quiet_lane_now]) hq)
  · rw [execLaneLinkTimeout_eq, State.linkTimeout_fenced (s := u) hl]
  -- the PCIe link
  · simp [execPcieLinkDown_eq, hep, State.pcieDown, u]
  · simp [execPcieLinkUp_eq, hep, State.pcieUp, u]
  · simp [execPcieLinkDown_eq, hep, u]
  · simp [execPcieLinkUp_eq, hep, u]
  -- the watchdog's warm reset
  · obtain ⟨hup, hq, hm⟩ := State.warmReset_power (s := u) hon true now
    exact ⟨_, execHostWatchdogExpiry_eq now s, rfl, hup, hq, hm, State.warmReset_safety ..⟩
  · rw [execHostWatchdogExpiry_eq, State.warmReset_off (s := u) hon]

/-- Settles O56: each clause is the law of its operation in the state that the clause names. The threshold of 14.7 V is
assumption log 40; that a narrower reset is discarded while a wider one is in progress is log 147. -/
theorem powerLossResetsAndParking : Obligations.PowerLossResetsAndParking := by
  intro s l x vin us a b c d key w temp tref now u L
  refine ⟨fun hx hp => ?_, fun hx hp => ?_, fun hx => ?_, fun hm => ⟨?_, ?_⟩, fun hm => ?_, fun hon hv => ?_, fun hon hv => ?_,
    fun hm => ?_, fun hm => ⟨?_, ?_, ?_⟩, fun hm => ⟨?_, ?_, ?_⟩, ?_, fun hon => ?_, ?_, fun ht => ?_, fun ht hn => ?_, ?_⟩
  -- a domain fault
  · rw [execDomainFault_eq, State.domainFault_lane _ l hx, State.quiet_lane_now, if_pos hp]
  · rw [execDomainFault_eq, State.domainFault_lane _ l hx, State.quiet_lane_now, if_neg (by simp [L, hp])]
  · rw [execDomainFault_eq, State.domainFault_none hx]
  -- a sag, asleep and awake, and a dip
  · rw [execSagDetected_eq, State.sag_sleeping (s := u) hm]
  · simp [execSleepSupplyLoss_eq, State.sleepLoss, hm, u]
  · simp [execSleepSupplyLoss_eq, State.sleepLoss, hm, u]
  · exact ⟨_, execSagDetected_eq vin now s, State.sag_holdUp (s := u) hon hv now⟩
  · rw [execSagDetected_eq, State.sag_dip (s := u) hon hv]
  · simp [execDip_eq, State.dip, hm, u]
  -- the end of a hold-up, and what does nothing outside it
  · exact ⟨_, execFlushEnd_eq us s, State.flushEnd_holdUp (s := u) hm us⟩
  · exact ⟨_, execHoldUpEnergyEnd_eq a b c d us s, State.energyEnd_holdUp (s := u) hm a b c d us⟩
  · simp [execSupplyReturn_eq, State.supplyReturn, hm, u]
  · simp [execFlushEnd_eq, State.flushEnd, hm, u]
  · simp [execHoldUpEnergyEnd_eq, State.energyEnd, hm, u]
  · simp [execSupplyReturn_eq, State.supplyReturn, hm, u]
  -- a cold reset
  · refine ⟨_, execColdReset_eq s, State.coldTo_power .starting u, State.coldTo_safety .starting u, fun k => ?_,
      State.coldTo_nor .starting u, State.coldTo_keys .starting u⟩
    rw [State.coldReset, State.coldTo_lane, State.quiet_lane]
    obtain ⟨hsaved, hcopies⟩ := Lane.afterCold_keeps { s.lane k with sent := [] }
    exact ⟨hsaved, hcopies, Lane.afterCold_inService _⟩
  -- the writes of a module that is on: warm reset, lane reset, parking
  · refine ⟨fun hk => ?_, fun hk hb => ?_, fun hk => ?_, fun hk hl => ⟨fun hb hst => ?_, fun hb hdis => ?_, fun hr hp =>
      ⟨fun hb => ?_, fun hb hst => ?_⟩⟩, fun hk => ⟨?_, ?_, ?_⟩, fun hno => ?_, fun hb hm => ⟨?_, fun hs => ?_⟩,
      fun hm => ?_, fun hm => ?_⟩
    · rw [execWarmModuleReset_eq, State.warmWrite_badKey (s := u) hon hk]
    · rw [execWarmModuleReset_eq, State.warmWrite_key (s := u) hon hk hb]
    · rw [execLaneReset_eq, State.laneResetWrite_badKey (s := u) hon hk]
    · rw [execLaneReset_eq, State.laneResetWrite_notStandby (s := u) hon hk hl hb (by rwa [State.quiet_lane_now])]
    · rw [execLaneReset_eq, State.laneResetWrite_discarded (s := u) hon hk hl (by rwa [State.quiet_lane_now]) hdis]
    · rw [execLaneReset_eq, State.laneResetWrite_done (s := u) hon hk hl (.inl hb) hr hp, hb]
      rfl
    · rw [execLaneReset_eq, State.laneResetWrite_done (s := u) hon hk hl (.inr (by rwa [State.quiet_lane_now])) hr hp, hb]
      rfl
    · simp [execParkAttended_eq, State.parkAttended, hon, hk, u]
    · simp [execParkSleeping_eq, State.parkSleeping, hon, hk, u]
    · simp [execUnpark_eq, State.unpark, hon, hk, u]
    · rw [execParkAttended_eq, State.parkAttended_refused (s := u) hon hno]
    · exact ⟨_, execParkAttended_eq 0x504B now s, by rw [State.parkAttended_done (s := u) hon hb hm]; exact ⟨rfl, rfl⟩⟩
    · exact ⟨_, execParkSleeping_eq 0x504B now s, State.parkSleeping_sleeps (s := u) hon hb hm hs now⟩
    · exact ⟨_, execUnpark_eq 0x504B now s, State.unpark_parked (s := u) hon hm now⟩
    · simp [execUnpark_eq, State.unpark, hon, hm, u]
  -- temperatures and the scrub
  · refine ⟨_, execDieOvertemp_eq l temp now s, ?_, fun ht => ?_, fun ht hl => ?_⟩
    · rw [State.put_lane, Lane.dieTemp_shows]
    · rw [State.put_lane, Lane.dieTemp_cool ht]
    · rw [State.put_lane]
      exact Lane.dieTemp_hot ht hl now
  · exact ⟨_, execTrefAlarm_eq tref now s, State.trefAlarm_cool ht now u⟩
  · exact ⟨_, execTrefAlarm_eq tref now s, State.trefAlarm_first ht (s := u) hn now⟩
  · exact execLpddrScrub_eq l s

end Sys2Proof.Machine
end

section
/-! PROOFS. The two statements on what keeps apart: a command of one lane stays in its lane, and the safety lane and the
rest of the module do not reach each other. -/

namespace Sys2Proof.Machine

open Sys2Proof

/-! ### What the operations of the safety lane leave of the lanes (R24) -/

@[simp] theorem State.onSafety_lanes (f : Safety → Safety) (s : State) : (s.onSafety f).lanes = s.lanes := by
  unfold State.onSafety
  split <;> rfl

@[simp] theorem State.safetySag_lanes (s : State) : s.safetySag.lanes = s.lanes := by
  unfold State.safetySag
  split
  · exact State.onSafety_lanes Safety.sagged s
  · rfl

theorem State.foldl_lanes {β : Type} (f : State → β → State) (h : ∀ s x, (f s x).lanes = s.lanes) (l : List β) (s : State) :
    (l.foldl f s).lanes = s.lanes := foldl_keep (·.lanes) f h l s

/-- The copy of the status writes the window and raises the events in the host complex. -/
@[simp] theorem State.copyStatus_lanes (now : Int) (s : State) : (s.copyStatus now).lanes = s.lanes := by
  simp only [State.copyStatus, State.hcx_lanes]
  refine State.foldl_lanes _ (fun s e => ?_) _ s
  exact State.raiseHost_lanes s e.1 e.2.1 now e.2.2

@[simp] theorem State.safetyStatus_lanes (now : Int) (s : State) : (s.safetyStatus now).lanes = s.lanes := by
  have hcopy : (if s.receiverOn then s.copyStatus now else s).lanes = s.lanes := by simp [apply_ite State.lanes]
  unfold State.safetyStatus
  dsimp only
  split
  · rfl
  · split <;> exact hcopy

/-- A command of the safety lane is a change of that lane, its sag or the sending of its status. -/
theorem exec_of_ofSafetyLane {c : Instr} (h : c.ofSafetyLane = true) (s : State) :
    (∃ f, exec c s = .next (s.quiet.onSafety f)) ∨ c = .safetySag ∨ ∃ now, c = .safetyStatus now := by
  cases c <;> cases h
  case safetySag => exact .inr (.inl rfl)
  case safetyStatus now => exact .inr (.inr ⟨now, rfl⟩)
  all_goals exact .inl ⟨_, rfl⟩

/-- A command of the safety lane leaves every lane as it found it. -/
theorem exec_ofSafetyLane_lane {c : Instr} (h : c.ofSafetyLane = true) {s t : State} (ht : exec c s = .next t) (l : LaneId) :
    t.lane l = s.now l := by
  have hlanes : t.lanes = s.quiet.lanes := by
    obtain ⟨f, hf⟩ | rfl | ⟨now, rfl⟩ := exec_of_ofSafetyLane h s
    · cases hf.symm.trans ht
      exact State.onSafety_lanes f s.quiet
    · cases (execSafetySag_eq s).symm.trans ht
      exact State.safetySag_lanes s.quiet
    · cases (execSafetyStatus_eq now s).symm.trans ht
      exact State.safetyStatus_lanes now s.quiet
  rw [State.lane, hlanes]
  exact State.quiet_lane_now s l

/-! ### What reaches the safety lane (R24) -/

/-- An operation of the host complex, of the power state or of several lanes leaves the safety lane alone. -/
theorem exec_of_laneOf_none_safety {c : Instr} (hl : c.laneOf = none) (h : c.reachesSafety = false) (s : State) :
    ∃ t, exec c s = .next t ∧ t.safety = s.safety := by
  cases c <;> simp only [Instr.laneOf, Instr.reachesSafety, reduceCtorEq] at hl h <;>
    exact ⟨_, rfl, by simp [apply_ite State.safety]⟩

/-- A command that may not reach the safety lane acts on one lane (`exec_of_laneOf`) or is an operation of another part. -/
theorem exec_safety_of_not_reachesSafety {c : Instr} (h : c.reachesSafety = false) {s t : State} (ht : exec c s = .next t) :
    t.safety = s.safety := by
  cases hl : c.laneOf with
  | some l =>
    obtain ⟨L, hL⟩ := exec_of_laneOf hl s
    cases hL.symm.trans ht
    exact State.put_safety s l L
  | none =>
    obtain ⟨u, hu, hsafe⟩ := exec_of_laneOf_none_safety hl h s
    cases hu.symm.trans ht
    exact hsafe

/-- The domains of bits 16 to 95 are the lanes', twenty each (R381). -/
theorem exists_lane_of_domain {d : Nat} (hlo : 16 ≤ d) (hhi : d < 96) :
    ∃ (l : LaneId) (x : Nat), x < 20 ∧ d = 16 + 20 * l.num + x := by
  have hnum : ∀ n < 4, n ∈ LaneId.all.map LaneId.num := by decide
  obtain ⟨l, -, hl⟩ := List.mem_map.1 (hnum ((d - 16) / 20) (by omega))
  exact ⟨l, (d - 16) % 20, by omega, by omega⟩

/-- Of the domains only PD_S0 to PD_S3, bits 12 to 15, feed the safety lane (R381). -/
theorem State.domainFault_safety {d : Nat} (h : d < 12 ∨ 16 ≤ d) (now : Int) (s : State) :
    (s.domainFault d now).safety = s.safety := by
  rcases h with h | h
  · have hmodule : domainOf (d / 32) (d % 32) = none := if_pos (by omega)
    rw [State.domainFault, if_neg (by omega), hmodule]
    dsimp only
    rw [if_neg (show ¬12 ≤ d by omega)]
    split
    · split <;> simp
    · simp [apply_ite State.safety]
  · by_cases h96 : 96 ≤ d
    · rw [State.domainFault_none h96]
    · obtain ⟨l, x, hx, rfl⟩ := exists_lane_of_domain h (by omega)
      rw [State.domainFault_lane s l hx]
      split <;> simp

/-- Only part 5 is the safety lane (R413). -/
theorem State.bootSelection_safety {part : Nat} (h : part ≠ 5) (now : Int) (s : State) :
    (s.bootSelection part now).safety = s.safety := by
  unfold State.bootSelection
  split
  · split <;> simp
  · rw [if_neg h]
    split
    · split <;> simp
    · rfl

/-! ### The statements -/

/-- Settles O3: a command of one lane replaces that lane in the module (`exec_of_laneOf`). -/
theorem laneCommandsStayInTheirLane : Obligations.LaneCommandsStayInTheirLane := by
  intro c l s t hl ht
  obtain ⟨L, hL⟩ := exec_of_laneOf hl s
  cases hL.symm.trans ht
  exact ⟨State.put_host s l L, State.put_safety s l L, State.put_power s l L, fun k hk => State.put_lane_ne s hk L⟩

/-- Settles O4: what is not a command of the safety lane, of power or of parking is an operation of another part
(`exec_safety_of_not_reachesSafety`), and a command of the safety lane changes no lane (`exec_ofSafetyLane_lane`). -/
theorem faultsStayOutOfTheSafetyLane : Obligations.FaultsStayOutOfTheSafetyLane := by
  intro c s t ht
  refine ⟨fun h => exec_safety_of_not_reachesSafety h ht, ?_, ?_, fun h l => exec_ofSafetyLane_lane h ht l⟩
  · rintro d now rfl hd
    cases (execDomainFault_eq d now s).symm.trans ht
    exact State.domainFault_safety hd now s.quiet
  · rintro part now rfl hp
    cases (execBootSelection_eq part now s).symm.trans ht
    exact (State.startDone_safety _).trans (State.bootSelection_safety hp now s.quiet)

end Sys2Proof.Machine
end

section
/-! PROOFS. The edges of ticks (R27). -/

namespace Sys2Proof.Machine

open Sys2Proof

/-- A third rounded up is the sum with 2 divided by 3. -/
theorem natCeil_third (n : ℕ) : ⌈(n : ℚ) / 3⌉₊ = (n + 2) / 3 := by
  have hceil : ⌈(n : ℚ) / 3⌉ = -(-(n : ℤ) / 3) := mod_cast Rat.ceil_natCast_div_natCast n 3
  have hnonneg : (0 : ℚ) ≤ (n : ℚ) / 3 := by positivity
  have hcast : ((⌈(n : ℚ) / 3⌉₊ : ℕ) : ℤ) = -(-(n : ℤ) / 3) := by rw [Int.natCast_ceil_eq_ceil hnonneg, hceil]
  omega

/-- The edge of tick `k` of second `s` (R27). -/
theorem edgeNs_second_tick (s : Nat) {k : Nat} (hk : k < 96000) :
    edgeNs (s * 96000 + k) = s * 10 ^ 9 + (k * 31250 + 2) / 3 := by
  have hsec : (s * 96000 + k) / 96000 = s := by omega
  have htick : (s * 96000 + k) % 96000 = k := by omega
  rw [edgeNs, hsec, htick]
  norm_num

/-- Settles O58: the number of a tick divides into its second and its tick of the second, and a third rounded up is an
integer division. -/
theorem tickEdgesAreExact : Obligations.TickEdgesAreExact := by
  intro s k hk
  have hthird : ⌈(k : ℚ) * 31250 / 3⌉₊ = (k * 31250 + 2) / 3 := mod_cast natCeil_third (k * 31250)
  exact ⟨by rw [hthird, edgeNs_second_tick s hk], edgeNs_second_tick s hk,
    by simpa using edgeNs_second_tick s (k := 0) (by decide)⟩

end Sys2Proof.Machine
end

section
/-! PROOFS. Commands with an apply tick: what becomes of one that steps 1 to 4 of R302 let through. -/

namespace Sys2Proof.Machine

open Sys2Proof

/-- A command that a function gives with an apply tick: what `exec` makes of it is `State.direct`. -/
def TakenWithTick (h : CmdHead) (c : Instr × HostCmd) : Prop :=
  usesApply c.2 = true ∧ ∀ s : State, exec c.1 s = .next (if s.hostUp then State.direct h c.2 s.quiet else s.quiet)

/-- Such a command that is let through goes on with the role, the apply tick and the arguments. -/
theorem TakenWithTick.exec_eq {h : CmdHead} {c : Instr × HostCmd} (hc : TakenWithTick h c) {s : State} {l : LaneId}
    (hup : s.hostUp = true)
    (hl : s.quiet.LetsThrough h c.2 l (if h.apply = 0 then (s.quiet.lane l).tick + leadTicks c.2 else h.apply)) :
    exec c.1 s = .next (s.quiet.takeTimed l ⟨h.fn, h.tag, cmdOp c.2,
      if h.apply = 0 then (s.quiet.lane l).tick + leadTicks c.2 else h.apply, none, false⟩ true c.2) := by
  rw [hc.2 s, if_pos hup, State.direct_timed hc.1 hl]

/-- A command refused with DESC (R302): a slot write leaves its reason in FAB_WR_LAST. -/
def State.refuseDesc (s : State) (l : LaneId) (id : CmdId) : HostCmd → State
  | .writeSlot n d => s.refuseSlot l id n d
  | _ => s.refuse id 0x000E

section takeTimed

variable {s : State} {l : LaneId} {id : CmdId} {c : HostCmd}

/-- A standby refuses what changes what the lane computes (R228). -/
theorem State.takeTimed_role (hc : changesLane c = true) (hl : (s.lane l).standsBy = true) :
    s.takeTimed l id true c = s.refuse id 0x0008 := by
  simp [State.takeTimed, hc, hl]

variable (hrole : changesLane c = false ∨ (s.lane l).standsBy = false)

include hrole

/-- A tick too early is counted (R45). -/
theorem State.takeTimed_late (ht : (s.lane l).tickStatus c id.apply = 1) :
    s.takeTimed l id true c = (s.mapLane l (fun L => L.bumpSat .LCT_APPLY_LATE)).refuse id 1 := by
  have hpass : (changesLane c && (s.lane l).standsBy) = false := Bool.and_eq_false_iff.2 hrole
  rw [State.takeTimed, hpass, if_neg Bool.false_ne_true, if_pos ht]

/-- A tick too far, or a full lane (R45). -/
theorem State.takeTimed_tick (h0 : (s.lane l).tickStatus c id.apply ≠ 0) (h1 : (s.lane l).tickStatus c id.apply ≠ 1) :
    s.takeTimed l id true c = s.refuse id ((s.lane l).tickStatus c id.apply) := by
  have hpass : (changesLane c && (s.lane l).standsBy) = false := Bool.and_eq_false_iff.2 hrole
  rw [State.takeTimed, hpass, if_neg Bool.false_ne_true, if_neg h1, if_pos (by simpa using h0)]

/-- Arguments that the opcode refuses, other than a descriptor's (R302). -/
theorem State.takeTimed_argsBad (h0 : (s.lane l).tickStatus c id.apply = 0) (hg : s.argStatus id.fn l id.apply c ≠ 0)
    (hd : s.argStatus id.fn l id.apply c ≠ 0x000E) :
    s.takeTimed l id true c = s.refuse id (s.argStatus id.fn l id.apply c) := by
  have hpass : (changesLane c && (s.lane l).standsBy) = false := Bool.and_eq_false_iff.2 hrole
  simp [State.takeTimed, hpass, h0, hg, hd]

/-- A refused descriptor, with its reason (R128). -/
theorem State.takeTimed_descBad (h0 : (s.lane l).tickStatus c id.apply = 0) (hg : s.argStatus id.fn l id.apply c = 0x000E) :
    s.takeTimed l id true c = s.refuseDesc l id c := by
  have hpass : (changesLane c && (s.lane l).standsBy) = false := Bool.and_eq_false_iff.2 hrole
  cases c <;> simp [State.takeTimed, State.refuseDesc, hpass, h0, hg]

/-- A command accepted waits on its lane (R44). -/
theorem State.takeTimed_accepted (h0 : (s.lane l).tickStatus c id.apply = 0) (hg : s.argStatus id.fn l id.apply c = 0) :
    s.takeTimed l id true c = (s.onAccept l id c).mapLane l (Lane.accept id c) := by
  have hpass : (changesLane c && (s.lane l).standsBy) = false := Bool.and_eq_false_iff.2 hrole
  simp [State.takeTimed, hpass, h0, hg]

end takeTimed

/-- Settles O44: each command named is one that `State.direct` takes with its tick (`TakenWithTick`), and what becomes of
it is given by the laws of `State.takeTimed`. APPLY 0 and the statuses of steps 6 and 7 rest in part on assumption log 96
and log 165. -/
theorem timedCommandsWaitForTheirTick : Obligations.TimedCommandsWaitForTheirTick := by
  intro s h l x n vf p d q ch value mask lines i w v qu im b r e ks u c hc
  have htaken : TakenWithTick h c := by
    simp only [List.mem_cons, List.not_mem_nil, or_false] at hc
    rcases hc with rfl | rfl | rfl | rfl | rfl | rfl | rfl | rfl | rfl | rfl | rfl | rfl | rfl | rfl | rfl | rfl | rfl | rfl |
      rfl | rfl | rfl | rfl | rfl | rfl | rfl | rfl | rfl <;> exact ⟨rfl, fun _ => rfl⟩
  clear hc
  intro L a id t g hup hl
  rw [htaken.exec_eq hup hl]
  refine ⟨fun ⟨hch, hsb⟩ => ?_, fun hrole => ⟨fun ht => ?_, fun h0 h1 => ?_, fun h0 hg hge => ?_, fun h0 hg => ?_,
    fun h0 hg => ?_⟩⟩
  · rw [State.takeTimed_role hch hsb]
  · rw [State.takeTimed_late hrole ht]
  · rw [State.takeTimed_tick (id := id) hrole h0 h1]
  · rw [State.takeTimed_argsBad (id := id) hrole h0 hg hge]
  · rw [State.takeTimed_descBad (id := id) hrole h0 hg, hg]
    cases c.2 <;> rfl
  · rw [State.takeTimed_accepted (id := id) hrole h0 hg]

end Sys2Proof.Machine
end

section
/-! PROOFS. Intake in a pair: what a lane forwards of a frame, the cut-off, and the losses of streams. -/

namespace Sys2Proof.Machine

open Sys2Proof

/-! ### Frames at a lane of a pair (R34, R224) -/

/-- A lane that feeds forwards one record for each thing that a frame added to its stream. -/
theorem Lane.ownIntake_forwards {L : Lane} {n : Nat} (hfol : L.twin.follow = false) (hfeeds : L.feeds = true) (f : Lane → Lane) :
    L.ownIntake (some n) f = (f L).forward ((f L).newRecords n (L.stream n)) := by
  simp [Lane.ownIntake, hfol, hfeeds]

/-- The lane as its own intake sees it while it follows the forwarded set. -/
def Lane.onOwnSet (L : Lane) : Lane := { L with intake := { L.intake with streams := L.twin.own, cutTick := L.twin.ownCut } }

/-- At a lane that follows, a frame acts on the lane's own set and leaves the set in use. -/
theorem Lane.ownIntake_follows {L : Lane} (hfol : L.twin.follow = true) (sub : Option Nat) (f : Lane → Lane) :
    (L.ownIntake sub f).intake.streams = L.intake.streams ∧ (L.ownIntake sub f).intake.cutTick = L.intake.cutTick ∧
    (L.ownIntake sub f).twin.own = (f L.onOwnSet).intake.streams := by
  unfold Lane.ownIntake
  rw [if_pos hfol]
  exact ⟨rfl, rfl, rfl⟩

/-! ### The cut-off (R65, R225) -/

theorem Lane.intakeCutoff_runs {L : Lane} (hs : L.inService = true) (hl : L.level < 3) (own : Bool) :
    L.intakeCutoff own = if own then L.ownCutoff else L.refCutoff := by
  simp [Lane.intakeCutoff, hs, hl]

/-- Settles O10: a frame goes through `Lane.ownIntake`, which forwards or keeps to the lane's own set; the cut-off and the
reports of losses are the operations of their rows. The owed entries taken off one by one are assumption log 44. -/
theorem intakeForwardsAndCloses : Obligations.IntakeForwardsAndCloses := by
  intro s l port rx n f g L x own
  refine ⟨fun hfol hfeeds hm => ?_, fun hfol hfeeds hm => ?_, fun hfol => ⟨_, execSampledValueFrame_eq .., ?_⟩,
    fun hfol => ⟨_, execBurstFrame_eq .., ?_⟩, fun hs hl => ?_, fun hs hl => ?_, fun hx => ?_, fun hx => ?_⟩
  · rw [execSampledValueFrame_eq, Lane.svFrame, hm, Lane.ownIntake_forwards hfol hfeeds]
    rfl
  · rw [execBurstFrame_eq, Lane.burstFrame, hm, Lane.ownIntake_forwards hfol hfeeds]
    rfl
  · rw [State.put_lane]
    exact Lane.ownIntake_follows hfol ..
  · rw [State.put_lane]
    exact Lane.ownIntake_follows hfol ..
  · rw [execIntakeCutoff_eq, Lane.intakeCutoff_runs hs hl]
    rfl
  · rw [execIntakeCutoff_eq, Lane.intakeCutoff_runs hs hl]
    rfl
  · rw [execStreamLost_eq, Lane.streamLost, if_neg hx]
  · rw [execStreamRecovered_eq, Lane.streamRecovered, if_neg hx]

end Sys2Proof.Machine
end

section
/-! PROOFS. What INTAKE, marker, COPY, PAGEDIG and command frames do on the lane that takes them. -/

namespace Sys2Proof.Machine

open Sys2Proof

/-! ### Frames of the sightline that are accepted (R216) -/

/-- The lane that has accepted a frame of a class: the counter is kept. -/
def Lane.heard (L : Lane) (cls : Nat) (h : TwinHead) : Lane := L.setTwin { L.twin with rxCtr := L.twin.rxCtr.put cls h.ctr }

theorem Lane.sightline_accepts {L : Lane} {cls : Nat} {h : TwinHead} (hok : L.sightOk cls h = true) (f : Lane → Lane) :
    L.sightline cls h f = f (L.heard cls h) := by
  obtain ⟨htag, hctr⟩ : h.tagOk = true ∧ (L.twin.rxCtr.get? cls).any (fun c => decide (h.ctr ≤ c)) = false := by
    simpa [Lane.sightOk] using hok
  simp [Lane.sightline, Lane.heard, htag, hctr]

/-! ### Forwarded intake (R224, R225) -/

section follow

variable {L : Lane} (hfol : L.twin.follow = true)

include hfol

theorem Lane.intakeRecord_late {r : IntakeRec} (h : r.tick ≤ L.intake.cutTick) :
    L.intakeRecord r = L.bump .TWN_FWD_LATE := by
  simp [Lane.intakeRecord, hfol, h]

theorem Lane.intakeRecord_waits {r : IntakeRec} (h0 : L.intake.cutTick ≠ 0) (h : L.intake.cutTick + 1 < r.tick) :
    L.intakeRecord r = L.setTwin { L.twin with fwd := L.twin.fwd ++ [r] } := by
  have hlate : ¬ r.tick ≤ L.intake.cutTick := by omega
  simp [Lane.intakeRecord, hfol, hlate, h0, h]

theorem Lane.intakeRecord_applied {r : IntakeRec} (h : L.intake.cutTick < r.tick)
    (hnow : L.intake.cutTick = 0 ∨ r.tick = L.intake.cutTick + 1) : L.intakeRecord r = L.applyRecord r := by
  have hlate : ¬ r.tick ≤ L.intake.cutTick := by omega
  have hwaits : ¬ (L.intake.cutTick ≠ 0 ∧ L.intake.cutTick + 1 < r.tick) := by omega
  simp [Lane.intakeRecord, hfol, hlate, hwaits]

theorem Lane.cutoffMarker_kept {tick : Nat} (h : L.intake.cutTick < tick) (gs fio : Nat) :
    L.cutoffMarker tick gs fio =
      let M := if L.fio.image = fio then L else L.bump .ILU_FIO_DISAG
      M.setTwin { M.twin with marker := some (tick, gs, fio) } := by
  have hnew : ¬ tick ≤ L.intake.cutTick := by omega
  by_cases himg : L.fio.image = fio <;> simp [Lane.cutoffMarker, hfol, hnew, himg]

end follow

/-! ### State transfer (R222) -/

theorem Lane.copyFrame_waits {L : Lane} {first last : Nat} (hc : L.copying = true) (h : first ≤ last) (tick : Nat)
    (parts : List (Nat × CopyPart)) :
    L.copyFrame first last tick parts =
      let M := if L.twin.copyPos.any (fun p => decide (first ≤ p)) = true then
        L.setFld .TWN_COPY_PASS 7 0 (L.fld .TWN_COPY_PASS 7 0 + 1) else L
      M.setTwin { M.twin with copyPos := some first, arrived := M.twin.arrived ++ [(first, last, tick, parts)] } := by
  simp [Lane.copyFrame, hc, h]

/-- A page of digests makes its granules dirty but for those found equal, and notes the tick that wrote them. -/
theorem Lane.pageDigests_twin {L : Lane} (hp : L.pstate = psCopy ∨ L.pstate = psFreeze) (tick : Nat) (gr : List (Nat × Bool)) :
    (L.pageDigests tick gr).twin.dirty = (gr.filter (·.2)).foldl (fun d g => cutRange g.1 g.1 d)
      (gr.foldl (fun d g => addGranule g.1 (cutRange g.1 g.1 d)) L.twin.dirty) ∧
    (L.pageDigests tick gr).twin.written = gr.foldl (fun m g => m.put g.1 (max tick (m.getD g.1 0))) L.twin.written := by
  have hrun : ¬ (!(L.pstate == psCopy || L.pstate == psFreeze)) = true := by rcases hp with hp | hp <;> simp [hp]
  rw [Lane.pageDigests, if_neg hrun]
  simp [Lane.noteWritten, Lane.setDirty, Lane.setTwin, List.foldl_map]

/-! ### Commands (R46) -/

/-- An acknowledgement marks the command it names; that of a committed swap is the last it needs (R239). -/
theorem Lane.cmdAck_marks (fn tag : Nat) (L : Lane) :
    L.cmdAck fn tag = { L with pend := L.pend.map (fun x => if x.id.fn = fn ∧ x.id.tag = tag ∧ x.needs = true then
      { x with acked := true, needs := !(x.commit && x.cmd == .twinSwap) } else x) } := by
  simp [Lane.cmdAck, and_assoc]

/-- The lane with the forwarded command that a commit names marked (R46). -/
def Lane.committed (L : Lane) (fn tag : Nat) : Lane :=
  { L with pend := L.pend.map (fun x => if x.id.fn = fn ∧ x.id.tag = tag ∧ x.fwd = true then { x with commit := true } else x) }

/-- A commit marks what it names, and that of a swap is acknowledged (R239). -/
theorem Lane.cmdCommit_eq (fn tag : Nat) (L : Lane) :
    L.cmdCommit fn tag =
      if ∃ x ∈ L.pend, (x.id.fn = fn ∧ x.id.tag = tag ∧ x.fwd = true) ∧ x.cmd = .twinSwap then
        (L.committed fn tag).emitTwin (.cmdAck fn tag) else L.committed fn tag := by
  simp [Lane.cmdCommit, Lane.committed, and_assoc]

/-- Settles O36: an accepted frame acts on the lane that has kept its counter (`Lane.sightline_accepts`), and each frame's
effect is the law of its operation there. The commit of a swap that is acknowledged is assumption log 132, and the equal
flag of a granule of a page is log 74. -/
theorem sightlineIntakeAndTransfer : Obligations.SightlineIntakeAndTransfer := by
  intro s l h r tick gs fio first last fn tag parts gr L K
  refine ⟨fun hok hfol => ⟨fun hr => ?_, fun h0 hr => ?_, fun hr hnow => ?_, fun ht => ?_⟩,
    fun hok => ⟨fun hc hle => ?_, fun hp => ⟨_, execPagedig_eq .., ?_⟩⟩, fun hok => ⟨?_, fun hno => ?_, fun hswap => ?_⟩⟩
  · rw [execIntakeRecord_eq, Lane.sightline_accepts hok, Lane.intakeRecord_late (L := L.heard 1 h) hfol hr]
    rfl
  · rw [execIntakeRecord_eq, Lane.sightline_accepts hok, Lane.intakeRecord_waits (L := L.heard 1 h) hfol h0 hr]
    rfl
  · rw [execIntakeRecord_eq, Lane.sightline_accepts hok, Lane.intakeRecord_applied (L := L.heard 1 h) hfol hr hnow]
    rfl
  · rw [execCutoffMarker_eq, Lane.sightline_accepts hok, Lane.cutoffMarker_kept (L := L.heard 1 h) hfol ht]
    rfl
  · rw [execCopy_eq, Lane.sightline_accepts hok, Lane.copyFrame_waits (L := L.heard 3 h) hc hle]
    rfl
  · rw [State.put_lane, Lane.sightline_accepts hok]
    exact Lane.pageDigests_twin (L := L.heard 3 h) hp tick gr
  · rw [execCmdAck_eq, Lane.sightline_accepts hok, Lane.cmdAck_marks]
    rfl
  · rw [execCmdCommit_eq, Lane.sightline_accepts hok, Lane.cmdCommit_eq, if_neg]
    · rfl
    · rintro ⟨x, hx, hit, hcmd⟩
      exact hno x hx hit hcmd
  · rw [execCmdCommit_eq, Lane.sightline_accepts hok, Lane.cmdCommit_eq, if_pos (show ∃ x ∈ (L.heard 2 h).pend, _ from hswap)]
    rfl

end Sys2Proof.Machine
end

section
/-! PROOFS. Commands in a pair, planned swaps, proof tests and the offset of the twin. -/

namespace Sys2Proof.Machine

open Sys2Proof

/-! ### Commands that wait (R47) -/

theorem mem_placePend (x : Pend) (l : List Pend) : x ∈ placePend x l := by
  induction l with
  | nil => simp [placePend]
  | cons y t ih =>
    unfold placePend
    split
    · exact List.mem_cons_self ..
    · exact List.mem_cons_of_mem _ ih

/-! ### Forwarded commands (R46, R216, R239) -/

/-- An accepted CMD, of a command with which acceptance does nothing else, is taken by the lane that has kept its counter. -/
theorem State.cmdFrame_lane {s : State} {l : LaneId} {h : TwinHead} {fn cls : Nat} {c : HostCmd} (hcls : cmdClass fn c = cls)
    (hok : (s.lane l).sightOk cls h = true) (hc : ∀ (t : State) (id : CmdId), t.onAccept l id c = t) (tag apply : Nat) :
    (s.cmdFrame l h fn tag apply c).lane l = ((s.lane l).heard cls h).takeCmd fn tag apply c := by
  simp [State.cmdFrame, State.takeCmdRow, hcls, hok, hc, Lane.sightline_accepts hok]

/-- A standby keeps a forwarded command and acknowledges it. -/
theorem Lane.takeCmd_standby {L : Lane} (hp : L.paired = true) (hr : L.role = false) (fn tag apply : Nat) (c : HostCmd) :
    L.takeCmd fn tag apply c =
      (L.addPend ⟨⟨fn, tag, cmdOp c, apply, none, true⟩, c, true, false, false, false⟩).emitTwin (.cmdAck fn tag) := by
  simp [Lane.takeCmd, hp, hr]

/-- An active lane proposes the swap that its standby asks for. -/
theorem Lane.takeCmd_swap {L : Lane} (hp : L.pstate = psReplica) (hr : L.role = true) {apply : Nat} (ha : L.tick + 64 ≤ apply)
    (hno : ∀ x ∈ L.pend, x.cmd ≠ .twinSwap) (tag : Nat) :
    L.takeCmd 255 tag apply .twinSwap =
      (L.addPend ⟨⟨255, tag, 0x0C, apply, none, true⟩, .twinSwap, false, true, false, false⟩).emitTwin
        (.cmd 255 tag apply .twinSwap) := by
  have hpair : L.paired = true := by simp [Lane.paired, hp, psCopy, psReplica]
  rw [Lane.takeCmd, if_neg (by simp [hpair]), if_pos hr, if_pos (by simpa [ha, hp] using hno)]
  rfl

/-! ### The commit (R46) -/

/-- Commands refused LATE complete in their order, but for those that complete nothing. -/
theorem Lane.foldl_late_fin (l : List Pend) (L : Lane) :
    (l.foldl (fun (L : Lane) x => L.late x.id) L).fin =
      L.fin ++ (l.filter (fun x => !x.id.quiet)).map (fun x => ⟨x.id, 0x0001, []⟩) := by
  induction l generalizing L with
  | nil => simp
  | cons x t ih =>
    rw [List.foldl_cons, ih]
    cases hq : x.id.quiet <;> simp [Lane.late, Lane.finish, hq]

theorem Lane.late_pend (L : Lane) (id : CmdId) : (L.late id).pend = L.pend := by
  unfold Lane.late Lane.finish
  split <;> rfl

/-- A command due for its commit. -/
def Pend.commitDue (x : Pend) (L : Lane) : Bool := x.needs && !x.commit && decide (x.id.apply ≤ L.tick + 16)

/-- In a pair the commands not acknowledged are gone and the others due are committed. -/
theorem Lane.commitDeadline_pend {L : Lane} (hp : L.paired = true) :
    L.commitDeadline.pend = (L.pend.filter (fun x => !(x.commitDue L && !x.acked))).map
      (fun x => if x.commitDue L then { x with commit := true } else x) := by
  unfold Lane.commitDeadline
  dsimp only
  rw [foldl_keep (fun M : Lane => M.pend) (fun (M : Lane) (x : Pend) => M.late x.id) (fun M x => M.late_pend x.id),
    foldl_keep (fun M : Lane => M.pend) (fun (M : Lane) (x : Pend) => M.emitTwin (.commit x.id.fn x.id.tag)) (fun _ _ => rfl)]
  simp [Pend.commitDue, hp]

/-- In a pair those not acknowledged are refused LATE. -/
theorem Lane.commitDeadline_fin {L : Lane} (hp : L.paired = true) {x : Pend} (hx : x ∈ L.pend) (hdue : x.commitDue L = true)
    (hack : x.acked = false) (hq : x.id.quiet = false) : ⟨x.id, 0x0001, []⟩ ∈ L.commitDeadline.fin := by
  rw [Lane.commitDeadline, Lane.foldl_late_fin]
  refine List.mem_append_right _ (List.mem_map.2 ⟨x, List.mem_filter.2 ⟨List.mem_filter.2 ⟨hx, ?_⟩, by simp [hq]⟩, rfl⟩)
  unfold Pend.commitDue at hdue
  simp [hdue, hack, hp]

/-- A standby drops what is due within 8 ticks without its commit. -/
theorem Lane.commitTimeout_eq (L : Lane) : L.commitTimeout =
    { L with pend := L.pend.filter (fun x => ¬(x.fwd = true ∧ x.commit = false ∧ x.id.apply ≤ L.tick + 8)) } := by
  simp [Lane.commitTimeout, Bool.or_assoc, ← decide_not]

/-! ### Planned swaps (R239) -/

/-- What a change of the datum or of the pulse pairs keeps of a lane: its role, its count of changes of role, its twin record
and the events raised. -/
structure Lane.KeepsRole (L M : Lane) : Prop where
  reg : ∀ r ∈ [Reg.TWN_STAT, .TWN_SWITCH_CNT], M.reg r = L.reg r
  twin : M.twin = L.twin
  occ : L.occ ⊆ M.occ

namespace Lane.KeepsRole

theorem of_eq {L M : Lane} (hr : M.regs = L.regs) (ht : M.twin = L.twin) (ho : M.occ = L.occ) : L.KeepsRole M :=
  ⟨fun r _ => by rw [Lane.reg, hr, Lane.reg], ht, by rw [ho]; exact List.Subset.refl _⟩

theorem refl (L : Lane) : L.KeepsRole L := of_eq rfl rfl rfl

theorem trans {L M N : Lane} (h : L.KeepsRole M) (k : M.KeepsRole N) : L.KeepsRole N :=
  ⟨fun r hr => (k.reg r hr).trans (h.reg r hr), k.twin.trans h.twin, List.Subset.trans h.occ k.occ⟩

/-- A further step that is taken or not. -/
theorem step_if {L M N : Lane} {p : Prop} [Decidable p] (h : L.KeepsRole M) (k : M.KeepsRole N) :
    L.KeepsRole (if p then N else M) := by
  split
  · exact h.trans k
  · exact h

theorem setReg (L : Lane) {r : Reg} (h : r ∉ [Reg.TWN_STAT, .TWN_SWITCH_CNT]) (v : Word) (i j : Nat) :
    L.KeepsRole (L.setReg r v i j) :=
  ⟨fun _ hq => L.setReg_reg_other (ne_of_mem_of_not_mem hq h) v i j 0 0, rfl, List.Subset.refl _⟩

theorem raise (L : Lane) (src code : Nat) (now : Int) (data : List Byte) : L.KeepsRole (L.raise src code now data) :=
  ⟨fun _ _ => rfl, rfl, List.subset_append_left _ _⟩

theorem foldl {β : Type} {f : Lane → β → Lane} (h : ∀ (M : Lane) (x : β), M.KeepsRole (f M x)) (l : List β) (L : Lane) :
    L.KeepsRole (l.foldl f L) := by
  induction l generalizing L with
  | nil => exact refl L
  | cons x t ih => exact (h L x).trans (ih _)

theorem leaveRef (L : Lane) (now : Int) : L.KeepsRole (L.leaveRef now) := by
  unfold Lane.leaveRef
  split <;> exact of_eq rfl rfl rfl

theorem showDatum (L : Lane) (a b : Bool) : L.KeepsRole (L.showDatum a b) :=
  trans (setReg _ (by decide) ..) (setReg _ (by decide) ..)

theorem enterDatum (L : Lane) (st : Nat) (now : Int) : L.KeepsRole (L.enterDatum st now) := by
  unfold Lane.enterDatum
  dsimp only
  split
  · exact refl L
  · have hslew : ∀ M : Lane, M.KeepsRole { M with datum := { M.datum with slew := none } } := fun _ => of_eq rfl rfl rfl
    refine trans ?_ (raise ..)
    refine step_if ?_ (of_eq rfl rfl rfl)
    refine step_if ?_ (of_eq rfl rfl rfl)
    refine step_if ?_ (setReg _ (by decide) ..)
    refine trans ?_ (showDatum ..)
    refine trans ?_ (setReg _ (by decide) ..)
    exact step_if (refl L) (hslew L)

theorem foldTo {n : Nat} {f : Lane → Nat → Lane} (h : ∀ (M : Lane) (x : Nat), M.KeepsRole (f M x)) (L : Lane) :
    L.KeepsRole (foldTo n f L) := foldl h _ L

theorem twinDatum (L : Lane) (now : Int) : L.KeepsRole (L.twinDatum now) := by
  unfold Lane.twinDatum
  dsimp only
  refine trans ?_ (enterDatum ..)
  refine trans ?_ (setReg _ (by decide) ..)
  refine trans ?_ (setReg _ (by decide) ..)
  refine trans ?_ (foldTo (fun M p => setReg _ (by decide) ..) _)
  exact trans (leaveRef L now) (of_eq rfl rfl rfl)

theorem freezeTarget (L : Lane) (now : Int) : L.KeepsRole (L.freezeTarget now) := by
  unfold Lane.freezeTarget Lane.writeTarget
  refine trans ?_ (setReg _ (by decide) ..)
  refine trans ?_ (setReg _ (by decide) ..)
  exact of_eq rfl rfl rfl

theorem holdover (L : Lane) (now : Int) : L.KeepsRole (L.holdover now) := by
  unfold Lane.holdover
  dsimp only
  refine trans ?_ (enterDatum ..)
  refine trans ?_ (setReg _ (by decide) ..)
  refine trans ?_ (foldTo (fun M p => setReg _ (by decide) ..) _)
  exact trans (trans (freezeTarget L now) (leaveRef _ now)) (of_eq rfl rfl rfl)

theorem clearCount (L : Lane) (c : Nat) : L.KeepsRole (L.clearCount c) := by
  unfold Lane.clearCount
  dsimp only
  refine step_if ?_ (setReg _ (by decide) ..)
  exact of_eq rfl rfl rfl

theorem showRef (L : Lane) (c : Nat) : L.KeepsRole (L.showRef c) := by
  have hports : L.KeepsRole (Machine.foldTo 4 (fun L p => L.setFlag .DTM_PORT_STAT 26 (p == c) p) L) :=
    foldTo (fun M p => setReg M (by decide) ..) L
  unfold Lane.showRef
  dsimp only
  split
  · exact trans hports (setReg _ (by decide) ..)
  · refine trans ?_ (setReg _ (by decide) ..)
    exact trans hports (setReg _ (by decide) ..)

theorem commitSwitch (L : Lane) (c : Nat) (now : Int) : L.KeepsRole (L.commitSwitch c now) := by
  have hcount : ∀ (M : Lane) (k : Nat), M.KeepsRole (if k = c || (M.cand k).qual then M else M.clearCount k) := fun M k => by
    split
    · exact refl M
    · exact clearCount M k
  unfold Lane.commitSwitch
  dsimp only
  refine trans ?_ (enterDatum ..)
  refine trans ?_ (setReg _ (by decide) ..)
  refine trans ?_ (showRef ..)
  exact trans (trans (leaveRef L now) (foldTo hcount _)) (of_eq rfl rfl rfl)

theorem leaveTwinTime (L : Lane) (now : Int) : L.KeepsRole (L.leaveTwinTime now) := by
  have hrun : L.KeepsRole (({ L with datum := { L.datum with twinRun := 0 } } : Lane).setFlag .DTM_STAT 23 false) :=
    trans (M := { L with datum := { L.datum with twinRun := 0 } }) (of_eq rfl rfl rfl) (setReg _ (by decide) ..)
  unfold Lane.leaveTwinTime
  dsimp only
  split
  · exact refl L
  · split
    · exact trans hrun (commitSwitch ..)
    · exact trans hrun (holdover ..)

theorem startPulses (L : Lane) : L.KeepsRole L.startPulses := by
  unfold Lane.startPulses
  refine foldTo (fun M p => ?_) L
  exact step_if (refl M) (of_eq rfl rfl rfl)

theorem runOut (L : Lane) : L.KeepsRole L.runOut := by
  unfold Lane.runOut
  refine foldl (fun M c => ?_) _ L
  dsimp only
  split
  · exact refl M
  · exact of_eq rfl rfl rfl

end Lane.KeepsRole

/-- A flag is the field of its one bit. -/
theorem bit_eq_bits (w : Word) (i : Nat) : bit w i = decide (bits w i i = 1) := by
  have hfield : i + 1 - i = 1 := by omega
  rw [bit, ← BitVec.testBit_toNat, Nat.testBit_eq_decide_div_mod_eq, bits, Nat.shiftRight_eq_div_pow, hfield, pow_one]

/-- A flag above a field just written keeps its value. -/
theorem Lane.setFld_flag_above (L : Lane) (r : Reg) {hi lo b : Nat} (h : lo ≤ hi) (hh : hi < 32) (hb : hi < b) (v i j : Nat) :
    (L.setFld r hi lo v i j).flag r b i j = L.flag r b i j := by
  rw [Lane.flag, Lane.setFld, Lane.setReg_reg_self, bit_eq_bits, bits_putBits_above _ h hh hb, ← bit_eq_bits, Lane.flag]

/-- The role has been left and the change counted: what PLANNED_SWAP does before it gives the new role. -/
def Lane.swapCounted (L : Lane) (a : Nat) : Lane :=
  (((L.setTwin { L.twin with turn := none }).raise 9 0x05 (L.refEdge : Nat) (leBytes 8 a)).bump .TWN_SWITCH_CNT).setFld
    .TWN_STAT 22 0 0

/-- The lane with the other role, before its pulses and its datum follow. -/
def Lane.turned (L : Lane) (a : Nat) : Lane := (L.swapCounted a).setFlag .TWN_STAT 28 (!L.role)

theorem Lane.swapCounted_role (L : Lane) (a : Nat) : (L.swapCounted a).role = L.role := by
  rw [Lane.role, Lane.swapCounted, Lane.setFld_flag_above _ _ (by decide) (by decide) (by decide), Lane.flag, Lane.bump,
    Lane.setReg_reg_other _ (by decide)]
  rfl

theorem Lane.turned_shows (L : Lane) (a : Nat) :
    (L.turned a).role = !L.role ∧ (L.turned a).twin.turn = none ∧
    (L.turned a).reg .TWN_SWITCH_CNT = L.reg .TWN_SWITCH_CNT + 1 ∧
    ∃ o ∈ (L.turned a).occ, o.src = 9 ∧ o.code = 0x05 ∧ o.time = (L.refEdge : Nat) ∧ o.data = leBytes 8 a := by
  refine ⟨?_, rfl, ?_, _, List.mem_append_right _ (List.mem_singleton.2 rfl), rfl, rfl, rfl, rfl⟩
  · exact Lane.setFlag_flag_self _ _ (by decide) _ _ _
  · rw [Lane.turned, Lane.setFlag, Lane.setReg_reg_other _ (by decide), Lane.swapCounted, Lane.setFld,
      Lane.setReg_reg_other _ (by decide), Lane.bump, Lane.setReg_reg_self]
    rfl

/-- What follows the change of role leaves it as it is. -/
theorem Lane.plannedSwap_turned {L : Lane} {a : Nat} (hturn : L.twin.turn = some a) (ha : a < L.tick)
    (hp : L.pstate = psReplica) : (L.turned a).KeepsRole L.plannedSwap := by
  have hswap : L.plannedSwap = if (L.swapCounted a).role then
      (((L.swapCounted a).setFlag .TWN_STAT 28 false).runOut).twinDatum ((L.swapCounted a).refEdge : Nat)
    else
      let M := ((L.swapCounted a).setFlag .TWN_STAT 28 true).leaveTwinTime ((L.swapCounted a).refEdge : Nat)
      (M.setNum64 .TWN_SWITCH_TK_LO .TWN_SWITCH_TK_HI M.tick).startPulses := by
    unfold Lane.plannedSwap
    rw [hturn]
    exact if_neg (by simp [hp, ha])
  rw [hswap, Lane.swapCounted_role]
  cases hr : L.role
  · rw [if_neg Bool.false_ne_true, Lane.turned, hr]
    refine .trans ?_ (.startPulses _)
    refine .trans ?_ (.setReg _ (by decide) ..)
    refine .trans ?_ (.setReg _ (by decide) ..)
    exact .leaveTwinTime _ _
  · rw [if_pos rfl, Lane.turned, hr]
    exact .trans (.runOut _) (.twinDatum _ _)

/-! ### What a standby asks for, and the proof test (R240, R242) -/

theorem Lane.requalified_asks {L : Lane} {a : Nat} (hp : L.pstate = psReplica) (hr : L.role = false)
    (hpref : L.flag .TWN_CFG 30 = true) (hrev : L.flag .TWN_CFG 29 = true) (hq : L.fld .TWN_REQUAL 22 0 ≤ L.fld .TWN_STAT 22 0)
    (ha : L.tick + 64 ≤ a) (hno : ∀ x ∈ L.pend, x.cmd ≠ .twinSwap) : L.requalified a = L.emitTwin (.swap a) := by
  rw [Lane.requalified, if_neg (by simpa [hp, hr, hpref, hrev, hq, ha] using hno)]

/-- What a proof test that is due makes of its output, as it reads back (R242). -/
theorem Lane.proofTest_due {L : Lane} {i : Nat} (hs : L.inService = true) (hr : L.role = false) (hp : L.paired = true)
    (hw : L.fld .TWN_PROOF_CFG 31 21 ≠ 0) (ha : L.twin.proofAt + L.fld .TWN_PROOF_CFG 20 0 ≤ L.tick)
    (hi : nextProof L.img.proof (L.twin.proofIx.getD 23) = some i) (level : Bool) (now : Int) :
    let M := (L.setTwin { L.twin with proofIx := some i, proofAt := L.tick }).emit
      (.proof i (!L.proofLevel i) (L.refEdge + 6000) (L.fld .TWN_PROOF_CFG 31 21))
    L.proofTest level now = if level = !L.proofLevel i then M
      else ((M.setFlag .TWN_PROOF_FAIL i true).setFlag .TWN_STAT 24 true).raise 9 0x09 now
        (leBytes 1 (bnat (decide (16 ≤ i))) ++ leBytes 1 (if 16 ≤ i then i - 16 else i)) := by
  rw [Lane.proofTest, if_neg (by simp [hs, hr, hp, hw, ha]), hi]

/-- Settles O40: an accepted CMD is taken by its lane (`State.takeCmdRow_lane`), the commands that wait are judged one by
one (`Lane.commitDeadline_pend`), what follows a change of role keeps it (`Lane.plannedSwap_turned`), and the other rows are
their operations in the state named. The swap that a standby asks for is assumption log 132, the rotation of the proof
test log 81. -/
theorem commandsInThePair : Obligations.CommandsInThePair := by
  intro s l h fn tag apply a i now L
  have hlane : s.quiet.lane l = L := State.quiet_lane_now s l
  refine ⟨fun hok hp hr => ?_, fun hok hp hr ha hno => ?_, fun hp => ⟨_, execCommitDeadline_eq .., ?_⟩, ?_, fun hturn ha hp => ?_,
    fun hp hr hpref hrev hq ha hno => ?_, fun hs hr hp hw ha hi => ⟨?_, ?_⟩, fun hrun hset => ?_⟩
  · have hcls : cmdClass fn .nop = 2 := rfl
    refine ⟨_, execCmd_eq .., ?_⟩
    rw [State.cmdFrame_lane hcls (by rwa [hlane]) (fun _ _ => rfl), hlane,
      Lane.takeCmd_standby (L := L.heard 2 h) hp hr]
    exact ⟨mem_placePend .., rfl⟩
  · have hcls : cmdClass 255 .twinSwap = 0 := rfl
    refine ⟨_, execCmd_eq .., ?_⟩
    rw [State.cmdFrame_lane hcls (by rwa [hlane]) (fun _ _ => rfl), hlane,
      Lane.takeCmd_swap (L := L.heard 0 h) hp hr ha hno]
    exact ⟨mem_placePend .., rfl⟩
  · rw [State.put_lane]
    refine ⟨?_, fun x hx hneeds happly => ?_, fun x hx hlost hq => ?_⟩
    · rw [Lane.commitDeadline_pend hp, List.length_map]
      refine congrArg List.length (List.filter_congr fun x _ => ?_)
      rw [Bool.eq_iff_iff]
      simp [Pend.commitDue]
      tauto
    · rw [Lane.commitDeadline_pend hp] at hx
      obtain ⟨y, -, rfl⟩ := List.mem_map.1 hx
      by_cases hdue : y.commitDue L = true
      · rw [if_pos hdue]
      · rw [if_neg hdue] at hneeds happly ⊢
        simpa [Pend.commitDue, hneeds, happly] using hdue
    · obtain ⟨hneeds, hcommit, happly, hack⟩ := hlost
      exact Lane.commitDeadline_fin hp hx (by simp [Pend.commitDue, hneeds, hcommit, happly]) hack hq
  · rw [execStandbyCommitTimeout_eq, Lane.commitTimeout_eq]
  · obtain ⟨hrole, hno, hcnt, o, ho, hev⟩ := L.turned_shows a
    obtain ⟨hreg, htwin, hocc⟩ := Lane.plannedSwap_turned hturn ha hp
    refine ⟨_, execPlannedSwap_eq .., ?_⟩
    rw [State.put_lane]
    refine ⟨?_, by rw [htwin, hno], by rw [hreg _ (by decide), hcnt], o, hocc ho, hev⟩
    rw [← hrole, Lane.role, Lane.flag, hreg _ (by decide)]
    rfl
  · rw [execRequalified_eq, Lane.requalified_asks hp hr hpref hrev hq ha hno]
  · rw [execOutputProofTest_eq, Lane.proofTest_due hs hr hp hw ha hi, if_pos rfl]
  · rw [execOutputProofTest_eq, Lane.proofTest_due hs hr hp hw ha hi, if_neg (by simp)]
  · rw [execTwinOffsetAlarm_eq, Lane.twinAlarm, if_neg (by simp [hset, L, hrun])]

end Sys2Proof.Machine
end

section
/-! PROOFS. The tick edge, the closure, the recovery of a lane, parcels that come back and a tracked parcel. -/

namespace Sys2Proof.Machine

open Sys2Proof

/-- The reset state with one value still listed as sent to the host: what a register read leaves behind it. -/
def readAnswered : State := State.reset.hcx (fun H => { H with sent := [.value 0] })

/-- The closure of a lane out of service does nothing in the host complex (R38). -/
theorem State.closure_outOfService_host {s : State} {l : LaneId} (h : (s.lane l).inService = false) (fail : Nat) (x : ClosureIn) :
    (s.closure l fail x).host = s.host := by
  simp [State.closure, h]

/-- CLOSURE is a command of the module, so whatever the host complex last sent is forgotten, as before every such command
(`onModule`, `State.quiet`). -/
theorem execClosure_outOfService_sent {s t : State} {l : LaneId} (h : (s.now l).inService = false) {fail : Nat} {x : ClosureIn}
    (ht : exec (.closure l fail x) s = .next t) : t.host.sent = [] := by
  cases (execClosure_eq l fail x s).symm.trans ht
  rw [State.closure_outOfService_host (by rwa [State.quiet_lane_now])]
  rfl

/-- Refutes O45: the clauses of CLOSURE give the next state as `s` with lane `l` replaced (`s.put l`), but a CLOSURE begins
from `s.quiet`, where nothing is listed as sent by any part. In `readAnswered` lane A is out of service and the host complex
still lists the value of a register read: the clause keeps it, and the command does not. -/
theorem not_traverseRunsItsEdges : ¬ Obligations.TraverseRunsItsEdges := by
  intro h
  obtain ⟨-, -, -, hclosure, -⟩ := h readAnswered .a ⟨⟨0, 0, 0, 0, none, false⟩, .nop, false, false, false, false⟩ [] 0 0 noImg
    false false 0 ⟨[], 0⟩ ⟨0, .a, 0, .b, 0, 0, false, false, none, 0, none, false, false, false⟩ 0
  have hout : (readAnswered.now .a).inService = false := by decide
  have hsent : (readAnswered.put .a (readAnswered.now .a)).host.sent = [] :=
    execClosure_outOfService_sent hout (hclosure hout)
  exact absurd hsent (by decide)

end Sys2Proof.Machine
end

section
/-! PROOFS. Frames of field data at an open port: sampled values, bursts and GOOSE, and the expiry of a GOOSE
subscription. -/

namespace Sys2Proof.Machine

open Sys2Proof

/-! ### Frames at a lane outside a pair's forwarding (R34, R53) -/

/-- The lane that has counted one more frame: what every check of a received frame reads (R53, R54). -/
abbrev Lane.framed (L : Lane) : Lane := { L with intake := { L.intake with fps := L.intake.fps + 1 } }

/-- A lane that neither follows a forwarded set nor forwards its own takes a frame into its only set. -/
theorem Lane.ownIntake_alone {L : Lane} (hfol : L.twin.follow = false) (hfeeds : L.feeds = false) (sub : Option Nat)
    (f : Lane → Lane) : L.ownIntake sub f = f L := by
  simp [Lane.ownIntake, hfol, hfeeds]

theorem execSampledValueFrame_alone {s : State} {l : LaneId} (hfol : (s.now l).twin.follow = false)
    (hfeeds : (s.now l).feeds = false) (port rx : Nat) (f : SvFrame) :
    exec (.sampledValueFrame l port rx f) s = .next (s.put l ((s.now l).takeSv port rx f)) := by
  rw [execSampledValueFrame_eq, Lane.svFrame, Lane.ownIntake_alone hfol hfeeds]

theorem execBurstFrame_alone {s : State} {l : LaneId} (hfol : (s.now l).twin.follow = false)
    (hfeeds : (s.now l).feeds = false) (port rx : Nat) (f : BurstFrame) :
    exec (.burstFrame l port rx f) s = .next (s.put l ((s.now l).takeBurst port rx f)) := by
  rw [execBurstFrame_eq, Lane.burstFrame, Lane.ownIntake_alone hfol hfeeds]

/-! ### Sampled-value frames (R53 to R60) -/

section takeSv

variable {L : Lane} {port rx n : Nat} {f : SvFrame} (hopen : L.intakeOpen port = true)

include hopen

theorem Lane.takeSv_own (hown : L.framed.isOwnMac f.src = true) :
    L.takeSv port rx f = L.framed.bump .INT_OWNDROP := by
  simp [Lane.takeSv, hopen, hown]

variable (hother : L.framed.isOwnMac f.src = false)

include hother

theorem Lane.takeSv_unmatched (hsub : L.framed.matchSv port f = none) :
    L.takeSv port rx f = L.framed.bump .INT_UNMATCHED := by
  simp [Lane.takeSv, hopen, hother, hsub]

variable (hsub : L.framed.matchSv port f = some n)

include hsub

theorem Lane.takeSv_misformed {c : Nat} (hdrop : L.framed.svDrop n f = some c) :
    L.takeSv port rx f = L.framed.fmtErr n c := by
  simp [Lane.takeSv, hopen, hother, hsub, hdrop]

variable (hfmt : L.framed.svDrop n f = none)

include hfmt

/-- Authentication is judged on the lane that has counted the frame's values of smpSynch above 2. -/
theorem Lane.takeSv_unauthentic
    (hauth : (L.framed.countSynch f).authKey ((L.framed.countSynch f).fld .INT_SUB_AUTH 31 30 n)
      ((L.framed.countSynch f).fld .INT_SUB_AUTH 7 0 n) f.ext = none) :
    L.takeSv port rx f = (L.framed.countSynch f).bump .INT_SUB_AUTHFAIL n := by
  simp [Lane.takeSv, hopen, hother, hsub, hfmt, hauth]

/-- An authentic frame's ASDUs are taken in order, and the frame counts when one was accepted. -/
theorem Lane.takeSv_authentic {next taken : Bool} {M : Lane}
    (hauth : (L.framed.countSynch f).authKey ((L.framed.countSynch f).fld .INT_SUB_AUTH 31 30 n)
      ((L.framed.countSynch f).fld .INT_SUB_AUTH 7 0 n) f.ext = some next)
    (htake : ((L.framed.countSynch f).convert rx).2.takeAsdus n f next ((L.framed.countSynch f).convert rx).1 0 f.asdus =
      (M, taken)) :
    L.takeSv port rx f = if taken then M.bump .INT_SUB_FRAMES n else M := by
  simp [Lane.takeSv, hopen, hother, hsub, hfmt, hauth, htake]

end takeSv

/-- Settles O8: a lane outside a pair's forwarding takes the frame by `Lane.takeSv`, one law for each outcome. That every
smpSynch above 2 is counted before authentication is assumption log 144, and that a frame is authenticated once, before
its ASDUs, log 47. -/
theorem sampledValueIntake : Obligations.SampledValueIntake := by
  intro s l port rx f L K hopen hfol hfeeds
  rw [execSampledValueFrame_alone hfol hfeeds]
  refine ⟨fun hown => ?_, fun hother hsub => ?_, fun n hother hsub => ⟨fun c hdrop => ?_, fun hfmt => ⟨fun hauth => ?_,
    fun next hauth M taken htake => ?_⟩⟩⟩
  · rw [Lane.takeSv_own hopen hown]
  · rw [Lane.takeSv_unmatched hopen hother hsub]
  · rw [Lane.takeSv_misformed hopen hother hsub hdrop]
  · rw [Lane.takeSv_unauthentic hopen hother hsub hfmt hauth]
  · rw [Lane.takeSv_authentic hopen hother hsub hfmt hauth htake]

/-! ### Burst frames (R53 to R59) -/

section takeBurst

variable {L : Lane} {port rx n : Nat} {f : BurstFrame} (hopen : L.intakeOpen port = true)

include hopen

theorem Lane.takeBurst_own (hown : L.framed.isOwnMac f.src = true) :
    L.takeBurst port rx f = L.framed.bump .INT_OWNDROP := by
  simp [Lane.takeBurst, hopen, hown]

variable (hother : L.framed.isOwnMac f.src = false)

include hother

theorem Lane.takeBurst_unmatched (hsub : L.framed.matchBurst port f = none) :
    L.takeBurst port rx f = L.framed.bump .INT_UNMATCHED := by
  simp [Lane.takeBurst, hopen, hother, hsub]

variable (hsub : L.framed.matchBurst port f = some n)

include hsub

theorem Lane.takeBurst_misformed {c : Nat} (hdrop : L.framed.burstDrop n f = some c) :
    L.takeBurst port rx f = L.framed.fmtErr n c := by
  simp [Lane.takeBurst, hopen, hother, hsub, hdrop]

variable (hfmt : L.framed.burstDrop n f = none)

include hfmt

theorem Lane.takeBurst_unauthentic
    (hauth : L.framed.authKey (L.framed.fld .INT_SUB_AUTH 31 30 n) (L.framed.fld .INT_SUB_AUTH 7 0 n)
      (L.framed.burstExt n f) = none) :
    L.takeBurst port rx f = L.framed.bump .INT_SUB_AUTHFAIL n := by
  simp [Lane.takeBurst, hopen, hother, hsub, hfmt, hauth]

theorem Lane.takeBurst_authentic {next : Bool}
    (hauth : L.framed.authKey (L.framed.fld .INT_SUB_AUTH 31 30 n) (L.framed.fld .INT_SUB_AUTH 7 0 n)
      (L.framed.burstExt n f) = some next) :
    L.takeBurst port rx f = L.framed.acceptBurst n rx f next := by
  simp [Lane.takeBurst, hopen, hother, hsub, hfmt, hauth]

end takeBurst

/-- Settles O9: a lane outside a pair's forwarding takes the frame by `Lane.takeBurst`, one law for each outcome; what
authentication lets through is judged for a key change and for duplicates by `Lane.acceptBurst`. -/
theorem burstIntake : Obligations.BurstIntake := by
  intro s l port rx f L K hopen hfol hfeeds
  rw [execBurstFrame_alone hfol hfeeds]
  refine ⟨fun hown => ?_, fun hother hsub => ?_, fun n hother hsub => ⟨fun c hdrop => ?_, fun hfmt => ⟨fun hauth => ?_,
    fun next hauth => ?_⟩⟩⟩
  · rw [Lane.takeBurst_own hopen hown]
  · rw [Lane.takeBurst_unmatched hopen hother hsub]
  · rw [Lane.takeBurst_misformed hopen hother hsub hdrop]
  · rw [Lane.takeBurst_unauthentic hopen hother hsub hfmt hauth]
  · rw [Lane.takeBurst_authentic hopen hother hsub hfmt hauth]

/-! ### GOOSE frames and expiries (R197 to R199) -/

/-- The GOOSE subscription that a frame belongs to: the lowest numbered one that it matches (R197). -/
abbrev Lane.gsHit (L : Lane) (port : Nat) (f : GooseFrame) : Option Nat :=
  (List.range 32).find? (fun g => L.gsMatches port f g)

section takeGoose

variable {L : Lane} {port rx g : Nat} {f : GooseFrame} (hopen : L.intakeOpen port = true)

include hopen

theorem Lane.takeGoose_own (hown : L.framed.isOwnMac f.src = true) :
    L.takeGoose port rx f = L.framed.bump .INT_OWNDROP := by
  simp [Lane.takeGoose, hopen, hown]

variable (hother : L.framed.isOwnMac f.src = false)

include hother

theorem Lane.takeGoose_unmatched (hhit : L.framed.gsHit port f = none) :
    L.takeGoose port rx f = L.framed.bump .INT_UNMATCHED := by
  simp only [Lane.takeGoose, hopen, hother, hhit]
  rfl

variable (hhit : L.framed.gsHit port f = some g)

include hhit

theorem Lane.takeGoose_dropped (hacc : L.framed.gsAccept g f = false) :
    L.takeGoose port rx f = L.framed.bump .ILU_GS_DROP g := by
  simp [Lane.takeGoose, hopen, hother, hhit, hacc]

variable (hacc : L.framed.gsAccept g f = true)

include hacc

theorem Lane.takeGoose_unauthentic (hauth : L.framed.gsAuth g f = none) :
    L.takeGoose port rx f = L.framed.bump .ILU_GS_AUTHFAIL g := by
  simp [Lane.takeGoose, hopen, hother, hhit, hacc, hauth]

/-- An authentic frame is taken when it is new, and counted as a duplicate otherwise (R198). -/
theorem Lane.takeGoose_authentic {next : Bool} (hauth : L.framed.gsAuth g f = some next) :
    L.takeGoose port rx f =
      if (L.framed.gsSub g).isNew f then L.framed.gsTake g rx f next else L.framed.bump .ILU_GS_DUP g := by
  simp [Lane.takeGoose, hopen, hother, hhit, hacc, hauth]

end takeGoose

/-- A subscription with an expiry to report, its own of this cut-off or one still owed, reports one. -/
theorem Lane.talExpiry_reports {L : Lane} {g : Nat} (howed : ((L.gsExpire g).gsSub g).evt ≠ 0) :
    L.talExpiry g =
      let E := L.gsExpire g
      (E.setGs g { E.gsSub g with evt := (E.gsSub g).evt - 1 }).raise (192 + g) 0x01 E.cutNs (E.gsSub g).evtData := by
  rw [Lane.talExpiry, if_neg howed]

/-- Settles O32: a GOOSE frame is taken by `Lane.takeGoose`, one law for each outcome in the order of R198, and an expiry is
reported by `Lane.talExpiry_reports`. The expiries owed and taken off one by one are assumption log 72. -/
theorem gooseIntake : Obligations.GooseIntake := by
  intro s l port rx g f L K hit
  rw [execGooseFrame_eq]
  refine ⟨fun hopen hown => ?_, fun hopen hother => ⟨fun hhit => ?_, fun hhit hacc => ?_, fun hhit hacc hauth => ?_,
    fun next hhit hacc hauth => ⟨fun hold => ?_, fun hnew => ?_⟩⟩, fun howed => ?_⟩
  · rw [Lane.takeGoose_own hopen hown]
  · rw [Lane.takeGoose_unmatched hopen hother hhit]
  · rw [Lane.takeGoose_dropped hopen hother hhit hacc]
  · rw [Lane.takeGoose_unauthentic hopen hother hhit hacc hauth]
  · rw [Lane.takeGoose_authentic hopen hother hhit hacc hauth, if_neg (by simpa using hold)]
  · rw [Lane.takeGoose_authentic hopen hother hhit hacc hauth, if_pos hnew]
  · rw [execTalExpiry_eq, Lane.talExpiry_reports howed]

end Sys2Proof.Machine
end

section
/-! PROOFS. A stage window of the element fabric, without a fault and with a fault of stages 1 to 3. -/

namespace Sys2Proof.Machine

open Sys2Proof

/-- The slots of a stage, evaluated in ascending order; in a freeze tick none is (R98, R223). -/
def Lane.stageEvaluated (L : Lane) (g : Nat) : Lane :=
  if L.frozen then L else (L.stageSlots g).foldl (fun K p => K.evalSlot g p.1 p.2) L

/-- What a fabric fault that no shadow comparison meets leaves: the latch with its cause, the event and the drop (R132). -/
def Lane.fabLatched (L : Lane) (g : Nat) (f : FabFault) : Lane :=
  let K := (L.setFlag .FAB_STAT 28 true).setFld .FAB_STAT 27 26 f.cause
  (K.raise 4 0x01 (K.refEdge + K.stageEnd g : Nat) (leBytes 1 f.cause ++ leBytes 1 f.pipe ++ leBytes 2 f.slot)).dropTo 2 1
    (K.refEdge + K.stageEnd g : Nat)

/-- Only a shadow mismatch, cause 1, depends on what the spare compares in the tick (R131). -/
theorem Lane.fabFault_of_cause_ne_one (L : Lane) (g : Nat) {f : FabFault} (hcause : f.cause ≠ 1) :
    L.fabFault g f = L.fabLatched g f := by
  simp [Lane.fabFault, Lane.fabLatched, hcause]

section elementStage
variable {L : Lane} {g : Nat} (hlevel : L.level < 2)

include hlevel

/-- Below Level 2 a stage without a fault evaluates its slots and counts ECC errors; the last of the four ends the
fabric's work of the tick. -/
theorem Lane.elementStage_noFault (hg : g < 4) (ce : Nat) :
    L.elementStage g none ce =
      let K := (L.stageEvaluated g).bump .FAB_ECC_CE 0 ce
      if g = 3 then (if K.shadows then K.bump .FAB_SHADOW_CNT else K).markDone 5 else K := by
  rw [Lane.elementStage, if_neg (by simp; omega)]
  rfl

/-- Below Level 2 a fault of an earlier stage than the last is met after the stage's slots. -/
theorem Lane.elementStage_fault (hg : g < 3) (f : FabFault) (ce : Nat) :
    L.elementStage g (some f) ce = ((L.stageEvaluated g).bump .FAB_ECC_CE 0 ce).fabFault g f := by
  have hlast : g ≠ 3 := by omega
  rw [Lane.elementStage, if_neg (by simp; omega)]
  simp only [if_neg hlast, Lane.stageEvaluated]

end elementStage

/-- Settles O22: without a fault the window is `Lane.elementStage_noFault`; a fault of stages 1 to 3 is met after the slots
(`Lane.elementStage_fault`), and one of a cause other than 1 always latches (`Lane.fabFault_of_cause_ne_one`). -/
theorem stageWindowEvaluates : Obligations.StageWindowEvaluates := by
  intro s l g ce f L E hlevel
  refine ⟨fun hg => ?_, fun hg hcause => ?_⟩
  · rw [execElementStage_eq, Lane.elementStage_noFault hlevel hg]
    rfl
  · rw [execElementStage_eq, Lane.elementStage_fault hlevel hg, Lane.fabFault_of_cause_ne_one _ g hcause]
    rfl

end Sys2Proof.Machine
end

section
/-! PROOFS. The trip matrix: the backstop latch, the trip-matrix latch, readback, the backstop lock, repeats of GOOSE
publications and published streams. -/

namespace Sys2Proof.Machine

open Sys2Proof

/-! ### A fold that reaches each index once -/

section eachOnce

variable {σ γ : Type} {f : σ → Nat → σ} {g : σ → γ} {i : Nat} (hother : ∀ s x, x ≠ i → g (f s x) = g s)

theorem foldTo_succ (n : Nat) (f : σ → Nat → σ) (s : σ) : foldTo (n + 1) f s = f (foldTo n f s) n := by
  simp [foldTo, List.range_succ]

include hother

/-- What only the step at `i` changes stands until that step. -/
theorem foldTo_keeps_before {n : Nat} (hn : n ≤ i) (s : σ) : g (foldTo n f s) = g s := by
  induction n with
  | zero => rfl
  | succ n ih => rw [foldTo_succ, hother _ _ (by omega), ih (by omega)]

/-- What only the step at `i` changes ends as that step leaves it, and that step finds it as it stood at first. -/
theorem foldTo_eq_step_at {n : Nat} (hi : i < n) (s : σ) : ∃ s', g s' = g s ∧ g (foldTo n f s) = g (f s' i) := by
  induction n with
  | zero => omega
  | succ n ih =>
    rw [foldTo_succ]
    by_cases h : i = n
    · subst h
      exact ⟨_, foldTo_keeps_before hother (le_refl _) s, rfl⟩
    · rw [hother _ _ (Ne.symm h)]
      exact ih (by omega)

end eachOnce

/-! ### Trip lines, flags and publications after a write -/

@[simp] theorem Lane.setLine_line_self (L : Lane) (i : Nat) (x : TripLine) : (L.setLine i x).line i = x :=
  NMap.getD_put_self ..

theorem Lane.setLine_line_ne (L : Lane) {i j : Nat} (h : i ≠ j) (x : TripLine) : (L.setLine j x).line i = L.line i :=
  NMap.getD_put_ne _ h ..

theorem Lane.setFlag_flag_ne (L : Lane) (r : Reg) {a b : Nat} (h : a ≠ b) (v : Bool) (i j : Nat) :
    (L.setFlag r b v i j).flag r a i j = L.flag r a i j := by
  simp [Lane.setFlag, Lane.flag, bit_putBit_ne _ h]

@[simp] theorem Lane.setPub_pub_self (L : Lane) (g : Nat) (x : GoosePub) : (L.setPub g x).pub g = x :=
  NMap.getD_put_self ..

/-! ### The backstop latch (R140, R145) -/

/-- A line at the backstop latch: it asserts when it is enabled, not held at SAFE, not tripped and has backstop demand. -/
def Lane.backstopLine (L : Lane) (i : Nat) : Lane :=
  if L.lineEn i = true ∧ (L.line i).safe = none ∧ (L.line i).trip = false ∧ L.bspDemand i = true
  then L.assertLine i 0 (L.refEdge + 900 : Nat) else L

/-- Below its safe state a lane in service runs the eight comparators, then its sixteen lines. -/
theorem Lane.backstopLatch_runs {L : Lane} (hs : L.inService = true) (hl : L.level < 3) :
    L.backstopLatch = (foldTo 16 Lane.backstopLine (foldTo 8 (fun (K : Lane) b => K.bspTick b) L)).markDone 3 := by
  have hline : (fun (K : Lane) i => if K.lineEn i && (K.line i).safe.isNone && !(K.line i).trip && K.bspDemand i then
      K.assertLine i 0 (K.refEdge + 900 : Nat) else K) = Lane.backstopLine := by
    funext K i
    simp [Lane.backstopLine, and_assoc]
  rw [Lane.backstopLatch, if_neg (by simp [hs, hl]), ← hline]

/-- A comparator's tick leaves the lines alone. -/
theorem Lane.bspTick_line (L : Lane) (b i : Nat) : (L.bspTick b).line i = L.line i := by
  have hite {p : Prop} [Decidable p] {M N : Lane} (hM : M.line i = L.line i) (hN : N.line i = L.line i) :
      (if p then M else N).line i = L.line i := by split <;> assumption
  unfold Lane.bspTick
  exact hite rfl (hite rfl (hite rfl rfl))

/-- An assertion writes one counter only. -/
theorem Lane.assertLine_reg (L : Lane) (i from_ : Nat) (time : Int) {r : Reg} (h : r ≠ .TRM_TL_CNT) (k j : Nat) :
    (L.assertLine i from_ time).reg r k j = L.reg r k j := Lane.setReg_reg_other _ h ..

theorem Lane.assertLine_line_self (L : Lane) (i from_ : Nat) (time : Int) :
    (L.assertLine i from_ time).line i = { L.line i with trip := true, ta := L.tick } := L.setLine_line_self ..

theorem Lane.assertLine_line_ne (L : Lane) {i j : Nat} (h : i ≠ j) (from_ : Nat) (time : Int) :
    (L.assertLine j from_ time).line i = L.line i := L.setLine_line_ne h _

theorem Lane.assertLine_lineEn (L : Lane) (j from_ : Nat) (time : Int) (i : Nat) :
    (L.assertLine j from_ time).lineEn i = L.lineEn i := by
  simp [Lane.lineEn, Lane.flag, L.assertLine_reg]

/-- An assertion leaves the demand of every line: neither the comparators' bits nor their routing change. -/
theorem Lane.assertLine_bspDemand (L : Lane) (j from_ : Nat) (time : Int) (i : Nat) :
    (L.assertLine j from_ time).bspDemand i = L.bspDemand i := by
  have hbsp : (L.assertLine j from_ time).trip.bsp = L.trip.bsp := rfl
  simp [Lane.bspDemand, Lane.flag, L.assertLine_reg, hbsp]

/-- What the backstop latch reads of a line. -/
def Lane.backstopView (L : Lane) (i : Nat) : Bool × Bool × TripLine := (L.lineEn i, L.bspDemand i, L.line i)

theorem Lane.backstopLine_view_ne (i : Nat) (L : Lane) (j : Nat) (h : j ≠ i) :
    (L.backstopLine j).backstopView i = L.backstopView i := by
  unfold Lane.backstopLine
  split
  · simp [Lane.backstopView, L.assertLine_lineEn, L.assertLine_bspDemand, L.assertLine_line_ne (Ne.symm h)]
  · rfl

/-- After its step a line that is enabled, not held at SAFE and has backstop demand is tripped. -/
theorem Lane.backstopLine_trips {L : Lane} {i : Nat} (hen : (L.backstopLine i).lineEn i = true)
    (hsafe : ((L.backstopLine i).line i).safe = none) (hdem : (L.backstopLine i).bspDemand i = true) :
    ((L.backstopLine i).line i).trip = true := by
  by_cases h : L.lineEn i = true ∧ (L.line i).safe = none ∧ (L.line i).trip = false ∧ L.bspDemand i = true
  · rw [Lane.backstopLine, if_pos h, Lane.assertLine_line_self]
  · have hsame : L.backstopLine i = L := if_neg h
    rw [hsame] at hen hsafe hdem ⊢
    exact Bool.eq_true_of_not_eq_false fun htrip => h ⟨hen, hsafe, htrip, hdem⟩

/-- No step of the backstop latch releases its line. -/
theorem Lane.backstopLine_keeps_trip {L : Lane} {i : Nat} (h : (L.line i).trip = true) :
    ((L.backstopLine i).line i).trip = true := by
  rw [Lane.backstopLine, if_neg (by simp [h]), h]

/-- Settles O17: the latch reaches each line once (`foldTo_eq_step_at`), and the other lines' steps change nothing that the
line's own step reads (`Lane.backstopLine_view_ne`). -/
theorem backstopDemandTrips : Obligations.BackstopDemandTrips := by
  intro s t l hs hl hexec i hi
  rw [execBackstopLatch_eq, Lane.backstopLatch_runs (L := s.now l) hs hl] at hexec
  cases hexec
  rw [State.put_lane]
  obtain ⟨K, hK, hend⟩ := foldTo_eq_step_at (g := fun M : Lane => M.backstopView i) (Lane.backstopLine_view_ne i) hi
    (foldTo 8 (fun (K : Lane) b => K.bspTick b) (s.now l))
  have hfirst : K.line i = (s.lane l).line i :=
    (congrArg (·.2.2) hK).trans (foldl_keep (fun M : Lane => M.line i) _ (fun M b => M.bspTick_line b i) _ (s.now l))
  simp only [Lane.backstopView, Prod.mk.injEq] at hend
  obtain ⟨hen, hdem, hline⟩ := hend
  refine ⟨fun h1 h2 h3 => ?_, fun htrip => ?_⟩
  · refine (congrArg TripLine.trip hline).trans (Lane.backstopLine_trips (hen.symm.trans h1) ?_ (hdem.symm.trans h3))
    exact (congrArg TripLine.safe hline).symm.trans h2
  · exact (congrArg TripLine.trip hline).trans (Lane.backstopLine_keeps_trip (by rw [hfirst, htrip]))

/-! ### Readback (R143) -/

/-- A line at readback. -/
def Lane.readbackLine (levels : Nat) (L : Lane) (i : Nat) : Lane :=
  if levels.testBit i = L.lineLevel i then L.setLine i { L.line i with mism := 0 }
  else
    let M := L.setLine i { L.line i with mism := min 2 ((L.line i).mism + 1) }
    if 1 ≤ (L.line i).mism ∧ L.flag .TRM_TL_RDBK i = false then
      (M.setFlag .TRM_TL_RDBK i true).raise (36 + i) 0x04 (L.refEdge + 9000 : Nat) (leBytes 1 (bnat (L.lineLevel i)))
    else M

theorem Lane.readback_runs {L : Lane} (hs : L.inService = true) (levels : Nat) :
    L.readback levels = foldTo 16 (Lane.readbackLine levels) L := by
  rw [Lane.readback, if_neg (by simp [hs])]
  congr 1
  funext K i
  simp only [Lane.readbackLine, beq_iff_eq, Bool.and_eq_true, decide_eq_true_eq, Bool.not_eq_true']
  rfl

/-- A line's count of mismatches after readback. -/
def Lane.readbackCount (L : Lane) (levels i : Nat) : Nat :=
  if levels.testBit i = L.lineLevel i then 0 else min 2 ((L.line i).mism + 1)

/-- A line's step at readback keeps its count, and at most sets its mark and raises its event. -/
theorem Lane.readbackLine_cases (levels : Nat) (L : Lane) (i : Nat) :
    let M := L.setLine i { L.line i with mism := L.readbackCount levels i }
    L.readbackLine levels i = M ∨
      ∃ time data, L.readbackLine levels i = (M.setFlag .TRM_TL_RDBK i true).raise (36 + i) 0x04 time data := by
  dsimp only
  unfold Lane.readbackLine Lane.readbackCount
  split
  · exact .inl rfl
  · dsimp only
    split
    · exact .inr ⟨_, _, rfl⟩
    · exact .inl rfl

/-- Readback writes TRM_TL_RDBK only. -/
theorem Lane.readbackLine_reg (levels : Nat) (L : Lane) (i : Nat) {r : Reg} (h : r ≠ .TRM_TL_RDBK) (k j : Nat) :
    (L.readbackLine levels i).reg r k j = L.reg r k j := by
  obtain e | ⟨time, data, e⟩ := L.readbackLine_cases levels i <;> rw [e]
  · rfl
  · exact Lane.setReg_reg_other _ h ..

theorem Lane.readbackLine_twin (levels : Nat) (L : Lane) (i : Nat) : (L.readbackLine levels i).twin = L.twin := by
  obtain e | ⟨time, data, e⟩ := L.readbackLine_cases levels i <;> rw [e] <;> rfl

/-- A line's own step changes its count of mismatches only. -/
theorem Lane.readbackLine_line_self (levels : Nat) (L : Lane) (i : Nat) :
    (L.readbackLine levels i).line i = { L.line i with mism := L.readbackCount levels i } := by
  obtain e | ⟨time, data, e⟩ := L.readbackLine_cases levels i <;> rw [e] <;> exact L.setLine_line_self ..

theorem Lane.readbackLine_line_ne (levels : Nat) (L : Lane) {i j : Nat} (h : i ≠ j) :
    (L.readbackLine levels j).line i = L.line i := by
  obtain e | ⟨time, data, e⟩ := L.readbackLine_cases levels j <;> rw [e] <;> exact L.setLine_line_ne h _

theorem Lane.readbackLine_flag_ne (levels : Nat) (L : Lane) {i j : Nat} (h : i ≠ j) :
    (L.readbackLine levels j).flag .TRM_TL_RDBK i = L.flag .TRM_TL_RDBK i := by
  obtain e | ⟨time, data, e⟩ := L.readbackLine_cases levels j <;> rw [e]
  · rfl
  · exact Lane.setFlag_flag_ne _ _ h ..

/-- The second mismatch in a row marks the line, unless it is marked already. -/
theorem Lane.readbackLine_marks {levels i : Nat} (hi : i < 32) {L : Lane} (hne : levels.testBit i ≠ L.lineLevel i)
    (hm : 1 ≤ (L.line i).mism) : (L.readbackLine levels i).flag .TRM_TL_RDBK i = true := by
  rw [Lane.readbackLine, if_neg hne]
  dsimp only
  split
  · exact Lane.setFlag_flag_self _ _ hi ..
  · next hmarked => exact Bool.eq_true_of_not_eq_false fun h => hmarked ⟨hm, h⟩

/-- A line's commanded level rests on the line's trip and SAFE state, the registers other than TRM_TL_RDBK and the twin. -/
theorem Lane.lineLevel_congr {L M : Lane} {i : Nat} (hreg : ∀ r, r ≠ .TRM_TL_RDBK → ∀ k j, M.reg r k j = L.reg r k j)
    (htwin : M.twin = L.twin) (htrip : (M.line i).trip = (L.line i).trip) (hsafe : (M.line i).safe = (L.line i).safe) :
    M.lineLevel i = L.lineLevel i := by
  simp [Lane.lineLevel, Lane.lineEn, Lane.linePol, Lane.drives, Lane.level, Lane.fld, Lane.flag, hreg, htwin, htrip, hsafe]

/-- No step of readback changes a commanded level. -/
theorem Lane.readbackLine_lineLevel (levels : Nat) (L : Lane) (j i : Nat) :
    (L.readbackLine levels j).lineLevel i = L.lineLevel i := by
  refine Lane.lineLevel_congr (fun r h => L.readbackLine_reg levels j h) (L.readbackLine_twin levels j) ?_ ?_ <;>
  · by_cases h : i = j
    · rw [h, Lane.readbackLine_line_self]
    · rw [Lane.readbackLine_line_ne _ _ h]

/-- What readback reads and writes of a line. -/
def Lane.readbackView (L : Lane) (i : Nat) : Bool × TripLine × Bool := (L.lineLevel i, L.line i, L.flag .TRM_TL_RDBK i)

theorem Lane.readbackLine_view_ne (levels i : Nat) (L : Lane) (j : Nat) (h : j ≠ i) :
    (L.readbackLine levels j).readbackView i = L.readbackView i := by
  simp [Lane.readbackView, L.readbackLine_lineLevel, L.readbackLine_line_ne levels h.symm, L.readbackLine_flag_ne levels h.symm]

/-- Settles O18: readback reaches each line once (`foldTo_eq_step_at`), finds it as it stood before the command and leaves
its commanded level; the line's own step counts and marks the mismatch. -/
theorem readbackFindsMismatch : Obligations.ReadbackFindsMismatch := by
  intro s l levels L hs
  refine ⟨_, execReadback_eq .., fun i hi => ?_⟩
  rw [State.put_lane, Lane.readback_runs hs]
  obtain ⟨K, hK, hend⟩ := foldTo_eq_step_at (g := fun M : Lane => M.readbackView i) (Lane.readbackLine_view_ne levels i) hi L
  simp only [Lane.readbackView, Prod.mk.injEq] at hK hend
  obtain ⟨hlevel, hline, -⟩ := hK
  obtain ⟨hlevel', hline', hflag'⟩ := hend
  rw [hlevel', hline', hflag', Lane.readbackLine_lineLevel, Lane.readbackLine_line_self, Lane.readbackCount, ← hlevel,
    ← hline]
  refine ⟨rfl, fun heq => by rw [if_pos heq], fun hne => ⟨by rw [if_neg hne], fun hm => ?_⟩⟩
  exact Lane.readbackLine_marks (by omega) hne hm

/-! ### The trip-matrix latch (R138, R140, R148, R149) -/

/-- The lane with what the terms drive kept (R138). -/
def Lane.withDests (L : Lane) (d : Dests) : Lane :=
  { L with trip := { L.trip with tm := d.tl, gb := d.gb, gbT := d.gb - (d.gb &&& d.gbN), trg := d.trg, flg := d.flg } }

/-- The publications at the latch: unless they are stopped, each takes the members as latched, but in a freeze tick, and
the frames that wait leave in the order G0 to G3 (R148, R149, R223). -/
def Lane.latchPubs (L : Lane) : Lane :=
  if L.level = 2 ∨ L.trip.stop = true then L
  else pubDrain (List.range 4) (if L.frozen = true then L else foldTo 4 (fun (K : Lane) g => K.pubLatch g) L)

/-- At Level 0 and 1 the latch drives the lines from the terms, outside a freeze tick. -/
theorem Lane.tripMatrixLatch_evaluates {L : Lane} (hs : L.inService = true) (hl : L.level < 2) (hf : L.frozen = false) :
    L.tripMatrixLatch = (foldTo 16 (fun (K : Lane) i => K.latchLine L.evalTerms.2.tl i)
      (L.evalTerms.1.withDests L.evalTerms.2)).latchPubs.markDone 6 := by
  have hsafe : ¬ 3 ≤ L.level := by omega
  have hstopped : L.level ≠ 2 := by omega
  simp only [Lane.tripMatrixLatch, hs, hsafe, hf, hstopped, Lane.latchPubs, Lane.withDests, decide_false, Bool.not_true,
    Bool.or_self, Bool.false_eq_true, if_false, Bool.or_eq_true, decide_eq_true_eq]
  rfl

/-- Settles O16: the backstop latch is `Lane.backstopLatch_runs` and the trip-matrix latch `Lane.tripMatrixLatch_evaluates`.
The order in which the frames leave is assumption log 148. -/
theorem latchesRunTheirPhases : Obligations.LatchesRunTheirPhases := by
  intro s l L hs hl
  refine ⟨?_, fun hlow hf => ?_⟩
  · rw [execBackstopLatch_eq, Lane.backstopLatch_runs hs hl]
    rfl
  · exact (execTripMatrixLatch_eq l s).trans
      (congrArg (fun K : Lane => (.next (s.put l K.blockTrip) : Host.Outcome State Fault Refusal))
        (Lane.tripMatrixLatch_evaluates hs hlow hf))

/-! ### The backstop lock (R146) -/

/-- Settles O19: a write of 1 by function 0 finds the lock clear and sets it; every other write is one of the three that
`Lane.bspLock` lets by. -/
theorem backstopLockIsPf0s : Obligations.BackstopLockIsPf0s := by
  intro s l fn w now L
  refine ⟨fun hfn hw hclear => ?_, fun hno => ?_⟩
  · rw [execBspLock_eq, Lane.bspLock, if_neg (by simp [hfn, hw, hclear, L])]
  · rw [execBspLock_eq, Lane.bspLock, if_pos (by simpa [or_assoc] using hno)]

/-! ### Repeats of GOOSE publications (R148) -/

/-- A publication whose repeat has run its interval, with nothing sent in the tick and nothing waiting. -/
structure Lane.RepeatReady (L : Lane) (g : Nat) : Prop where
  enabled : L.flag .TRM_GP_CFG 31 g = true
  running : L.trip.stop = false
  begun : (L.pub g).begun = true
  due : (L.pub g).next ≤ L.tick
  unsent : (L.pub g).sentAt ≠ L.tick
  idle : (L.pub g).want = 0

/-- Such a publication waits as a repeat, and leaves in its turn once the latch of the tick has run. -/
theorem Lane.gooseRepeat_ready {L : Lane} {g : Nat} (h : L.RepeatReady g) :
    L.gooseRepeat g = let M := L.setPub g { L.pub g with want := 2 }
      if L.trav.done.testBit 6 then pubDrain (List.range 4) M else M := by
  rw [Lane.gooseRepeat, if_neg (by simp [h.enabled, h.running, h.begun, h.due, h.unsent, h.idle])]
  rfl

/-- A repeat that waits leaves as the first of those left. -/
theorem pubDrain_repeat {L : Lane} {g : Nat} (h : (L.pub g).want = 2) (t : List Nat) :
    pubDrain (g :: t) L = pubDrain t (L.sendRepeat g) := by
  simp [pubDrain, h]

/-- A repeat carries the next sqNum and waits twice its interval, HB at most. -/
theorem Lane.sendRepeat_setPub (L : Lane) (g : Nat) (x : GoosePub) :
    (L.setPub g x).sendRepeat g = let every := min (2 * x.every) (L.fld .TRM_GP_HB 19 0 g)
      (L.setPub g x).sendPub g { x with want := 0, sq := nextNum x.sq, every := every, next := L.tick + every } every := by
  rw [Lane.sendRepeat, Lane.setPub_pub_self]
  rfl

/-! ### Published streams (R155, R156, R162) -/

/-- The lane that has served a stream in the tick. -/
def Lane.streamServed (L : Lane) (k : Nat) : Lane :=
  { L with cmds := { L.cmds with served := L.cmds.served + 2 ^ k } }

/-- A stream's frame with its counts. -/
def Lane.sendStream (L : Lane) (k : Nat) : Lane :=
  let f := L.psFrame k
  let sats := ((List.range (L.fld .CMD_PS_CFG 4 0 k)).filter (fun m => (L.psValue (L.psMember k m)).2.2)).length
  let M := (L.bump .CMD_PS_TXCNT k).bump .CMD_PS_SATCNT k sats
  M.sendOwn { dst := f.dst, src := f.src, tag := f.tag, etype := 0x88BA, len := svLen f, ecn := none, red := none,
              body := .sv f } 4 (M.fld .CMD_PS_CFG 28 25 k)

section streamFrame

variable {L : Lane} {k : Nat} (hl : L.level < 2) (hs : L.inService = true) (hk : k < 16) (hdue : L.psDue k = true)
  (hserved : L.cmds.served.testBit k = false)

include hl hs hk hdue hserved

/-- A stream of the tick that is not yet served is served; it sends where the lane drives and TC4 of IN takes it. -/
theorem Lane.streamFrame_due :
    L.streamFrame k = let K := L.streamServed k
      if K.drives = false then K
      else if (K.waterMarks 4 4).1 ≤ K.net.ingressCount 4 4 then K.bump .SWM_IN_SKIP else K.sendStream k := by
  rw [Lane.streamFrame, if_neg (by simp [hl, hs, hk, hdue, hserved])]
  simp only [Bool.not_eq_true']
  rfl

theorem Lane.streamFrame_standby (hd : (L.streamServed k).drives = false) : L.streamFrame k = L.streamServed k :=
  (Lane.streamFrame_due hl hs hk hdue hserved).trans (if_pos hd)

theorem Lane.streamFrame_sends (hd : (L.streamServed k).drives = true)
    (hw : (L.streamServed k).net.ingressCount 4 4 < ((L.streamServed k).waterMarks 4 4).1) :
    L.streamFrame k = (L.streamServed k).sendStream k := by
  rw [Lane.streamFrame_due hl hs hk hdue hserved]
  dsimp only
  rw [if_neg (by simp [hd]), if_neg (Nat.not_le.2 hw)]

end streamFrame

/-- Settles O20: a repeat that is ready waits (`Lane.gooseRepeat_ready`), and once the latch has run it leaves in its turn
(`pubDrain_repeat`); a stream of a lane that does not drive is `Lane.streamFrame_standby`, and one that sends
`Lane.streamFrame_sends`. That a repeat which waits leaves at the latch, or at once after it in the order G0 to G3, is
assumption log 148. -/
theorem publicationsAndStreamsSend : Obligations.PublicationsAndStreamsSend := by
  intro s l g k L
  refine ⟨?_, fun hl hs hk hdue hserved => ⟨fun hd => ?_, fun hd hw => ?_⟩⟩
  · intro x M hen hrun hbegun hdue hunsent hidle
    have hready : L.RepeatReady g := ⟨hen, hrun, hbegun, hdue, hunsent, hidle⟩
    refine ⟨fun h6 => ?_, fun h6 => ?_, fun h6 hg => ?_⟩
    · rw [execGooseRepeat_eq, Lane.gooseRepeat_ready hready]
      simp [h6, M, x, L]
    · rw [execGooseRepeat_eq, Lane.gooseRepeat_ready hready]
      simp [h6, M, x, L]
    · subst hg
      have hdrain : pubDrain (List.range 4) M = pubDrain [1, 2, 3] (M.sendRepeat 0) :=
        pubDrain_repeat (by simp [M]) [1, 2, 3]
      rw [execGooseRepeat_eq, Lane.gooseRepeat_ready hready]
      simp only [L, h6, if_true]
      rw [hdrain, Lane.sendRepeat_setPub]
  · rw [execPublishedStreamFrame_eq, Lane.streamFrame_standby hl hs hk hdue hserved hd]
    rfl
  · rw [execPublishedStreamFrame_eq, Lane.streamFrame_sends hl hs hk hdue hserved hd hw]
    rfl

end Sys2Proof.Machine
end

section
/-! PROOFS. Pulse pairs: a carrier period. -/

namespace Sys2Proof.Machine

open Sys2Proof

/-! ### Counters and pulse pairs after a write -/

@[simp] theorem Lane.bump_reg_self (L : Lane) (r : Reg) (i k : Nat) : (L.bump r i k).reg r i = L.reg r i + w32 k :=
  Lane.setReg_reg_self ..

theorem Lane.bump_reg_other (L : Lane) {r q : Reg} (h : q ≠ r) (i k m n : Nat) : (L.bump r i k).reg q m n = L.reg q m n :=
  Lane.setReg_reg_other _ h ..

/-- A counter that goes up by one on a condition. -/
theorem Lane.ite_bump_reg_self (L : Lane) (b : Bool) (r : Reg) (i : Nat) :
    (if b then L.bump r i else L).reg r i = L.reg r i + w32 (bnat b) := by
  cases b
  · simp [bnat, w32]
  · simp [bnat]

theorem Lane.ite_bump_reg_other (L : Lane) (b : Bool) {r q : Reg} (h : q ≠ r) (i m : Nat) :
    (if b then L.bump r i else L).reg q m = L.reg q m := by
  split
  · exact L.bump_reg_other h ..
  · rfl

@[simp] theorem Lane.ite_bump_cmds (L : Lane) (b : Bool) (r : Reg) (i : Nat) :
    (if b then L.bump r i else L).cmds = L.cmds := by split <;> rfl

@[simp] theorem Lane.ite_bump_sent (L : Lane) (b : Bool) (r : Reg) (i : Nat) :
    (if b then L.bump r i else L).sent = L.sent := by split <;> rfl

@[simp] theorem Lane.setPulse_pulse_self (L : Lane) (p : Nat) (x : Pulse) : (L.setPulse p x).pulse p = x :=
  NMap.getD_put_self ..

/-! ### What a period counts (R159) -/

/-- The lane with a period of a pair counted. -/
def Lane.countIssue (L : Lane) (p : Nat) (i : Issue) : Lane :=
  let K := (L.bump .CMD_PP_PERCNT p).bump .CMD_PP_DISC p i.disc.toNat
  let M := if i.supOn then K.bump .CMD_PP_SUPON p else K
  if i.supOff then M.bump .CMD_PP_SUPOFF p else M

section countIssue

variable (L : Lane) (p : Nat) (i : Issue)

@[simp] theorem Lane.countIssue_pulse (q : Nat) : (L.countIssue p i).pulse q = L.pulse q := by
  simp [Lane.countIssue, Lane.pulse]

@[simp] theorem Lane.countIssue_sent : (L.countIssue p i).sent = L.sent := by simp [Lane.countIssue]

@[simp] theorem Lane.countIssue_percnt : (L.countIssue p i).reg .CMD_PP_PERCNT p = L.reg .CMD_PP_PERCNT p + 1 := by
  simp only [Lane.countIssue]
  rw [Lane.ite_bump_reg_other _ _ (by decide), Lane.ite_bump_reg_other _ _ (by decide),
    Lane.bump_reg_other _ (by decide), Lane.bump_reg_self]
  rfl

@[simp] theorem Lane.countIssue_disc :
    (L.countIssue p i).reg .CMD_PP_DISC p = L.reg .CMD_PP_DISC p + w32 i.disc.toNat := by
  simp only [Lane.countIssue]
  rw [Lane.ite_bump_reg_other _ _ (by decide), Lane.ite_bump_reg_other _ _ (by decide), Lane.bump_reg_self,
    Lane.bump_reg_other _ (by decide)]

@[simp] theorem Lane.countIssue_supOn :
    (L.countIssue p i).reg .CMD_PP_SUPON p = L.reg .CMD_PP_SUPON p + w32 (bnat i.supOn) := by
  simp only [Lane.countIssue]
  rw [Lane.ite_bump_reg_other _ _ (by decide), Lane.ite_bump_reg_self, Lane.bump_reg_other _ (by decide),
    Lane.bump_reg_other _ (by decide)]

@[simp] theorem Lane.countIssue_supOff :
    (L.countIssue p i).reg .CMD_PP_SUPOFF p = L.reg .CMD_PP_SUPOFF p + w32 (bnat i.supOff) := by
  simp only [Lane.countIssue]
  rw [Lane.ite_bump_reg_self, Lane.ite_bump_reg_other _ _ (by decide), Lane.bump_reg_other _ (by decide),
    Lane.bump_reg_other _ (by decide)]

end countIssue

/-! ### A carrier period (R158 to R160) -/

/-- What R159 decides for the period of a pair that starts at `t0`: the duty is the channel's output between 0 and 1. -/
def Lane.periodIssue (L : Lane) (p t0 : Nat) : Issue :=
  let x := (L.pulse p).upTo t0
  let P := L.fld .CMD_PP_PER 23 0 p
  let y := val32 (L.cmdCh (L.fld .CMD_PP_CFG 5 0 p)).y
  let d := if y.lt Dy.zero then Dy.zero else if (Dy.ofInt 1).lt y then Dy.ofInt 1 else y
  issue (rnd64 (d.mul (Dy.ofInt P))).nearEven x.carry P (L.fld .CMD_PP_DT 13 0 p) (L.fld .CMD_PP_MP 14 0 p) x.hPrev

/-- The edges sent for that period: those of R160, and in single mode L goes off first if it was on. -/
def Lane.periodEdges (L : Lane) (p t0 : Nat) : List GateEdge :=
  let x := (L.pulse p).upTo t0
  (if L.flag .CMD_PP_CFG 30 p = false ∧ x.l = true then [⟨t0, false, false⟩] else []) ++
    gateEdges (L.flag .CMD_PP_CFG 30 p) x.hPrev t0 (L.fld .CMD_PP_DT 13 0 p) (L.periodIssue p t0).shape

/-- The pair once that period has started. -/
def Lane.periodPulse (L : Lane) (p t0 : Nat) : Pulse :=
  { ({ (L.pulse p).upTo t0 with edges := L.periodEdges p t0 } : Pulse).upTo t0 with
    carry := (L.periodIssue p t0).carry, hPrev := (L.periodIssue p t0).shape == .on, run := true,
    start := t0 + L.fld .CMD_PP_PER 23 0 p }

/-- The mark that H ends a period on, as `Lane.periodStart` computes it from the shape. -/
theorem HShape.endsOn_eq (sh : HShape) : (match sh with | .on => true | _ => false) = (sh == .on) := by
  cases sh <;> rfl

/-- An enabled pair on a driving lane in service at Level 0 or 1 issues the period that starts at a boundary. -/
theorem Lane.periodStart_issues {L : Lane} {p t0 : Nat} (hen : L.flag .CMD_PP_CFG 31 p = true) (hl : L.level < 2)
    (hs : L.inService = true) (hpd : L.flag .PWR_PD 16 = true) (hd : L.drives = true)
    (hP : L.fld .CMD_PP_PER 23 0 p ≠ 0) (ht : t0 % 1200000000 % L.fld .CMD_PP_PER 23 0 p = 0)
    (hstart : (L.pulse p).start ≤ t0) :
    L.periodStart p t0 =
      ((L.setPulse p (L.periodPulse p t0)).emit (.gate p (L.periodEdges p t0))).countIssue p (L.periodIssue p t0) := by
  rw [Lane.periodStart]
  dsimp only
  rw [if_neg (by simp [hen, hl, hs, hpd, hd, hP, ht, hstart])]
  simp only [Bool.and_eq_true, Bool.not_eq_true', Lane.countIssue, Lane.periodPulse, ← HShape.endsOn_eq]
  rfl

/-- Settles O21: the period is issued as a whole (`Lane.periodStart_issues`), and its counts leave the pair and what was
sent alone. The placing of the edges is assumption logs 62 and 63. -/
theorem carrierPeriodIsIssued : Obligations.CarrierPeriodIsIssued := by
  intro s l p t0 L x P y d i hen hl hs hpd hd hP ht hstart
  refine ⟨_, execPeriodStart_eq .., ?_⟩
  rw [State.put_lane, Lane.periodStart_issues hen hl hs hpd hd hP ht hstart]
  have hpulse : (((L.setPulse p (L.periodPulse p t0)).emit (.gate p (L.periodEdges p t0))).countIssue p
      (L.periodIssue p t0)).pulse p = L.periodPulse p t0 :=
    (Lane.countIssue_pulse ..).trans (L.setPulse_pulse_self ..)
  exact ⟨congrArg Pulse.carry hpulse, congrArg Pulse.start hpulse, congrArg Pulse.run hpulse,
    congrArg Pulse.hPrev hpulse, Lane.countIssue_sent .., Lane.countIssue_percnt .., Lane.countIssue_disc ..,
    Lane.countIssue_supOn .., Lane.countIssue_supOff ..⟩

end Sys2Proof.Machine
end

section
/-! PROOFS. Parcels: input blocks, slices, and the accesses and stops of a strand that runs. -/

namespace Sys2Proof.Machine

open Sys2Proof

/-! ### Octets of a number -/

@[simp] theorem leBytes_length (n v : Nat) : (leBytes n v).length = n := by
  induction n generalizing v with
  | zero => rfl
  | succ n ih => rw [leBytes, List.length_cons, ih]

/-- The octets of a number spell it, as far as they reach. -/
theorem ofLe_leBytes (n v : Nat) : ofLe (leBytes n v) = v % 256 ^ n := by
  induction n generalizing v with
  | zero => simp [leBytes, ofLe, Nat.mod_one]
  | succ n ih => rw [leBytes, ofLe, ih, BitVec.toNat_ofNat, pow_succ' 256, Nat.mod_mul]

/-- A word's four octets spell the word. -/
theorem w32_ofLe_leBytes (v : Word) : w32 (ofLe (leBytes 4 v.toNat)) = v := by
  rw [ofLe_leBytes, Nat.mod_eq_of_lt (show v.toNat < 256 ^ 4 from v.isLt), w32, BitVec.ofNat_toNat, BitVec.setWidth_eq]

/-! ### A parcel after a write -/

@[simp] theorem Lane.setParcel_parcel_self (L : Lane) (p : Nat) (x : Parcel) : (L.setParcel p x).parcel p = x :=
  NMap.getD_put_self ..

theorem Lane.setParcel_parcel_ne (L : Lane) {p q : Nat} (h : q ≠ p) (x : Parcel) :
    (L.setParcel p x).parcel q = L.parcel q := NMap.getD_put_ne _ h ..

@[simp] theorem Lane.setParcel_reg (L : Lane) (p : Nat) (x : Parcel) (r : Reg) (i j : Nat) :
    (L.setParcel p x).reg r i j = L.reg r i j := rfl

@[simp] theorem Lane.setParcel_occ (L : Lane) (p : Nat) (x : Parcel) : (L.setParcel p x).occ = L.occ := rfl

theorem Lane.raise_occ_length (L : Lane) (src code : Nat) (time : Int) (data : List Byte) :
    (L.raise src code time data).occ.length = L.occ.length + 1 := List.length_append

theorem Lane.setNum64_reg_other (L : Lane) {lo hi r : Reg} (hlo : r ≠ lo) (hhi : r ≠ hi) (v i k j : Nat) :
    (L.setNum64 lo hi v i).reg r k j = L.reg r k j := by
  rw [Lane.setNum64, Lane.setReg_reg_other _ hhi, Lane.setReg_reg_other _ hlo]

/-! ### A halt (R184) -/

/-- The word that a stop leaves in LCT_PCL_TRAP. -/
def haltWord (kind s core cause : Nat) : Word :=
  w32 (kind * 2 ^ 28 + s % 8 * 2 ^ 25 + core % 8 * 2 ^ 22 + cause % 65536)

section haltWord

variable (kind s core cause : Nat)

theorem haltWord_kind (h : kind < 16) : bits (haltWord kind s core cause) 31 28 = kind := by
  simp only [bits, haltWord, w32, BitVec.toNat_ofNat, Nat.shiftRight_eq_div_pow]
  omega

theorem haltWord_strand : bits (haltWord kind s core cause) 27 25 = s % 8 := by
  simp only [bits, haltWord, w32, BitVec.toNat_ofNat, Nat.shiftRight_eq_div_pow]
  omega

theorem haltWord_cause : bits (haltWord kind s core cause) 15 0 = cause % 65536 := by
  simp only [bits, haltWord, w32, BitVec.toNat_ofNat, Nat.shiftRight_eq_div_pow]
  omega

end haltWord

/-- The lane with a parcel marked to halt and its trap word, PC and trap value recorded. -/
def Lane.recordTrap (L : Lane) (p : Nat) (trap : Word) (pc tval : Nat) : Lane :=
  (((L.setParcel p { L.parcel p with halt := true }).setReg .LCT_PCL_TRAP trap p).setNum64
    .LCT_PCL_TEPC_LO .LCT_PCL_TEPC_HI pc p).setNum64 .LCT_PCL_TVAL_LO .LCT_PCL_TVAL_HI tval p

/-- The same with the tick of the stop recorded. -/
def Lane.recordStop (L : Lane) (p : Nat) (trap : Word) (pc tval : Nat) : Lane :=
  (L.recordTrap p trap pc tval).setNum64 .LCT_PCL_STOPTK_LO .LCT_PCL_STOPTK_HI (L.recordTrap p trap pc tval).tick p

section recordStop

variable (L : Lane) (p : Nat) (trap : Word) (pc tval : Nat)

theorem Lane.recordTrap_tick : (L.recordTrap p trap pc tval).tick = L.tick := by
  simp [Lane.recordTrap, Lane.tick, Lane.num64, Lane.setNum64, Lane.setReg_reg_other]

theorem Lane.recordStop_pcl : (L.recordStop p trap pc tval).pcl = L.pcl.put p { L.parcel p with halt := true } := rfl

theorem Lane.recordStop_occ : (L.recordStop p trap pc tval).occ = L.occ := by
  rw [Lane.recordStop, Lane.setNum64_occ, Lane.recordTrap, Lane.setNum64_occ, Lane.setNum64_occ, Lane.setReg_occ,
    Lane.setParcel_occ]

theorem Lane.recordStop_trap : (L.recordStop p trap pc tval).reg .LCT_PCL_TRAP p = trap := by
  rw [Lane.recordStop, Lane.setNum64_reg_other _ (by decide) (by decide), Lane.recordTrap,
    Lane.setNum64_reg_other _ (by decide) (by decide), Lane.setNum64_reg_other _ (by decide) (by decide),
    Lane.setReg_reg_self]

theorem Lane.recordStop_stopTick : (L.recordStop p trap pc tval).reg .LCT_PCL_STOPTK_LO p = w32 L.tick := by
  rw [Lane.recordStop, Lane.recordTrap_tick, Lane.setNum64, Lane.setReg_reg_other _ (by decide), Lane.setReg_reg_self]

end recordStop

/-- A halt records the stop and raises one event. -/
theorem Lane.haltParcel_eq (L : Lane) (kind p s cause pc tval : Nat) : ∃ core code time data,
    L.haltParcel kind p s cause pc tval =
      (L.recordStop p (haltWord kind s core cause) pc tval).raise (16 + p) code time data := by
  rw [Lane.haltParcel]
  exact ⟨_, _, _, _, rfl⟩

section haltParcel

variable (L : Lane) (kind p s cause pc tval : Nat)

theorem Lane.haltParcel_pcl : (L.haltParcel kind p s cause pc tval).pcl = L.pcl.put p { L.parcel p with halt := true } := by
  obtain ⟨core, code, time, data, h⟩ := L.haltParcel_eq kind p s cause pc tval
  rw [h, Lane.raise_pcl, Lane.recordStop_pcl]

@[simp] theorem Lane.haltParcel_parcel_self :
    (L.haltParcel kind p s cause pc tval).parcel p = { L.parcel p with halt := true } := by
  rw [Lane.parcel, Lane.haltParcel_pcl, NMap.getD_put_self]

theorem Lane.haltParcel_parcel_ne {q : Nat} (h : q ≠ p) :
    (L.haltParcel kind p s cause pc tval).parcel q = L.parcel q := by
  rw [Lane.parcel, Lane.haltParcel_pcl, NMap.getD_put_ne _ h, Lane.parcel]

/-- A halt raises one event. -/
theorem Lane.haltParcel_occ_length : (L.haltParcel kind p s cause pc tval).occ.length = L.occ.length + 1 := by
  obtain ⟨core, code, time, data, h⟩ := L.haltParcel_eq kind p s cause pc tval
  rw [h, Lane.raise_occ_length, Lane.recordStop_occ]

theorem Lane.haltParcel_trap :
    ∃ core, (L.haltParcel kind p s cause pc tval).reg .LCT_PCL_TRAP p = haltWord kind s core cause := by
  obtain ⟨core, code, time, data, h⟩ := L.haltParcel_eq kind p s cause pc tval
  exact ⟨core, by rw [h, Lane.raise_reg, Lane.recordStop_trap]⟩

theorem Lane.haltParcel_stopTick : (L.haltParcel kind p s cause pc tval).reg .LCT_PCL_STOPTK_LO p = w32 L.tick := by
  obtain ⟨core, code, time, data, h⟩ := L.haltParcel_eq kind p s cause pc tval
  rw [h, Lane.raise_reg, Lane.recordStop_stopTick]

end haltParcel

/-- No strand of a parcel that is marked to halt runs. -/
theorem Lane.strandNext_of_halt {L : Lane} {p : Nat} (h : (L.parcel p).halt = true) (s : Nat) : L.strandNext p s = none := by
  have hrun : L.running p s = none := by
    unfold Lane.running
    split
    · rfl
    · simp [Lane.canRun, h]
  simp [Lane.strandNext, hrun]

/-! ### What readers see while strands run (R172, R175, R184) -/

/-- What readers see of a parcel: values, bits, command targets and critical state as last published. -/
def Parcel.seen (x : Parcel) : NMap Word × Nat × NMap Word × ByteMem := (x.pubVals, x.pubBits, x.lastCmd, x.critDone)

/-- A halt leaves the memory of every parcel and what readers see of it. -/
theorem Lane.haltParcel_keeps (L : Lane) (kind p s cause pc tval q : Nat) :
    ((L.haltParcel kind p s cause pc tval).parcel q).mem = (L.parcel q).mem ∧
      ((L.haltParcel kind p s cause pc tval).parcel q).seen = (L.parcel q).seen := by
  by_cases hq : q = p
  · subst hq
    rw [Lane.haltParcel_parcel_self]
    exact ⟨rfl, rfl⟩
  · rw [L.haltParcel_parcel_ne _ _ _ _ _ _ hq]
    exact ⟨rfl, rfl⟩

/-- A store that passes the guard changes nothing that readers see. -/
theorem Lane.busWrite_mem_seen {L : Lane} {p s : Nat} {g : List Region} {a : Nat} {bs : List Byte} {x : Parcel}
    (h : L.busWrite p s g a bs = .mem x) : x.seen = (L.parcel p).seen := by
  simp only [Lane.busWrite] at h
  split_ifs at h <;> cases h <;> rfl

/-- A store of the instruction that a strand has come to is one that passed the guard. -/
theorem Lane.actOut_store_seen {L : Lane} {p s : Nat} {g : List Region} {c : CoreAct} {x : Parcel} {r : StrandRegs}
    (h : L.actOut p s g c = .store x r) : x.seen = (L.parcel p).seen := by
  have hmem {a : Nat} {bs : List Byte} {z : Parcel} {q : StrandRegs} (hw : L.busWrite p s g a bs = .mem z)
      (h : StepOut.store z q = .store x r) : x.seen = (L.parcel p).seen := by
    cases h
    exact Lane.busWrite_mem_seen hw
  cases c with
  | regs q => cases h
  | trap a v => cases h
  | load a n put =>
    simp only [Lane.actOut] at h
    split at h
    · split at h <;> cases h
    · cases h
    · cases h
  | store a n v q =>
    simp only [Lane.actOut] at h
    cases hw : L.busWrite p s g a (leBytes n v) <;> rw [hw] at h
    case mem z => exact hmem hw h
    all_goals cases h
  | cond a n v q q' =>
    simp only [Lane.actOut] at h
    cases hw : L.busWrite p s g a (leBytes n v) <;> rw [hw] at h
    case mem z => exact hmem hw h
    all_goals cases h
  | amo a n op put =>
    simp only [Lane.actOut] at h
    cases hr : L.busRead p s g a n <;> rw [hr] at h
    case data old rng =>
      dsimp only at h
      cases hw : L.busWrite p s g a (leBytes n (op old)) <;> rw [hw] at h
      case mem z => exact hmem hw h
      all_goals cases h
    all_goals cases h

/-- A failed fetch is no store. -/
theorem Lane.fetch16_ne_store {L : Lane} {p s : Nat} {g : List Region} {a : Nat} {x : Parcel} {r : StrandRegs} :
    L.fetch16 p s g a ≠ .inr (.store x r) := by
  unfold Lane.fetch16
  split_ifs <;> simp

theorem Lane.nextOut_store_seen {L : Lane} {p s : Nat} {g : List Region} {q r : StrandRegs} {x : Parcel}
    (h : L.nextOut p s g q = .store x r) : x.seen = (L.parcel p).seen := by
  unfold Lane.nextOut at h
  split at h
  · next hf => exact absurd (h ▸ hf) Lane.fetch16_ne_store
  · split_ifs at h
    · split at h
      · next hf => exact absurd (h ▸ hf) Lane.fetch16_ne_store
      · exact Lane.actOut_store_seen h
    · exact Lane.actOut_store_seen h

theorem Lane.strandNext_store_seen {L : Lane} {p s : Nat} {y : Strand} {r : StrandRegs} {x : Parcel}
    (h : L.strandNext p s = some (.store x r, y)) : x.seen = (L.parcel p).seen := by
  unfold Lane.strandNext at h
  split at h
  · exact Lane.nextOut_store_seen (Prod.ext_iff.1 (Option.some.inj h)).1
  · cases h

/-- A lane that differs from another in nothing that its registers, its events and the readers of its parcels show. -/
structure Lane.ShowsAs (M L : Lane) : Prop where
  regs : M.regs = L.regs
  occ : M.occ = L.occ
  seen (q : Nat) : (M.parcel q).seen = (L.parcel q).seen

namespace Lane.ShowsAs

theorem refl (L : Lane) : L.ShowsAs L := ⟨rfl, rfl, fun _ => rfl⟩

theorem trans {L M N : Lane} (h : N.ShowsAs M) (h' : M.ShowsAs L) : N.ShowsAs L :=
  ⟨h.regs.trans h'.regs, h.occ.trans h'.occ, fun q => (h.seen q).trans (h'.seen q)⟩

theorem tick {L M : Lane} (h : M.ShowsAs L) : M.tick = L.tick := by
  simp only [Lane.tick, Lane.num64, Lane.reg, h.regs]

/-- A strand's part written back shows nothing where what readers see of its parcel stands. -/
theorem putStrand {L : Lane} {p : Nat} {x : Parcel} (h : x.seen = (L.parcel p).seen) (s : Nat) (y : Strand) :
    (L.putStrand p s x y).ShowsAs L := by
  refine ⟨rfl, rfl, fun q => ?_⟩
  by_cases hq : q = p
  · subst hq
    rw [Lane.putStrand, Lane.setParcel_parcel_self, ← h]
    rfl
  · rw [Lane.putStrand, L.setParcel_parcel_ne hq]

end Lane.ShowsAs

theorem Lane.strandStep_of_next {L : Lane} {p s : Nat} {o : StepOut} {y : Strand} (h : L.strandNext p s = some (o, y)) :
    L.strandStep p s = L.applyOut p s y o := by
  rw [Lane.strandStep, h]

/-- An instruction of a strand shows nothing, or it is a stop and the strand runs on no further. -/
theorem Lane.strandStep_shows_or_stops (L : Lane) (p s : Nat) :
    (L.strandStep p s).ShowsAs L ∨ (L.strandStep p s).strandNext p s = none := by
  have hhalt (kind cause pc tval : Nat) : (L.haltParcel kind p s cause pc tval).strandNext p s = none :=
    Lane.strandNext_of_halt (by rw [Lane.haltParcel_parcel_self]) s
  cases hnext : L.strandNext p s with
  | none => exact .inl (by rw [Lane.strandStep, hnext]; exact .refl L)
  | some o =>
    obtain ⟨out, y⟩ := o
    rw [Lane.strandStep_of_next hnext]
    cases out with
    | regs r => exact .inl (.putStrand rfl ..)
    | store x r => exact .inl (.putStrand (Lane.strandNext_store_seen hnext) ..)
    | done r => exact .inl (.putStrand rfl ..)
    | cmd ws r => exact .inl (.putStrand (by rfl) ..)
    | aper a rng r => exact .inl (.putStrand (by rfl) ..)
    | viol a b => exact .inr (hhalt ..)
    | trap a b => exact .inr (hhalt ..)

/-- A strand that does not run stays as it is. -/
theorem Lane.strandSteps_of_none {L : Lane} {p s : Nat} (h : L.strandNext p s = none) (n : Nat) :
    L.strandSteps p s n = L := by
  induction n with
  | zero => rfl
  | succ n ih => rw [Lane.strandSteps, Lane.strandStep, h, ih]

/-- Instructions that leave a strand running have shown nothing: a stop among them would have ended it. -/
theorem Lane.strandSteps_shows {L : Lane} {p s n : Nat} (h : (L.strandSteps p s n).strandNext p s ≠ none) :
    (L.strandSteps p s n).ShowsAs L := by
  induction n generalizing L with
  | zero => exact .refl L
  | succ n ih =>
    rw [Lane.strandSteps] at h ⊢
    obtain hshow | hstop := L.strandStep_shows_or_stops p s
    · exact (ih h).trans hshow
    · exact absurd hstop (by rwa [Lane.strandSteps_of_none hstop] at h)

/-! ### The instruction that a strand has come to -/

/-- A command of a strand carries out the instruction that the strand has come to, where that is the one meant. -/
theorem Lane.runTo_of_next {L : Lane} {p s n : Nat} {o : StepOut} {y : Strand} {want : StepOut → Bool}
    (h : (L.strandSteps p s n).strandNext p s = some (o, y)) (hw : want o = true) :
    L.runTo want p s n = (L.strandSteps p s n).applyOut p s y o := by
  simp only [Lane.runTo, h]
  rw [if_pos hw]

/-- A stop that a strand has come to halts its parcel: kind 1 for a trap, 2 for a violation. -/
theorem exec_stop_halts {s : State} {l : LaneId} {p k n a b : Nat} {y : Strand} {trap : Bool}
    (h : ((s.now l).strandSteps p k n).strandNext p k = some (if trap then .trap a b else .viol a b, y)) :
    exec (if trap then .parcelTrap l p k a b n else .guardViolation l p k a b n) s = .next (s.put l
      (((s.now l).strandSteps p k n).haltParcel (if trap then 1 else 2) p k a y.regs.pc b)) := by
  cases trap
  · simp only [Bool.false_eq_true, if_false] at h ⊢
    rw [execGuardViolation_eq, Lane.runTo_of_next h (by simp [StepOut.isViol]), Lane.applyOut]
  · simp only [if_true] at h ⊢
    rw [execParcelTrap_eq, Lane.runTo_of_next h (by simp [StepOut.isTrap]), Lane.applyOut]

/-- Settles O25: the instructions before the stop show nothing (`Lane.strandSteps_shows`), and a halt marks its parcel and
leaves the rest of every parcel as it stands. -/
theorem haltedParcelKeepsOutputs : Obligations.HaltedParcelKeepsOutputs := by
  intro s l p k n a b y trap L R h
  have hshows : R.ShowsAs L := Lane.strandSteps_shows (h.trans_ne (Option.some_ne_none _))
  refine ⟨_, exec_stop_halts h, ?_⟩
  rw [State.put_lane]
  obtain ⟨core, htrap⟩ := R.haltParcel_trap (if trap then 1 else 2) p k a y.regs.pc b
  refine ⟨?_, ?_, ?_, ?_, ?_, ?_, fun q => ?_⟩
  · rw [Lane.haltParcel_parcel_self]
  · rw [htrap, haltWord_kind _ _ _ _ (by cases trap <;> decide)]
  · rw [htrap, haltWord_strand]
  · rw [htrap, haltWord_cause]
  · rw [Lane.haltParcel_stopTick, hshows.tick]
  · rw [Lane.haltParcel_occ_length, hshows.occ]
  · obtain ⟨hmem, hseen⟩ := R.haltParcel_keeps (if trap then 1 else 2) p k a y.regs.pc b q
    exact ⟨hmem, by simpa only [Parcel.seen, Prod.mk.injEq] using hseen.trans (hshows.seen q)⟩

/-! ### Input blocks, slices and the end of a cycle (R168 to R173) -/

/-- At Level 0 or 1 and outside a freeze tick the running parcels whose cycle starts in the tick begin it. -/
theorem Lane.inputBlockCopy_begins {L : Lane} (hl : L.level < 2) (hf : L.frozen = false) (hs : L.inService = true) :
    L.inputBlockCopy = foldTo 16 (fun (K : Lane) q =>
      if K.pState q = pRunning ∧ K.pIncyc q = false ∧ K.cycleTick q K.tick = true then K.beginCycle q else K) L := by
  rw [Lane.inputBlockCopy, if_neg (by simp [hl, hf, hs])]
  simp only [Bool.and_eq_true, decide_eq_true_eq, Bool.not_eq_true', and_assoc]

/-- A strand that may run is put on its powered core with the regions of its grant. -/
theorem Lane.sliceStart_runs {L : Lane} {core p k : Nat} {y : Strand} (hon : (L.parcel p).strandOn core = some k)
    (hrun : L.canRun p k = true) (hcore : L.coreOn core = true) (hy : (L.parcel p).strand k = some y) :
    L.sliceStart core p =
      { L.setParcel p ((L.parcel p).setStrand k { y with begun := true }) with
        cores := L.cores.put core ⟨p, k, grantRegions (L.parcel p).image k⟩ } := by
  simp only [Lane.sliceStart, hon, hy]
  rw [if_neg (by simp [hrun, hcore])]
  rfl

/-- A core on which the parcel has no strand is left idle. -/
theorem Lane.sliceStart_idle {L : Lane} {core p : Nat} (hon : (L.parcel p).strandOn core = none) :
    L.sliceStart core p = { L with cores := L.cores.del core } := by
  rw [Lane.sliceStart, hon]

/-- A strand in its slice runs the instructions left to it, and leaves the core. -/
theorem Lane.sliceEnd_leaves {L : Lane} {core p k : Nat} {g : List Region} (h : L.cores.get? core = some ⟨p, k, g⟩)
    (n cycles : Nat) : L.sliceEnd core p n cycles =
      { (L.strandSteps p k n).useCycles p k cycles with
        cores := ((L.strandSteps p k n).useCycles p k cycles).cores.del core } := by
  simp only [Lane.sliceEnd, h]
  rw [if_neg (by simp)]

/-- A running strand that has come to a write to DONE ends its cycle. -/
theorem Lane.strandDone_ends {L : Lane} {p k n : Nat} {r : StrandRegs} {y : Strand} (hrun : (L.running p k).isSome = true)
    (h : (L.strandSteps p k n).strandNext p k = some (.done r, y)) (cycles : Nat) :
    L.strandDone p k n cycles = ((L.strandSteps p k n).putStrand p k ((L.strandSteps p k n).parcel p)
      { y with regs := r, done := true }).useCycles p k cycles := by
  obtain ⟨c, hc⟩ := Option.isSome_iff_exists.1 hrun
  simp only [Lane.strandDone, hc]
  rw [Lane.runTo_of_next h rfl, Lane.applyOut]

/-- Settles O23, a lemma for each of the four commands. How many instructions a core runs is an operand, assumption
log 65. -/
theorem parcelSlices : Obligations.ParcelSlices := by
  intro s l core p k steps cycles g r y L R
  refine ⟨fun hl hf hs => ?_, fun hon hrun hcore hy => ?_, fun hon => ?_, fun hcore => ?_, fun hrun hnext => ?_⟩
  · rw [execInputBlockCopy_eq, Lane.inputBlockCopy_begins hl hf hs]
  · rw [execSliceStart_eq, Lane.sliceStart_runs hon hrun hcore hy]
    rfl
  · rw [execSliceStart_eq, Lane.sliceStart_idle hon]
  · rw [execSliceEnd_eq, Lane.sliceEnd_leaves hcore]
  · rw [execDone_eq, Lane.strandDone_ends hrun hnext]

/-! ### Stores to CMD_WR (R176, R179) -/

/-- An interval that ends before a region, or begins past it, does not lie within it. -/
theorem within_eq_false {r : Nat × Nat} {a n : Nat} (h : a < r.1 ∨ r.1 + r.2 < a + n) : within r a n = false := by
  simp only [within, decide_eq_false_iff_not]
  omega

theorem within_eq_true {r : Nat × Nat} {a n : Nat} (h : r.1 ≤ a) (h' : a + n ≤ r.1 + r.2) : within r a n = true :=
  decide_eq_true ⟨h, h'⟩

/-- A write of all four octets of a channel's CMD_WR names that channel alone. -/
theorem Parcel.cmdWords_word (x : Parcel) (c : Nat) (v : Word) : x.cmdWords (c * 4) (leBytes 4 v.toNat) = [(c, v)] := by
  simp only [Parcel.cmdWords, leBytes_length, Nat.mul_mod_left, Nat.mul_div_cancel _ (Nat.succ_pos 3), List.take_zero,
    List.nil_append]
  rw [if_neg (by decide), List.drop_eq_nil_of_le (by simp), List.append_nil, w32_ofLe_leBytes]

/-- A store of a word to a channel's CMD_WR: strand 0 alone writes there, and the parcel's own channels only. -/
theorem Lane.busWrite_cmdWr (L : Lane) (p k : Nat) (g : List Region) {c : Nat} (hc : c < 64) (v : Word) :
    L.busWrite p k g (0x08000200 + c * 4) (leBytes 4 v.toNat) =
      if k ≠ 0 then .viol 0x06 else if L.ownsCmd p c = true then .cmd [(c, v)] else .viol 0x05 := by
  have hoff : 0x08000200 + c * 4 - 0x08000000 - 0x200 = c * 4 := by omega
  simp only [Lane.busWrite, leBytes_length]
  rw [if_neg (by omega), if_pos (within_eq_true (by simp only; omega) (by simp only; omega)), if_neg (by omega)]
  refine congrArg (ite (k ≠ 0) (BusWrite.viol 0x06)) ?_
  rw [if_neg (by omega), if_pos (by omega), hoff, Parcel.cmdWords_word]
  simp only [List.all_cons, List.all_nil, Bool.and_true]

/-! ### Reads of the history aperture (R174, R179) -/

/-- A read of eight octets of the aperture is judged by the aperture alone. -/
theorem Lane.busRead_aperture (L : Lane) (p k : Nat) (g : List Region) {c age : Nat} (hc : c < 2048) (ha : age < 1024) :
    L.busRead p k g (0x20000000 + c * 0x2000 + age * 8) 8 =
      (L.aperture p c age).elim (.viol 0x04) (fun e => .data (leAt e.1 0 8) e.2) := by
  have hoff : (0x20000000 + c * 0x2000 + age * 8) % 2 ^ 24 = c * 0x2000 + age * 8 := by omega
  have hch : (c * 0x2000 + age * 8) / 0x2000 = c := by omega
  have hage : (c * 0x2000 + age * 8) % 0x2000 / 8 = age := by omega
  have hbyte : (c * 0x2000 + age * 8) % 8 = 0 := by omega
  have hother {r : Nat × Nat} (h : r.1 + r.2 ≤ 0x20000000) : within r (0x20000000 + c * 0x2000 + age * 8) 8 = false :=
    within_eq_false (by omega)
  have hin : within (0x20000000, 0x1000000) (0x20000000 + c * 0x2000 + age * 8) 8 = true :=
    within_eq_true (by simp only; omega) (by simp only; omega)
  simp only [Lane.busRead, hoff, hch, hage, hbyte]
  rw [if_neg (by omega), if_neg (by simp [hother]), if_neg (by simp [hother]), if_neg (by simp [hother]),
    if_neg (by simp [hother]), if_pos hin]
  cases L.aperture p c age <;> rfl

/-- A load of eight octets of the aperture: its entry, or violation 0x04 where it is not permitted. -/
theorem Lane.actOut_aperture (L : Lane) (p k : Nat) (g : List Region) {c age : Nat} (hc : c < 2048) (ha : age < 1024)
    (put : Nat → StrandRegs) :
    L.actOut p k g (.load (0x20000000 + c * 0x2000 + age * 8) 8 put) =
      (L.aperture p c age).elim (.viol 0x04 (0x20000000 + c * 0x2000 + age * 8))
        (fun e => .aper (0x20000000 + c * 0x2000 + age * 8) e.2 (put (leAt e.1 0 8))) := by
  rw [Lane.actOut, L.busRead_aperture p k g hc ha]
  cases L.aperture p c age with
  | none => rfl
  | some e => exact if_pos (within_eq_true (by simp only; omega) (by simp only; omega))

section aperture

variable {L : Lane} {p c age : Nat}

theorem Lane.aperture_refused
    (h : (L.parcel p).image.hist = false ∨ 1024 < L.pN p ∨ (L.parcel p).image.chans.contains c = false) :
    L.aperture p c age = none := by
  rw [Lane.aperture]
  exact if_pos (by simpa only [Bool.or_eq_true, Bool.not_eq_true', decide_eq_true_eq, or_assoc] using h)

variable (hhist : (L.parcel p).image.hist = true) (hN : L.pN p ≤ 1024) (hch : (L.parcel p).image.chans.contains c = true)

include hhist hN hch

theorem Lane.aperture_past (hage : 1024 - L.pN p < age) : L.aperture p c age = some (leBytes 8 0, true) := by
  simp only [Lane.aperture]
  rw [if_neg (by simp [hhist, hN, hch, -List.contains_eq_mem]), if_pos hage]

theorem Lane.aperture_entry (hage : age ≤ 1024 - L.pN p) :
    L.aperture p c age = some (L.histEntry c (L.tick - L.fld .LCT_PCL_STAT 15 0 p - age), false) := by
  simp only [Lane.aperture]
  rw [if_neg (by simp [hhist, hN, hch, -List.contains_eq_mem]), if_neg (by omega)]

end aperture

/-! ### The four accesses as commands (R174 to R176, R184) -/

/-- The first octet of an access lies in the place that its own address names. -/
theorem within_start (a n : Nat) : within (a, n + 1) a 1 = true := within_eq_true le_rfl (by simp only; omega)

/-- Settles O24: what an access leads to through the guard (`Lane.busWrite_cmdWr`, `Lane.actOut_aperture`), and each command
carries out the access that its strand has come to (`Lane.runTo_of_next`). The guard's order of checks is assumption
log 150, the steps operand log 65. -/
theorem parcelAccesses : Obligations.ParcelAccesses := by
  intro s l p k c age steps a b v ws rng r y pmp put L x
  refine ⟨fun hc => ?_, fun hc ha => ?_, fun h hmem => ?_, fun h ha => ?_, fun h => ?_, fun h => ?_, fun h => ?_,
    fun h => ?_⟩
  · simp only [Lane.actOut, L.busWrite_cmdWr p k pmp hc v]
    refine ⟨fun hk hown => ?_, fun hk hown => ?_, fun hk => ?_⟩
    · rw [if_neg (not_not.2 hk), if_pos hown, storeOut]
    · rw [if_neg (not_not.2 hk), if_neg (by simp [hown]), storeOut]
    · rw [if_pos hk, storeOut]
  · simp only [L.actOut_aperture p k pmp hc ha]
    refine ⟨fun hhist hN hch hage => ?_, fun hhist hN hch hage => ?_, fun hno => ?_⟩
    · rw [Lane.aperture_entry hhist hN hch hage, Option.elim_some]
    · rw [Lane.aperture_past hhist hN hch hage, Option.elim_some]
      rfl
    · rw [Lane.aperture_refused hno, Option.elim_none]
  · rw [execCmdWr_eq, Lane.runTo_of_next h (by simpa [StepOut.isCmd] using hmem), Lane.applyOut]
  · have haddr : 0x08000200 + c * 4 = 0x08000200 + 4 * c := by rw [Nat.mul_comm]
    rw [execCmdWr_eq, Lane.runTo_of_next h (by simpa [StepOut.isCmd, haddr, within_start _ 3] using ha), Lane.applyOut]
  · have haddr : 0x20000000 + c * 0x2000 + age * 8 = 0x20000000 + 0x2000 * c + 8 * age := by omega
    rw [execHistoryApertureRead_eq, Lane.runTo_of_next h (by simp [StepOut.isAperture, haddr, within_start _ 7]),
      Lane.applyOut]
  · have haddr : 0x20000000 + c * 0x2000 + age * 8 = 0x20000000 + 0x2000 * c + 8 * age := by omega
    rw [execHistoryApertureRead_eq, Lane.runTo_of_next h (by simp [StepOut.isAperture, haddr, within_start _ 7]),
      Lane.applyOut]
  · exact exec_stop_halts (trap := false) h
  · exact exec_stop_halts (trap := true) h

end Sys2Proof.Machine
end

section
/-! PROOFS. Farusk logic: what an instruction of a program does, with its stack, stores, timers and counters. -/

namespace Sys2Proof.Machine

open Sys2Proof

/-! ### A program's machine after a write -/

@[simp] theorem Lane.setProg_iluProg_self (L : Lane) (p : Nat) (x : IluProg) : (L.setProg p x).iluProg p = x :=
  NMap.getD_put_self ..

theorem Lane.setProg_iluProg_ne (L : Lane) {p q : Nat} (h : p ≠ q) (x : IluProg) :
    (L.setProg q x).iluProg p = L.iluProg p := NMap.getD_put_ne _ h ..

/-! ### Farusk instructions as commands (R191, R201) -/

/-- The command that is an instruction of a program. -/
def faruskInstr (l : LaneId) (p : Nat) : FOp → Instr
  | .ld f => .ld l p f | .ldn f => .ldn l p f | .andf f => .and l p f | .andn f => .andn l p f | .orf f => .or l p f
  | .orn f => .orn l p f | .xorf f => .xor l p f | .xorn f => .xorn l p f | .st f => .st l p f | .stn f => .stn l p f
  | .setf f => .set l p f | .rst f => .rst l p f | .re f => .re l p f | .fe f => .fe l p f
  | .ton t => .ton l p t | .tof t => .tof l p t | .tp t => .tp l p t
  | .ctu c => .ctu l p c | .ctd c => .ctd l p c | .crs c => .crs l p c | .cld c => .cld l p c
  | .faruskNop => .faruskNop l p | .push => .push l p | .popa => .popa l p | .popo => .popo l p
  | .page0 => .page0 l p | .page1 => .page1 l p | .endScan => .endScan l p | .jc k => .jc l p k | .jcn k => .jcn l p k

/-- Every Farusk command is the row of its instruction. -/
theorem exec_faruskInstr (l : LaneId) (p : Nat) (o : FOp) (s : State) :
    exec (faruskInstr l p o) s = .next (s.put l ((s.now l).faruskRow p o)) :=
  match o with
  | .ld _ => execLd_eq .. | .ldn _ => execLdn_eq .. | .andf _ => execAnd_eq .. | .andn _ => execAndn_eq ..
  | .orf _ => execOr_eq .. | .orn _ => execOrn_eq .. | .xorf _ => execXor_eq .. | .xorn _ => execXorn_eq ..
  | .st _ => execSt_eq .. | .stn _ => execStn_eq .. | .setf _ => execSet_eq .. | .rst _ => execRst_eq ..
  | .re _ => execRe_eq .. | .fe _ => execFe_eq ..
  | .ton _ => execTon_eq .. | .tof _ => execTof_eq .. | .tp _ => execTp_eq ..
  | .ctu _ => execCtu_eq .. | .ctd _ => execCtd_eq .. | .crs _ => execCrs_eq .. | .cld _ => execCld_eq ..
  | .faruskNop => execFaruskNop_eq .. | .push => execPush_eq .. | .popa => execPopa_eq .. | .popo => execPopo_eq ..
  | .page0 => execPage0_eq .. | .page1 => execPage1_eq .. | .endScan => execEndScan_eq ..
  | .jc _ => execJc_eq .. | .jcn _ => execJcn_eq ..

/-- A program with the steps left executes its instruction. -/
theorem Lane.faruskRow_of_canStep {L : Lane} {p : Nat} {o : FOp} (h : L.CanStep p (stepsOf o)) :
    L.faruskRow p o = L.faruskEnd p (L.farusk p o ((L.iluProg p).charge (stepsOf o))) := by
  obtain ⟨hruns, hfrozen, hstate, hscan, hended, hleft⟩ := h
  exact if_neg (by simp [hruns, hfrozen, hstate, hscan, hended, hleft])

/-- A command of a program with the steps left leaves the lane as the instruction's outcome says. -/
theorem exec_farusk_ends {s : State} {l : LaneId} {p : Nat} {o : FOp} {r : FRes} (h : (s.now l).CanStep p (stepsOf o))
    (hr : (s.now l).farusk p o (((s.now l).iluProg p).charge (stepsOf o)) = r) :
    exec (faruskInstr l p o) s = .next (s.put l ((s.now l).faruskEnd p r)) := by
  rw [exec_faruskInstr, Lane.faruskRow_of_canStep h, hr]

/-! ### The stack (R200, R201) -/

section stack

variable (L : Lane) (p : Nat) {x : IluProg} {b : Bool} {st : List Bool}

theorem Lane.farusk_popa_cons (h : x.stack = b :: st) :
    L.farusk p .popa x = .next { x with acc := b && x.acc, stack := st } := by rw [Lane.farusk, h]

theorem Lane.farusk_popo_cons (h : x.stack = b :: st) :
    L.farusk p .popo x = .next { x with acc := b || x.acc, stack := st } := by rw [Lane.farusk, h]

theorem Lane.farusk_endScan_cons (h : x.stack = b :: st) : L.farusk p .endScan x = .bad 2 := by
  rw [Lane.farusk, h, if_neg (by simp)]

theorem Lane.farusk_popa_nil (h : x.stack = []) : L.farusk p .popa x = .bad 2 := by rw [Lane.farusk, h]

theorem Lane.farusk_popo_nil (h : x.stack = []) : L.farusk p .popo x = .bad 2 := by rw [Lane.farusk, h]

theorem Lane.farusk_endScan_nil (h : x.stack = []) : L.farusk p .endScan x = .done x := by
  rw [Lane.farusk, h, List.isEmpty_nil, if_pos rfl]

end stack

/-- Settles O26: each clause is the instruction's outcome (`exec_farusk_ends`) on the machine that has been charged. -/
theorem faruskLogicStackAndEnd : Obligations.FaruskLogicStackAndEnd := by
  intro s l p f k b st L x fault h
  refine ⟨exec_farusk_ends (o := .ld f) h rfl, exec_farusk_ends (o := .ldn f) h rfl,
    exec_farusk_ends (o := .andf f) h rfl, exec_farusk_ends (o := .andn f) h rfl, exec_farusk_ends (o := .orf f) h rfl,
    exec_farusk_ends (o := .orn f) h rfl, exec_farusk_ends (o := .xorf f) h rfl, exec_farusk_ends (o := .xorn f) h rfl,
    exec_farusk_ends (o := .faruskNop) h rfl, exec_farusk_ends (o := .page0) h rfl, exec_farusk_ends (o := .page1) h rfl,
    exec_farusk_ends (o := .jc k) h rfl, exec_farusk_ends (o := .jcn k) h rfl,
    fun hroom => ?_, fun hfull => ?_, fun hst => ?_, fun hst => ?_, fun hst => ?_, fun hst => ⟨?_, ?_⟩, fun hst => ?_⟩
  · exact exec_farusk_ends (o := .push) h (if_neg (Nat.not_le.2 hroom))
  · exact exec_farusk_ends (o := .push) h (if_pos hfull)
  · exact exec_farusk_ends (o := .popa) h (L.farusk_popa_cons p hst)
  · exact exec_farusk_ends (o := .popo) h (L.farusk_popo_cons p hst)
  · exact exec_farusk_ends (o := .endScan) h (L.farusk_endScan_cons p hst)
  · exact exec_farusk_ends (o := .popa) h (L.farusk_popa_nil p hst)
  · exact exec_farusk_ends (o := .popo) h (L.farusk_popo_nil p hst)
  · exact exec_farusk_ends (o := .endScan) h (L.farusk_endScan_nil p hst)

/-! ### Stores (R193, R201, R202) -/

section store

variable {L : Lane} {p f : Nat} {x : IluProg}

theorem Lane.faruskStore_owned (h : (L.ownMask p).testBit (x.addr f) = true) (v : Bool) :
    L.faruskStore p x f v = .next (x.setFlag f v) := if_pos h

theorem Lane.faruskStore_notOwned (h : (L.ownMask p).testBit (x.addr f) = false) (v : Bool) :
    L.faruskStore p x f v = .bad 3 := if_neg (by simp [h])

end store

/-- Settles O27: a store writes an owned flag and fails the page check at another (`Lane.faruskStore_owned`,
`Lane.faruskStore_notOwned`). That the failure at run time is a fault of cause 3 is assumption log 68. -/
theorem faruskStores : Obligations.FaruskStores := by
  intro s l p f L x m h
  refine ⟨fun hown => ⟨?_, ?_, ?_, ?_, ?_, ?_⟩, fun hother c hc => ?_⟩
  · exact exec_farusk_ends (o := .st f) h (Lane.faruskStore_owned hown _)
  · exact exec_farusk_ends (o := .stn f) h (Lane.faruskStore_owned hown _)
  · exact exec_farusk_ends (o := .setf f) h (Lane.faruskStore_owned hown _)
  · exact exec_farusk_ends (o := .rst f) h (Lane.faruskStore_owned hown _)
  · exact exec_farusk_ends (o := .re f) h (Lane.faruskStore_owned (x := { x with acc := x.acc && !m }) hown _)
  · exact exec_farusk_ends (o := .fe f) h (Lane.faruskStore_owned (x := { x with acc := !x.acc && m }) hown _)
  · rcases hc with rfl | rfl | rfl | rfl | rfl | rfl
    · exact exec_farusk_ends (o := .st f) h (Lane.faruskStore_notOwned hother _)
    · exact exec_farusk_ends (o := .stn f) h (Lane.faruskStore_notOwned hother _)
    · exact exec_farusk_ends (o := .setf f) h (Lane.faruskStore_notOwned hother _)
    · exact exec_farusk_ends (o := .rst f) h (Lane.faruskStore_notOwned hother _)
    · exact exec_farusk_ends (o := .re f) h (Lane.faruskStore_notOwned (x := { x with acc := x.acc && !m }) hother _)
    · exact exec_farusk_ends (o := .fe f) h (Lane.faruskStore_notOwned (x := { x with acc := !x.acc && m }) hother _)

/-! ### Timers (R203, R205) -/

/-- The time that a timer shows once the ticks since its last execution have passed, at most its preset. -/
def TmrSt.run (m : TmrSt) (pt t t0 : Nat) : Nat := min (m.et + min (t - m.tLast.getD t0) 16777215) pt

section update

variable (m : TmrSt) (pt t t0 : Nat) (inp : Bool)

theorem TmrSt.update_ton : m.update 0 pt t t0 inp =
    let et := if inp = false then 0 else if m.inPrev = true then m.run pt t t0 else m.et
    ⟨et, inp && decide (pt ≤ et), inp, some t⟩ := by
  cases inp <;> rfl

theorem TmrSt.update_tof : m.update 1 pt t t0 inp =
    let et := if inp = true then 0 else if m.inPrev = false then m.run pt t t0 else m.et
    ⟨et, inp || decide (et < pt), inp, some t⟩ := by
  cases inp
  · simp [TmrSt.update, TmrSt.run]
  · rfl

theorem TmrSt.update_tp : m.update 2 pt t t0 inp =
    let et := if m.q = true then m.run pt t t0 else m.et
    let q := if m.q = true then decide (et < pt) else inp && !m.inPrev && decide (et = 0) && decide (0 < pt)
    ⟨if q = false ∧ inp = false then 0 else et, q, inp, some t⟩ := by
  cases inp <;> cases hq : m.q <;> simp [TmrSt.update, TmrSt.run, hq, beq_eq_decide]

end update

/-- A timer of the program's own takes its update, and ACC takes its Q. -/
theorem Lane.faruskTimer_allocated {L : Lane} {p i : Nat} (h : L.allocTo .ILU_TMR_CFG i p = true) (x : IluProg)
    (mode : Nat) {m : TmrSt} (hm : (L.timerOf x i (mode == 1)).update mode (L.fld .ILU_TMR_CFG 23 0 i) x.start
      (x.tick0.getD x.start) x.acc = m) :
    L.faruskTimer p x mode i = .next { x with tmr := x.tmr.put i m, acc := m.q } := by
  rw [Lane.faruskTimer, if_neg (by simp [h]), ← hm]

/-- Settles O28, a law of `TmrSt.update` for each mode. -/
theorem faruskTimers : Obligations.FaruskTimers := by
  intro s l p i L x pt d run upd h halloc
  exact ⟨exec_farusk_ends (o := .ton i) h (Lane.faruskTimer_allocated halloc x 0 (TmrSt.update_ton ..)),
    exec_farusk_ends (o := .tof i) h (Lane.faruskTimer_allocated halloc x 1 (TmrSt.update_tof ..)),
    exec_farusk_ends (o := .tp i) h (Lane.faruskTimer_allocated halloc x 2 (TmrSt.update_tp ..))⟩

/-! ### Counters (R204) -/

section counter

variable {L : Lane} {p j : Nat} (h : L.allocTo .ILU_CTR_PV j p = true) (x : IluProg)

include h

theorem Lane.faruskCounter_ctu : L.faruskCounter p x 0 j =
    let c := L.counterOf x j
    let cv := if x.acc = true ∧ c.up = false then min (c.cv + 1) 65535 else c.cv
    .next { x with ctr := x.ctr.put j ⟨cv, x.acc, c.dn⟩, acc := decide (L.fld .ILU_CTR_PV 15 0 j ≤ cv) } := by
  rw [Lane.faruskCounter, if_neg (by simp [h])]
  simp only [Bool.and_eq_true, Bool.not_eq_true']

theorem Lane.faruskCounter_ctd : L.faruskCounter p x 1 j =
    let c := L.counterOf x j
    let cv := if x.acc = true ∧ c.dn = false then c.cv - 1 else c.cv
    .next { x with ctr := x.ctr.put j ⟨cv, c.up, x.acc⟩, acc := decide (cv = 0) } := by
  rw [Lane.faruskCounter, if_neg (by simp [h])]
  simp only [Bool.and_eq_true, Bool.not_eq_true', beq_eq_decide]

theorem Lane.faruskCounter_crs : L.faruskCounter p x 2 j =
    let c := L.counterOf x j
    .next { x with ctr := x.ctr.put j { c with cv := if x.acc = true then 0 else c.cv } } :=
  if_neg (by simp [h])

theorem Lane.faruskCounter_cld : L.faruskCounter p x 3 j =
    let c := L.counterOf x j
    .next { x with ctr := x.ctr.put j { c with cv := if x.acc = true then L.fld .ILU_CTR_PV 15 0 j else c.cv } } :=
  if_neg (by simp [h])

end counter

/-- A counter that the scan has written reads as written. -/
theorem Lane.counterOf_of_put (L : Lane) {x y : IluProg} {j : Nat} {c : CtrSt} (h : x.ctr = y.ctr.put j c) :
    L.counterOf x j = c := by
  rw [Lane.counterOf, h, NMap.get?_put_self, Option.getD_some]

theorem Lane.counterOf_congr {L M : Lane} (h : M.ilu = L.ilu) (p j : Nat) :
    M.counterOf (M.iluProg p) j = L.counterOf (L.iluProg p) j := by
  simp only [Lane.counterOf, Lane.iluProg, h]

/-- A counter that neither the scan nor the unit holds is at its initial value. -/
theorem Lane.counterOf_initial {L : Lane} {x : IluProg} {j : Nat} (hx : x.ctr.get? j = none) (hL : L.ilu.ctr.get? j = none) :
    L.counterOf x j = ⟨0, false, false⟩ := by
  rw [Lane.counterOf, hx, hL, Option.getD_none, Option.getD_none]

/-! ### Counters at CLEAR and at a start (R204, R207, R213) -/

theorem lookupCell_filter_none {α : Type} (l : List (Nat × α)) {k : Nat} (f : Nat × α → Bool)
    (h : ∀ v, f (k, v) = false) : lookupCell (l.filter f) k = none := by
  induction l with
  | nil => rfl
  | cons c t ih =>
    obtain ⟨j, v⟩ := c
    by_cases hj : k = j
    · rw [List.filter_cons_of_neg (by simp [← hj, h]), ih]
    · cases hf : f (j, v) <;> simp [hf, lookupCell, hj, ih]

/-- What is not kept is not listed. -/
theorem NMap.get?_keep_of_false {α : Type} (m : NMap α) {k : Nat} {f : Nat → α → Bool} (h : ∀ v, f k v = false) :
    (m.keep f).get? k = none := lookupCell_filter_none _ _ h

theorem Lane.foldTo_ilu {n : Nat} {f : Lane → Nat → Lane} (h : ∀ K i, (f K i).ilu = K.ilu) (L : Lane) :
    (foldTo n f L).ilu = L.ilu := foldl_keep (·.ilu) f h _ L

/-- Publishing flags leaves the programs, timers and counters alone. -/
@[simp] theorem Lane.setPubFlags_ilu (L : Lane) (n : Nat) : (L.setPubFlags n).ilu = L.ilu := by
  unfold Lane.setPubFlags
  refine Lane.foldTo_ilu (fun K w => ?_) L
  dsimp only
  split <;> rfl

@[simp] theorem Lane.finish_ilu (L : Lane) (id : CmdId) (status : Nat) : (L.finish id status).ilu = L.ilu := by
  unfold Lane.finish
  split <;> rfl

/-- The initial values of a program forget its counters. -/
theorem Lane.iluInit_counterOf {L : Lane} {p j : Nat} (h : L.allocTo .ILU_CTR_PV j p = true) :
    (L.iluInit p).counterOf ((L.iluInit p).iluProg p) j = ⟨0, false, false⟩ := by
  refine Lane.counterOf_initial ?_ ?_
  · rw [Lane.iluProg, Lane.iluInit, Lane.setPubFlags_ilu]
    exact congrArg (fun x : IluProg => x.ctr.get? j) (Lane.setProg_iluProg_self _ p .fresh)
  · rw [Lane.iluInit, Lane.setPubFlags_ilu]
    exact NMap.get?_keep_of_false _ (fun _ => by simp [h])

/-- CLEAR of a stopped program, with no fault latched and below Level 2, gives the program its initial values. -/
theorem Lane.iluCtrl_clear {L : Lane} {p : Nat} (hf : L.flag .ILU_STAT 30 = false) (hl : L.level < 2)
    (hs : L.iluState p = 1) (id : CmdId) : L.iluCtrl id p 3 = (L.iluInit p).finish id 0 := by
  unfold Lane.iluCtrl
  exact (if_neg (by simp [hf, hl])).trans (if_neg (by simp [hs, iluFrom]))

/-- The buffer that a restore takes rests on the buffers and the program memory. -/
theorem Lane.bestSnap_congr {L M : Lane} (hilu : M.ilu = L.ilu) (hprog : ∀ w, M.reg .ILU_PROG w = L.reg .ILU_PROG w) :
    M.bestSnap = L.bestSnap := by
  have hcrc : M.progCrc = L.progCrc := by simp only [Lane.progCrc, hprog]
  simp only [Lane.bestSnap, hilu, hcrc]

/-- A program's state at a start, when `en` says which programs the image enables (R213). -/
def Lane.enableProg (en : Nat) (L : Lane) (p : Nat) : Lane :=
  if en.testBit p then (L.setFld .ILU_PRG_STAT 31 30 2 p).setFlag .ILU_PRG_STAT 29 true p else L.setReg .ILU_PRG_STAT 0 p

/-- The lane with its programs enabled as the image says, before their flags, timers and counters are restored (R213). -/
def Lane.enableProgs (L : Lane) : Lane :=
  let en := bitsWhere (fun p => L.flag .ILU_PRG_CFG 31 p) 4
  let M := foldTo 4 (Lane.enableProg en) L
  ((M.setFlag .ILU_STAT 31 true).setFld .ILU_STAT 27 24 en).setFld .ILU_STAT 23 12
    (((List.range 4).filter (fun p => en.testBit p)).map (fun p => M.iluSteps p)).sum

theorem Lane.enableProg_ilu (en : Nat) (L : Lane) (p : Nat) : (L.enableProg en p).ilu = L.ilu := by
  unfold Lane.enableProg
  split
  · rw [Lane.setFlag_ilu, Lane.setFld_ilu]
  · rw [Lane.setReg_ilu]

theorem Lane.enableProg_prog (en : Nat) (L : Lane) (p w : Nat) : (L.enableProg en p).reg .ILU_PROG w = L.reg .ILU_PROG w := by
  have hother : Reg.ILU_PROG ≠ .ILU_PRG_STAT := by decide
  unfold Lane.enableProg
  split
  · exact (Lane.setReg_reg_other _ hother ..).trans (Lane.setReg_reg_other _ hother ..)
  · exact Lane.setReg_reg_other _ hother ..

theorem Lane.enableProgs_ilu (L : Lane) : L.enableProgs.ilu = L.ilu := by
  rw [Lane.enableProgs, Lane.setFld_ilu, Lane.setFld_ilu, Lane.setFlag_ilu]
  exact Lane.foldTo_ilu (fun K p => K.enableProg_ilu _ p) L

theorem Lane.enableProgs_prog (L : Lane) (w : Nat) : L.enableProgs.reg .ILU_PROG w = L.reg .ILU_PROG w := by
  have hother : Reg.ILU_PROG ≠ .ILU_STAT := by decide
  rw [Lane.enableProgs, Lane.setFld, Lane.setReg_reg_other _ hother, Lane.setFld, Lane.setReg_reg_other _ hother,
    Lane.setFlag, Lane.setReg_reg_other _ hother]
  exact foldl_keep (·.reg .ILU_PROG w) _ (fun K p => K.enableProg_prog _ p w) _ L

/-- A start that restores no snapshot goes on without the programs, timers and counters that stood. -/
theorem Lane.iluRestore_of_noSnap {L : Lane} (h : L.bestSnap = none) (now : Int) :
    L.iluRestore now = ((({ L.enableProgs with ilu := { L.enableProgs.ilu with
      progs := ⟨[]⟩, tmr := ⟨[]⟩, ctr := ⟨[]⟩ } } : Lane).setPubFlags 0).keepProg).raise 7 0x02 now := by
  have hsnap : L.enableProgs.bestSnap = none := (Lane.bestSnap_congr L.enableProgs_ilu L.enableProgs_prog).trans h
  have hif {c : Prop} [Decidable c] : (if c then L.enableProgs.bestSnap else none) = none := by rw [hsnap, ite_self]
  unfold Lane.iluRestore
  dsimp only
  split
  next sn hsome => exact absurd (hif.symm.trans hsome) (by simp)
  next => rfl

theorem Lane.iluRestore_counterOf {L : Lane} (h : L.bestSnap = none) (now : Int) (p j : Nat) :
    (L.iluRestore now).counterOf ((L.iluRestore now).iluProg p) j = ⟨0, false, false⟩ := by
  have hilu : (L.iluRestore now).ilu.progs = ⟨[]⟩ ∧ (L.iluRestore now).ilu.ctr = ⟨[]⟩ := by
    rw [Lane.iluRestore_of_noSnap h, Lane.raise_ilu, Lane.keepProg, Lane.setPubFlags_ilu]
    exact ⟨rfl, rfl⟩
  obtain ⟨hprogs, hctr⟩ := hilu
  refine Lane.counterOf_initial ?_ ?_
  · rw [Lane.iluProg, hprogs]
    rfl
  · rw [hctr]
    rfl

/-- A command that leaves a counter in the scan's copy leaves it to the program's next instruction. -/
theorem exec_counter_bound {s : State} {l : LaneId} {p j : Nat} {c : Instr} {x y : IluProg} {n : CtrSt}
    (hc : exec c s = .next (s.put l ((s.now l).setProg p y))) (hy : y.ctr = x.ctr.put j n) (hn : n.cv ≤ 65535) :
    ∃ t, exec c s = .next t ∧ ((t.lane l).counterOf ((t.lane l).iluProg p) j).cv ≤ 65535 := by
  refine ⟨_, hc, ?_⟩
  rwa [State.put_lane, Lane.setProg_iluProg_self, Lane.counterOf_of_put _ hy]

theorem bits_lt (w : Word) (hi lo : Nat) : bits w hi lo < 2 ^ (hi + 1 - lo) := Nat.mod_lt _ (by positivity)

/-- Settles O29: the four instructions by their laws, each of which keeps the bound on CV (`exec_counter_bound`); CLEAR and the
load of another program forget the program's counters (`Lane.iluInit_counterOf`), a start without a snapshot all of them
(`Lane.iluRestore_counterOf`). -/
theorem faruskCounters : Obligations.FaruskCounters := by
  intro s l p j id now L x c pv halloc
  refine ⟨fun h => ?_, fun hf hl hs => ?_, Lane.iluInit_counterOf halloc, fun hsnap => Lane.iluRestore_counterOf hsnap ..⟩
  · have hctu := exec_farusk_ends (o := .ctu j) h (Lane.faruskCounter_ctu halloc x)
    have hctd := exec_farusk_ends (o := .ctd j) h (Lane.faruskCounter_ctd halloc x)
    have hcrs := exec_farusk_ends (o := .crs j) h (Lane.faruskCounter_crs halloc x)
    have hcld := exec_farusk_ends (o := .cld j) h (Lane.faruskCounter_cld halloc x)
    refine ⟨hctu, hctd, hcrs, hcld, fun hcv i hi => ?_⟩
    simp only [List.mem_cons, List.not_mem_nil, or_false] at hi
    rcases hi with rfl | rfl | rfl | rfl
    · exact exec_counter_bound hctu rfl ((ite_le_sup _ _ _).trans (max_le (Nat.min_le_right ..) hcv))
    · exact exec_counter_bound hctd rfl ((ite_le_sup _ _ _).trans (max_le ((Nat.sub_le ..).trans hcv) hcv))
    · exact exec_counter_bound hcrs rfl ((ite_le_sup _ _ _).trans (max_le (Nat.zero_le _) hcv))
    · exact exec_counter_bound hcld rfl ((ite_le_sup _ _ _).trans (max_le (Nat.le_of_lt_succ (bits_lt _ 15 0)) hcv))
  · rw [Lane.iluCtrl_clear hf hl hs, Lane.counterOf_congr (Lane.finish_ilu ..)]
    exact Lane.iluInit_counterOf halloc

end Sys2Proof.Machine
end

section
/-! PROOFS. The interlock logic unit: faults, slices, and the allotment of a program in a tick. -/

namespace Sys2Proof.Machine

open Sys2Proof

/-! ### An ILU fault (R208) -/

@[simp] theorem Lane.sendWithdraw_ilu (L : Lane) (cause : Nat) (now : Int) : (L.sendWithdraw cause now).ilu = L.ilu := by
  unfold Lane.sendWithdraw
  split
  · rfl
  · dsimp only
    split <;> rfl

@[simp] theorem Lane.dropTo_ilu (L : Lane) (lvl cause : Nat) (now : Int) : (L.dropTo lvl cause now).ilu = L.ilu := by
  unfold Lane.dropTo
  split
  · dsimp only
    split <;> simp
  · rfl

section iluFault

variable {L : Lane} {cause : Nat} {time : Int}

/-- While a fault is latched another changes nothing. -/
theorem Lane.iluFault_of_latched (h : L.flag .ILU_STAT 30 = true) : L.iluFault cause time = L :=
  if_pos (by simp [h])

/-- In service the first fault is latched with its event; one of cause 1 asks for Level 2. -/
theorem Lane.iluFault_latches (hs : L.inService = true) (h : L.flag .ILU_STAT 30 = false) :
    L.iluFault cause time =
      if cause = 1 then ((L.setFlag .ILU_STAT 30 true).raise 7 0x01 time (leBytes 1 cause)).dropTo 2 7 time
      else (L.setFlag .ILU_STAT 30 true).raise 7 0x01 time (leBytes 1 cause) :=
  if_neg (by simp [hs, h])

/-- A fault leaves every program as it is. -/
theorem Lane.iluFault_ilu : (L.iluFault cause time).ilu = L.ilu := by
  unfold Lane.iluFault
  split
  · rfl
  · dsimp only
    split <;> simp

/-- A fault writes ILU_STAT alone. -/
theorem Lane.iluFault_reg {r : Reg} (hr : r ≠ .ILU_STAT) (i j : Nat) :
    (L.iluFault cause time).reg r i j = L.reg r i j := by
  have hraised : ((L.setFlag .ILU_STAT 30 true).raise 7 0x01 time (leBytes 1 cause)).reg r i j = L.reg r i j :=
    Lane.setReg_reg_other _ hr ..
  unfold Lane.iluFault
  split
  · rfl
  · dsimp only
    split
    · rw [Lane.reg, Lane.dropTo_regs]
      exact hraised
    · exact hraised

end iluFault

/-! ### Slices (R191, R206) -/

theorem foldTo_four {σ : Type} (f : σ → Nat → σ) (x : σ) : foldTo 4 f x = f (f (f (f x 0) 1) 2) 3 := rfl

/-- A corrected memory error costs the program that executes six steps, and is counted (R206). -/
def Lane.eccStall (L : Lane) (p : Nat) : Lane :=
  (L.setProg p { L.iluProg p with stall := (L.iluProg p).stall + 6 }).bump .ILU_ECC_CE

/-- Outside a freeze tick the scans that are due begin, the corrected errors are charged, and the programs step. -/
theorem Lane.iluSlice_runs {L : Lane} (h : L.frozen = false) (ce : List Nat) :
    L.iluSlice ce = foldTo 4 Lane.progSlice (ce.foldl Lane.eccStall (foldTo 4 Lane.scanDue L)) :=
  if_neg (by simp [h])

/-- In a freeze tick corrections are counted, and no step is taken. -/
theorem Lane.iluSlice_frozen {L : Lane} (h : L.frozen = true) (ce : List Nat) :
    L.iluSlice ce = L.bump .ILU_ECC_CE 0 ce.length := if_pos h

/-- Settles O31: a slice as `Lane.iluSlice_runs` and `Lane.iluSlice_frozen` give it, a fault as `Lane.iluFault_latches` and
`Lane.iluFault_of_latched` do. -/
theorem iluSlicesAndFaults : Obligations.IluSlicesAndFaults := by
  intro s l ce cause now L
  refine ⟨fun hf => ?_, fun hf => ?_, fun hs hnone => ?_, fun hlatched => ?_⟩
  · rw [execIluSlice_eq, Lane.iluSlice_runs hf, foldTo_four, foldTo_four]
    rfl
  · rw [execIluSlice_eq, Lane.iluSlice_frozen hf]
  · rw [execIluFault_eq, Lane.iluFault_latches hs hnone]
  · rw [execIluFault_eq, Lane.iluFault_of_latched hlatched]

/-! ### The allotment in a tick (R191, R206) -/

/-- A program has spent no more steps in the tick than its STEPS. -/
def Lane.InAllotment (L : Lane) (p : Nat) : Prop := (L.iluProg p).spent ≤ L.iluSteps p

/-- The machine that an outcome keeps, if it keeps one, has spent no more than `n` steps in the tick. -/
def FRes.SpentAtMost (n : Nat) : FRes → Prop
  | .next y => y.spent ≤ n
  | .done y => y.spent ≤ n
  | .bad _ => True

section outcome

variable (L : Lane) (p : Nat) {x : IluProg} {n : Nat} (h : x.spent ≤ n)

include h

theorem Lane.faruskStore_spent (f : Nat) (v : Bool) : (L.faruskStore p x f v).SpentAtMost n := by
  unfold Lane.faruskStore
  split
  · exact h
  · trivial

theorem Lane.faruskTimer_spent (mode i : Nat) : (L.faruskTimer p x mode i).SpentAtMost n := by
  unfold Lane.faruskTimer
  split
  · trivial
  · exact h

theorem Lane.faruskCounter_spent (op j : Nat) : (L.faruskCounter p x op j).SpentAtMost n := by
  unfold Lane.faruskCounter
  split
  · trivial
  · dsimp only
    split <;> exact h

/-- The effect of an instruction spends nothing: its steps have been charged before. -/
theorem Lane.farusk_spent (o : FOp) : (L.farusk p o x).SpentAtMost n := by
  cases o with
  | st f | stn f | setf f | rst f => exact L.faruskStore_spent p h f _
  | re f | fe f =>
    rw [Lane.farusk]
    refine L.faruskStore_spent p ?_ f _
    exact h
  | ton t | tof t | tp t => exact L.faruskTimer_spent p h _ t
  | ctu c | ctd c | crs c | cld c =>
    rw [Lane.farusk]
    exact L.faruskCounter_spent p h _ c
  | push | popa | popo =>
    rw [Lane.farusk]
    split
    · trivial
    · exact h
  | endScan =>
    rw [Lane.farusk]
    split
    · exact h
    · trivial
  | _ => exact h

end outcome

/-- Stall steps are served within the allotment. -/
theorem IluProg.serve_spent {x : IluProg} {steps : Nat} (h : x.spent ≤ steps) : (x.serve steps).spent ≤ steps := by
  simp only [IluProg.serve]
  omega

/-- A program's steps in its part of a tick stay in its allotment: each is charged only where it has the steps left. -/
theorem Lane.faruskRun_spent (L : Lane) (p fuel : Nat) {x : IluProg} (h : x.spent ≤ L.iluSteps p) :
    (L.faruskRun p fuel x).SpentAtMost (L.iluSteps p) := by
  induction fuel generalizing x with
  | zero => exact h
  | succ fuel ih =>
    unfold Lane.faruskRun
    split
    · trivial
    · split
      · trivial
      next o _ =>
        split
        · exact h
        next hleft =>
          have hstep := L.farusk_spent p (x := x.charge (stepsOf o)) (Nat.not_lt.1 hleft) o
          split
          next y hy =>
            rw [hy] at hstep
            exact ih hstep
          next => exact hstep

namespace Lane.InAllotment

variable {L M : Lane} {p q : Nat}

/-- What leaves the programs and their STEPS alone keeps the allotment. -/
theorem of_eq (h : L.InAllotment p) (hilu : M.ilu = L.ilu) (hsteps : M.reg .ILU_PRG_BUDGET p = L.reg .ILU_PRG_BUDGET p) :
    M.InAllotment p := by
  unfold Lane.InAllotment Lane.iluProg Lane.iluSteps Lane.fld at *
  rwa [hilu, hsteps]

theorem setReg (h : L.InAllotment p) {r : Reg} (hr : Reg.ILU_PRG_BUDGET ≠ r) (v : Word) (i j : Nat) :
    (L.setReg r v i j).InAllotment p := h.of_eq rfl (L.setReg_reg_other hr v i j p 0)

theorem setFlag (h : L.InAllotment p) {r : Reg} (hr : Reg.ILU_PRG_BUDGET ≠ r) (b : Nat) (v : Bool) (i : Nat) :
    (L.setFlag r b v i).InAllotment p := h.setReg hr ..

theorem iluFault (h : L.InAllotment p) (cause : Nat) (time : Int) : (L.iluFault cause time).InAllotment p :=
  h.of_eq Lane.iluFault_ilu (Lane.iluFault_reg (by decide) p 0)

/-- A program's machine is replaced by one within the allotment, if the program was. -/
theorem setProg (h : L.InAllotment p) {y : IluProg} (hy : L.InAllotment q → y.spent ≤ L.iluSteps q) :
    (L.setProg q y).InAllotment p := by
  by_cases hpq : p = q
  · subst hpq
    unfold Lane.InAllotment
    rw [Lane.setProg_iluProg_self]
    exact hy h
  · unfold Lane.InAllotment
    rw [Lane.setProg_iluProg_ne _ hpq]
    exact h

theorem faruskEnd (h : L.InAllotment p) {r : FRes} (hr : L.InAllotment q → r.SpentAtMost (L.iluSteps q)) :
    (L.faruskEnd q r).InAllotment p := by
  cases r with
  | next y => exact h.setProg hr
  | done y => exact (h.setProg hr).setFlag (by decide) ..
  | bad c =>
    rw [Lane.faruskEnd]
    refine iluFault ?_ ..
    exact h.setProg fun hq => hq

theorem faruskRow (h : L.InAllotment p) (q : Nat) (o : FOp) : (L.faruskRow q o).InAllotment p := by
  unfold Lane.faruskRow
  dsimp only
  split
  · exact h
  next hcan =>
    have hleft : (L.iluProg q).spent + stepsOf o ≤ L.iluSteps q := Nat.not_lt.1 fun hlt => hcan (by simp [hlt])
    exact h.faruskEnd fun _ => L.farusk_spent q (x := (L.iluProg q).charge (stepsOf o)) hleft o

theorem scanDue (h : L.InAllotment p) (q : Nat) : (L.scanDue q).InAllotment p := by
  unfold Lane.scanDue
  split
  · unfold Lane.scanStart
    refine setReg ?_ (by decide) ..
    refine setFlag ?_ (by decide) ..
    exact h.setProg fun hq => hq
  · exact h

theorem eccStall (h : L.InAllotment p) (q : Nat) : (L.eccStall q).InAllotment p := by
  unfold Lane.eccStall
  refine setReg ?_ (by decide) ..
  exact h.setProg fun hq => hq

theorem progSlice (h : L.InAllotment p) (q : Nat) : (L.progSlice q).InAllotment p := by
  unfold Lane.progSlice
  dsimp only
  split
  · exact h
  · split
    · exact h
    · exact h.faruskEnd fun hq => L.faruskRun_spent q _ (IluProg.serve_spent hq)

theorem foldl {f : Lane → Nat → Lane} (hf : ∀ {K : Lane}, K.InAllotment p → ∀ q, (f K q).InAllotment p)
    (h : L.InAllotment p) (qs : List Nat) : (qs.foldl f L).InAllotment p :=
  List.foldlRecOn (motive := fun K => K.InAllotment p) qs f h fun _ hK q _ => hf hK q

theorem iluSlice (h : L.InAllotment p) (ce : List Nat) : (L.iluSlice ce).InAllotment p := by
  cases hf : L.frozen with
  | false =>
    rw [Lane.iluSlice_runs hf]
    exact foldl progSlice (foldl eccStall (foldl scanDue h _) _) _
  | true =>
    rw [Lane.iluSlice_frozen hf]
    exact h.setReg (by decide) ..

end Lane.InAllotment

/-- The Farusk instructions, with operand `f` where they take one. -/
def faruskOps (f : Nat) : List FOp :=
  [.ld f, .ldn f, .andf f, .andn f, .orf f, .orn f, .xorf f, .xorn f, .st f, .stn f, .setf f, .rst f, .re f, .fe f,
    .ton f, .tof f, .tp f, .ctu f, .ctd f, .crs f, .cld f, .faruskNop, .push, .popa, .popo, .page0, .page1, .endScan,
    .jc f, .jcn f]

/-- Settles O30: a row charges its steps where they are left (`Lane.InAllotment.faruskRow`), and a slice serves stalls and
steps within what is left (`Lane.InAllotment.iluSlice`). -/
theorem stepsStayInTheAllotment : Obligations.StepsStayInTheAllotment := by
  intro s t l p q f ce c hc h hexec
  have hnow : (s.now l).InAllotment p := h
  have hrow : c ∈ (faruskOps f).map (faruskInstr l q) ++ [.iluSlice l ce] := hc
  rcases List.mem_append.1 hrow with hrow | hslice
  · obtain ⟨o, -, rfl⟩ := List.mem_map.1 hrow
    rw [exec_faruskInstr] at hexec
    cases hexec
    rw [State.put_lane]
    exact hnow.faruskRow q o
  · rw [List.mem_singleton.1 hslice, execIluSlice_eq] at hexec
    cases hexec
    rw [State.put_lane]
    exact hnow.iluSlice ce

end Sys2Proof.Machine
end

section
/-! PROOFS. TWN_STAT after a write, the datum that leaves TWIN, and a lane that becomes ALONE or begins to drive. -/

namespace Sys2Proof.Machine

open Sys2Proof

/-! ### Fields and flags of one word, and TWN_STAT -/

/-- The bits of a field are those of the word. -/
theorem bits_testBit (w : Word) (hi lo i : Nat) :
    (bits w hi lo).testBit i = (decide (i < hi + 1 - lo) && bit w (lo + i)) := by
  rw [bits, Nat.testBit_mod_two_pow, Nat.testBit_shiftRight, bit, BitVec.testBit_toNat]

/-- A bit written outside a field leaves the field. -/
theorem bits_putBit_outside (w : Word) {hi lo b : Nat} (h : b < lo ∨ hi < b) (v : Bool) :
    bits (putBit w b v) hi lo = bits w hi lo := by
  refine Nat.eq_of_testBit_eq fun i => ?_
  rw [bits_testBit, bits_testBit]
  by_cases hi' : i < hi + 1 - lo
  · rw [bit_putBit_ne w (by omega)]
  · simp [hi']

/-- A flag below a field just written keeps its value. -/
theorem Lane.setFld_flag_below (L : Lane) (r : Reg) {hi lo b : Nat} (h : lo ≤ hi) (hh : hi < 32) (hb : b < lo) (v i j : Nat) :
    (L.setFld r hi lo v i j).flag r b i j = L.flag r b i j := by
  rw [Lane.flag, Lane.setFld, Lane.setReg_reg_self, bit_eq_bits, bits_putBits_below _ h hh hb, ← bit_eq_bits, Lane.flag]

theorem Lane.setPs_pstate (L : Lane) {p : Nat} (hp : p < 8) : (L.setPs p).pstate = p :=
  (Lane.setFld_fld_self L _ (by decide) (by decide) ..).trans (Nat.mod_eq_of_lt hp)

theorem Lane.setPs_flag (L : Lane) (p : Nat) {b : Nat} (hb : b < 29) : (L.setPs p).flag .TWN_STAT b = L.flag .TWN_STAT b :=
  Lane.setFld_flag_below _ _ (by decide) (by decide) hb ..

theorem Lane.setFlag_pstate (L : Lane) {b : Nat} (hb : b < 29) (v : Bool) : (L.setFlag .TWN_STAT b v).pstate = L.pstate := by
  rw [Lane.pstate, Lane.fld, Lane.setFlag, Lane.setReg_reg_self, bits_putBit_outside _ (.inl hb)]
  rfl

/-- The count of clean ticks lies below PSTATE. -/
theorem Lane.setFld_pstate (L : Lane) (v : Nat) : (L.setFld .TWN_STAT 22 0 v).pstate = L.pstate := by
  rw [Lane.pstate, Lane.fld, Lane.setFld, Lane.setReg_reg_self, bits_putBits_above _ (by decide) (by decide) (by decide)]
  rfl

theorem Lane.flag_of_reg {L M : Lane} {r : Reg} (h : M.reg r = L.reg r) (b : Nat) : M.flag r b = L.flag r b := by
  rw [Lane.flag, h, Lane.flag]

theorem Lane.pstate_of_reg {L M : Lane} (h : M.reg .TWN_STAT = L.reg .TWN_STAT) : M.pstate = L.pstate := by
  rw [Lane.pstate, Lane.fld, h, Lane.pstate, Lane.fld]

theorem Lane.tick_of_reg {L M : Lane} (h : ∀ r ∈ [Reg.LCT_TICK_NUM_LO, .LCT_TICK_NUM_HI], M.reg r = L.reg r) : M.tick = L.tick := by
  rw [Lane.tick, Lane.num64, h _ (by decide), h _ (by decide), Lane.tick, Lane.num64]

/-- A pair of registers just written spells the number, as far as it reaches. -/
theorem Lane.setNum64_num64_self (L : Lane) {lo hi : Reg} (h : lo ≠ hi) {v : Nat} (hv : v < 2 ^ 64) :
    (L.setNum64 lo hi v).num64 lo hi = v := by
  rw [Lane.num64, Lane.setNum64, Lane.setReg_reg_self, Lane.setReg_reg_other _ h, Lane.setReg_reg_self, w32_toNat, w32_toNat]
  omega

theorem Lane.tick_lt (L : Lane) : L.tick < 2 ^ 64 := by
  have hlo := (L.reg .LCT_TICK_NUM_LO).isLt
  have hhi := (L.reg .LCT_TICK_NUM_HI).isLt
  unfold Lane.tick Lane.num64
  omega

/-! ### The datum leaves TWIN (R291) -/

/-- The registers that a change of the datum's state or reference shows itself in. -/
def steerRegs : List Reg :=
  [.DTM_STAT, .DTM_PORT_STAT, .DTM_HOLD_CNT, .DTM_SWITCH_CNT, .DTM_RATE_TGT_LO, .DTM_RATE_TGT_HI, .LCT_TRAV_STAT]

section steer

variable {r : Reg}

theorem Lane.ite_reg {M N : Lane} {p : Prop} [Decidable p] (h : N.reg r = M.reg r) : (if p then N else M).reg r = M.reg r := by
  split
  · exact h
  · rfl

theorem Lane.foldTo_reg {f : Lane → Nat → Lane} (h : ∀ (M : Lane) (k : Nat), (f M k).reg r = M.reg r) (n : Nat) (L : Lane) :
    (foldTo n f L).reg r = L.reg r := foldl_keep (fun M : Lane => M.reg r) f h _ L

theorem Lane.leaveRef_reg (L : Lane) (now : Int) : (L.leaveRef now).reg r = L.reg r := by
  unfold Lane.leaveRef
  split <;> rfl

variable (hr : r ∉ steerRegs)

include hr

theorem Lane.setReg_steer (L : Lane) {q : Reg} (hq : q ∈ steerRegs) (v : Word) (i j : Nat) :
    (L.setReg q v i j).reg r = L.reg r := L.setReg_reg_other (ne_of_mem_of_not_mem hq hr).symm v i j 0 0

theorem Lane.setFld_steer (L : Lane) {q : Reg} (hq : q ∈ steerRegs) (hi lo v : Nat) :
    (L.setFld q hi lo v).reg r = L.reg r := L.setReg_steer hr hq ..

theorem Lane.portMarks_reg (L : Lane) (p : Nat → Bool) :
    (foldTo 4 (fun L k => L.setFlag .DTM_PORT_STAT 26 (p k) k) L).reg r = L.reg r :=
  Lane.foldTo_reg (fun M _ => M.setReg_steer hr (by decide) ..) 4 L

theorem Lane.showDatum_reg (L : Lane) (a b : Bool) : (L.showDatum a b).reg r = L.reg r := by
  rw [Lane.showDatum, Lane.setFlag, Lane.setReg_steer hr _ (by decide), Lane.setFlag, Lane.setReg_steer hr _ (by decide)]

theorem Lane.enterDatum_reg (L : Lane) (st : Nat) (now : Int) : (L.enterDatum st now).reg r = L.reg r := by
  unfold Lane.enterDatum
  dsimp only
  split
  · rfl
  · rw [Lane.raise_reg]
    refine .trans (Lane.ite_reg ?_) ?_
    · rfl
    refine .trans (Lane.ite_reg ?_) ?_
    · rfl
    refine .trans (Lane.ite_reg ?_) ?_
    · exact Lane.setReg_steer hr _ (by decide) ..
    rw [Lane.showDatum_reg hr, Lane.setFld_steer hr _ (by decide)]
    exact Lane.ite_reg rfl

theorem Lane.holdover_reg (L : Lane) (now : Int) : (L.holdover now).reg r = L.reg r := by
  have htarget : (L.freezeTarget now).reg r = L.reg r := by
    rw [Lane.freezeTarget, Lane.writeTarget, Lane.setNum64, Lane.setReg_steer hr _ (by decide), Lane.setReg_steer hr _ (by decide)]
    rfl
  unfold Lane.holdover
  dsimp only
  rw [Lane.enterDatum_reg hr, Lane.setFld_steer hr _ (by decide), Lane.portMarks_reg hr]
  exact (Lane.leaveRef_reg _ now).trans htarget

theorem Lane.clearCount_reg (L : Lane) (c : Nat) : (L.clearCount c).reg r = L.reg r := by
  unfold Lane.clearCount
  refine .trans (Lane.ite_reg ?_) ?_
  · exact Lane.setReg_steer hr _ (by decide) ..
  · rfl

theorem Lane.showRef_reg (L : Lane) (c : Nat) : (L.showRef c).reg r = L.reg r := by
  have hsource (v : Nat) : ((foldTo 4 (fun L p => L.setFlag .DTM_PORT_STAT 26 (p == c) p) L).setFld .DTM_STAT 28 27 v).reg r =
      L.reg r := by
    rw [Lane.setFld_steer hr _ (by decide), Lane.portMarks_reg hr]
  unfold Lane.showRef
  dsimp only
  split
  · exact hsource _
  · exact (Lane.setFld_steer hr _ (by decide) ..).trans (hsource _)

theorem Lane.commitSwitch_reg (L : Lane) (c : Nat) (now : Int) : (L.commitSwitch c now).reg r = L.reg r := by
  have hcount (M : Lane) (k : Nat) : (if k = c || (M.cand k).qual then M else M.clearCount k).reg r = M.reg r := by
    split
    · rfl
    · exact Lane.clearCount_reg hr M k
  unfold Lane.commitSwitch
  dsimp only
  rw [Lane.enterDatum_reg hr, Lane.bump, Lane.setReg_steer hr _ (by decide), Lane.showRef_reg hr]
  exact (Lane.foldTo_reg hcount 5 _).trans (Lane.leaveRef_reg L now)

/-- Leaving TWIN shows itself in no other register. -/
theorem Lane.leaveTwinTime_reg (L : Lane) (now : Int) : (L.leaveTwinTime now).reg r = L.reg r := by
  have hrun : (({ L with datum := { L.datum with twinRun := 0 } } : Lane).setFlag .DTM_STAT 23 false).reg r = L.reg r :=
    Lane.setReg_steer hr _ (by decide) ..
  unfold Lane.leaveTwinTime
  dsimp only
  split
  · rfl
  · split
    · exact (Lane.commitSwitch_reg hr ..).trans hrun
    · exact (Lane.holdover_reg hr ..).trans hrun

end steer

/-! ### ALONE (R220, R221) -/

theorem Lane.setTwin_reg (L : Lane) (x : Twin) (r : Reg) : (L.setTwin x).reg r = L.reg r := rfl

theorem Lane.setTwin_twin (L : Lane) (x : Twin) : (L.setTwin x).twin = x := rfl

theorem Lane.setTwin_pstate (L : Lane) (x : Twin) : (L.setTwin x).pstate = L.pstate := rfl

theorem Lane.setTwin_flag (L : Lane) (x : Twin) (r : Reg) (b : Nat) : (L.setTwin x).flag r b = L.flag r b := rfl

theorem Lane.raise_pstate (L : Lane) (src code : Nat) (time : Int) (data : List Byte) :
    (L.raise src code time data).pstate = L.pstate := rfl

theorem Lane.raise_flag (L : Lane) (src code : Nat) (time : Int) (data : List Byte) (r : Reg) (b : Nat) :
    (L.raise src code time data).flag r b = L.flag r b := rfl

theorem Lane.raise_newest (L : Lane) (src code : Nat) (time : Int) (data : List Byte) :
    (L.raise src code time data).Raised src code time data := List.getLast?_concat ..

/-- What a lane that becomes ALONE shows of it, before its datum follows. -/
def Lane.aloneShown (L : Lane) : Lane :=
  ((((L.setPs psAlone).setFlag .TWN_STAT 25 false).setFlag .TWN_STAT 26 false).setFld .TWN_STAT 22 0 0).setReg .TWN_COPY_LEFT 0

/-- The twin record of a lane that becomes ALONE: the transfer, the comparison and the swap under way end, and a lane that
ran on the forwarded set runs on its own from the next edge. -/
def Lane.aloneTwin (L : Lane) : Twin :=
  let x := L.twin
  let x := { x with freeze := none, check := false, dirty := [], pass := [], copyPos := none, arrived := [], missed := 0 }
  { x with mine := none, peer := none, turn := none, roleNext := x.roleNext.filter (fun b => b),
           realAt := if x.follow then some (L.tick + 1) else none }

theorem Lane.aloneTwin_loss (L : Lane) : L.aloneTwin.loss = L.twin.loss := rfl

theorem Lane.becomeAlone_eq (L : Lane) (now : Int) :
    L.becomeAlone now = (L.aloneShown.leaveTwinTime now).setTwin (L.aloneShown.leaveTwinTime now).aloneTwin := by
  unfold Lane.becomeAlone Lane.aloneShown Lane.aloneTwin
  rfl

theorem Lane.aloneShown_reg (L : Lane) {r : Reg} (hr : r ∉ [Reg.TWN_STAT, .TWN_COPY_LEFT]) : L.aloneShown.reg r = L.reg r := by
  obtain ⟨hstat, hleft⟩ : r ≠ .TWN_STAT ∧ r ≠ .TWN_COPY_LEFT := by simpa using hr
  rw [Lane.aloneShown, Lane.setReg_reg_other _ hleft, Lane.setFld, Lane.setReg_reg_other _ hstat, Lane.setFlag,
    Lane.setReg_reg_other _ hstat, Lane.setFlag, Lane.setReg_reg_other _ hstat, Lane.setPs, Lane.setFld,
    Lane.setReg_reg_other _ hstat]

theorem Lane.aloneShown_twin (L : Lane) : L.aloneShown.twin = L.twin := by
  rw [Lane.aloneShown, Lane.setReg_twin, Lane.setFld_twin, Lane.setFlag_twin, Lane.setFlag_twin, Lane.setPs, Lane.setFld_twin]

theorem Lane.aloneShown_pstate (L : Lane) : L.aloneShown.pstate = psAlone := by
  rw [Lane.aloneShown, Lane.pstate_of_reg (Lane.setReg_reg_other _ (by decide) ..), Lane.setFld_pstate,
    Lane.setFlag_pstate _ (by decide), Lane.setFlag_pstate _ (by decide), Lane.setPs_pstate _ (by decide)]

theorem Lane.aloneShown_lock (L : Lane) : L.aloneShown.flag .TWN_STAT 27 = L.flag .TWN_STAT 27 := by
  rw [Lane.aloneShown, Lane.flag_of_reg (Lane.setReg_reg_other _ (by decide) ..),
    Lane.setFld_flag_above _ _ (by decide) (by decide) (by decide), Lane.setFlag_flag_ne _ _ (by decide),
    Lane.setFlag_flag_ne _ _ (by decide), Lane.setPs_flag _ _ (by decide)]

/-- Beyond what it shows of it, a lane that becomes ALONE changes registers of its datum only. -/
theorem Lane.becomeAlone_reg (L : Lane) (now : Int) {r : Reg} (hr : r ∉ steerRegs) :
    (L.becomeAlone now).reg r = L.aloneShown.reg r := by
  rw [Lane.becomeAlone_eq, Lane.setTwin_reg]
  exact Lane.leaveTwinTime_reg hr _ now

theorem Lane.becomeAlone_tick (L : Lane) (now : Int) : (L.becomeAlone now).tick = L.tick := by
  refine (Lane.tick_of_reg fun r hr => L.becomeAlone_reg now ?_).trans (Lane.tick_of_reg fun r hr => L.aloneShown_reg ?_)
  all_goals
    revert r
    decide

theorem Lane.becomeAlone_pstate (L : Lane) (now : Int) : (L.becomeAlone now).pstate = psAlone :=
  (Lane.pstate_of_reg (L.becomeAlone_reg now (by decide))).trans L.aloneShown_pstate

theorem Lane.becomeAlone_lock (L : Lane) (now : Int) : (L.becomeAlone now).flag .TWN_STAT 27 = L.flag .TWN_STAT 27 :=
  (Lane.flag_of_reg (L.becomeAlone_reg now (by decide)) 27).trans L.aloneShown_lock

theorem Lane.becomeAlone_loss (L : Lane) (now : Int) : (L.becomeAlone now).twin.loss = L.twin.loss := by
  rw [Lane.becomeAlone_eq, Lane.setTwin_twin, Lane.aloneTwin_loss, (Lane.KeepsRole.leaveTwinTime L.aloneShown now).twin,
    Lane.aloneShown_twin]

/-- ALONE without a twin, the lane takes the role and notes the edge from which it drives. -/
theorem Lane.aloneFrom_eq (L : Lane) (why : Nat) (now : Int) :
    let M := (L.becomeAlone now).setFlag .TWN_STAT 28 true
    L.aloneFrom why now = (M.setTwin { M.twin with driveAt := some (L.tick + 2) }).raise 9 0x0A (edgeNs (L.tick + 2) : Nat)
      (leBytes 1 why) := by
  unfold Lane.aloneFrom
  rfl

theorem Lane.aloneFrom_pstate (L : Lane) (why : Nat) (now : Int) : (L.aloneFrom why now).pstate = psAlone := by
  rw [Lane.aloneFrom_eq, Lane.raise_pstate, Lane.setTwin_pstate, Lane.setFlag_pstate _ (by decide), Lane.becomeAlone_pstate]

theorem Lane.aloneFrom_role (L : Lane) (why : Nat) (now : Int) : (L.aloneFrom why now).role = true := by
  rw [Lane.aloneFrom_eq, Lane.role, Lane.raise_flag, Lane.setTwin_flag, Lane.setFlag_flag_self _ _ (by decide)]

theorem Lane.aloneFrom_driveAt (L : Lane) (why : Nat) (now : Int) :
    (L.aloneFrom why now).twin.driveAt = some (L.tick + 2) := by
  rw [Lane.aloneFrom_eq]
  rfl

theorem Lane.aloneFrom_raised (L : Lane) (why : Nat) (now : Int) :
    (L.aloneFrom why now).Raised 9 0x0A (edgeNs (L.tick + 2) : Nat) (leBytes 1 why) := by
  rw [Lane.aloneFrom_eq]
  exact Lane.raise_newest ..

/-- A lane without a twin takes the active role at once, and drives from the second edge (R221, R237). -/
theorem Lane.aloneFrom_shows (L : Lane) (why : Nat) (now : Int) :
    (L.aloneFrom why now).pstate = psAlone ∧ (L.aloneFrom why now).role = true ∧
    (L.aloneFrom why now).twin.driveAt = some (L.tick + 2) ∧
    (L.aloneFrom why now).Raised 9 0x0A (edgeNs (L.tick + 2) : Nat) (leBytes 1 why) :=
  ⟨L.aloneFrom_pstate why now, L.aloneFrom_role why now, L.aloneFrom_driveAt why now, L.aloneFrom_raised why now⟩

/-- Driving begins in no register and in no record of the pair (R162, R235). -/
theorem Lane.startDriving_keeps (L : Lane) : L.startDriving.regs = L.regs ∧ L.startDriving.twin = L.twin := by
  have hpulse (M : Lane) (p : Nat) : ((if M.flag .CMD_PP_CFG 31 p then M.pulseNew p M.refEdge else M).regs,
      (if M.flag .CMD_PP_CFG 31 p then M.pulseNew p M.refEdge else M).twin) = (M.regs, M.twin) := by split <;> rfl
  have hpub (M : Lane) (g : Nat) : ((M.setPub g { M.pub g with force := true }).regs,
      (M.setPub g { M.pub g with force := true }).twin) = (M.regs, M.twin) := rfl
  exact Prod.mk.inj ((foldl_keep (fun M : Lane => (M.regs, M.twin)) _ hpub _ _).trans
    (foldl_keep (fun M : Lane => (M.regs, M.twin)) _ hpulse _ L))

theorem Lane.startDriving_reg (L : Lane) (r : Reg) : L.startDriving.reg r = L.reg r := by
  obtain ⟨hregs, -⟩ := L.startDriving_keeps
  rw [Lane.reg, hregs, Lane.reg]

end Sys2Proof.Machine
end

section
/-! PROOFS. Loss of the active lane, takeover, a lock that is lost, and a lane left without a witness. -/

namespace Sys2Proof.Machine

open Sys2Proof

/-! ### Loss of the active lane and takeover (R232, R233) -/

/-- A locked standby that has no digest of the tick that ended, or a later one, declares loss. -/
theorem Lane.lossOfActive_declares {L : Lane} {now : Int} (hlock : L.flag .TWN_STAT 27 = true)
    (hpeer : ∀ p, L.twin.peer = some p → p.1 < tickOf (now - 100).toNat - 1) : L.lossOfActive now = L.declareLoss now := by
  have hnone : L.twin.peer.any (fun p => decide (tickOf (now - 100).toNat - 1 ≤ p.1)) = false := by
    rw [Option.any_eq_false]
    exact fun p hp => decide_eq_false (Nat.not_le.2 (hpeer p hp))
  rw [Lane.lossOfActive, if_neg]
  rw [hlock, hnone]
  decide

theorem Lane.declareLoss_standby {L : Lane} (hp : L.paired = true) (hstand : L.holdsActive = false) (hno : L.twin.loss = none)
    (now : Int) :
    let k := tickOf (now - 600).toNat
    L.declareLoss now = (L.setTwin { L.twin with loss := some k, realAt := some (k + 1), turn := none }).raise 9 0x01 now
      (leBytes 8 k ++ leBytes 1 (bnat (L.flag .TWN_STAT 25))) := by
  rw [Lane.declareLoss, if_neg (by simp [hp, hstand, hno])]
  rfl

/-- The lane ALONE with the active role, before the change is counted. -/
def Lane.relieved (L : Lane) : Lane :=
  ((L.setTwin { L.twin with loss := none }).becomeAlone (L.refEdge : Nat)).setFlag .TWN_STAT 28 true

/-- The lane that a loss leaves ALONE with the active role and the change counted, before it drives. -/
def Lane.takenOver (L : Lane) : Lane :=
  let M := L.relieved.bump .TWN_SWITCH_CNT
  M.setNum64 .TWN_SWITCH_TK_LO .TWN_SWITCH_TK_HI M.tick

theorem Lane.takeover_due {L : Lane} {t : Nat} (hloss : L.twin.loss = some t) (ht : t + 2 ≤ L.tick) (hs : L.inService = true)
    (hr : L.role = false) : L.takeover = L.takenOver.startDriving := by
  unfold Lane.takeover
  rw [hloss]
  exact if_neg (by simp [ht, hs, hr])

theorem Lane.relieved_pstate (L : Lane) : L.relieved.pstate = psAlone := by
  rw [Lane.relieved, Lane.setFlag_pstate _ (by decide), Lane.becomeAlone_pstate]

theorem Lane.relieved_role (L : Lane) : L.relieved.role = true := Lane.setFlag_flag_self _ _ (by decide) ..

theorem Lane.relieved_loss (L : Lane) : L.relieved.twin.loss = none := by
  rw [Lane.relieved, Lane.setFlag_twin, Lane.becomeAlone_loss, Lane.setTwin_twin]

theorem Lane.relieved_reg (L : Lane) {r : Reg} (hr : r ∉ .TWN_STAT :: .TWN_COPY_LEFT :: steerRegs) :
    L.relieved.reg r = L.reg r := by
  obtain ⟨hstat, hleft, hsteer⟩ : r ≠ .TWN_STAT ∧ r ≠ .TWN_COPY_LEFT ∧ r ∉ steerRegs := by simpa using hr
  rw [Lane.relieved, Lane.setFlag, Lane.setReg_reg_other _ hstat, Lane.becomeAlone_reg _ _ hsteer,
    Lane.aloneShown_reg _ (by simp [hstat, hleft]), Lane.setTwin_reg]

/-- Counting the change and noting its tick write no other register. -/
theorem Lane.takenOver_reg (L : Lane) {r : Reg} (hr : r ∉ [Reg.TWN_SWITCH_CNT, .TWN_SWITCH_TK_LO, .TWN_SWITCH_TK_HI]) :
    L.takenOver.reg r = L.relieved.reg r := by
  obtain ⟨hcnt, hlo, hhi⟩ : r ≠ .TWN_SWITCH_CNT ∧ r ≠ .TWN_SWITCH_TK_LO ∧ r ≠ .TWN_SWITCH_TK_HI := by simpa using hr
  rw [Lane.takenOver, Lane.setNum64, Lane.setReg_reg_other _ hhi, Lane.setReg_reg_other _ hlo, Lane.bump,
    Lane.setReg_reg_other _ hcnt]

theorem Lane.takenOver_count (L : Lane) : L.takenOver.reg .TWN_SWITCH_CNT = L.reg .TWN_SWITCH_CNT + 1 := by
  rw [Lane.takenOver, Lane.setNum64, Lane.setReg_reg_other _ (by decide), Lane.setReg_reg_other _ (by decide), Lane.bump,
    Lane.setReg_reg_self, Lane.relieved_reg _ (by decide)]
  rfl

theorem Lane.takenOver_at (L : Lane) : L.takenOver.num64 .TWN_SWITCH_TK_LO .TWN_SWITCH_TK_HI = L.tick := by
  have htick : (L.relieved.bump .TWN_SWITCH_CNT).tick = L.tick :=
    (Lane.tick_of_reg fun r hr => Lane.setReg_reg_other _ (by revert r; decide) ..).trans
      (Lane.tick_of_reg fun r hr => L.relieved_reg (by revert r; decide))
  rw [Lane.takenOver, Lane.setNum64_num64_self _ (by decide) (Lane.tick_lt _), htick]

theorem Lane.takenOver_loss (L : Lane) : L.takenOver.twin.loss = none := by
  rw [Lane.takenOver, Lane.setNum64_twin, Lane.bump_twin, Lane.relieved_loss]

theorem Lane.takenOver_pstate (L : Lane) : L.takenOver.pstate = psAlone :=
  (Lane.pstate_of_reg (L.takenOver_reg (by decide))).trans L.relieved_pstate

theorem Lane.takenOver_role (L : Lane) : L.takenOver.role = true :=
  (Lane.flag_of_reg (L.takenOver_reg (by decide)) 28).trans L.relieved_role

/-- Once it drives, the lane shows what the takeover made of it (R233, R236). -/
theorem Lane.takeover_shows {L : Lane} {t : Nat} (hloss : L.twin.loss = some t) (ht : t + 2 ≤ L.tick)
    (hs : L.inService = true) (hr : L.role = false) :
    L.takeover.role = true ∧ L.takeover.pstate = psAlone ∧ L.takeover.twin.loss = none ∧
    L.takeover.num64 .TWN_SWITCH_TK_LO .TWN_SWITCH_TK_HI = L.tick ∧
    L.takeover.reg .TWN_SWITCH_CNT = L.reg .TWN_SWITCH_CNT + 1 := by
  have hreg (r : Reg) : L.takenOver.startDriving.reg r = L.takenOver.reg r := Lane.startDriving_reg ..
  obtain ⟨-, htwin⟩ := L.takenOver.startDriving_keeps
  rw [Lane.takeover_due hloss ht hs hr, htwin, hreg, Lane.num64, hreg, hreg, Lane.role, Lane.flag_of_reg (hreg _),
    Lane.pstate_of_reg (hreg _)]
  exact ⟨L.takenOver_role, L.takenOver_pstate, L.takenOver_loss, L.takenOver_at, L.takenOver_count⟩

/-! ### The lock is lost (R237, R238) -/

/-- The lane with its lock lost, and the event raised, before its pair follows. -/
def Lane.unlocked (L : Lane) (now : Int) : Lane := ((L.setFlag .TWN_STAT 27 false).setFlag .TWN_STAT 26 false).raise 9 0x04 now

theorem Lane.unlocked_pstate (L : Lane) (now : Int) : (L.unlocked now).pstate = L.pstate := by
  rw [Lane.unlocked, Lane.raise_pstate, Lane.setFlag_pstate _ (by decide), Lane.setFlag_pstate _ (by decide)]

theorem Lane.unlocked_lock (L : Lane) (now : Int) : (L.unlocked now).flag .TWN_STAT 27 = false := by
  rw [Lane.unlocked, Lane.raise_flag, Lane.setFlag_flag_ne _ _ (by decide), Lane.setFlag_flag_self _ _ (by decide)]

theorem Lane.unlocked_paired (L : Lane) (now : Int) : (L.unlocked now).paired = L.paired := by
  rw [Lane.paired, Lane.unlocked_pstate, Lane.paired]

theorem Lane.unlocked_tick (L : Lane) (now : Int) : (L.unlocked now).tick = L.tick := by
  refine Lane.tick_of_reg fun r hr => ?_
  have hstat : r ≠ .TWN_STAT := by
    revert r
    decide
  rw [Lane.unlocked, Lane.raise_reg, Lane.setFlag, Lane.setReg_reg_other _ hstat, Lane.setFlag, Lane.setReg_reg_other _ hstat]

theorem Lane.unlocked_holdsActive (L : Lane) (now : Int) : (L.unlocked now).holdsActive = L.holdsActive := by
  have hrole : (L.unlocked now).role = L.role := by
    rw [Lane.role, Lane.unlocked, Lane.raise_flag, Lane.setFlag_flag_ne _ _ (by decide), Lane.setFlag_flag_ne _ _ (by decide),
      Lane.role]
  rw [Lane.holdsActive, hrole]
  rfl

/-- The lane DETACHED, to run on its own intake from the next edge. -/
def Lane.detached (L : Lane) (now : Int) : Lane :=
  let M := (L.becomeAlone now).setPs psDetached
  M.setTwin { M.twin with realAt := some (M.tick + 1) }

theorem Lane.detached_shows (L : Lane) (now : Int) :
    (L.detached now).pstate = psDetached ∧ (L.detached now).twin.realAt = some (L.tick + 1) ∧
    (L.detached now).flag .TWN_STAT 27 = L.flag .TWN_STAT 27 := by
  have htick : ((L.becomeAlone now).setPs psDetached).tick = L.tick :=
    (Lane.tick_of_reg fun r hr => Lane.setReg_reg_other _ (by revert r; decide) ..).trans (L.becomeAlone_tick now)
  unfold Lane.detached
  dsimp only
  refine ⟨?_, ?_, ?_⟩
  · rw [Lane.setTwin_pstate, Lane.setPs_pstate _ (by decide)]
  · rw [Lane.setTwin_twin, htick]
  · rw [Lane.setTwin_flag, Lane.setPs_flag _ _ (by decide), Lane.becomeAlone_lock]

/-- What losing the lock makes of a lane, by the state of its pair. -/
theorem Lane.lockLoss_eq {L : Lane} (hlock : L.flag .TWN_STAT 27 = true) (now : Int) :
    L.lockLoss now =
      if L.pstate = psPairing then (L.unlocked now).setPs L.twin.before
      else if L.paired = false then L.unlocked now
      else if L.holdsActive = true then (L.unlocked now).becomeAlone now
      else if L.twin.loss.isSome then L.unlocked now
      else (L.unlocked now).detached now := by
  have heq : L.lockLoss now =
      if (L.unlocked now).pstate = psPairing then (L.unlocked now).setPs (L.unlocked now).twin.before
      else if !(L.unlocked now).paired then L.unlocked now
      else if (L.unlocked now).holdsActive then (L.unlocked now).becomeAlone now
      else if (L.unlocked now).twin.loss.isSome then L.unlocked now
      else (L.unlocked now).detached now := if_neg (by simp [hlock])
  rw [heq, Lane.unlocked_pstate, Lane.unlocked_paired, Lane.unlocked_holdsActive]
  cases L.paired <;> rfl

/-- Settles O38: each row is the law of its operation in the state named: a loss is declared (`Lane.declareLoss_standby`), a
takeover shows the lane ALONE and driving (`Lane.takeover_shows`), a lane without a twin takes the role
(`Lane.aloneFrom_shows`), and a lock that is lost leaves the lane as the state of its pair asks (`Lane.lockLoss_eq`). The
tick from which a DETACHED lane runs on its own intake is assumption log 77; that a lane which was pairing returns to the
state before is the model's choice, which R220 leaves open. -/
theorem takeoverAndLoss : Obligations.TakeoverAndLoss := by
  intro s l now t L
  refine ⟨fun hlock hpeer hp hstand hno => ?_, fun hloss ht hs hr => ⟨_, execTakeover_eq .., ?_⟩,
    fun hp hw => ⟨_, execWitnessLost_eq .., ?_⟩, fun hp ht hw => ⟨_, execAwaitExpiry_eq .., ?_⟩, execSightlineLock_eq ..,
    fun hlock hp => ⟨fun hno => ?_, fun hpair hact => ⟨_, execSightlineLockLoss_eq .., ?_⟩,
      fun hpair hstand hno => ⟨_, execSightlineLockLoss_eq .., ?_⟩⟩, fun hlock hp => ?_⟩
  · rw [execLossOfActive_eq, Lane.lossOfActive_declares hlock hpeer, Lane.declareLoss_standby hp hstand hno]
  · rw [State.put_lane]
    exact Lane.takeover_shows hloss ht hs hr
  · rw [State.put_lane, Lane.witnessLost, if_pos (by simp [L, hp, hw])]
    exact L.aloneFrom_shows 1 now
  · rw [State.put_lane, Lane.awaitExpiry, if_pos (by simp [L, hp, ht, hw])]
    exact L.aloneFrom_shows 2 now
  · rw [execSightlineLockLoss_eq, Lane.lockLoss_eq hlock, if_neg hp, if_pos hno]
    rfl
  · rw [State.put_lane, Lane.lockLoss_eq hlock, if_neg hp, if_neg (by simp [hpair]), if_pos hact]
    exact ⟨rfl, Lane.becomeAlone_pstate .., (Lane.becomeAlone_lock ..).trans (L.unlocked_lock now)⟩
  · rw [State.put_lane, Lane.lockLoss_eq hlock, if_neg hp, if_neg (by simp [hpair]), if_neg (by simp [hstand]),
      if_neg (by simp [hno])]
    obtain ⟨hps, hat, hl⟩ := (L.unlocked now).detached_shows now
    rw [Lane.unlocked_tick] at hat
    exact ⟨hps, hat, hl.trans (L.unlocked_lock now)⟩
  · rw [execSightlineLockLoss_eq, Lane.lockLoss_eq hlock, if_pos hp]
    rfl

end Sys2Proof.Machine
end

section
/-! PROOFS. The divergence of a pair: digests, their comparison, WITHDRAW and the self-check. -/

namespace Sys2Proof.Machine

open Sys2Proof

/-! ### Digests (R229, R230, R290) -/

theorem Lane.digestSend_pair {L : Lane} (hs : L.inService = true) (hl : L.level < 3) (hp : L.paired = true) :
    let M := L.setTwin { L.twin with mine := some (L.tick, L.digest) }
    L.digestSend = (M.emitTwin (.digest L.tick L.digest M.rateCur (M.twin.subst == some M.tick)
      (M.refEdge + 9800 : Nat))).markDone 12 := by
  rw [Lane.digestSend, if_neg (by simp [hs, hl]), if_neg (by simp [hp])]
  rfl

theorem Lane.showDatum_twin (L : Lane) (a b : Bool) : (L.showDatum a b).twin = L.twin := (Lane.KeepsRole.showDatum L a b).twin

theorem Lane.writeTarget_twin (L : Lane) : L.writeTarget.twin = L.twin := rfl

/-- Measuring the twin offset steers the datum only. -/
theorem Lane.twinMeasure_twin (L : Lane) (t1 t2 t3 t4 : Int) (rate : Nat) : (L.twinMeasure t1 t2 t3 t4 rate).twin = L.twin := by
  unfold Lane.twinMeasure
  dsimp only
  split
  · rfl
  · rw [Lane.writeTarget_twin]
    dsimp only
    split <;> rfl

theorem Lane.takeDigest_twin {L : Lane} (hp : L.paired = true) (tick dig : Nat) (t1 t2 t3 t4 : Int) (rate : Nat) (u v : Bool) :
    (L.takeDigest tick dig t1 t2 t3 t4 rate u v).twin = { L.twin with peer := some (tick, dig), missed := 0 } := by
  rw [Lane.takeDigest, if_neg (by simp [hp])]
  dsimp only
  split
  · rw [Lane.showDatum_twin, Lane.twinMeasure_twin, Lane.setTwin_twin]
  · rw [Lane.twinMeasure_twin, Lane.setTwin_twin]

/-! ### Comparing digests (R230, R231, R240) -/

section backsight

variable {L : Lane} {tick d dig : Nat}

/-- The lane that has compared the digests of a tick. -/
def Lane.compared (L : Lane) : Lane := (L.bump .TWN_BSIGHT_CNT).setTwin { L.twin with mine := none }

/-- The lane that has found them different. -/
def Lane.diverged (L : Lane) : Lane := (L.compared.bump .TWN_BSIGHT_MISM).setFld .TWN_STAT 22 0 0

theorem Lane.compared_stat : L.compared.reg .TWN_STAT = L.reg .TWN_STAT := Lane.setReg_reg_other _ (by decide) ..

/-- What comparing the two digests of a tick makes of a lane in REPLICA. -/
theorem Lane.backsight_eq (hmine : L.twin.mine = some (tick, d)) (hpeer : L.twin.peer = some (tick, dig))
    (hps : L.pstate = psReplica) (now : Int) :
    L.backsight now =
      if dig = d then
        (if L.role = true ∨ L.twin.subst = some tick then L.compared
         else L.compared.setFld .TWN_STAT 22 0 (min 8388607 (L.fld .TWN_STAT 22 0 + 1)))
      else if L.twin.check = true then L.diverged
      else ((L.diverged.emitTwin (.mismatch tick)).raise 9 0x03 now (leBytes 8 tick)).selfCheck := by
  have hpair : L.paired = true := by simp [Lane.paired, hps, psCopy, psReplica]
  have hnew : L.twin.peer.filter (fun p => p.1 == tick) = some (tick, dig) := by simp [hpeer]
  have hrep : ¬(L.compared.pstate != psReplica) = true := by simp [Lane.pstate_of_reg Lane.compared_stat, hps]
  have hrole : L.compared.role = L.role := Lane.flag_of_reg Lane.compared_stat 28
  have hclean : L.compared.fld .TWN_STAT 22 0 = L.fld .TWN_STAT 22 0 := by rw [Lane.fld, Lane.compared_stat, Lane.fld]
  unfold Lane.backsight
  rw [hmine]
  dsimp only
  rw [if_neg (by simp [hpair]), hnew]
  refine (if_neg hrep).trans ?_
  change (if dig = d then (if (L.compared.role || L.twin.subst == some tick) = true then L.compared
    else L.compared.setFld .TWN_STAT 22 0 (min 8388607 (L.compared.fld .TWN_STAT 22 0 + 1)))
    else if L.twin.check = true then L.diverged else _) = _
  rw [hrole, hclean]
  simp only [Bool.or_eq_true, beq_iff_eq]
  rfl

end backsight

theorem Lane.takeMismatch_replica {L : Lane} (hps : L.pstate = psReplica) :
    L.takeMismatch = (L.setFld .TWN_STAT 22 0 0).selfCheck := if_pos hps

/-! ### WITHDRAW (R220, R232) -/

theorem Lane.takeWithdraw_active {L : Lane} (h : L.holdsActive = true) (now : Int) :
    L.takeWithdraw now = L.lostStandby now := if_pos h

theorem Lane.takeWithdraw_standby {L : Lane} (h : L.holdsActive = false) (now : Int) :
    L.takeWithdraw now = L.declareLoss now := if_neg (by simp [h])

/-! ### The self-check (R231) -/

/-- The lane whose self-check has ended. -/
def Lane.checkEnded (L : Lane) : Lane := (L.setTwin { L.twin with check := false }).setFlag .TWN_STAT 25 false

section selfCheck

variable {s : State} {l : LaneId} (hcheck : (s.lane l).twin.check = true)

include hcheck

/-- What the end of a self-check makes of the module: the lane has passed where its scrub is good and no fault is latched. -/
theorem State.selfCheckDone_eq (scrub peer : Bool) (now : Int) :
    s.selfCheckDone l scrub peer now =
      let passed := scrub && !(s.lane l).faultLatched
      let t := s.mapLane l Lane.checkEnded
      if passed && peer then t.mapLane l (fun L => if L.paired then L.enterCopy else L)
      else if passed then t.mapLane l (fun L => L.lostStandby now)
      else if peer && (s.lane l).role then t.mapLane l (fun L => L.dropTo 2 7 now)
      else t.laneReset l 1 now := by
  unfold State.selfCheckDone
  exact if_neg (by simp [hcheck])

theorem State.selfCheckDone_passed (hfault : (s.lane l).faultLatched = false) (now : Int) :
    (s.selfCheckDone l true true now).lane l =
      if (s.lane l).checkEnded.paired then (s.lane l).checkEnded.enterCopy else (s.lane l).checkEnded := by
  simp [State.selfCheckDone_eq hcheck, hfault]

theorem State.selfCheckDone_peerFailed (hfault : (s.lane l).faultLatched = false) (now : Int) :
    (s.selfCheckDone l true false now).lane l = (s.lane l).checkEnded.lostStandby now := by
  simp [State.selfCheckDone_eq hcheck, hfault]

theorem State.selfCheckDone_activeFailed {scrub : Bool} (hfail : scrub = false ∨ (s.lane l).faultLatched = true)
    (hrole : (s.lane l).role = true) (now : Int) :
    (s.selfCheckDone l scrub true now).lane l = (s.lane l).checkEnded.dropTo 2 7 now := by
  have hown : (scrub && !(s.lane l).faultLatched) = false := by rcases hfail with h | h <;> simp [h]
  simp [State.selfCheckDone_eq hcheck, hown, hrole]

end selfCheck

/-- Settles O37: an accepted frame acts on the lane that has kept its counter (`Lane.sightline_accepts`), the comparison of two
digests is `Lane.backsight_eq`, and the end of a self-check `State.selfCheckDone_eq`. That an active lane which alone fails
its self-check drops to Level 2 is assumption log 77. -/
theorem twinDigestAndDivergence : Obligations.TwinDigestAndDivergence := by
  intro s l h tick dig rate d t1 t2 t3 t4 now u v L K
  have hlane : s.quiet.lane l = L := State.quiet_lane_now s l
  refine ⟨fun hs hl hp => ?_, fun hok => ⟨fun hp => ⟨_, execDigest_eq .., ?_⟩, fun hps => ?_, fun hact => ?_, fun hstand => ?_⟩,
    fun hmine hpeer hps => ⟨fun hne hno => ?_, fun hne hcheck => ?_, fun heq hrun => ?_, fun heq hrole hsub => ?_⟩,
    fun hcheck => ⟨fun hf => ⟨_, execSelfCheckComplete_eq .., ?_⟩, fun hf => ⟨_, execSelfCheckComplete_eq .., ?_⟩,
      fun hfail hrole => ⟨_, execSelfCheckComplete_eq .., ?_⟩⟩⟩
  · rw [execDigestSend_eq, Lane.digestSend_pair hs hl hp]
  · rw [State.put_lane, Lane.sightline_accepts hok, Lane.takeDigest_twin (L := L.heard 0 h) hp]
    exact ⟨rfl, rfl⟩
  · rw [execMismatch_eq, Lane.sightline_accepts hok, Lane.takeMismatch_replica (L := L.heard 0 h) hps]
    rfl
  · rw [execWithdraw_eq, Lane.sightline_accepts hok, Lane.takeWithdraw_active (L := L.heard 0 h) hact]
    rfl
  · rw [execWithdraw_eq, Lane.sightline_accepts hok, Lane.takeWithdraw_standby (L := L.heard 0 h) hstand]
    rfl
  · rw [execBacksightCompare_eq, Lane.backsight_eq hmine hpeer hps, if_neg (Ne.symm hne), if_neg (by simp [hno])]
    rfl
  · rw [execBacksightCompare_eq, Lane.backsight_eq hmine hpeer hps, if_neg (Ne.symm hne), if_pos hcheck]
    rfl
  · rw [execBacksightCompare_eq, Lane.backsight_eq hmine hpeer hps, if_pos heq.symm, if_pos hrun]
    rfl
  · rw [execBacksightCompare_eq, Lane.backsight_eq hmine hpeer hps, if_pos heq.symm, if_neg (by simp [hrole, hsub])]
    rfl
  · rw [State.selfCheckDone_passed (by rwa [hlane]) (by rwa [hlane]), hlane]
    rfl
  · rw [State.selfCheckDone_peerFailed (by rwa [hlane]) (by rwa [hlane]), hlane]
    rfl
  · rw [State.selfCheckDone_activeFailed (by rwa [hlane]) (by rwa [hlane]) (by rwa [hlane]), hlane]
    rfl

end Sys2Proof.Machine
end

section
/-! PROOFS. Pairing, state transfer and a tick without its forwarded set. -/

namespace Sys2Proof.Machine

open Sys2Proof

/-! ### Pairing (R217, R219) -/

section pairing

variable {L : Lane} {f : PairFacts} {now : Int}

/-- What an attempt makes of a lane ready to pair, by the first condition that is false. -/
theorem Lane.pairAttempt_eq (hcfg : L.flag .TWN_CFG 31 = true) (hlock : L.flag .TWN_STAT 27 = true) (hs : L.inService = true)
    (hl : L.level < 2) (hp : L.pstate = psAlone ∨ L.pstate = psDetached ∨ L.pstate = psAwait) :
    L.pairAttempt f now =
      if L.pairReason f ≠ 0 then (L.setReg .TWN_PAIR_ERR (w32 (L.pairReason f))).raise 9 0x06 now (leBytes 1 (L.pairReason f))
      else ((L.setTwin { L.twin with before := L.pstate }).setPs psPairing).emitTwin .pair := by
  have hready : (L.pstate == psAlone || L.pstate == psDetached || L.pstate == psAwait) = true := by simpa [or_assoc] using hp
  rw [Lane.pairAttempt, if_neg (by simp [hcfg, hlock, hs, hl, hready])]
  simp only [bne_iff_ne]

/-- The role that pairing gives a lane, by whether it and its twin are in service. -/
def Lane.roleGiven (L : Lane) (peer : Bool) : Bool :=
  if (L.twin.before != psAwait) != peer then L.twin.before != psAwait else L.flag .TWN_CFG 30

/-- The lane that has paired, before a standby's datum follows the active lane. -/
def Lane.pairedOff (L : Lane) (peer : Bool) : Lane :=
  let M := (L.setFlag .TWN_STAT 26 true).enterCopy
  M.setTwin { M.twin with roleNext := some (L.roleGiven peer), missed := 0, peer := none, driveAt := none, loss := none,
                          realAt := none, rxCtr := ⟨[]⟩, txCtr := 0 }

theorem Lane.pairComplete_eq (hp : L.pstate = psPairing) (peer : Bool) :
    L.pairComplete peer now =
      if L.roleGiven peer = true then L.pairedOff peer else (L.pairedOff peer).twinDatum now := by
  unfold Lane.pairComplete
  exact if_neg (by simp [hp])

theorem Lane.enterCopy_pstate (L : Lane) : L.enterCopy.pstate = psCopy := by
  unfold Lane.enterCopy
  dsimp only
  rw [Lane.setTwin_pstate, Lane.pstate_of_reg (Lane.setReg_reg_other _ (by decide) ..),
    Lane.pstate_of_reg (Lane.setReg_reg_other _ (by decide) ..), Lane.setFld_pstate, Lane.setPs_pstate _ (by decide)]

theorem Lane.pairedOff_pstate (peer : Bool) : (L.pairedOff peer).pstate = psCopy := by
  rw [Lane.pairedOff, Lane.setTwin_pstate, Lane.enterCopy_pstate]

/-- A standby whose datum follows the active lane keeps its state of the pair and its twin record. -/
theorem Lane.pairComplete_keeps (hp : L.pstate = psPairing) (peer : Bool) :
    (L.pairedOff peer).KeepsRole (L.pairComplete peer now) := by
  rw [Lane.pairComplete_eq hp]
  split
  · exact .refl _
  · exact .twinDatum ..

end pairing

/-! ### State transfer (R222, R223) and substitution (R226) -/

section transfer

variable {L : Lane}

theorem Lane.freezeStart_due (hp : L.pstate = psCopy) (hd : rangesLen L.twin.dirty ≤ 36) :
    L.freezeStart L.tick = (L.setPs psFreeze).setTwin { L.twin with freeze := some (L.tick + 1) } := by
  rw [Lane.freezeStart, if_neg (by simp [hp, hd])]

theorem Lane.transferRestart_due (hp : L.pstate = psCopy) (ht : 1152000 ≤ L.tick - L.twin.copyAt) (now : Int) :
    L.transferRestart now = L.enterCopy.raise 9 0x07 now := by
  rw [Lane.transferRestart, if_neg (by simp only [hp, bne_self_eq_false, Bool.false_or, decide_eq_true_eq]; omega)]

theorem Lane.substitute_due (hf : L.twin.follow = true) (hs : L.twin.subst ≠ some L.tick) (hc : L.intake.cutTick ≠ L.tick)
    (hm : ∀ m, L.twin.marker = some m → m.1 ≠ L.tick) :
    let M := ((L.crossCheck L.tick).bump .TWN_FWD_SUBST).setFld .TWN_STAT 22 0 0
    L.substitute = M.useOwn.setTwin { M.twin with subst := some M.tick } := by
  have hno : L.twin.marker.any (fun m => m.1 == L.tick) = false := by
    rw [Option.any_eq_false]
    exact fun m h => beq_eq_false_iff_ne.2 (hm m h)
  rw [Lane.substitute, if_neg (by simp [hf, hs, hc, hno])]

end transfer

/-- Settles O39: an attempt names the first condition that is false (`Lane.pairAttempt_eq`), pairing gives the role of R219
(`Lane.pairComplete_eq`) and what follows it keeps that (`Lane.pairComplete_keeps`); the other rows are their operations in
the state named. -/
theorem pairingAndTransfer : Obligations.PairingAndTransfer := by
  intro s l f peer now L
  refine ⟨fun hcfg hlock hs hl hp => ⟨fun hr => ?_, fun hr => ?_⟩, fun hp => ⟨_, execPairingComplete_eq .., ?_⟩, fun hp hd => ?_,
    fun hp ht => ?_, fun hf hs hc hm => ?_⟩
  · rw [execPairingAttempt_eq, Lane.pairAttempt_eq hcfg hlock hs hl hp, if_pos hr]
  · rw [execPairingAttempt_eq, Lane.pairAttempt_eq hcfg hlock hs hl hp, if_neg (not_not.2 hr)]
  · rw [State.put_lane]
    obtain ⟨hreg, htwin, -⟩ := Lane.pairComplete_keeps (now := now) hp peer
    rw [Lane.pstate_of_reg (hreg _ (by decide)), htwin]
    refine ⟨Lane.pairedOff_pstate peer, rfl, rfl, congrArg some ?_⟩
    by_cases hb : L.twin.before = psAwait <;> cases peer <;> simp [Lane.roleGiven, hb]
  · rw [execFreezeStart_eq, Lane.freezeStart_due hp hd]
  · rw [execStateTransferRestart_eq, Lane.transferRestart_due hp ht]
  · rw [execForwardSubstitution_eq, Lane.substitute_due hf hs hc hm]

end Sys2Proof.Machine
end

section
/-! PROOFS. The lane switch: a frame received on a port that forwards, and a frame that an idle egress sends. -/

namespace Sys2Proof.Machine

open Sys2Proof

/-! ### A received frame (R245, R250 to R252, R263) -/

/-- The lane with one frame more counted as received on a port. -/
abbrev Lane.counted (L : Lane) (port : Nat) : Lane := L.bump .SWM_PORT_RXFRM port

/-- A frame of the lane's own that an HSR ring brings back (R263). -/
abbrev Lane.ownBack (L : Lane) (port : Nat) (f : Frame) : Prop := L.red = 2 ∧ port < 2 ∧ L.mac ≤ f.src ∧ f.src < L.mac + 4

/-- The port is a member of the frame's VLAN (R250). -/
abbrev Lane.member (L : Lane) (port : Nat) (f : Frame) : Bool := (L.vlanPorts (L.vidOf port f)).testBit port

/-- What the lane learns of a frame's source: the port, for TC0 to TC4 on PX1 and PX2 (R251). -/
def Lane.learning (L : Lane) (port raw : Nat) (f : Frame) : Lane :=
  if L.classOf port f < 5 && 2 ≤ port then { L with net := L.net.learn f.src (L.vidOf port f) port raw } else L

theorem Lane.learning_eq (L : Lane) (port raw : Nat) (f : Frame) : L.learning port raw f =
    if L.classOf port f < 5 ∧ 2 ≤ port then { L with net := L.net.learn f.src (L.vidOf port f) port raw } else L :=
  if_congr (by simp) rfl rfl

/-- What is left of a mask for a frame from the ring or a LAN: a part of the redundancy pair is judged for duplicates, but
for PTP; a frame without one does not pass from one LAN to the other (R262, R263). -/
def Lane.judged (L : Lane) (port raw mask : Nat) (f : Frame) : Lane × Nat :=
  match (if port < 2 && L.red != 0 then f.red else none) with
  | some t => if f.etype = 0x88F7 then (L, mask) else L.redFilter port raw f t mask true
  | none => (L, if port < 2 && L.red = 1 then without mask (1 - port) else mask)

/-- The copies of a frame leave for what is left of its mask. -/
def Lane.sendOn (L : Lane) (port raw : Nat) (f : Frame) (vid : Nat) (o : Route) : Lane :=
  let m := L.judged port raw o.mask f
  m.1.dispatch f port o.cls vid raw m.2 o.demoted false o.hash none

/-- A frame in order is looked up, its source learned before, and goes to the ports found. -/
def Lane.passOn (L : Lane) (port raw : Nat) (f : Frame) : Lane :=
  let r := (L.learning port raw f).route port raw (L.classOf port f) (L.vidOf port f) f
  match r.2 with
  | none => r.1
  | some o => r.1.sendOn port raw f (L.vidOf port f) o

section judged

variable {L : Lane} {port raw mask : Nat} {f : Frame}

theorem Lane.judged_outside (h : 2 ≤ port ∨ L.red = 0) : L.judged port raw mask f = (L, mask) := by
  rcases h with h | h
  · simp [Lane.judged, Nat.not_lt.2 h]
  · simp [Lane.judged, h]

variable (hport : port < 2) (hred : L.red ≠ 0)

include hport hred

theorem Lane.judged_bare (hf : f.red = none) :
    L.judged port raw mask f = (L, if L.red = 1 then without mask (1 - port) else mask) := by
  simp [Lane.judged, hport, hred, hf]

theorem Lane.judged_part {t : RedTag} (hf : f.red = some t) :
    L.judged port raw mask f = if f.etype = 0x88F7 then (L, mask) else L.redFilter port raw f t mask true := by
  simp [Lane.judged, hport, hred, hf]

end judged

section passOn

variable {L N P : Lane} {port raw mask : Nat} {f : Frame} {o : Route}

theorem Lane.passOn_none
    (h : (L.learning port raw f).route port raw (L.classOf port f) (L.vidOf port f) f = (N, none)) :
    L.passOn port raw f = N := by
  simp only [Lane.passOn, h]

theorem Lane.passOn_some
    (h : (L.learning port raw f).route port raw (L.classOf port f) (L.vidOf port f) f = (N, some o))
    (hj : N.judged port raw o.mask f = (P, mask)) :
    L.passOn port raw f = P.dispatch f port o.cls (L.vidOf port f) raw mask o.demoted false o.hash none := by
  simp only [Lane.passOn, h, Lane.sendOn, hj]

end passOn

section switchForward

variable {L : Lane} {port raw started : Nat} {f : Frame} (hfwd : L.forwards port = true) (hport : port < 4)

include hfwd hport

theorem Lane.switchForward_oversize (hlen : 1522 < f.len) (ok : Bool) :
    L.switchForward port raw f ok started = (L.counted port).bump .SWM_PORT_OVERSIZE port := by
  simp [Lane.switchForward, hfwd, hport, hlen]

variable (hlen : f.len ≤ 1522)

include hlen

/-- A frame with a wrong FCS is counted, and copies of TC6 and TC7 that had begun leave stomped (R252). -/
theorem Lane.switchForward_badFcs : L.switchForward port raw f false started =
    let K := (L.counted port).bump .SWM_PORT_RXERR port
    if 6 ≤ (L.counted port).classOf port f ∧ started % 16 ≠ 0 then
      ((List.range 4).filter (fun p => started.testBit p)).foldl (fun (N : Lane) p => N.emit (.stomped p f)) (K.bump .SWM_STOMP)
    else K := by
  simp [Lane.switchForward, hfwd, hport, Nat.not_lt.2 hlen]

/-- A frame with a right FCS stops as one of the lane's own that came back, or as one of a VLAN that the port is not in,
or goes on. -/
theorem Lane.switchForward_goodFcs : L.switchForward port raw f true started =
    let K := L.counted port
    if K.ownBack port f then K.bump .SWM_RED_DUP
    else if K.member port f = false then K.bump .SWM_PORT_RXDROP port
    else K.passOn port raw f := by
  have hgo : ¬ ((!L.forwards port || !decide (port < 4)) = true) := by simp [hfwd, hport]
  refine (if_neg hgo).trans ((if_neg (Nat.not_lt.2 hlen)).trans ((if_neg (by decide)).trans
    (if_congr ?_ rfl (if_congr ?_ rfl rfl))))
  · simp only [Bool.and_eq_true, decide_eq_true_eq, and_assoc]
  · simp

end switchForward

/-- Settles O11: a wrong FCS and a right one have one equation each (`Lane.switchForward_badFcs`,
`Lane.switchForward_goodFcs`); a frame in order goes where the lookup says, less what `Lane.judged` takes. -/
theorem switchForwardsFrames : Obligations.SwitchForwardsFrames := by
  intro s l port raw f started L K cls vid hfwd hport
  have hrun {ok : Bool} {M : Lane} (h : L.switchForward port raw f ok started = M) :
      exec (.switchForward l port raw f ok started) s = .next (s.put l M) := by rw [execSwitchForward_eq, h]
  have hgood (hlen : f.len ≤ 1522) := Lane.switchForward_goodFcs (raw := raw) (started := started) hfwd hport hlen
  refine ⟨fun hlen ok => hrun (Lane.switchForward_oversize hfwd hport hlen ok), fun hlen h => ?_, fun hlen hcls hst => ?_,
    fun hlen hback => hrun ((hgood hlen).trans (if_pos hback)), fun hlen hnew => ⟨fun hvlan => ?_, fun hvlan => ?_⟩⟩
  · exact hrun ((Lane.switchForward_badFcs hfwd hport hlen).trans (if_neg fun ⟨h6, hst⟩ => h.elim (Nat.not_lt.2 h6) hst))
  · exact hrun ((Lane.switchForward_badFcs hfwd hport hlen).trans (if_pos ⟨hcls, hst⟩))
  · exact hrun ((hgood hlen).trans ((if_neg hnew).trans (if_pos hvlan)))
  intro M N found hroute
  have hpass : L.switchForward port raw f true started = K.passOn port raw f :=
    (hgood hlen).trans ((if_neg hnew).trans (if_neg (by simp [Lane.member, K, vid, hvlan])))
  have hlook : (K.learning port raw f).route port raw cls vid f = (N, found) := by rw [Lane.learning_eq]; exact hroute
  refine ⟨fun hnone => hrun (hpass.trans (Lane.passOn_none (hnone ▸ hlook))), fun o hsome => ?_⟩
  have hgoes {P : Lane} {mask : Nat} (hj : N.judged port raw o.mask f = (P, mask)) :
      exec (.switchForward l port raw f true started) s =
        .next (s.put l (P.dispatch f port o.cls vid raw mask o.demoted false o.hash none)) :=
    hrun (hpass.trans (Lane.passOn_some (hsome ▸ hlook) hj))
  exact ⟨fun hout => hgoes (Lane.judged_outside hout), fun hp hred hf => hgoes (Lane.judged_bare hp hred hf),
    fun t hp hred hf => ⟨fun hptp => hgoes ((Lane.judged_part hp hred hf).trans (if_pos hptp)),
      fun hptp => hgoes ((Lane.judged_part hp hred hf).trans (if_neg hptp))⟩⟩

/-! ### A frame sent (R254 to R256, R279) -/

/-- The lane once the head of a class's queue has left a port: `t` is left of the queue, the buffer is released with the
timestamp, spilled copies come back, the arbiter stands at `w`, IN may take frames again, and the frame is counted. -/
def Lane.headSent (L : Lane) (port tx c : Nat) (w : Nat × Nat) (it : QItem) (t : List QItem) : Lane :=
  let n := (((L.net.fetchBack port c).setQueue port c t).release it (some (port, tx))).fetchBack port c
  ({ L with net := { n with wrr := n.wrr.put port w } } : Lane).inResume.bump .SWM_PORT_TXFRM port

section egress

variable {L : Lane} {port tx c : Nat} {w : Nat × Nat} {it : QItem} {t : List QItem} {b : Buf}

/-- An idle port sends the head of the class that the scheduler picks, as its copy stands. -/
theorem Lane.egressSend_head (hport : port < 4) (hup : L.flag .SWM_PORT_STAT 31 port = true) (hkept : L.portKept port = true)
    (hpick : L.nextClass port = some (c, w)) (hq : (L.net.fetchBack port c).queue port c = it :: t)
    (hb : (L.net.fetchBack port c).bufs.get? it.buf = some b) :
    L.egressSend port tx = (L.headSent port tx c w it t, some (asSent b it)) := by
  simp [Lane.egressSend, hport, hup, hkept, hpick, hq, hb, Lane.headSent]

variable {K : Lane} {f : Frame} (hsend : L.egressSend port tx = (K, some f))

include hsend

theorem Lane.egressTransmit_plain (hf : ∀ m d o q a, f.body ≠ .ptp m d o q a) :
    L.egressTransmit port tx = K.emit (.frame port f) := by
  simp only [Lane.egressTransmit, hsend]

theorem Lane.egressTransmit_ptp {m : PtpBody} {d q : Nat} {o : Option Nat} {a : Option Int} (hf : f.body = .ptp m d o q a) :
    L.egressTransmit port tx = (K.ptpLeaves port tx m q a).2.emit
      (.frame port { f with body := .ptp (K.ptpLeaves port tx m q a).1 d o q none }) := by
  simp only [Lane.egressTransmit, hsend, hf]

end egress

/-- Settles O12: the head of the class picked leaves (`Lane.egressSend_head`), as it stands or as PTP departs. -/
theorem switchSendsAndReleases : Obligations.SwitchSendsAndReleases := by
  intro s l port tx c w it t b L n hport hup hkept hpick hq hb n' K f
  have hsend : L.egressSend port tx = (K, some f) := Lane.egressSend_head hport hup hkept hpick hq hb
  refine ⟨fun hf => ?_, fun m d o q a hf => ?_⟩
  · rw [execEgressTransmit_eq, Lane.egressTransmit_plain hsend hf]
  · rw [execEgressTransmit_eq, Lane.egressTransmit_ptp hsend hf]

end Sys2Proof.Machine
end

section
/-! PROOFS. Priority pause on a port, its link and its preemption, and the entries of the trunk hash. -/

namespace Sys2Proof.Machine

open Sys2Proof

/-! ### Priority pause (R258 to R260) -/

section pause

variable {L : Lane} {port cls : Nat} (raw quanta : Nat)

theorem Lane.pfcRepeat_above (hport : port < 4) (hoff : L.xoff port cls = true)
    (hlow : (L.waterMarks port cls).2.1 < L.net.ingressCount port cls) :
    L.pfcRepeat port cls = L.sendPfc port cls 65535 := by
  simp [Lane.pfcRepeat, hport, hoff, hlow]

theorem Lane.pfcResume_fallen (hport : port < 4) (hoff : L.xoff port cls = true)
    (hlow : L.net.ingressCount port cls ≤ (L.waterMarks port cls).2.1) :
    L.pfcResume port cls = (L.setFlag .SWM_PORT_STAT (8 + cls) false port).sendPfc port cls 0 := by
  simp [Lane.pfcResume, hport, hoff, hlow]

/-- The time of a priority other than TC3 and TC4 changes no pause. -/
theorem Lane.takePause_other (h3 : cls ≠ 3) (h4 : cls ≠ 4) : L.takePause port raw (cls, quanta) = L := by
  simp [Lane.takePause, h3, h4]

theorem Lane.takePause_paused (hcls : cls = 3 ∨ cls = 4) : L.takePause port raw (cls, quanta) =
    let K := L.setFlag .SWM_PORT_STAT (16 + cls) (quanta != 0) port
    { K with net := { K.net with pause := if quanta = 0 then K.net.pause.del (qIdx port cls)
                                          else K.net.pause.put (qIdx port cls) (raw, quanta) } } := by
  have hno : ¬ ((cls != 3 && cls != 4) = true) := by rcases hcls with rfl | rfl <;> decide
  exact if_neg hno

section pfcFrame

variable (hport : port < 4) (hkept : L.portKept port = true)

include hport hkept

theorem Lane.pfcFrame_paused (hcls : cls = 3 ∨ cls = 4) :
    L.pfcFrame port raw [(cls, quanta)] = (L.bump .SWM_PORT_PFCRX port).takePause port raw (cls, quanta) := by
  rcases hcls with rfl | rfl <;> simp [Lane.pfcFrame, hport, hkept]

theorem Lane.pfcFrame_other (h3 : cls ≠ 3) (h4 : cls ≠ 4) :
    L.pfcFrame port raw [(cls, quanta)] = L.bump .SWM_PORT_PAUSEIGN port := by
  simp [Lane.pfcFrame, hport, hkept, h3, h4, Lane.takePause_other]

end pfcFrame

theorem Lane.pfcPauseExpiry_over {r q : Nat} (hp : L.net.pause.get? (qIdx port cls) = some (r, q))
    (hover : q * 1536 ≤ rawSince raw r * 25) : L.pfcPauseExpiry port cls raw =
      { L.setFlag .SWM_PORT_STAT (16 + cls) false port with
        net := { L.net with pause := L.net.pause.del (qIdx port cls) } } := by
  simp only [Lane.pfcPauseExpiry, hp, if_neg (Nat.not_lt.2 hover)]

end pause

/-- Settles O13: each command in the state its clause names; a PFC frame with one time is that time taken
(`Lane.takePause_paused`) or ignored (`Lane.takePause_other`). -/
theorem priorityPause : Obligations.PriorityPause := by
  intro s l port cls raw quanta L low
  refine ⟨fun hport hoff hlow => ?_, fun hport hoff hlow => ?_, fun hport hkept hcls => ?_, fun hport hkept h3 h4 => ?_,
    execPauseFrame_eq .., fun r q hp hover => ?_⟩
  · rw [execPfcRepeat_eq, Lane.pfcRepeat_above hport hoff hlow]
  · rw [execPfcResume_eq, Lane.pfcResume_fallen hport hoff hlow]
  · rw [execPfcFrame_eq, Lane.pfcFrame_paused _ _ hport hkept hcls, Lane.takePause_paused _ _ hcls]
  · rw [execPfcFrame_eq, Lane.pfcFrame_other _ _ hport hkept h3 h4]
  · rw [execPfcPauseExpiry_eq, Lane.pfcPauseExpiry_over _ hp hover]

/-! ### Links and preemption (R244, R257) -/

/-- A port that has declared link down (R244): shown with preemption off, a frame it cut off counted in SWM_STOMP, the change
counted and event 0x01 raised. -/
def Lane.linkLost (L : Lane) (port : Nat) (x : LinkDown) : Lane :=
  let K := ((L.setFlag .SWM_PORT_STAT 31 false port).setFlag .SWM_PORT_STAT 29 false port).showLinks
  ((if x.cut then K.bump .SWM_STOMP else K).bump .SWM_PORT_LINKDN port).raise 8 0x01 x.now (leBytes 1 port)

section linkDown

variable {L : Lane} {port : Nat} (hup : L.flag .SWM_PORT_STAT 31 port = true) (x : LinkDown)

include hup

theorem Lane.portLinkDown_ring (hport : port < 2) : L.portLinkDown port x = L.linkLost port x := by
  have hgo : ¬ ((!decide (port < 4) || !L.flag .SWM_PORT_STAT 31 port) = true) := by simp [hup]; omega
  exact (if_neg hgo).trans (if_neg (by omega))

/-- A port of the trunk also gives up its hash entries and its queues (R265). -/
theorem Lane.portLinkDown_trunk (hport : port = 2 ∨ port = 3) : L.portLinkDown port x =
    let K := L.linkLost port x
    ({ K with net := K.net.moveFrom port } : Lane).flushPort port := by
  have hgo : ¬ ((!decide (port < 4) || !L.flag .SWM_PORT_STAT 31 port) = true) := by simp [hup]; omega
  exact (if_neg hgo).trans (if_pos hport)

end linkDown

theorem Lane.portLinkUp_eq {L : Lane} {port : Nat} (hport : port < 4) (hdown : L.flag .SWM_PORT_STAT 31 port = false)
    (hen : L.flag .SWM_PORT_CFG 31 port = true) (raw : Nat) (role : Bool) (now : Int) : L.portLinkUp port raw role now =
      let isMaster := if L.flag .SWM_PORT_CFG 29 port then role else L.flag .SWM_PORT_CFG 30 port
      let K := (((L.setFlag .SWM_PORT_STAT 31 true port).setFlag .SWM_PORT_STAT 30 isMaster port).showLinks).bump
        .SWM_PORT_LINKDN port
      ({ K with net := { K.net with upAt := K.net.upAt.put port raw } } : Lane).raise 8 0x02 now (leBytes 1 port) :=
  if_neg (by simp [hport, hdown, hen])

theorem Lane.preemptionVerify_eq {L : Lane} {port : Nat} (hen : L.flag .SWM_PORT_CFG 28 port = true) (ok : Bool) (now : Int) :
    L.preemptionVerify port ok now = if ok then L.setFlag .SWM_PORT_STAT 29 true port
      else (L.setFlag .SWM_PORT_STAT 29 false port).raise 8 0x03 now (leBytes 1 port) :=
  if_neg (by simp [hen])

/-! ### The trunk (R265) -/

/-- A moved entry whose home port has held link up for 1 s goes home once no frame of its flows waits on PX1 or PX2. -/
theorem Lane.trunkMoveBack_home {L : Lane} {entry raw r : Nat} (hmoved : L.net.moved.contains entry = true)
    (hup : L.flag .SWM_PORT_STAT 31 (2 + entry % 2) = true)
    (hidle : ∀ p, p = 2 ∨ p = 3 → ∀ c, c < 8 → ∀ i ∈ L.net.queue p c, i.hash ≠ some entry)
    (hat : L.net.upAt.get? (2 + entry % 2) = some r) (hheld : rawMs 1000 ≤ rawSince raw r) :
    L.trunkMoveBack entry raw = { L with net := { L.net with moved := L.net.moved.filter (· != entry) } } := by
  have hfree : ([2, 3].any fun p => (List.range 8).any fun c => (L.net.queue p c).any fun i => i.hash == some entry) = false := by
    simp only [List.any_eq_false, beq_iff_eq, List.mem_range, Bool.not_eq_true, List.mem_cons, List.not_mem_nil, or_false]
    exact fun p hp c hc i hi => hidle p hp c hc i hi
  refine if_pos ?_
  rw [hmoved, hup, hfree, hat]
  simpa using hheld

/-- Settles O14: each command in the state its clause names; a port of the trunk gives up more than PA and PB
(`Lane.portLinkDown_trunk`). That link up too counts in SWM_PORT_LINKDN is log 24
(DEDUCED). -/
theorem linksAndTrunk : Obligations.LinksAndTrunk := by
  intro s l port raw entry role now x L shown down
  refine ⟨fun hport hup => ?_, fun hport hup => ?_, fun hport hdown hen => ?_, fun hen => ⟨?_, ?_⟩,
    fun r hmoved hup hidle hat hheld => ?_⟩
  · rw [execPortLinkDown_eq, Lane.portLinkDown_ring hup x hport]
    rfl
  · rw [execPortLinkDown_eq, Lane.portLinkDown_trunk hup x hport]
    rfl
  · rw [execPortLinkUp_eq, Lane.portLinkUp_eq hport hdown hen]
  · rw [execPreemptionVerify_eq, Lane.preemptionVerify_eq hen, if_pos rfl]
  · rw [execPreemptionVerify_eq, Lane.preemptionVerify_eq hen, if_neg Bool.false_ne_true]
  · rw [execTrunkMoveBack_eq, Lane.trunkMoveBack_home hmoved hup hidle hat hheld]

end Sys2Proof.Machine
end

section
/-! PROOFS. The tables of the switch that forget, supervision frames, and wake patterns sent and heard. -/

namespace Sys2Proof.Machine

open Sys2Proof

/-! ### Tables that forget (R251, R262) -/

/-- An entry with two keys stays unless both are those named and its age has reached the limit. -/
theorem stays_eq (a b k q age limit : Nat) :
    (!(a == k && b == q && decide (limit ≤ age))) = decide (a ≠ k ∨ b ≠ q ∨ age < limit) := by
  rw [Bool.eq_iff_iff]
  simp only [Bool.not_eq_true', Bool.and_eq_false_iff, beq_eq_false_iff_ne, decide_eq_false_iff_not, Nat.not_le,
    decide_eq_true_eq, or_assoc]

theorem Lane.addressAgeing_eq (L : Lane) (mac vid raw : Nat) : L.addressAgeing mac vid raw = { L with net := { L.net with
    learned := L.net.learned.filter (fun x => x.mac ≠ mac ∨ x.vid ≠ vid ∨ rawSince raw x.raw < rawMs 300000) } } := by
  simp only [Lane.addressAgeing, stays_eq]

theorem Lane.entryForget_eq (L : Lane) (src seq raw : Nat) : L.entryForget src seq raw = { L with net := { L.net with
    seen := L.net.seen.filter (fun x => x.src ≠ src ∨ x.seq ≠ seq ∨ rawSince raw x.raw < rawMs 400) } } := by
  simp only [Lane.entryForget, stays_eq]

/-- The lane with the table of nodes replaced and its size shown. -/
def Lane.withNodes (L : Lane) (nodes : List (Nat × Nat)) : Lane :=
  ({ L with net := { L.net with nodes := nodes } } : Lane).setReg .SWM_RED_NODES (w32 nodes.length)

theorem Lane.nodeForget_eq (L : Lane) (node raw : Nat) : L.nodeForget node raw =
    L.withNodes (L.net.nodes.filter (fun x => x.1 ≠ node ∨ rawSince raw x.2 < rawMs 60000)) := by
  refine congrArg L.withNodes (congrArg (List.filter · L.net.nodes) (funext fun x => ?_))
  simpa using stays_eq x.1 0 node 0 (rawSince raw x.2) (rawMs 60000)

/-! ### Supervision frames (R262) -/

theorem Lane.supervisionSend_due {L : Lane} (hred : L.red ≠ 0) (hfwd : L.flag .SWM_STAT 31 = true) {raw : Nat}
    (hdue : ∀ r, L.net.supRaw = some r → rawMs 2000 ≤ rawSince raw r) : L.supervisionSend raw =
      let K : Lane := { L with net := { L.net with supRaw := some raw } }
      K.sendOwn { dst := 0x01154E000100, src := L.portMac 0, tag := none, etype := supervisionType, len := 64, ecn := none,
                  red := none, body := .supervision (L.portMac 0) } (K.typeClass 0 supervisionType) 3 := by
  have hran : (L.net.supRaw.any fun r => decide (rawSince raw r < rawMs 2000)) = false :=
    (Option.any_eq_false ..).2 fun r hr => decide_eq_false (Nat.not_lt.2 (hdue r hr))
  exact if_neg (by simp [hred, hfwd, hran])

/-- A supervision frame in the pair refreshes its node, or adds it while the table has room. -/
theorem Lane.supervisionFrame_eq {L : Lane} {port : Nat} (hred : L.red ≠ 0) (hport : port < 2) (hfwd : L.forwards port = true)
    (raw node : Nat) : L.supervisionFrame port raw node = L.withNodes
      (if ∃ x ∈ L.net.nodes, x.1 = node then L.net.nodes.map (fun x => if x.1 = node then (node, raw) else x)
       else if L.net.nodes.length < 512 then L.net.nodes ++ [(node, raw)] else L.net.nodes) := by
  have hgo : ¬ ((decide (L.red = 0) || !decide (port < 2) || !L.forwards port) = true) := by simp [hred, hport, hfwd]
  refine (if_neg hgo).trans (congrArg L.withNodes (if_congr (by simp) ?_ rfl))
  simp only [beq_iff_eq]

/-! ### Wake (R269, R270) -/

section wakeTx

variable {L : Lane} {w : Word} (now : Int) (hkept : L.portKept (bits w 17 16) = true)

include hkept

theorem Lane.wakeTx_down (hdown : L.flag .SWM_PORT_STAT 31 (bits w 17 16) = false) :
    L.wakeTx w now = L.emit (.wake (bits w 17 16) (bits w 11 0)) := by
  simp [Lane.wakeTx, hkept, hdown]

theorem Lane.wakeTx_forced (hup : L.flag .SWM_PORT_STAT 31 (bits w 17 16) = true) (hforce : bit w 31 = true) :
    L.wakeTx w now = (L.portLinkDown (bits w 17 16) ⟨now, false⟩).emit (.wake (bits w 17 16) (bits w 11 0)) := by
  simp [Lane.wakeTx, hkept, hup, hforce]

end wakeTx

section wakePattern

variable {s : State} {l : LaneId} {w : WakePattern}

/-- The code that wakes a lane is its own. -/
abbrev Lane.wakeTo (L : Lane) : Nat := L.fld .SWM_WAKE_CODE 11 0

/-- WOKE set in the lane that heard the pattern and clear in the others. -/
def State.showWoke (s : State) (l : LaneId) : State :=
  { s with lanes := s.lanes.mapv (fun k L => L.setFlag .SWM_WAKE_STAT 31 (k == l)) }

theorem State.showWoke_flag (s : State) (l k : LaneId) : ((s.showWoke l).lane k).flag .SWM_WAKE_STAT 31 = (k == l) := by
  simp [State.showWoke, State.lane]

theorem State.wakePattern_wakes (hsleep : s.power.mstate = .sleeping) (hown : wakeCode w = some (s.lane l).wakeTo) :
    s.wakePattern l w = ((LaneId.all.foldl State.parkWaiting s).showWoke l).pwr (fun _ => Power.fresh) := by
  have hgo : ¬ ((s.power.mstate != .sleeping && s.power.mstate != .parked) = true) := by simp [hsleep]
  have hpark : ¬ ((s.power.mstate == .parked) = true) := by simp [hsleep]
  exact (if_neg hgo).trans ((if_neg (by simp [hown])).trans (if_neg hpark))

theorem State.wakePattern_counted (hoff : s.power.mstate = .sleeping ∨ s.power.mstate = .parked)
    (hother : wakeCode w ≠ some (s.lane l).wakeTo) : s.wakePattern l w =
      s.mapLane l (fun L => L.setFld .SWM_WAKE_STAT 15 0 (min 65535 (L.fld .SWM_WAKE_STAT 15 0 + 1))) := by
  have hgo : ¬ ((s.power.mstate != .sleeping && s.power.mstate != .parked) = true) := by rcases hoff with h | h <;> simp [h]
  exact (if_neg hgo).trans (if_pos (by simpa using hother))

end wakePattern

/-- Settles O15: a table keeps what its filter says, a supervision frame or a wake pattern is judged as its equation says
(`Lane.supervisionFrame_eq`, `State.wakePattern_wakes`, `State.wakePattern_counted`). The address, type and length of the
supervision frame are log 85 (PRESUMED); WOKE in one lane only and the count of other patterns are log 36 (DEDUCED). -/
theorem tablesForgetSupervisionAndWake : Obligations.TablesForgetSupervisionAndWake := by
  intro s l mac vid src seq node port raw w now p L
  have hcode : (s.quiet.lane l).wakeTo = (s.lane l).fld .SWM_WAKE_CODE 11 0 := by rw [State.quiet_lane]; rfl
  refine ⟨?_, ?_, ?_, fun hred hfwd hdue => ?_, fun hred hport hfwd => ?_, fun hkept hdown => ?_, fun hkept hup hforce => ?_,
    fun hsleep hown => ⟨_, execWakePattern_eq .., ?_⟩, fun hoff hother => ⟨_, execWakePattern_eq .., ?_⟩⟩
  · rw [execAddressAgeing_eq, Lane.addressAgeing_eq]
  · rw [execEntryForget_eq, Lane.entryForget_eq]
  · rw [execNodeForget_eq, Lane.nodeForget_eq]
    rfl
  · rw [execSupervisionFrameSend_eq, Lane.supervisionSend_due hred hfwd hdue]
  · intro known showing
    rw [execSupervisionFrame_eq, Lane.supervisionFrame_eq hred hport hfwd]
    refine ⟨fun h => ?_, fun h hroom => ?_, fun h hfull => ?_⟩
    · rw [if_pos h]
      rfl
    · rw [if_neg h, if_pos hroom]
      rfl
    · rw [if_neg h, if_neg (Nat.not_lt.2 hfull)]
      rfl
  · rw [execWakeTx_eq, Lane.wakeTx_down _ hkept hdown]
  · rw [execWakeTx_eq, Lane.wakeTx_forced _ hkept hup hforce]
  · rw [State.wakePattern_wakes (s := s.quiet) hsleep (hown.trans (congrArg some hcode.symm))]
    exact ⟨rfl, State.showWoke_flag _ l⟩
  · rw [State.wakePattern_counted (s := s.quiet) hoff (hcode ▸ hother), State.mapLane_lane, Lane.setFld_fld_self _ _ (by decide)
      (by decide), State.quiet_lane_now]
    exact ⟨rfl, Nat.mod_eq_of_lt (by omega)⟩

end Sys2Proof.Machine
end

section
/-! PROOFS. The safety lane over a step: the brakes outside RUN, the safe state, the reset state, and the queue. -/

namespace Sys2Proof.Machine

open Sys2Proof

/-! ### What a step makes of the safety lane (R9, R363, R369, R370, R381) -/

/-- What a change of the safety lane keeps: the brakes applied outside RUN (R363), and SAFE with its cause, where no switch
is closed (R369). -/
structure Safety.Keeps (x y : Safety) : Prop where
  held : x.Held → y.Held
  latched : x.st = sSafe → y.st = sSafe ∧ y.cause = x.cause ∧ (x.cmd = 0 → y.cmd = 0)

theorem Safety.Goes.keeps {x y : Safety} (h : x.Goes y) : x.Keeps y := ⟨h.held, h.latched⟩

theorem Safety.Keeps.refl (x : Safety) : x.Keeps x := (Safety.Goes.refl x).keeps

theorem Safety.Keeps.trans {x y z : Safety} (h : x.Keeps y) (k : y.Keeps z) : x.Keeps z := by
  refine ⟨fun hx => k.held (h.held hx), fun hx => ?_⟩
  obtain ⟨hst, hcause, hcmd⟩ := h.latched hx
  obtain ⟨kst, kcause, kcmd⟩ := k.latched hst
  exact ⟨kst, kcause.trans hcause, fun h0 => kcmd (hcmd h0)⟩

theorem Safety.park_keeps (x : Safety) : x.Keeps x.park :=
  ⟨x.park_held, fun h => by rw [x.park_latched h]; exact (Safety.Keeps.refl x).latched h⟩

/-- Only the flash of the safety lane is kept: it is as at power-up (R9, R370). -/
def Safety.PoweredUp (y : Safety) : Prop := y = { Safety.fresh with flash := y.flash }

theorem Safety.poweredUp_fresh (F : Flash) : ({ Safety.fresh with flash := F } : Safety).PoweredUp := rfl

theorem Safety.PoweredUp.held {y : Safety} (h : y.PoweredUp) : y.Held := by
  rw [h]
  exact .inr rfl

/-- What a step may make of the safety lane. -/
def State.SafetySteps (s t : State) : Prop := s.safety.Keeps t.safety ∨ t.safety.PoweredUp

theorem State.SafetySteps.of_eq {s t : State} (h : t.safety = s.safety) : s.SafetySteps t := .inl (h ▸ .refl _)

theorem State.SafetySteps.of_quiet {s t : State} (h : s.quiet.SafetySteps t) : s.SafetySteps t := h

theorem State.SafetySteps.startDone {s t : State} (h : s.SafetySteps t) : s.SafetySteps t.startDone := by
  rwa [State.SafetySteps, State.startDone_safety]

theorem State.onSafety_steps {f : Safety → Safety} (hf : ∀ x : Safety, x.Goes (f x)) (s : State) : s.SafetySteps (s.onSafety f) := by
  unfold State.onSafety
  split
  · exact .inl (hf s.safety).keeps
  · exact .of_eq rfl

theorem State.safetySag_steps (s : State) : s.SafetySteps s.safetySag := by
  unfold State.safetySag
  split
  · exact State.onSafety_steps Safety.goes_sagged s
  · exact .of_eq rfl

/-- Sending the status empties the events, or ends the sag with a lane as at power-up (R370, R372). -/
theorem State.safetyStatus_steps (now : Int) (s : State) : s.SafetySteps (s.safetyStatus now) := by
  unfold State.safetyStatus
  dsimp only
  split
  · exact .of_eq rfl
  · split
    · exact .inr rfl
    · exact .inl (Safety.Goes.keeps (.of_eq rfl rfl rfl))

theorem State.coldTo_steps (m : MState) (s : State) : s.SafetySteps (s.coldTo m) :=
  .inr (State.coldTo_safety m s ▸ Safety.poweredUp_fresh _)

theorem State.sag_steps (vin : Nat) (now : Int) (s : State) : s.SafetySteps (s.sag vin now) := by
  unfold State.sag
  split
  · exact State.coldTo_steps .off s
  · split
    · exact .of_eq rfl
    · exact .of_eq (by simp)

theorem State.flushEnd_steps (us : Nat) (s : State) : s.SafetySteps (s.flushEnd us) := by
  unfold State.flushEnd
  split
  · exact .of_eq rfl
  · exact .inr rfl

theorem State.energyEnd_steps (a b c d us : Nat) (s : State) : s.SafetySteps (s.energyEnd a b c d us) := by
  unfold State.energyEnd
  split
  · exact .of_eq rfl
  · exact .inr rfl

theorem State.sleepLoss_steps (s : State) : s.SafetySteps s.sleepLoss := by
  unfold State.sleepLoss
  split
  · exact State.coldTo_steps .off s
  · exact .of_eq rfl

/-- A fault of one of PD_S0 to PD_S3 powers the safety lane down (R381); no other reaches it. -/
theorem State.domainFault_steps (d : Nat) (now : Int) (s : State) : s.SafetySteps (s.domainFault d now) := by
  by_cases h : d < 12 ∨ 16 ≤ d
  · exact .of_eq (State.domainFault_safety h now s)
  · have hmodule : domainOf (d / 32) (d % 32) = none := if_pos (by omega)
    rw [State.domainFault, if_neg (by omega), hmodule]
    dsimp only
    rw [if_neg (show ¬d < 4 by omega)]
    split
    · exact .of_eq rfl
    · rw [if_pos (show 12 ≤ d by omega)]
      exact .inr (by rw [State.allSafe_safety]; exact Safety.poweredUp_fresh _)

/-! ### Writes of HCX_PARK (R404) -/

/-- What a write of HCX_PARK may make of the safety lane: after a powering down the host complex is off too. -/
def State.ParkSteps (s t : State) : Prop := s.safety.Keeps t.safety ∨ t.safety.PoweredUp ∧ t.hostOn = false

theorem State.ParkSteps.of_eq {s t : State} (h : t.safety = s.safety) : s.ParkSteps t := .inl (h ▸ .refl _)

theorem State.ParkSteps.steps {s t : State} (h : s.ParkSteps t) : s.SafetySteps t := h.imp_right And.left

theorem State.parkAttended_steps (key : Nat) (now : Int) (s : State) : s.ParkSteps (s.parkAttended key now) := by
  unfold State.parkAttended
  split
  · exact .of_eq rfl
  · split
    · exact .of_eq rfl
    · split
      · exact .of_eq rfl
      · exact .inl (Safety.park_keeps s.safety)

theorem State.parkSleeping_steps (key : Nat) (now : Int) (s : State) : s.ParkSteps (s.parkSleeping key now) := by
  unfold State.parkSleeping
  split
  · exact .of_eq rfl
  · split
    · exact .of_eq rfl
    · split
      · exact .of_eq rfl
      · exact .inr ⟨rfl, rfl⟩

theorem State.unpark_steps (key : Nat) (now : Int) (s : State) : s.ParkSteps (s.unpark key now) := by
  unfold State.unpark
  split
  · exact .of_eq rfl
  · split
    · exact .of_eq rfl
    · split
      · exact .of_eq rfl
      · have hwait : (LaneId.all.foldl State.parkWaiting s).safety = s.safety := by simp
        have hgoes := (LaneId.all.foldl State.parkWaiting s).safety.goes_unpark
        exact .inl (hwait ▸ hgoes.keeps)

theorem State.parkWrite_steps (w : Word) (now : Int) (s : State) : s.ParkSteps (s.parkWrite w now) := by
  unfold State.parkWrite
  split
  · exact State.parkAttended_steps ..
  · exact State.parkSleeping_steps ..
  · exact State.unpark_steps ..
  · split <;> exact .of_eq rfl

/-- With the host complex off a write of HCX_PARK does nothing. -/
theorem State.parkWrite_off {s : State} (h : s.hostOn = false) (w : Word) (now : Int) : s.parkWrite w now = s := by
  unfold State.parkWrite
  split
  · simp [State.parkAttended, h]
  · simp [State.parkSleeping, h]
  · simp [State.unpark, h]
  · simp [h]

/-- Of the registers of the host complex only HCX_PARK reaches the safety lane. -/
theorem State.writeHost_parks (r : Reg) (i j : Nat) (v : Word) (now : Int) (s : State) :
    (s.writeHost r i j v now).safety = s.safety ∨ s.writeHost r i j v now = s.parkWrite v now := by
  by_cases h : r = .HCX_PARK
  · subst h
    exact .inr rfl
  · left
    unfold State.writeHost
    split
    · exact State.fnResetRow_safety ..
    · exact State.laneResetWrite_safety ..
    · exact State.warmWrite_safety ..
    · contradiction
    · simp [apply_ite State.safety]

theorem State.writeWord_parks (f addr : Nat) (v : Word) (width : Nat) (now : Int) (s : State) :
    (s.writeWord f addr v width now).safety = s.safety ∨ s.writeWord f addr v width now = s.parkWrite v now := by
  unfold State.writeWord
  split
  · exact .inl rfl
  · split
    · exact .inl (by simp [apply_ite State.safety])
    · exact State.writeHost_parks ..
    · exact .inl (by simp)

theorem State.writeWord_steps (f addr : Nat) (v : Word) (width : Nat) (now : Int) (s : State) :
    s.ParkSteps (s.writeWord f addr v width now) := by
  rcases State.writeWord_parks f addr v width now s with h | h
  · exact .of_eq h
  · exact h ▸ State.parkWrite_steps v now s

theorem State.writeWord_safety_off {s : State} (h : s.hostOn = false) (f addr : Nat) (v : Word) (width : Nat) (now : Int) :
    (s.writeWord f addr v width now).safety = s.safety := by
  rcases State.writeWord_parks f addr v width now s with hw | hw
  · exact hw
  · rw [hw, State.parkWrite_off h]

/-- Of two words written one after the other, a powering down by the first leaves nothing for the second to reach. -/
theorem State.writeRegs_steps (f addr width value : Nat) (now : Int) (s : State) :
    s.SafetySteps (s.writeRegs f addr width value now) := by
  unfold State.writeRegs
  split
  · exact (State.writeWord_steps ..).steps
  · split
    · exact (State.writeWord_steps ..).steps
    · split
      · generalize hu : s.writeWord f addr (w32 value) 4 now = u
        rcases hu ▸ State.writeWord_steps f addr (w32 value) 4 now s with h | ⟨hup, hoff⟩
        · exact (State.writeWord_steps f (addr + 4) (w32 (value / 2 ^ 32)) 4 now u).imp h.trans And.left
        · exact .inr (State.writeWord_safety_off hoff .. ▸ hup)
      · exact .of_eq rfl

theorem State.writeRegs_up_steps (f addr width value : Nat) (now : Int) (up : Bool) (s : State) :
    s.SafetySteps (if up then s.writeRegs f addr width value now else s) := by
  split
  · exact State.writeRegs_steps ..
  · exact .of_eq rfl

/-! ### Boot (R412, R413) -/

theorem State.bootSelection_steps (part : Nat) (now : Int) (s : State) : s.SafetySteps (s.bootSelection part now) := by
  by_cases h : part = 5
  · subst h
    have hpart : LaneId.ofNum 5 = none := rfl
    have hboot : s.safety.Goes { s.safety with flash := (s.safety.flash.boot 3).1 } := .of_eq rfl rfl rfl
    have hfail := hboot.trans (Safety.goes_fail 6 _)
    rw [State.bootSelection, hpart]
    dsimp only
    rw [if_neg (show ¬(5 : Nat) = 4 by decide), if_pos rfl]
    split
    · exact .of_eq rfl
    · refine .inl ?_
      simp only [apply_ite State.safety, State.showSgen_safety, ite_self]
      split
      · exact hfail.keeps
      · exact hboot.keeps
  · exact .of_eq (State.bootSelection_safety h now s)

theorem State.bootConfirm_steps (part : Nat) (s : State) : s.SafetySteps (s.bootConfirm part) := by
  unfold State.bootConfirm
  split
  · exact .of_eq (by simp [apply_ite State.safety])
  · split
    · exact .of_eq (by simp [apply_ite State.safety])
    · split
      · exact .inl (Safety.Goes.keeps (.of_eq rfl rfl rfl))
      · exact .of_eq rfl

/-! ### The statements -/

/-- A command that may reach the safety lane: its own commands go as their laws say, those of power and parking power it
down or park it, and the others change its flash only. -/
theorem exec_of_reachesSafety {c : Instr} (h : c.reachesSafety = true) (s : State) :
    ∃ t, exec c s = .next t ∧ s.SafetySteps t := by
  cases c <;> cases h <;> refine ⟨_, rfl, State.SafetySteps.of_quiet ?_⟩
  case registerWriteHi f addr width value now => exact State.writeRegs_up_steps ..
  case registerWrite f addr width value now => exact State.writeRegs_up_steps ..
  case sealRead w => exact State.onSafety_steps (Safety.goes_sealRead w) _
  case sealSample w => exact State.onSafety_steps (Safety.goes_sealSample w) _
  case inputSample a b p q => exact State.onSafety_steps (Safety.goes_sample a b p q) _
  case testPulse source a b off => exact State.onSafety_steps (Safety.goes_testPulse source a b off) _
  case safetyCycle rd c0 c1 ce => exact State.onSafety_steps (Safety.goes_cycle rd c0 c1 ce) _
  case discrepancyTimeout i => exact State.onSafety_steps (Safety.goes_discrepancy i) _
  case switchTestRound bad => exact State.onSafety_steps (Safety.goes_switchTest bad) _
  case coilCurrentFailure b => exact State.onSafety_steps (Safety.goes_coilFailure b) _
  case holdingTestWindowOpen => exact State.onSafety_steps Safety.goes_windowOpen _
  case holdingTestWindowClose => exact State.onSafety_steps Safety.goes_windowClose _
  case speedPulse i => exact State.onSafety_steps (Safety.goes_speedPulse i) _
  case diagnosticFailure c => exact State.onSafety_steps (Safety.goes_diagnose c) _
  case watchdogMiss => exact State.onSafety_steps (Safety.goes_fail 7) _
  case safetyStartComplete => exact State.onSafety_steps Safety.goes_startComplete _
  case safetySag => exact State.safetySag_steps _
  case safetyStatus now => exact State.safetyStatus_steps now _
  case programmingPage o h p => exact State.onSafety_steps (Safety.goes_programPage o h p) _
  case domainFault d now => exact State.domainFault_steps d now _
  case sagDetected vin now => exact State.sag_steps vin now _
  case flushEnd us => exact State.flushEnd_steps us _
  case supplyReturn vin => exact .of_eq (State.supplyReturn_safety vin _)
  case sleepSupplyLoss => exact State.sleepLoss_steps _
  case coldReset => exact State.coldTo_steps .starting _
  case parkAttended key now => exact (State.parkAttended_steps key now _).steps
  case parkSleeping key now => exact (State.parkSleeping_steps key now _).steps
  case unpark key now => exact (State.unpark_steps key now _).steps
  case bootSelection part now => exact (State.bootSelection_steps part now _).startDone
  case bootConfirm part => exact State.bootConfirm_steps part _
  case holdUpEnergyEnd a b c d us => exact State.energyEnd_steps a b c d us _

theorem exec_safetySteps (c : Instr) {s t : State} (ht : exec c s = .next t) : s.SafetySteps t := by
  cases hr : c.reachesSafety with
  | false => exact .of_eq (exec_safety_of_not_reachesSafety hr ht)
  | true =>
    obtain ⟨u, hu, hsteps⟩ := exec_of_reachesSafety hr s
    cases hu.symm.trans ht
    exact hsteps

/-- A step is a command of the queue, which takes only itself from the queue, or nothing. -/
theorem step_safetySteps {s t : State} (ht : step s = .next t) : s.SafetySteps t := by
  unfold step at ht
  split at ht
  · cases ht
    exact .of_eq rfl
  · rename_i c rest _
    exact exec_safetySteps c (s := { s with pending := rest }) ht

/-- Settles O5: whatever a step makes of the safety lane (`step_safetySteps`) keeps the brakes applied outside RUN. -/
theorem brakesHeldOutsideRun : Obligations.BrakesHeldOutsideRun := by
  intro s t hheld ht
  rcases step_safetySteps ht with h | h
  · exact h.held hheld
  · exact h.held

/-- Settles O6: whatever a step makes of the safety lane (`step_safetySteps`) keeps SAFE, or is the lane at power-up. -/
theorem safeStateIsLatched : Obligations.SafeStateIsLatched := by
  intro s t hsafe ht
  exact (step_safetySteps ht).imp (fun h => h.latched hsafe) id

/-- Settles O7: the safety lane at reset is the fresh one. -/
theorem heldAtReset : Obligations.HeldAtReset := ⟨.inr rfl, rfl, rfl, rfl⟩

/-- Settles O1: a step looks at the front of the queue only. -/
theorem stepRunsFrontCommand : Obligations.StepRunsFrontCommand := by
  refine ⟨fun c rest s h => ?_, fun s h => ?_⟩
  · rw [step, h]
  · rw [step, h]

end Sys2Proof.Machine
end

section
/-! PROOFS. Pulse pairs over a run of carrier periods (R435). -/

namespace Sys2Proof.Machine

open Sys2Proof

/-- What a request exceeds its clamped value by is what the clamping discards. -/
theorem abs_sub_clampI_le (p r : Int) :
    |r - clampI 0 p r| ≤ if r < 0 then -r else if p < r then r - p else 0 := by
  rw [abs_le]
  unfold clampI
  constructor <;> split_ifs <;> omega

/-- In one period the on-time requested with the carry taken over differs from the on-time issued with the carry left by no
more than the steps discarded (R159). -/
theorem issue_balance (p rq c dt mp : Int) (h : Bool) :
    |rq + c - (issue rq c p dt mp h).shape.onTime p - (issue rq c p dt mp h).carry| ≤ (issue rq c p dt mp h).disc := by
  have hclamp := abs_sub_clampI_le p (rq + c)
  unfold issue
  dsimp only
  generalize clampI 0 p (rq + c) = r at *
  generalize (if rq + c < 0 then -(rq + c) else if p < rq + c then rq + c - p else 0) = d at *
  rw [abs_le] at *
  split_ifs <;> simp only [HShape.onTime] <;> omega

/-- The balance of the periods adds up to that of the run, whatever carry it begins with. -/
theorem issueRun_balance (p dt mp : Int) (rqs : List Int) (h : Bool) (c : Int) :
    |c + rqs.sum - (issueRun p dt mp rqs h c).issued - (issueRun p dt mp rqs h c).carry| ≤ (issueRun p dt mp rqs h c).disc := by
  induction rqs generalizing h c with
  | nil => simp [issueRun]
  | cons rq t ih =>
    have hone := abs_le.1 (issue_balance p rq c dt mp h)
    have hrest := abs_le.1 (ih ((issue rq c p dt mp h).shape == .on) (issue rq c p dt mp h).carry)
    rw [issueRun, List.sum_cons]
    dsimp only
    exact abs_le.2 ⟨by omega, by omega⟩

/-- Settles O59: the balance of a run (`issueRun_balance`) with carry 0, and the worked example evaluated. -/
theorem pulsePairsKeepTheirOnTime : Obligations.PulsePairsKeepTheirOnTime := by
  refine ⟨fun p dt mp rqs h _ _ _ => ?_, by decide⟩
  simpa using issueRun_balance p dt mp rqs h 0

end Sys2Proof.Machine
end

section
/-! PROOFS. The safety lane's inputs: seals, samples of contacts, test pulses, discrepancies and the 1 ms cycle. -/

namespace Sys2Proof.Machine

open Sys2Proof

/-! ### Commands of the safety lane (R351) -/

theorem State.onSafety_on {s : State} (h : s.safetyOn = true) (f : Safety → Safety) :
    s.quiet.onSafety f = { s.quiet with safety := f s.safety } := if_pos h

theorem State.onSafety_off {s : State} (h : s.safetyOn = false) (f : Safety → Safety) : s.quiet.onSafety f = s.quiet :=
  if_neg (by rw [show s.quiet.safetyOn = s.safetyOn from rfl, h]; exact Bool.false_ne_true)

/-! ### Pairs after a write (R356) -/

@[simp] theorem Safety.setPair_pair_self (x : Safety) (i : Nat) (p : Pair) : (x.setPair i p).pair i = p :=
  NMap.getD_put_self ..

theorem Safety.setPair_pair_ne (x : Safety) {i j : Nat} (h : j ≠ i) (p : Pair) : (x.setPair i p).pair j = x.pair j :=
  NMap.getD_put_ne _ h ..

/-- What the demands of a cycle are judged by, with its time: the seals, the time, the pairs. -/
def Safety.inputs (x : Safety) : Option Word × Nat × NMap Pair := (x.seals, x.uptime, x.pairs)

/-- Which pairs are in use stands in the seals. -/
theorem Safety.used_congr {x y : Safety} (h : y.seals = x.seals) (i : Nat) : y.used i = x.used i := by
  simp [Safety.used, Safety.sw, h]

section inputs
variable {x y : Safety} (h : y.inputs = x.inputs)
include h

theorem Safety.pair_congr (i : Nat) : y.pair i = x.pair i := by
  have hpairs : y.pairs = x.pairs := congrArg (fun z => z.2.2) h
  simp [Safety.pair, hpairs]

theorem Safety.demand_congr : y.demand = x.demand := by
  simp [Safety.demand, Safety.used_congr (congrArg Prod.fst h), Safety.pair_congr h]

end inputs

/-! ### What the operations after the pairs leave of the inputs (R362 to R369) -/

@[simp] theorem Safety.event_inputs (x : Safety) (a b : Nat) (d : List Byte) : (x.event a b d).inputs = x.inputs := rfl

@[simp] theorem Safety.htEnd_inputs (x : Safety) (r : Nat) : (x.htEnd r).inputs = x.inputs := rfl

@[simp] theorem Safety.htAbort_inputs (x : Safety) : x.htAbort.inputs = x.inputs := by
  unfold Safety.htAbort
  split <;> rfl

@[simp] theorem Safety.applyBrakes_inputs (x : Safety) : x.applyBrakes.inputs = x.inputs := by
  unfold Safety.applyBrakes
  split <;> rfl

@[simp] theorem Safety.toSafe_inputs (x : Safety) (c : Nat) : (x.toSafe c).inputs = x.inputs := by
  unfold Safety.toSafe
  split
  · rfl
  · exact (Safety.htAbort_inputs _).trans (Safety.applyBrakes_inputs x)

@[simp] theorem Safety.fail_inputs (c : Nat) (x : Safety) : (x.fail c).inputs = x.inputs := by
  unfold Safety.fail
  split
  · rfl
  · exact Safety.toSafe_inputs ..

@[simp] theorem Safety.readback_inputs (cmd rd : Nat) (x : Safety) : (x.readback cmd rd).inputs = x.inputs := by
  refine foldl_keep Safety.inputs _ (fun y i => ?_) _ _
  dsimp only
  split
  · rfl
  · generalize (if (rd.testBit i == cmd.testBit i) = true then 0 else y.diff.getD i 0 + 1) = n
    split
    · exact Safety.fail_inputs ..
    · rfl

@[simp] theorem Safety.pressCycle_inputs (x : Safety) : x.pressCycle.inputs = x.inputs := by
  unfold Safety.pressCycle
  dsimp only
  repeat' split
  all_goals rfl

@[simp] theorem Safety.htCycle_inputs (x : Safety) (was : Bool) : (x.htCycle was).inputs = x.inputs := by
  unfold Safety.htCycle
  repeat' split
  all_goals rfl

@[simp] theorem Safety.brakeCycle_inputs (x : Safety) : x.brakeCycle.inputs = x.inputs := by
  unfold Safety.brakeCycle
  split
  · exact Safety.applyBrakes_inputs x
  · split <;> rfl

/-! ### The brakes in a cycle (R359, R363) -/

theorem Safety.brakeCycle_applies {x : Safety} (h : x.demand = true) : x.brakeCycle.cmd = 0 := by
  rw [Safety.brakeCycle, if_pos h]
  exact Safety.applyBrakes_cmd x

/-- Brakes that were applied are released in RUN only, with no demand, no sag, no failed and no running holding test. -/
theorem Safety.brakeCycle_releases {x : Safety} (h0 : x.cmd = 0) (h : x.brakeCycle.cmd ≠ 0) :
    x.brakeCycle.st = sRun ∧ x.brakeCycle.demand = false ∧ x.brakeCycle.sag = false ∧ x.brakeCycle.htfail = false ∧
      x.brakeCycle.ht = .idle := by
  unfold Safety.brakeCycle at h ⊢
  split at h
  · exact absurd (Safety.applyBrakes_cmd x) h
  · split at h
    · rename_i hd hrel
      rw [if_neg hd, if_pos hrel]
      simp only [Safety.mayRelease, Bool.and_eq_true, beq_iff_eq, Bool.not_eq_true'] at hrel
      obtain ⟨⟨-, ⟨⟨⟨⟨hst, hsag⟩, hdem⟩, hfail⟩, hht⟩⟩, -⟩ := hrel
      exact ⟨hst, hdem, hsag, hfail, hht⟩
    · exact absurd h0 h

/-- A loop whose rounds keep the switches open keeps them open. -/
theorem Safety.foldTo_open {f : Safety → Nat → Safety} (h : ∀ y i, y.cmd = 0 → (f y i).cmd = 0) (n : Nat) {x : Safety}
    (hx : x.cmd = 0) : (foldTo n f x).cmd = 0 := by
  induction n with
  | zero => exact hx
  | succ n ih =>
    rw [foldTo_succ]
    exact h _ _ ih

theorem Safety.fail_open (c : Nat) {x : Safety} (hx : x.cmd = 0) : (x.fail c).cmd = 0 := by
  unfold Safety.fail Safety.toSafe
  split
  · exact hx
  · split
    · exact hx
    · simp

theorem Safety.readback_open (cmd rd : Nat) {x : Safety} (hx : x.cmd = 0) : (x.readback cmd rd).cmd = 0 := by
  refine Safety.foldTo_open (fun y i hy => ?_) 4 hx
  dsimp only
  split
  · exact hy
  · generalize (if (rd.testBit i == cmd.testBit i) = true then 0 else y.diff.getD i 0 + 1) = n
    split
    · exact Safety.fail_open 9 hy
    · exact hy

@[simp] theorem Safety.pairCycle_cmd (x : Safety) (i : Nat) : (x.pairCycle i).cmd = x.cmd := by
  unfold Safety.pairCycle
  split
  · rfl
  · dsimp only
    repeat' split
    all_goals rfl

@[simp] theorem Safety.pressCycle_cmd (x : Safety) : x.pressCycle.cmd = x.cmd := by
  unfold Safety.pressCycle
  dsimp only
  repeat' split
  all_goals rfl

@[simp] theorem Safety.htCycle_cmd (x : Safety) (was : Bool) : (x.htCycle was).cmd = x.cmd := by
  unfold Safety.htCycle
  repeat' split
  all_goals rfl

/-! ### The cycle (R359 to R369) -/

/-- The safety lane with one more millisecond counted, and what the cycle was told. -/
def Safety.ticked (coil0 coil1 ce : Nat) (x : Safety) : Safety :=
  let y : Safety := { x with uptime := (x.uptime + 1) % 2 ^ 32, since := x.since + 1, testMs := x.testMs + 1,
                             coil0 := min 65535 coil0, coil1 := min 65535 coil1, eccCe := satAdd32 x.eccCe ce }
  if ce = 0 then y else y.event 962 0x02

/-- A demand that the pairs show anew is counted. -/
def Safety.countDemand (before : Bool) (x : Safety) : Safety :=
  if x.demand && !before then { x with demCnt := satAdd32 x.demCnt 1 } else x

/-- The safety lane as the cycle's brakes are decided upon: its pairs judged, readback, reset and holding test gone on. -/
def Safety.beforeBrakes (rdbk coil0 coil1 ce : Nat) (x : Safety) : Safety :=
  (((((foldTo 8 Safety.pairCycle (x.ticked coil0 coil1 ce)).countDemand x.demand).readback x.cmd rdbk).pressCycle).htCycle
    (x.pair 7).dem)

/-- A cycle ends with the brakes; after them only the coil currents are counted. -/
theorem Safety.cycle_eq (rdbk coil0 coil1 ce : Nat) (x : Safety) : ∃ m n, x.cycle rdbk coil0 coil1 ce =
    { (x.beforeBrakes rdbk coil0 coil1 ce).brakeCycle with badCoil0 := m, badCoil1 := n } := ⟨_, _, rfl⟩

@[simp] theorem Safety.countDemand_inputs (before : Bool) (x : Safety) : (x.countDemand before).inputs = x.inputs := by
  unfold Safety.countDemand
  split <;> rfl

@[simp] theorem Safety.countDemand_cmd (before : Bool) (x : Safety) : (x.countDemand before).cmd = x.cmd := by
  unfold Safety.countDemand
  split <;> rfl

/-- After the pairs are judged a cycle leaves the inputs alone. -/
theorem Safety.beforeBrakes_inputs (rdbk c0 c1 ce : Nat) (x : Safety) :
    (x.beforeBrakes rdbk c0 c1 ce).inputs = (foldTo 8 Safety.pairCycle (x.ticked c0 c1 ce)).inputs := by
  simp [Safety.beforeBrakes]

theorem Safety.cycle_inputs (rdbk c0 c1 ce : Nat) (x : Safety) :
    (x.cycle rdbk c0 c1 ce).inputs = (foldTo 8 Safety.pairCycle (x.ticked c0 c1 ce)).inputs := by
  obtain ⟨m, n, h⟩ := Safety.cycle_eq rdbk c0 c1 ce x
  rw [h, ← Safety.beforeBrakes_inputs rdbk]
  exact Safety.brakeCycle_inputs _

/-- The rounds of the pairs leave the time and the seals. -/
theorem Safety.pairCycle_uptime_seals (x : Safety) (i : Nat) :
    ((x.pairCycle i).uptime, (x.pairCycle i).seals) = (x.uptime, x.seals) := by
  unfold Safety.pairCycle
  split
  · rfl
  · dsimp only
    repeat' split
    all_goals rfl

theorem Safety.ticked_shows (c0 c1 ce : Nat) (x : Safety) : ((x.ticked c0 c1 ce).uptime, (x.ticked c0 c1 ce).seals) =
    ((x.uptime + 1) % 2 ^ 32, x.seals) ∧ (x.ticked c0 c1 ce).cmd = x.cmd := by
  unfold Safety.ticked
  dsimp only
  split <;> exact ⟨rfl, rfl⟩

theorem Safety.cycle_uptime_seals (rdbk c0 c1 ce : Nat) (x : Safety) :
    ((x.cycle rdbk c0 c1 ce).uptime, (x.cycle rdbk c0 c1 ce).seals) = ((x.uptime + 1) % 2 ^ 32, x.seals) := by
  have hin := Safety.cycle_inputs rdbk c0 c1 ce x
  have hfold := foldl_keep (fun y : Safety => (y.uptime, y.seals)) _ Safety.pairCycle_uptime_seals (List.range 8)
    (x.ticked c0 c1 ce)
  rw [← (Safety.ticked_shows c0 c1 ce x).1, ← hfold]
  exact congrArg (fun z : Option Word × Nat × NMap Pair => (z.2.1, z.1)) hin

theorem Safety.beforeBrakes_open (rdbk c0 c1 ce : Nat) {x : Safety} (hx : x.cmd = 0) :
    (x.beforeBrakes rdbk c0 c1 ce).cmd = 0 := by
  simp only [Safety.beforeBrakes, Safety.htCycle_cmd, Safety.pressCycle_cmd]
  refine Safety.readback_open _ _ ?_
  rw [Safety.countDemand_cmd]
  exact Safety.foldTo_open (fun y i hy => (Safety.pairCycle_cmd y i).trans hy) 8 ((Safety.ticked_shows c0 c1 ce x).2.trans hx)

/-- A cycle that ends with a demand ends with the brakes applied. -/
theorem Safety.cycle_demand (rdbk c0 c1 ce : Nat) {x : Safety} (h : (x.cycle rdbk c0 c1 ce).demand = true) :
    (x.cycle rdbk c0 c1 ce).cmd = 0 := by
  rw [Safety.demand_congr ((Safety.cycle_inputs ..).trans (Safety.beforeBrakes_inputs rdbk ..).symm)] at h
  obtain ⟨m, n, hc⟩ := Safety.cycle_eq rdbk c0 c1 ce x
  rw [hc]
  exact Safety.brakeCycle_applies h

theorem Safety.cycle_releases (rdbk c0 c1 ce : Nat) {x : Safety} (h0 : x.cmd = 0) (h : (x.cycle rdbk c0 c1 ce).cmd ≠ 0) :
    (x.cycle rdbk c0 c1 ce).st = sRun ∧ (x.cycle rdbk c0 c1 ce).demand = false ∧ (x.cycle rdbk c0 c1 ce).sag = false ∧
      (x.cycle rdbk c0 c1 ce).htfail = false ∧ (x.cycle rdbk c0 c1 ce).ht = .idle := by
  obtain ⟨m, n, hc⟩ := Safety.cycle_eq rdbk c0 c1 ce x
  rw [hc] at h ⊢
  exact Safety.brakeCycle_releases (Safety.beforeBrakes_open rdbk c0 c1 ce h0) h

/-! ### Pair 7 in a cycle (R361, R367) -/

/-- Only the round of a pair changes the pair. -/
theorem Safety.pairCycle_pair_ne (x : Safety) {i j : Nat} (h : i ≠ j) :
    ((x.pairCycle i).pair j, (x.pairCycle i).seals) = (x.pair j, x.seals) := by
  have hput : ∀ p, (x.setPair i p).pair j = x.pair j := Safety.setPair_pair_ne x (Ne.symm h)
  unfold Safety.pairCycle
  split
  · rfl
  · dsimp only
    repeat' split
    all_goals exact congrArg (·, x.seals) (hput _)

/-- A pair with its discrepancy timer and its latched fault gone on, and the event that this gives. -/
def Safety.judged (x : Safety) (i : Nat) : Pair × Option Nat :=
  let p := x.pair i
  let da := p.aDem
  let db := p.bDem (x.ncNo i)
  ({ p with timer := if da == db then none else some ((p.timer.map (· + 1)).getD 0) } : Pair).clearing da db x.discMs

/-- A pair is in demand, by a contact or by a latched fault, unless it is the reset pair. -/
def Safety.demands (x : Safety) (i : Nat) (fault : Bool) : Bool :=
  !(x.manual && i == 6) && ((x.pair i).aDem || (x.pair i).bDem (x.ncNo i) || fault)

/-- The safety lane with a pair as judged, and its events. -/
def Safety.showPair (x : Safety) (i : Nat) (dem : Bool) (r : Pair × Option Nat) : Safety :=
  let y := x.setPair i { r.1 with dem := dem }
  let y := match r.2 with
    | some c => y.event (963 + i) c
    | none => y
  if dem && !(x.pair i).dem then y.event (963 + i) 0x01 else if (x.pair i).dem && !dem then y.event (963 + i) 0x02 else y

theorem Safety.pairCycle_used {x : Safety} {i : Nat} (hu : x.used i = true) :
    x.pairCycle i = x.showPair i (x.demands i (x.judged i).1.fault) (x.judged i) := by
  rw [Safety.pairCycle, if_neg (by simp [hu])]
  rfl

theorem Safety.showPair_pair (x : Safety) (i : Nat) (dem : Bool) (r : Pair × Option Nat) :
    (x.showPair i dem r).pair i = { r.1 with dem := dem } := by
  unfold Safety.showPair
  dsimp only
  repeat' split
  all_goals exact Safety.setPair_pair_self ..

/-- Pair 7 in use that holds a latched fault at the end of a cycle keeps the brakes applied (R367). -/
theorem Safety.cycle_fault (rdbk c0 c1 ce : Nat) {x : Safety} (hu : x.used 7 = true)
    (hf : ((x.cycle rdbk c0 c1 ce).pair 7).fault = true) : (x.cycle rdbk c0 c1 ce).cmd = 0 := by
  obtain ⟨y, hy, hfold⟩ := foldTo_eq_step_at (f := Safety.pairCycle) (g := fun y : Safety => (y.pair 7, y.seals)) (i := 7)
    (fun z j hj => Safety.pairCycle_pair_ne z hj) (n := 8) (by decide) (x.ticked c0 c1 ce)
  have hin := Safety.cycle_inputs rdbk c0 c1 ce x
  have hpair : (x.cycle rdbk c0 c1 ce).pair 7 = (y.pairCycle 7).pair 7 :=
    (Safety.pair_congr hin 7).trans (congrArg Prod.fst hfold)
  have hseals : y.seals = x.seals :=
    (congrArg Prod.snd hy).trans (congrArg Prod.snd (Safety.ticked_shows c0 c1 ce x).1)
  have huc : (x.cycle rdbk c0 c1 ce).used 7 = true :=
    (Safety.used_congr (congrArg Prod.snd (Safety.cycle_uptime_seals rdbk c0 c1 ce x)) 7).trans hu
  have hdem : ((x.cycle rdbk c0 c1 ce).pair 7).dem = true := by
    rw [hpair, Safety.pairCycle_used ((Safety.used_congr hseals 7).trans hu), Safety.showPair_pair] at hf ⊢
    simp [Safety.demands, show (y.judged 7).1.fault = true from hf]
  refine Safety.cycle_demand rdbk c0 c1 ce (List.any_eq_true.2 ⟨7, by simp, ?_⟩)
  simp [huc, hdem]

/-! ### Faults that latch (R357, R360, R367) -/

@[simp] theorem Safety.htAbort_ht (x : Safety) : x.htAbort.ht = .idle := by
  unfold Safety.htAbort
  split
  · assumption
  · rfl

/-- A holding test that runs ends as ABORTED, which leaves its last failure as it was (R366). -/
theorem Safety.htAbort_runs {x : Safety} (h : x.ht ≠ .idle) : x.htAbort.result = 3 ∧ x.htAbort.htfail = x.htfail := by
  rw [Safety.htAbort, if_neg h]
  exact ⟨rfl, rfl⟩

theorem Safety.latchFault_inputs (x : Safety) (i : Nat) (p : Pair) (c : Nat) :
    (x.latchFault i p c).inputs = (x.setPair i p).inputs := by
  unfold Safety.latchFault
  dsimp only
  split
  · exact Safety.htAbort_inputs _
  · rfl

@[simp] theorem Safety.latchFault_pair_self (x : Safety) (i : Nat) (p : Pair) (c : Nat) : (x.latchFault i p c).pair i = p :=
  (Safety.pair_congr (x.latchFault_inputs i p c) i).trans (x.setPair_pair_self i p)

theorem Safety.latchFault_pair_ne (x : Safety) {i j : Nat} (h : j ≠ i) (p : Pair) (c : Nat) :
    (x.latchFault i p c).pair j = x.pair j :=
  (Safety.pair_congr (x.latchFault_inputs i p c) j).trans (x.setPair_pair_ne h p)

theorem Safety.latchFault_seals (x : Safety) (i : Nat) (p : Pair) (c : Nat) : (x.latchFault i p c).seals = x.seals :=
  congrArg Prod.fst (x.latchFault_inputs i p c)

/-- A fault that latches on another pair than 7 is one event, and the holding test goes on. -/
theorem Safety.latchFault_other (x : Safety) {i : Nat} (h : i ≠ 7 ∨ x.ht = .idle) (p : Pair) (c : Nat) :
    x.latchFault i p c = (x.setPair i p).event (963 + i) c := by
  unfold Safety.latchFault
  rcases h with h | h
  · exact if_neg h
  · have habort : ((x.setPair i p).event (963 + i) c).htAbort = (x.setPair i p).event (963 + i) c := if_pos h
    dsimp only
    rw [habort, ite_self]

/-- A fault that latches on pair 7 ends the holding test. -/
theorem Safety.latchFault_seven (x : Safety) (p : Pair) (c : Nat) : (x.latchFault 7 p c).ht = .idle ∧
    (x.ht ≠ .idle → (x.latchFault 7 p c).result = 3 ∧ (x.latchFault 7 p c).htfail = x.htfail) :=
  ⟨Safety.htAbort_ht _, fun h => Safety.htAbort_runs (x := (x.setPair 7 p).event (963 + 7) c) h⟩

/-! ### Test pulses (R357) -/

/-- What a test pulse of a source finds at one pair. -/
def Safety.pulseStep (source a b : Nat) (x : Safety) (i : Nat) : Safety :=
  let p := x.pair i
  let own := if source = 0 then (p.a, a) else (p.b, b)
  let other := if source = 0 then (p.b, b) else (p.a, a)
  let bad := (own.1 && own.2.testBit i) || (other.1 && !other.2.testBit i)
  if !x.used i || !bad || (p.fault && p.pulse) then x
  else x.latchFault i { p with fault := true, pulse := true, step := 0, left := 0 } 0x04

/-- A source that goes off is a round over the pairs. -/
theorem Safety.testPulse_off {x : Safety} (h : x.st ≠ sSafe) (source a b : Nat) :
    x.testPulse source a b true = foldTo 8 (Safety.pulseStep source a b) x := by
  rw [Safety.testPulse, if_neg (by simp [Safety.tpOn, h]), if_neg (by decide)]
  rfl

section pulse
variable {source a b : Nat} {x : Safety} {i : Nat} (hu : x.used i = true)
  (hc : (if source = 0 then (x.pair i).a else (x.pair i).b) = true) (hh : (if source = 0 then a else b).testBit i = true)
include hu hc hh

/-- A closed contact that reads high in its own off-pulse latches a pulse fault, unless the pair holds one. -/
theorem Safety.pulseStep_latches (hn : ¬((x.pair i).fault = true ∧ (x.pair i).pulse = true)) : x.pulseStep source a b i =
    x.latchFault i { x.pair i with fault := true, pulse := true, step := 0, left := 0 } 0x04 := by
  unfold Safety.pulseStep
  dsimp only
  refine if_neg ?_
  split at hc <;> simp_all

theorem Safety.pulseStep_fault : ((x.pulseStep source a b i).pair i).fault = true := by
  by_cases hn : (x.pair i).fault = true ∧ (x.pair i).pulse = true
  · have hsame : x.pulseStep source a b i = x := if_pos (by simp [hn.1, hn.2])
    rw [hsame]
    exact hn.1
  · rw [Safety.pulseStep_latches hu hc hh hn, Safety.latchFault_pair_self]

end pulse

theorem Safety.pulseStep_cases (source a b : Nat) (x : Safety) (i : Nat) :
    x.pulseStep source a b i = x ∨ ∃ p, x.pulseStep source a b i = x.latchFault i p 0x04 :=
  (ite_eq_or_eq _ _ _).imp id (fun h => ⟨_, h⟩)

theorem Safety.pulseStep_other (source a b : Nat) (x : Safety) {i j : Nat} (h : i ≠ j) :
    ((x.pulseStep source a b i).pair j, (x.pulseStep source a b i).seals) = (x.pair j, x.seals) := by
  obtain hx | ⟨p, hx⟩ := Safety.pulseStep_cases source a b x i
  · rw [hx]
  · rw [hx, Safety.latchFault_pair_ne _ (Ne.symm h), Safety.latchFault_seals]

/-- A closed contact of a pair in use that reads high in its own off-pulse leaves the pair with a fault. -/
theorem Safety.testPulse_fault {source a b : Nat} {x : Safety} {i : Nat} (hs : x.st ≠ sSafe) (hi : i < 8)
    (hu : x.used i = true) (hc : (if source = 0 then (x.pair i).a else (x.pair i).b) = true)
    (hh : (if source = 0 then a else b).testBit i = true) : ((x.testPulse source a b true).pair i).fault = true := by
  obtain ⟨y, hy, hfold⟩ := foldTo_eq_step_at (f := Safety.pulseStep source a b) (g := fun y : Safety => (y.pair i, y.seals))
    (i := i) (fun z j hj => Safety.pulseStep_other source a b z hj) (n := 8) hi x
  obtain ⟨hpair, hseals⟩ := Prod.mk.inj hy
  rw [Safety.testPulse_off hs, show (foldTo 8 (Safety.pulseStep source a b) x).pair i = _ from congrArg Prod.fst hfold]
  exact Safety.pulseStep_fault ((Safety.used_congr hseals i).trans hu) (by rwa [hpair]) hh

/-- What a round at another pair than 7 leaves of a holding test. -/
theorem Safety.pulseStep_test (source a b : Nat) (x : Safety) {i : Nat} (h : i ≠ 7) :
    ((x.pulseStep source a b i).ht, (x.pulseStep source a b i).htfail) = (x.ht, x.htfail) := by
  obtain hx | ⟨p, hx⟩ := Safety.pulseStep_cases source a b x i
  · rw [hx]
  · rw [hx, Safety.latchFault_other x (.inl h)]
    rfl

/-- A pulse fault that latches on pair 7 ends a holding test as ABORTED (R367). -/
theorem Safety.testPulse_seven {source a b : Nat} {x : Safety} (hs : x.st ≠ sSafe) (hu : x.used 7 = true)
    (hn : ¬((x.pair 7).fault = true ∧ (x.pair 7).pulse = true))
    (hc : (if source = 0 then (x.pair 7).a else (x.pair 7).b) = true) (hh : (if source = 0 then a else b).testBit 7 = true) :
    (x.testPulse source a b true).ht = .idle ∧
    (x.ht ≠ .idle → (x.testPulse source a b true).result = 3 ∧ (x.testPulse source a b true).htfail = x.htfail) := by
  obtain ⟨hpair, hseals⟩ := Prod.mk.inj (foldTo_keeps_before (f := Safety.pulseStep source a b)
    (g := fun y : Safety => (y.pair 7, y.seals)) (i := 7) (fun z j hj => Safety.pulseStep_other source a b z hj) (le_refl 7) x)
  obtain ⟨hht, hfail⟩ := Prod.mk.inj (foldTo_keeps_before (f := Safety.pulseStep source a b)
    (g := fun y : Safety => (y.ht, y.htfail)) (i := 7) (fun z j hj => Safety.pulseStep_test source a b z hj) (le_refl 7) x)
  rw [Safety.testPulse_off hs, foldTo_succ, Safety.pulseStep_latches ((Safety.used_congr hseals 7).trans hu)
    (by rwa [hpair]) hh (by rwa [hpair]), ← hht, ← hfail]
  exact Safety.latchFault_seven ..

/-! ### Discrepancies (R360) -/

section discrepancy
variable {x : Safety} {i : Nat}

theorem Safety.discrepancy_early {n : Nat} (ht : (x.pair i).timer = some n) (hn : n < x.discMs) : x.discrepancy i = x := by
  refine if_pos ?_
  simp [ht, hn]

theorem Safety.discrepancy_due (hi : i < 8) (hu : x.used i = true) (hf : (x.pair i).fault = false)
    (ht : ∃ n, (x.pair i).timer = some n ∧ x.discMs ≤ n) : x.discrepancy i = x.latchFault i
      { x.pair i with fault := true, pulse := false, step := 0, left := 0, dem := !(x.manual && i == 6) } 0x03 := by
  obtain ⟨n, ht, hn⟩ := ht
  refine if_neg ?_
  simp [hi, hu, hf, ht, hn]

end discrepancy

/-! ### Samples (R358) -/

/-- What a sample makes of one pair. -/
def Safety.sampleStep (a b : Nat) (blankA blankB : Bool) (x : Safety) (i : Nat) : Safety :=
  if !x.used i then x
  else
    let p := x.pair i
    let fa := filterStep x.filterN p.sa (a.testBit i) blankA p.a p.ra
    let fb := filterStep x.filterN p.sb (b.testBit i) blankB p.b p.rb
    x.setPair i { p with sa := fa.1, ra := fa.2.1, a := fa.2.2, sb := fb.1, rb := fb.2.1, b := fb.2.2 }

/-- In the safe state every sample is blanked. -/
theorem Safety.sample_eq (a b : Nat) (ba bb : Bool) (x : Safety) : x.sample a b ba bb =
    foldTo 8 (Safety.sampleStep a b (ba || x.st == sSafe) (bb || x.st == sSafe)) x := by
  have htp : (!x.tpOn) = (x.st == sSafe) := by simp [Safety.tpOn, bne]
  simp only [Safety.sample, htp]
  rfl

section sample
variable (a b : Nat) (p q : Bool) (x : Safety) (i : Nat)

theorem Safety.sampleStep_keeps : ((x.sampleStep a b p q i).st, (x.sampleStep a b p q i).cmd) = (x.st, x.cmd) := by
  unfold Safety.sampleStep
  split <;> rfl

theorem Safety.sampleStep_other {j : Nat} (h : i ≠ j) :
    ((x.sampleStep a b p q i).pair j, (x.sampleStep a b p q i).seals) = (x.pair j, x.seals) := by
  unfold Safety.sampleStep
  split
  · rfl
  · exact congrArg (·, x.seals) (x.setPair_pair_ne (Ne.symm h) _)

theorem Safety.sampleStep_unused (h : x.used i = false) : x.sampleStep a b p q i = x := if_pos (by simp [h])

/-- Each contact of a pair in use goes through the filter of R358. -/
theorem Safety.sampleStep_used (h : x.used i = true) :
    let r := (x.sampleStep a b p q i).pair i
    (r.sa, r.ra, r.a) = filterStep x.filterN (x.pair i).sa (a.testBit i) p (x.pair i).a (x.pair i).ra ∧
    (r.sb, r.rb, r.b) = filterStep x.filterN (x.pair i).sb (b.testBit i) q (x.pair i).b (x.pair i).rb := by
  dsimp only
  rw [Safety.sampleStep, if_neg (by simp [h]), Safety.setPair_pair_self]
  exact ⟨rfl, rfl⟩

end sample

/-- A sample treats each pair by itself. -/
theorem Safety.sample_pair (a b : Nat) (ba bb : Bool) (x : Safety) {j : Nat} (hj : j < 8) : ∃ y : Safety,
    y.pair j = x.pair j ∧ y.seals = x.seals ∧ (x.sample a b ba bb).pair j =
      (y.sampleStep a b (ba || x.st == sSafe) (bb || x.st == sSafe) j).pair j := by
  obtain ⟨y, hy, hfold⟩ := foldTo_eq_step_at (f := Safety.sampleStep a b (ba || x.st == sSafe) (bb || x.st == sSafe))
    (g := fun y : Safety => (y.pair j, y.seals)) (i := j) (fun z k hk => Safety.sampleStep_other _ _ _ _ z k hk) (n := 8) hj x
  obtain ⟨hpair, hseals⟩ := Prod.mk.inj hy
  exact ⟨y, hpair, hseals, by rw [Safety.sample_eq]; exact congrArg Prod.fst hfold⟩

theorem Safety.sample_keeps (a b : Nat) (ba bb : Bool) (x : Safety) :
    ((x.sample a b ba bb).st, (x.sample a b ba bb).cmd) = (x.st, x.cmd) := by
  rw [Safety.sample_eq]
  exact foldl_keep (fun y : Safety => (y.st, y.cmd)) _ (fun y i => Safety.sampleStep_keeps _ _ _ _ y i) _ x

/-- What a sample makes of a pair: one not in use stands, a contact of one in use goes through the filter. -/
theorem Safety.sample_shows (a b : Nat) (ba bb : Bool) (x : Safety) {j : Nat} (hj : j < 8) :
    let p := x.pair j
    let q := (x.sample a b ba bb).pair j
    (x.used j = false → q = p) ∧
    (x.used j = true → (q.sa, q.ra, q.a) = filterStep x.filterN p.sa (a.testBit j) (ba || x.st == sSafe) p.a p.ra ∧
      (q.sb, q.rb, q.b) = filterStep x.filterN p.sb (b.testBit j) (bb || x.st == sSafe) p.b p.rb) := by
  obtain ⟨y, hpair, hseals, hq⟩ := Safety.sample_pair a b ba bb x hj
  have hfilter : y.filterN = x.filterN := by simp [Safety.filterN, Safety.sw, hseals]
  dsimp only
  rw [hq, ← hpair, ← Safety.used_congr hseals, ← hfilter]
  refine ⟨fun h => ?_, fun h => Safety.sampleStep_used _ _ _ _ y j h⟩
  rw [Safety.sampleStep_unused _ _ _ _ y j h]

/-! ### Seals (R354, R355) -/

theorem Safety.sealRead_again {x : Safety} (h : x.seals.isSome = true) (w : Word) : x.sealRead w = x := if_pos h

theorem Safety.sealSample_differs {x : Safety} {w : Word} (hs : x.st ≠ sSafe) (hr : x.seals.isSome = true)
    (hd : x.seals ≠ some w) : x.sealSample w = (x.event 961 0x03).fail 2 := by
  refine if_neg ?_
  simp [hs, hd, ← Option.not_isSome, hr]

theorem Safety.sealSample_same {x : Safety} {w : Word} (h : x.st = sSafe ∨ x.seals = some w ∨ x.seals = none) :
    x.sealSample w = x := by
  refine if_pos ?_
  rcases h with h | h | h <;> simp [h]

/-! ### The statements -/

/-- Settles O53: each command is its operation on the safety lane while the domains are on (`State.onSafety_on`), and the
operation's law in the state that the clause names. -/
theorem safetyLaneJudgesItsInputs : Obligations.SafetyLaneJudgesItsInputs := by
  intro s w a b i source rdbk c0 c1 ce ba bb off u x toS
  refine ⟨fun hoff c hc => ?_, fun hon => ⟨fun hr => ?_, fun hr => ?_, fun hs hr hd => ?_, fun h => ?_, ?_, fun hs ho => ?_,
    fun hs ho hi hu hc hh => ?_, fun hi hu hf ht => ?_, fun n ht hn => ?_, ?_⟩⟩
  -- with the domains off nothing changes
  · simp only [List.mem_cons, List.not_mem_nil, or_false] at hc
    rcases hc with rfl | rfl | rfl | rfl | rfl | rfl <;> exact congrArg Host.Outcome.next (State.onSafety_off hoff _)
  -- the seals
  · rw [execSealRead_eq, State.onSafety_on hon, Safety.sealRead, if_neg (by simp [x, hr])]
  · rw [execSealRead_eq, State.onSafety_on hon, Safety.sealRead_again hr]
  · rw [execSealSample_eq, State.onSafety_on hon, Safety.sealSample_differs hs hr hd]
  · rw [execSealSample_eq, State.onSafety_on hon, Safety.sealSample_same h]
  -- a sample
  · obtain ⟨hst, hcmd⟩ := Prod.mk.inj (Safety.sample_keeps a b ba bb x)
    exact ⟨_, (execInputSample_eq ..).trans (congrArg _ (State.onSafety_on hon _)), hst, hcmd,
      fun j hj => Safety.sample_shows a b ba bb x hj⟩
  -- a test pulse
  · rw [execTestPulse_eq, State.onSafety_on hon, ho, Safety.testPulse, if_neg (by simp [Safety.tpOn, x, hs])]
    rfl
  · subst ho
    exact ⟨_, (execTestPulse_eq ..).trans (congrArg _ (State.onSafety_on hon _)), Safety.testPulse_fault hs hi hu hc hh⟩
  -- a discrepancy
  · refine ⟨_, (execDiscrepancyTimeout_eq ..).trans (congrArg _ (State.onSafety_on hon _)), ?_⟩
    dsimp only
    rw [Safety.discrepancy_due hi hu hf ht, Safety.latchFault_pair_self]
    exact ⟨rfl, by simp [imp_iff_not_or], fun h => by rw [Safety.latchFault_other _ h]; rfl⟩
  · rw [execDiscrepancyTimeout_eq, State.onSafety_on hon, Safety.discrepancy_early ht hn]
  -- a cycle
  · refine ⟨_, (execSafetyCycle_eq ..).trans (congrArg _ (State.onSafety_on hon _)), ?_, Safety.cycle_demand rdbk c0 c1 ce,
      Safety.cycle_releases rdbk c0 c1 ce, fun hs => ?_⟩
    · exact congrArg Prod.fst (Safety.cycle_uptime_seals rdbk c0 c1 ce x)
    · obtain ⟨hst, hcause, -⟩ := (Safety.goes_cycle rdbk c0 c1 ce x).latched hs
      exact ⟨hst, hcause⟩

/-- Settles O60: a speed pulse asks for a window, and a fault that latches on pair 7 ends the test
(`Safety.latchFault_seven`) and stays in demand through a cycle (`Safety.cycle_fault`). -/
theorem speedPulsesOutsideATestWindow : Obligations.SpeedPulsesOutsideATestWindow := by
  intro s input source a b rdbk c0 c1 ce x p ends hon
  refine ⟨fun hw => ?_, fun hs hu hn hc hh => ?_, fun hu hf ht => ?_, ?_⟩
  · have hsame : x.speedPulse input = x := by
      unfold Safety.speedPulse
      split
      · exact absurd ‹_› (hw _)
      · rfl
    rw [execSpeedPulse_eq, State.onSafety_on hon, hsame]
    rfl
  · obtain ⟨hidle, habort⟩ := Safety.testPulse_seven hs hu hn hc hh
    exact ⟨_, (execTestPulse_eq ..).trans (congrArg _ (State.onSafety_on hon _)),
      Safety.testPulse_fault hs (by decide) hu hc hh, hidle, habort⟩
  · obtain ⟨hidle, habort⟩ := Safety.latchFault_seven x
      { p with fault := true, pulse := false, step := 0, left := 0, dem := !(x.manual && (7 : Nat) == 6) } 0x03
    refine ⟨_, (execDiscrepancyTimeout_eq ..).trans (congrArg _ (State.onSafety_on hon _)), ?_⟩
    dsimp only
    rw [Safety.discrepancy_due (by decide) hu hf ht]
    exact ⟨by rw [Safety.latchFault_pair_self], hidle, habort⟩
  · exact ⟨_, (execSafetyCycle_eq ..).trans (congrArg _ (State.onSafety_on hon _)),
      fun hf hu => Safety.cycle_fault rdbk c0 c1 ce hu hf⟩

end Sys2Proof.Machine
end

section
/-! PROOFS. What the safety lane does by itself: switch tests, coil currents, holding tests, start, sag, status, the
programming port. -/

namespace Sys2Proof.Machine

open Sys2Proof

/-! ### Diagnostics that fail (R364, R365, R368, R369) -/

/-- A diagnostic that fails outside the safe state leaves the safe state with its cause, the brakes applied. -/
theorem Safety.fail_safe {x : Safety} (h : x.st ≠ sSafe) (c : Nat) :
    (x.fail c).st = sSafe ∧ (x.fail c).cause = c ∧ (x.fail c).cmd = 0 := by
  rw [Safety.fail, if_neg h, Safety.toSafe, if_neg (by simpa using h)]
  simp

theorem Safety.diagnose_cause {c : Nat} (h0 : 0 < c) (h : c ≤ 12) (x : Safety) : x.diagnose c = x.fail c :=
  if_neg (by simp; omega)

section switchTest
variable {x : Safety}

theorem Safety.switchTest_waits (h : x.st ≠ sRun ∨ x.cmd = 0 ∨ x.testMs < x.testEvery) (bad : Option Nat) :
    x.switchTest bad = x := by
  refine if_pos ?_
  rcases h with h | h | h <;> simp [h, Safety.braked]

variable (hr : x.st = sRun) (hc : x.cmd ≠ 0) (ht : x.testEvery ≤ x.testMs)
include hr hc ht

/-- A switch in use that reads back wrong fails the test. -/
theorem Safety.switchTest_wrong {i : Nat} (hi : i < 2 ∨ x.bk1 = true ∧ i < 4) : x.switchTest (some i) =
    (({ x with testMs := 0 } : Safety).event (971 + i / 2) 0x02).fail 9 := by
  have hused : (some i).filter (fun i => decide (i < 2) || (x.bk1 && decide (i < 4))) = some i := by simpa using hi
  unfold Safety.switchTest
  rw [if_neg (by simp [hr, Safety.braked, hc, ht])]
  dsimp only
  rw [show ({ x with testMs := 0 } : Safety).bk1 = x.bk1 from rfl, hused]

theorem Safety.switchTest_right : (x.switchTest none).testCnt = (x.testCnt + 1) % 2 ^ 32 ∧ (x.switchTest none).testMs = 0 ∧
    (x.switchTest none).st = sRun ∧ (x.switchTest none).cmd = x.cmd := by
  unfold Safety.switchTest
  rw [if_neg (by simp [hr, Safety.braked, hc, ht])]
  dsimp only [Option.filter]
  split <;> exact ⟨rfl, rfl, hr, rfl⟩

end switchTest

/-! ### The holding test (R366) -/

theorem Safety.windowOpen_waiting {x : Safety} (hw : x.ht = .waiting) (hb : x.cmd = 0) :
    x.windowOpen = if 200 ≤ x.since then { x with ht := .window 0, sp0 := 0, sp1 := 0, win := 0 } else x := by
  simp [Safety.windowOpen, hw, Safety.braked, hb]

theorem Safety.windowClose_window {x : Safety} {t : Nat} (hw : x.ht = .window t) :
    x.windowClose = if x.request && t < 10000 then x else x.htEnd (if 1000 ≤ t then 1 else 3) := by
  simp only [Safety.windowClose, hw]

theorem Safety.speedPulse_window {x : Safety} {t : Nat} (hw : x.ht = .window t) (input : Nat) :
    let y : Safety := if input = 0 then { x with sp0 := min 65535 (x.sp0 + 1) } else { x with sp1 := min 65535 (x.sp1 + 1) }
    x.speedPulse input = if x.sw 8 < (if input = 0 then y.sp0 else y.sp1) then y.htEnd 2 else y := by
  intro y
  unfold Safety.speedPulse
  by_cases hi : input = 0
  · simp only [y, hi, if_true]
    rw [hw]
    rfl
  · simp only [y, hi, if_false]
    rw [hw]
    rfl

theorem Safety.speedPulse_idle {x : Safety} (h : x.ht = .idle) (input : Nat) : x.speedPulse input = x := by
  simp only [Safety.speedPulse, h]

theorem Safety.windowClose_idle {x : Safety} (h : x.ht = .idle) : x.windowClose = x := by
  simp only [Safety.windowClose, h]

/-! ### Start and sag (R369, R370) -/

theorem Safety.startComplete_runs {x : Safety} (hst : x.st = sStart) (hheld : x.held = false) (hsag : x.sag = false)
    (hseals : x.seals.isSome = true) (hcfg : x.cfgOk = true) (hfw : x.flash.run.isSome = true) :
    x.startComplete = ({ x with st := sRun } : Safety).event 960 0x01 := by
  refine if_neg ?_
  simp [hst, hheld, hsag, hcfg, ← Option.not_isSome, hseals, hfw]

theorem Safety.startComplete_waits {x : Safety} (h : x.st ≠ sStart ∨ x.held = true ∨ x.sag = true ∨ x.seals = none ∨
    x.cfgOk = false ∨ x.flash.run = none) : x.startComplete = x := by
  refine if_pos ?_
  rcases h with h | h | h | h | h | h <;> simp [h]

theorem Safety.sagged_shows (x : Safety) : (x.sag = false → x.sagged.cmd = 0) ∧ x.sagged.sag = true ∧ x.sagged.st = x.st := by
  unfold Safety.sagged
  split
  · rename_i h
    exact ⟨fun hn => absurd h (by simp [hn]), h, rfl⟩
  · exact ⟨fun _ => rfl, rfl, Safety.htAbort_st x⟩

/-! ### The status (R372, R373) -/

theorem Hcx.foldl_setReg_reg (l : List (Reg × Word)) {q : Reg} (h : q ∉ l.map Prod.fst) (H : Hcx) :
    (l.foldl (fun (H : Hcx) r => H.setReg r.1 r.2) H).reg q = H.reg q := by
  induction l generalizing H with
  | nil => rfl
  | cons r t ih =>
    obtain ⟨hr, ht⟩ := not_or.1 (fun hm => h (List.mem_cons.2 hm))
    rw [List.foldl_cons, ih ht, Hcx.setReg_reg_ne H (fun e => hr e.1)]

/-- Copying the status changes registers of the status window only. -/
theorem State.copyStatus_receiverOn (now : Int) (s : State) : (s.copyStatus now).receiverOn = s.receiverOn := by
  have hevents : (s.safety.events.foldl (fun (v : State) e => v.raiseHost e.1 e.2.1 now e.2.2) s).host.reg .HCX_PD_STAT =
      s.host.reg .HCX_PD_STAT := foldl_keep (fun v : State => v.host.reg .HCX_PD_STAT)
        (fun v (e : Nat × Nat × List Byte) => v.raiseHost e.1 e.2.1 now e.2.2) (fun _ _ => rfl) _ s
  have hcopy : (s.copyStatus now).host.reg .HCX_PD_STAT = s.host.reg .HCX_PD_STAT := by
    rw [State.copyStatus, State.hcx_host, Hcx.bump, Hcx.setReg_reg_ne _ (by decide), Hcx.foldl_setReg_reg _ (by simp [Safety.window]),
      hevents]
  simp [State.receiverOn, Hcx.flag, hcopy]

section status
variable {s : State} (hon : s.safetyOn = true)
include hon

theorem State.safetyStatus_copied (hr : s.receiverOn = true) (hs : s.safety.sag = false) (now : Int) :
    s.safetyStatus now = { s.copyStatus now with safety := { s.safety with events := [] } } := by
  unfold State.safetyStatus
  rw [if_neg (by simp [hon])]
  simp only [hr, if_true, hs, State.copyStatus_receiverOn, Bool.false_eq_true, if_false]

theorem State.safetyStatus_unheard (hr : s.receiverOn = false) (hs : s.safety.sag = false) (now : Int) :
    s.safetyStatus now = s := by
  unfold State.safetyStatus
  rw [if_neg (by simp [hon])]
  dsimp only
  rw [if_neg (by simp [hs])]
  simp only [hr, Bool.false_eq_true, if_false]

/-- After a sag the safety domains go off once the status is sent, and the lane begins again (R370). -/
theorem State.safetyStatus_sagged (hs : s.safety.sag = true) (now : Int) :
    (s.safetyStatus now).safety = { Safety.fresh with flash := s.safety.flash } ∧ (s.safetyStatus now).safetyOn = false := by
  unfold State.safetyStatus
  rw [if_neg (by simp [hon])]
  simp only [hs, if_true, State.safetyOn, State.hcx_host, Hcx.fld, Hcx.setFld, Hcx.setReg_reg_self]
  rw [bits_putBits_self _ (by decide) (by decide)]
  exact ⟨trivial, rfl⟩

end status

/-! ### The programming port (R414, R449) -/

section programPage
variable {x : Safety} (offset : Nat) (h : FwHeader) (page : ProgPage)

theorem Safety.programPage_notHeld (hx : x.held = false) : x.programPage offset h page = x := if_pos (by simp [hx])

variable (hx : x.held = true)
include hx

theorem Safety.programPage_bad (hb : pageCrcOk page offset = false ∨ offset ≠ x.page) :
    x.programPage offset h page = x.pageBad := by
  unfold Safety.programPage
  rw [if_neg (by simp [hx]), if_pos (by rcases hb with hb | hb <;> simp [hb])]

/-- A page in order that is not the last moves the offset on. -/
theorem Safety.programPage_next (hc : pageCrcOk page offset = true) (ho : offset = x.page)
    (hl : offset + 256 < 4096 + (if offset = 0 then fwRead page.octets h else x.hdr.getD h).len) :
    (x.programPage offset h page).page = offset + 256 ∧
    (x.programPage offset h page).hdr = some (if offset = 0 then fwRead page.octets h else x.hdr.getD h) ∧
    (x.programPage offset h page).pstOk = some true := by
  unfold Safety.programPage
  rw [if_neg (by simp [hx]), if_neg (by simp [hc, ← ho])]
  dsimp only
  rw [if_pos hl]
  exact ⟨rfl, rfl, rfl⟩

end programPage

/-! ### The statement -/

/-- Settles O54: each command is its operation on the safety lane while the domains are on (`State.onSafety_on`), and the
operation's law in the state that the clause names. -/
theorem safetyLaneActs : Obligations.SafetyLaneActs := by
  intro s bad brake input cause offset t h page now u x toS hon
  refine ⟨fun hr hc ht => ⟨fun i hb hi => ?_, fun hb => ?_⟩, fun hw => ?_, fun hb hs hn => ?_, fun hn => ?_, fun hw hc => ?_,
    fun hw => ⟨fun hr ht => ?_, fun hr => ?_, ?_⟩, fun hi => ⟨?_, ?_⟩, fun hs => ⟨?_, fun h0 h12 => ?_⟩,
    fun h1 h2 h3 h4 h5 h6 => ?_, fun hn => ?_, fun hm => ?_, fun hm => ?_, fun hr hs => ?_, fun hr hs => ?_, fun hs => ?_,
    fun hx => ⟨fun hb => ?_, fun hc ho hl => ?_⟩, fun hx => ?_⟩
  -- switch tests and coil currents
  · rw [execSwitchTestRound_eq, State.onSafety_on hon, hb, Safety.switchTest_wrong hr hc ht hi]
  · subst hb
    exact ⟨_, (execSwitchTestRound_eq ..).trans (congrArg _ (State.onSafety_on hon _)), Safety.switchTest_right hr hc ht⟩
  · rw [execSwitchTestRound_eq, State.onSafety_on hon, Safety.switchTest_waits hw]
  · rw [execCoilCurrentFailure_eq, State.onSafety_on hon, Safety.coilFailure, if_neg (by simp [hb, hs, hn, x])]
  · rw [execCoilCurrentFailure_eq, State.onSafety_on hon, Safety.coilFailure, if_pos (by simp [hn, x])]
  -- the holding test
  · rw [execHoldingTestWindowOpen_eq, State.onSafety_on hon, Safety.windowOpen_waiting hw hc]
  · rw [execHoldingTestWindowClose_eq, State.onSafety_on hon, Safety.windowClose_window hw, if_pos (by simp [hr, ht, x])]
  · rw [execHoldingTestWindowClose_eq, State.onSafety_on hon, Safety.windowClose_window hw,
      if_neg (by rcases hr with hr | hr <;> simp [hr, x])]
  · rw [execSpeedPulse_eq, State.onSafety_on hon, Safety.speedPulse_window hw]
  · rw [execSpeedPulse_eq, State.onSafety_on hon, Safety.speedPulse_idle hi]
  · rw [execHoldingTestWindowClose_eq, State.onSafety_on hon, Safety.windowClose_idle hi]
  -- diagnostics
  · exact ⟨_, execWatchdogMiss_eq s, by rw [State.onSafety_on hon]; exact Safety.fail_safe hs 7⟩
  · exact ⟨_, execDiagnosticFailure_eq cause s, by
      rw [State.onSafety_on hon, Safety.diagnose_cause h0 h12]; exact Safety.fail_safe hs cause⟩
  -- start and sag
  · rw [execSafetyStartComplete_eq, State.onSafety_on hon, Safety.startComplete_runs h1 h2 h3 h4 h5 h6]
  · rw [execSafetyStartComplete_eq, State.onSafety_on hon, Safety.startComplete_waits hn]
  · exact ⟨_, execSafetySag_eq s, by
      rw [State.safetySag, State.quiet_power, if_pos hm, State.onSafety_on hon]; exact Safety.sagged_shows x⟩
  · rw [execSafetySag_eq, State.safetySag, State.quiet_power, if_neg hm]
  -- the status
  · rw [execSafetyStatus_eq, State.safetyStatus_copied (s := u) hon hr hs]
    rfl
  · rw [execSafetyStatus_eq, State.safetyStatus_unheard (s := u) hon hr hs]
  · exact ⟨_, execSafetyStatus_eq now s, State.safetyStatus_sagged (s := u) hon hs now⟩
  -- the programming port
  · rw [execProgrammingPage_eq, State.onSafety_on hon, Safety.programPage_bad offset h page hx hb]
  · exact ⟨_, (execProgrammingPage_eq ..).trans (congrArg _ (State.onSafety_on hon _)),
      Safety.programPage_next offset h page hx hc ho hl⟩
  · rw [execProgrammingPage_eq, State.onSafety_on hon, Safety.programPage_notHeld offset h page hx]

end Sys2Proof.Machine
end

section
/-! PROOFS. Field IO: the exchange, the frames of both sides, overloads and the field supply. -/

namespace Sys2Proof.Machine

open Sys2Proof

/-! ### Frames to the field side (R375, R377) -/

section received
variable {x : Fio} {w : Word}

/-- A frame with a right CRC and the SEQ expected: what the field side has taken of it. -/
theorem Fio.received_good (hc : fioCrcOk w = true) (hs : ∀ e, x.fSeq = some e → e = bits w 31 30) : x.received w =
    { x with fSeq := some ((bits w 31 30 + 1) % 4), fBad := 0, fGood := min 16 (x.fGood + 1), fOut := bits w 29 22,
             fSafe := if x.fHeld && decide (min 16 (x.fGood + 1) < 16) then x.fSafe else bits w 21 14, fLast := bits w 31 30,
             fHeld := x.fHeld && decide (min 16 (x.fGood + 1) < 16) } := by
  have hseq : x.fSeq.any (fun s => s != bits w 31 30) = false := by
    cases h : x.fSeq with
    | none => rfl
    | some e => simp [hs e h]
  unfold Fio.received
  rw [if_neg (by simp [hc]), if_neg (by simp [hseq])]

/-- A frame with a wrong CRC or another SEQ is a bad frame, whatever SEQ comes next. -/
theorem Fio.received_bad (h : fioCrcOk w = false ∨ ∃ e, x.fSeq = some e ∧ e ≠ bits w 31 30) :
    ∃ next, x.received w = x.fieldBad next := by
  unfold Fio.received
  split
  · exact ⟨_, rfl⟩
  · rename_i hc
    obtain h | ⟨e, he, hne⟩ := h
    · exact absurd (by simp [h]) hc
    · rw [if_pos (by simp [he, hne])]
      exact ⟨_, rfl⟩

end received

theorem Lane.frameToField_runs {L : Lane} (h : L.fioRuns = true) (err : Word) :
    (L.frameToField err).fio = (L.fioSent.fio).received (L.fioFrame ^^^ err) := by
  rw [Lane.frameToField, if_neg (by simp [h])]
  rfl

/-! ### Frames from the field side (R375, R377, R378) -/

/-- The fault bit leaves the frames and the image of the group; only its going ends the zeroed image. -/
theorem Lane.setFault_fio (L : Lane) (v : Bool) (why : Nat) (now : Int) :
    ∃ z, (L.setFault v why now).fio = { L.fio with zeroed := z } := by
  unfold Lane.setFault
  split
  · exact ⟨_, rfl⟩
  · dsimp only
    split <;> exact ⟨_, rfl⟩

/-- A frame with a right CRC and a SEQ one or two behind sets the pin image. -/
theorem Lane.fioReceived_good {L : Lane} {w : Word} (hc : fioCrcOk w = true)
    (ha : (L.fio.txSeq + 4 - bits w 31 30) % 4 = 1 ∨ (L.fio.txSeq + 4 - bits w 31 30) % 4 = 2) (now : Int) :
    ∃ z c, (L.fioReceived w now).fio =
      { L.fio with rxBad := 0, rxGood := min 16 (L.fio.rxGood + 1), rxClear := c, pin := bits w 29 22, zeroed := z } := by
  unfold Lane.fioReceived
  dsimp only
  rw [if_neg (by rcases ha with ha | ha <;> simp [hc, ha])]
  split
  · obtain ⟨z, hz⟩ := Lane.setFault_fio _ true 0 now
    exact ⟨z, _, hz⟩
  · split
    · obtain ⟨z, hz⟩ := Lane.setFault_fio _ false 0 now
      exact ⟨z, _, hz⟩
    · exact ⟨_, _, rfl⟩

theorem Lane.fioReceived_bad {L : Lane} {w : Word} (h : fioCrcOk w = false ∨ (L.fio.txSeq + 4 - bits w 31 30) % 4 = 0 ∨
    (L.fio.txSeq + 4 - bits w 31 30) % 4 = 3) (now : Int) : L.fioReceived w now = L.fioBad now := by
  refine if_pos ?_
  rcases h with h | h | h <;> simp [h]

theorem Lane.frameFromField_runs {L : Lane} (h : L.fioRuns = true) (rx : FieldRx) (now : Int) :
    L.frameFromField rx now = ({ L with fio := L.fio.sampled L.outPins rx.pins } : Lane).fioReceived
      ((L.fio.sampled L.outPins rx.pins).frame ^^^ rx.err) now := by
  rw [Lane.frameFromField, if_neg (by simp [h])]
  rfl

/-- Settles O33: each frame is good or bad for the side that receives it, and the law of that case says what it does. A SEQ
one or two behind, and the SEQ after a bad frame, are assumption log 129. -/
theorem fieldIoFrames : Obligations.FieldIoFrames := by
  intro s l err rx now L x K w seq good F v age hrun
  refine ⟨?_, fun hc hs => ?_, fun hb => ?_, fun hc ha => ?_, fun hb => ?_, ?_, ?_⟩
  -- the exchange
  · rw [execFieldIoExchange_eq, Lane.fioExchange, if_neg (by simp [hrun, L])]
    rfl
  -- a frame to the field side
  · refine ⟨_, execFieldIoFrameToField_eq l err s, ?_⟩
    rw [State.put_lane, Lane.frameToField_runs hrun, Fio.received_good (x := K.fio) hc hs]
    refine ⟨rfl, ?_, ?_, rfl, rfl, rfl, rfl⟩
    · simp [Lane.fioSent, Lane.setFio, K, good, x]
    · simp [Lane.fioSent, Lane.setFio, K, good, x]
  · obtain ⟨next, hbad⟩ := Fio.received_bad (x := K.fio) hb
    refine ⟨_, execFieldIoFrameToField_eq l err s, ?_⟩
    rw [State.put_lane, Lane.frameToField_runs hrun, hbad]
    exact ⟨rfl, rfl, rfl, rfl, by simp [Fio.fieldBad]; rfl⟩
  -- a frame from the field side
  · obtain ⟨z, c, hgood⟩ := Lane.fioReceived_good (L := { L with fio := F }) hc ha now
    refine ⟨_, execFieldIoFrameFromField_eq l rx now s, ?_⟩
    rw [State.put_lane, Lane.frameFromField_runs hrun, hgood]
    exact ⟨rfl, rfl, rfl, rfl, rfl⟩
  · rw [execFieldIoFrameFromField_eq, Lane.frameFromField_runs hrun, Lane.fioReceived_bad (L := { L with fio := F }) (w := v) hb]
  -- a frame overdue
  · rw [execFieldIoFrameTimeout_eq, Lane.frameTimeout, if_neg Bool.false_ne_true, if_pos hrun]
  · rw [execFieldIoFrameTimeout_eq, Lane.frameTimeout, if_pos rfl, if_pos hrun]
    rfl

/-! ### Overloads and the field supply (R378, R446) -/

/-- A number less its bits in common with another has the bits that the other has not. -/
theorem testBit_sub_and (v o i : Nat) : (v - (v &&& o)).testBit i = (v.testBit i && !o.testBit i) := by
  have hle : v &&& o ≤ v := Nat.and_le_left
  have hlow : (v &&& o) % 2 = v % 2 &&& o % 2 := Nat.and_mod_two_pow (n := 1)
  have hlow' : v % 2 &&& o % 2 ≤ v % 2 := Nat.and_le_left
  induction i generalizing v o with
  | zero =>
    have hbit : (v - (v &&& o)) % 2 = v % 2 - (v % 2 &&& o % 2) := by omega
    rw [Nat.testBit_zero, Nat.testBit_zero, Nat.testBit_zero, hbit]
    rcases Nat.mod_two_eq_zero_or_one v with hv | hv <;> rcases Nat.mod_two_eq_zero_or_one o with ho | ho <;> simp [hv, ho]
  | succ i ih =>
    have hdiv : (v - (v &&& o)) / 2 = v / 2 - (v / 2 &&& o / 2) := by
      rw [← Nat.and_div_two]
      omega
    rw [Nat.testBit_succ, Nat.testBit_succ, Nat.testBit_succ, hdiv]
    exact ih _ _ Nat.and_le_left (Nat.and_mod_two_pow (n := 1)) Nat.and_le_left

/-- An output that is off in overload is not driven. -/
theorem Fio.drives_overloaded {x : Fio} {pin : Nat} (h : x.fOver.testBit pin = true) : x.drives.testBit pin = false := by
  unfold Fio.drives
  split
  · exact Nat.zero_testBit pin
  · rw [testBit_sub_and, h, Bool.not_true, Bool.and_false]

/-- Settles O34: each command changes one mark of the group, and what the field side drives is masked by the marks
(`Fio.drives_overloaded`). -/
theorem fieldOutputsProtectThemselves : Obligations.FieldOutputsProtectThemselves := by
  intro s l pin low L
  refine ⟨fun ho hn => ?_, fun hv => ?_, ?_, ?_, Fio.drives_overloaded⟩
  · rw [execOutputOverload_eq, Lane.overload, if_pos (by simp [ho, hn, L])]
    rfl
  · rw [execOverloadRetry_eq, Lane.overloadRetry, if_pos (by simp [hv, L])]
    rfl
  · rw [execOverloadRetry_eq, Lane.overloadRetry, if_neg (by simp)]
  · refine ⟨_, execFieldSupplyLow_eq l low s, ?_⟩
    rw [State.put_lane]
    exact ⟨rfl, fun h => if_pos h⟩

end Sys2Proof.Machine
end

section
/-! PROOFS. Datum time: messages heard and sent, and pulses. -/

namespace Sys2Proof.Machine

open Sys2Proof

/-! ### Conversion, candidates and ports (R273, R283) -/

theorem Lane.convert_eq_or (L : Lane) (raw : Nat) : (L.convert raw).2 = L ∨ (L.convert raw).2 = L.bump .DTM_CONV_OLD := by
  unfold Lane.convert
  split
  · exact .inl rfl
  · exact .inr rfl

@[simp] theorem Lane.convert_datum (L : Lane) (raw : Nat) : (L.convert raw).2.datum = L.datum := by
  rcases L.convert_eq_or raw with h | h <;> rw [h]
  exact L.bump_datum ..

theorem Lane.convert_reg (L : Lane) (raw : Nat) {r : Reg} (h : r ≠ .DTM_CONV_OLD) (i j : Nat) :
    (L.convert raw).2.reg r i j = L.reg r i j := by
  rcases L.convert_eq_or raw with h' | h' <;> rw [h']
  exact L.setReg_reg_other h ..

theorem Lane.dstate_of_reg {L M : Lane} (h : M.reg .DTM_STAT = L.reg .DTM_STAT) : M.dstate = L.dstate := by
  rw [Lane.dstate, Lane.fld, h, Lane.dstate, Lane.fld]

theorem Lane.cand_of_datum {L M : Lane} (h : M.datum = L.datum) (c : Nat) : M.cand c = L.cand c := by
  rw [Lane.cand, h, Lane.cand]

@[simp] theorem Lane.setCand_cand_self (L : Lane) (c : Nat) (x : Cand) : (L.setCand c x).cand c = x := NMap.getD_put_self ..

theorem Lane.setCand_cand_ne (L : Lane) {c k : Nat} (h : k ≠ c) (x : Cand) : (L.setCand c x).cand k = L.cand k :=
  NMap.getD_put_ne _ h _ _

@[simp] theorem Lane.setPtpPort_ptpPort_self (L : Lane) (p : Nat) (x : PtpPort) : (L.setPtpPort p x).ptpPort p = x :=
  NMap.getD_put_self ..

theorem Lane.setPtpPort_ptpPort_ne (L : Lane) {p q : Nat} (h : q ≠ p) (x : PtpPort) :
    (L.setPtpPort p x).ptpPort q = L.ptpPort q := NMap.getD_put_ne _ h _ _

@[simp] theorem Lane.showCount_datum (L : Lane) (c : Nat) : (L.showCount c).datum = L.datum := by
  unfold Lane.showCount
  split <;> rfl

/-- Outside a switch every interval counts (R286). -/
theorem Lane.countCand_cand_steady {L : Lane} (hs : L.dstate ≠ dSwitching) (c : Nat) (x : Cand) (consecutive : Bool) :
    (L.countCand c x consecutive).cand c = { x with count := if consecutive then x.count + 1 else 1 } := by
  have hwait : (L.dstate == dSwitching) = false := beq_eq_false_iff_ne.mpr hs
  rw [Lane.countCand, Lane.cand_of_datum (Lane.showCount_datum ..), Lane.setCand_cand_self, hwait, Bool.false_and,
    Bool.false_and, if_neg Bool.false_ne_true]

/-! ### What a switch and a measurement leave of the candidates (R285) -/

/-- What is known of the candidates and of the pulses, apart from counts and from what was said of the reference. -/
def Lane.known (L : Lane) : (Nat → Bool × Bool × Int) × Option Int × Nat :=
  (fun k => ((L.cand k).qual, (L.cand k).barred, (L.cand k).theta), L.datum.ppsPrev, L.datum.ppsBad)

theorem Lane.known_cand {L M : Lane} (h : M.known = L.known) (k : Nat) :
    (M.cand k).qual = (L.cand k).qual ∧ (M.cand k).barred = (L.cand k).barred ∧ (M.cand k).theta = (L.cand k).theta := by
  have := congrFun (congrArg Prod.fst h) k
  simpa [Lane.known] using this

theorem Lane.known_pps {L M : Lane} (h : M.known = L.known) :
    M.datum.ppsPrev = L.datum.ppsPrev ∧ M.datum.ppsBad = L.datum.ppsBad := by
  simpa [Lane.known] using congrArg Prod.snd h

/-- A candidate changes in what is not judged of it. -/
theorem Lane.setCand_known (L : Lane) (c : Nat) {x : Cand}
    (h : (x.qual, x.barred, x.theta) = ((L.cand c).qual, (L.cand c).barred, (L.cand c).theta)) :
    (L.setCand c x).known = L.known := by
  refine Prod.ext (funext fun k => ?_) rfl
  by_cases hk : k = c
  · subst hk
    simpa [Lane.known] using h
  · simp [Lane.known, L.setCand_cand_ne hk]

theorem Lane.leaveRef_known (L : Lane) (now : Int) : (L.leaveRef now).known = L.known := by
  unfold Lane.leaveRef
  split
  · exact L.setCand_known _ rfl
  · rfl
  · rfl

theorem Lane.clearCount_known (L : Lane) (c : Nat) : (L.clearCount c).known = L.known := by
  have h : (L.setCand c { L.cand c with count := 0 }).known = L.known := L.setCand_known c rfl
  unfold Lane.clearCount
  split
  · exact h
  · exact h

/-- What every round keeps, the loop keeps. -/
theorem Lane.foldTo_of {α : Type} (g : Lane → α) {f : Lane → Nat → Lane} (h : ∀ (M : Lane) (k : Nat), g (f M k) = g M) (n : Nat)
    (L : Lane) : g (foldTo n f L) = g L := foldl_keep g f h _ L

theorem Lane.ite_keep {α : Type} (g : Lane → α) {M N : Lane} {p : Prop} [Decidable p] (h : g N = g M) :
    g (if p then N else M) = g M := by
  split
  · exact h
  · rfl

theorem Lane.showRef_datum (L : Lane) (c : Nat) : (L.showRef c).datum = L.datum := by
  have h : (foldTo 4 (fun L p => L.setFlag .DTM_PORT_STAT 26 (p == c) p) L).datum = L.datum :=
    Lane.foldTo_of (·.datum) (fun _ _ => rfl) 4 L
  unfold Lane.showRef
  dsimp only
  split
  · exact h
  · exact h

/-- The datum without the slew, the ports' exchanges and the time of the last LOCKED. -/
def Datum.core (D : Datum) : Datum := { D with slew := none, ports := ⟨[]⟩, lockEnd := none }

theorem Lane.showDatum_datum (L : Lane) (a b : Bool) : (L.showDatum a b).datum = L.datum := by
  rw [Lane.showDatum, Lane.setFlag_datum, Lane.setFlag_datum]

/-- A change of state ends a slew, clears the ports' holdover marks and notes when LOCKED was left; it leaves the rest. -/
theorem Lane.enterDatum_core (L : Lane) (st : Nat) (now : Int) : (L.enterDatum st now).datum.core = L.datum.core := by
  unfold Lane.enterDatum
  dsimp only
  split
  · rfl
  · rw [Lane.raise_datum]
    refine .trans (Lane.ite_keep (·.datum.core) ?_) ?_
    · rfl
    refine .trans (Lane.ite_keep (·.datum.core) ?_) ?_
    · rfl
    refine .trans (Lane.ite_keep (·.datum.core) ?_) ?_
    · rw [Lane.bump_datum]
    rw [Lane.showDatum_datum, Lane.setFld_datum]
    exact Lane.ite_keep (·.datum.core) rfl

theorem Datum.core_keeps {D E : Datum} (h : D.core = E.core) :
    D.cands = E.cands ∧ D.ref = E.ref ∧ D.swNs = E.swNs ∧ D.ppsPrev = E.ppsPrev ∧ D.ppsBad = E.ppsBad := by
  injection h with _ _ hcands _ href _ hsw _ _ _ _ _ hprev hbad
  exact ⟨hcands, href, hsw, hprev, hbad⟩

theorem Lane.known_of_core {L M : Lane} (h : M.datum.core = L.datum.core) : M.known = L.known := by
  obtain ⟨hcands, -, -, hprev, hbad⟩ := Datum.core_keeps h
  simp only [Lane.known, Lane.cand, hcands, hprev, hbad]

theorem Lane.commitSwitch_known (L : Lane) (c : Nat) (now : Int) : (L.commitSwitch c now).known = L.known := by
  have hclear (M : Lane) (k : Nat) : (if k = c || (M.cand k).qual then M else M.clearCount k).known = M.known := by
    split
    · rfl
    · exact M.clearCount_known k
  have hshow (M : Lane) : ((M.showRef c).bump .DTM_SWITCH_CNT).known = M.known := by
    simp only [Lane.known, Lane.cand, Lane.bump_datum, Lane.showRef_datum]
  unfold Lane.commitSwitch
  dsimp only
  rw [Lane.known_of_core (Lane.enterDatum_core ..), hshow]
  generalize hN : foldTo 5 _ _ = N
  have hfold : N.known = L.known := by
    rw [← hN]
    exact (Lane.foldTo_of (·.known) hclear 5 _).trans (L.leaveRef_known now)
  exact (N.setCand_known c (x := { N.cand c with curNs := some now }) rfl).trans hfold

theorem Lane.trySwitch_eq_or (L : Lane) (now : Int) : L.trySwitch now = L ∨ ∃ c, L.trySwitch now = L.commitSwitch c now := by
  unfold Lane.trySwitch
  dsimp only
  split
  · exact .inr ⟨_, rfl⟩
  · exact .inl rfl

theorem Lane.trySwitch_known (L : Lane) (now : Int) : (L.trySwitch now).known = L.known := by
  obtain h | ⟨c, h⟩ := L.trySwitch_eq_or now
  · rw [h]
  · rw [h, Lane.commitSwitch_known]

theorem Lane.trySwitch_reg (L : Lane) {r : Reg} (hr : r ∉ steerRegs) (now : Int) : (L.trySwitch now).reg r = L.reg r := by
  obtain h | ⟨c, h⟩ := L.trySwitch_eq_or now
  · rw [h]
  · rw [h, Lane.commitSwitch_reg hr]

/-- The registers that a measured offset shows itself in. -/
def thetaRegs : List Reg := [.DTM_THETA, .DTM_STEP_LO, .DTM_STEP_HI, .DTM_RATE_TGT_LO, .DTM_RATE_TGT_HI]

/-- A measured offset of the reference steers, and leaves what is known of the candidates and the other registers. -/
theorem Lane.refTheta_keeps (L : Lane) (theta now : Int) {r : Reg} (hr : r ∉ thetaRegs) :
    (L.refTheta theta now).known = L.known ∧ (L.refTheta theta now).reg r = L.reg r := by
  obtain ⟨h1, h2, h3, h4, h5⟩ : r ≠ .DTM_THETA ∧ r ≠ .DTM_STEP_LO ∧ r ≠ .DTM_STEP_HI ∧ r ≠ .DTM_RATE_TGT_LO ∧
      r ≠ .DTM_RATE_TGT_HI := by simpa [thetaRegs] using hr
  have htheta (v : Word) : (L.setReg .DTM_THETA v).reg r = L.reg r := L.setReg_reg_other h1 v 0 0 0 0
  have hstep (M : Lane) (v : Nat) : (M.setNum64 .DTM_STEP_LO .DTM_STEP_HI v).reg r = M.reg r := M.setNum64_reg h2 h3 v 0 0 0
  have hrate (M : Lane) : M.writeTarget.reg r = M.reg r := M.setNum64_reg h4 h5 _ 0 0 0
  unfold Lane.refTheta
  dsimp only
  split
  · split
    · exact ⟨rfl, (hstep ..).trans (htheta _)⟩
    · exact ⟨rfl, htheta _⟩
  · split
    · split
      · exact ⟨rfl, (hrate _).trans (htheta _)⟩
      · exact ⟨rfl, (hrate _).trans (htheta _)⟩
    · exact ⟨rfl, htheta _⟩

theorem Lane.takeTheta_eq (L : Lane) (c : Nat) (theta now : Int) :
    L.takeTheta c theta now = if L.datum.ref == some c && L.datum.held.isNone then
      (L.setCand c { L.cand c with theta := theta, meas := true }).refTheta theta now
      else L.setCand c { L.cand c with theta := theta, meas := true } := rfl

theorem Lane.takeTheta_keeps (L : Lane) (c : Nat) (theta now : Int) {r : Reg} (hr : r ∉ thetaRegs) :
    (L.takeTheta c theta now).known = (L.setCand c { L.cand c with theta := theta, meas := true }).known ∧
    (L.takeTheta c theta now).reg r = L.reg r := by
  rw [Lane.takeTheta_eq]
  split
  · exact Lane.refTheta_keeps _ theta now hr
  · exact ⟨rfl, rfl⟩

theorem Lane.countCand_reg (L : Lane) (c : Nat) (x : Cand) (consecutive : Bool) {r : Reg}
    (hr : r ∉ [Reg.DTM_PORT_STAT, .DTM_STAT]) : (L.countCand c x consecutive).reg r = L.reg r := by
  obtain ⟨h1, h2⟩ : r ≠ .DTM_PORT_STAT ∧ r ≠ .DTM_STAT := by simpa using hr
  unfold Lane.countCand Lane.showCount
  dsimp only
  rw [Lane.setFld, Lane.setReg_reg_other _ h2]
  exact Lane.ite_reg (Lane.setReg_reg_other _ h1 ..)

/-! ### 1PPS (R281) -/

/-- A pulse an exact number of seconds after the last: it is counted, and its offset is that to the nearest second. -/
def Lane.goodPulse (L : Lane) (t th : Int) : Lane :=
  let M := ({ L with datum := { L.datum with ppsPrev := some t, ppsBad := 0 } } : Lane).bump .DTM_PPS_CNT
  let x := L.cand candPps
  ((M.countCand candPps { x with heard := true, lastNs := nsOf t } (decide (nsOf t < x.lastNs + 3 * secNs / 2))).takeTheta
    candPps th (nsOf t)).trySwitch (nsOf t)

theorem Lane.goodPulse_shows (L : Lane) (t th : Int) :
    (L.goodPulse t th).datum.ppsPrev = some t ∧ (L.goodPulse t th).datum.ppsBad = 0 ∧
    (L.goodPulse t th).reg .DTM_PPS_CNT = L.reg .DTM_PPS_CNT + 1 ∧ ((L.goodPulse t th).cand candPps).theta = th := by
  unfold Lane.goodPulse
  dsimp only
  generalize hM : (({ L with datum := { L.datum with ppsPrev := some t, ppsBad := 0 } } : Lane).bump .DTM_PPS_CNT) = M
  generalize hN : M.countCand candPps _ _ = N
  obtain ⟨htheta, hreg⟩ := Lane.takeTheta_keeps N candPps th (nsOf t) (r := .DTM_PPS_CNT) (by decide)
  have hj := (Lane.trySwitch_known (N.takeTheta candPps th (nsOf t)) (nsOf t)).trans htheta
  obtain ⟨hprev, hbad⟩ := Lane.known_pps hj
  obtain ⟨-, -, hth⟩ := Lane.known_cand hj candPps
  have hND : N.datum.ppsPrev = M.datum.ppsPrev ∧ N.datum.ppsBad = M.datum.ppsBad := by
    rw [← hN, Lane.countCand, Lane.showCount_datum]
    exact ⟨rfl, rfl⟩
  refine ⟨hprev.trans (hND.1.trans ?_), hbad.trans (hND.2.trans ?_), ?_, ?_⟩
  · rw [← hM]
    rfl
  · rw [← hM]
    rfl
  · rw [Lane.trySwitch_reg _ (by decide), hreg, ← hN, Lane.countCand_reg _ _ _ _ (by decide), ← hM]
    simp [w32]
    rfl
  · rw [hth, Lane.setCand_cand_self]

/-- The nearest number of seconds. -/
def nearSecond (x : Int) : Int := (x + 65536 * 1000000000 / 2) / (65536 * 1000000000) * (65536 * 1000000000)

/-- A pulse is within 1 microsecond of a whole number of seconds after the last, if there was one. -/
def pulseOk (t : Int) (prev : Option Int) : Bool := match prev with
  | none => true
  | some q => decide ((t - q - nearSecond (t - q)).natAbs ≤ 65536 * 1000 ∧ 0 < nearSecond (t - q))

/-- A pulse elsewhere is one more bad pulse in a row, and the count begins again. -/
def Lane.badPulse (L : Lane) : Lane :=
  ({ L with datum := { L.datum with ppsBad := L.datum.ppsBad + 1 } } : Lane).setCand candPps { L.cand candPps with count := 0 }

theorem Lane.takePps_eq {L : Lane} (hs : L.inService = true) (hp : L.flag .DTM_CFG 31 = true) (raw : Nat) :
    let P := L.convert raw
    let t := P.1 - (L.fld .DTM_PPS_DLY 19 0 : Int) * 65536
    L.takePps raw = if pulseOk t L.datum.ppsPrev then P.2.goodPulse t (nsOf (nearSecond t - t)) else P.2.badPulse := by
  have hdly : (L.convert raw).2.fld .DTM_PPS_DLY 19 0 = L.fld .DTM_PPS_DLY 19 0 := by
    rw [Lane.fld, L.convert_reg raw (by decide), Lane.fld]
  have hprev : (L.convert raw).2.datum.ppsPrev = L.datum.ppsPrev := by rw [L.convert_datum]
  dsimp only
  rw [← hdly, ← hprev]
  unfold Lane.takePps
  rw [if_neg (by simp [hs, hp])]
  rfl

/-! ### Messages heard (R279, R280, R283, R286) -/

theorem Lane.convert_ptpMode (L : Lane) (i raw p : Nat) :
    ((L.bump .DTM_PORT_RXCNT i).convert raw).2.ptpMode p = L.ptpMode p := by
  rw [Lane.ptpMode, Lane.fld, Lane.convert_reg _ _ (by decide), Lane.bump, Lane.setReg_reg_other _ (by decide)]
  rfl

theorem Lane.bump_ptpMode (L : Lane) (i p : Nat) : (L.bump .DTM_PORT_RXCNT i).ptpMode p = L.ptpMode p := by
  rw [Lane.ptpMode, Lane.fld, Lane.bump, Lane.setReg_reg_other _ (by decide)]
  rfl

/-- A port that is no transparent clock's is a slave by its own mode. -/
theorem Lane.slaveCapable_of_mode {L M : Lane} {p : Nat} (h : M.ptpMode p = L.ptpMode p) (h4 : L.ptpMode p ≠ 4) :
    M.slaveCapable p = L.slaveCapable p := by
  simp only [Lane.slaveCapable, h, beq_eq_false_iff_ne.mpr h4, Bool.false_and]

/-- A message on a port that is no transparent clock's is not passed on. -/
theorem Lane.not_passedOn {M : Lane} {p : Nat} (h4 : M.ptpMode p ≠ 4) (N : Lane) :
    (if M.ptpMode p = 4 && M.tcOn then N else M) = M := if_neg (by simp [h4])

section taken
variable {L : Lane} {m : PtpHead} (ht : L.ptpTakes m = true)
include ht

theorem Lane.takeSync_slave (hc : L.slaveCapable m.port = true) (h4 : L.ptpMode m.port ≠ 4) (rx tx : Nat) (origin : Int) (two : Bool) :
    L.takeSync m rx tx origin two = (let A := (L.bump .DTM_PORT_RXCNT m.port).convert rx
      if two then A.2.setPtpPort m.port { A.2.ptpPort m.port with syncSeq := some (m.seq, A.1, m.corr) }
      else A.2.syncDone m origin m.corr A.1) := by
  have hm := L.convert_ptpMode m.port rx m.port
  unfold Lane.takeSync
  dsimp only
  rw [if_neg (by simp [ht]), Lane.not_passedOn (hm ▸ h4), Lane.slaveCapable_of_mode hm h4, hc]
  rfl

theorem Lane.takeFollowUp_completes (h4 : L.ptpMode m.port ≠ 4) {t2 c : Int}
    (hsync : (L.ptpPort m.port).syncSeq = some (m.seq, t2, c)) (origin : Int) :
    L.takeFollowUp m origin = ((L.bump .DTM_PORT_RXCNT m.port).setPtpPort m.port
      { L.ptpPort m.port with syncSeq := none }).syncDone m origin (c + m.corr) t2 := by
  have hm := L.bump_ptpMode m.port m.port
  have hport : (L.bump .DTM_PORT_RXCNT m.port).ptpPort m.port = L.ptpPort m.port := rfl
  unfold Lane.takeFollowUp
  dsimp only
  rw [if_neg (by simp [ht]), Lane.not_passedOn (hm ▸ h4), hport, hsync]
  exact if_pos rfl

theorem Lane.takePdelayResp_own {rx : Nat} {t1 : Int}
    (hreq : (((L.bump .DTM_PORT_RXCNT m.port).convert rx).2.ptpPort m.port).reqSeq = some (m.seq, t1)) (t : Int) (two : Bool) :
    L.takePdelayResp m rx t two = (let A := (L.bump .DTM_PORT_RXCNT m.port).convert rx
      if two then A.2.setPtpPort m.port { A.2.ptpPort m.port with resp := some (A.1, t, m.corr) }
      else (A.2.setPtpPort m.port { A.2.ptpPort m.port with reqSeq := none }).setPdelay m.port (A.1 - t1 - m.corr)) := by
  unfold Lane.takePdelayResp
  dsimp only
  rw [if_neg (by simp [ht]), hreq]
  exact if_neg (by simp)

theorem Lane.takePdelayFollowUp_own {t1 t4 t2 c : Int} (hreq : (L.ptpPort m.port).reqSeq = some (m.seq, t1))
    (hresp : (L.ptpPort m.port).resp = some (t4, t2, c)) (t : Int) :
    L.takePdelayFollowUp m t = ((L.bump .DTM_PORT_RXCNT m.port).setPtpPort m.port
      { L.ptpPort m.port with reqSeq := none, resp := none }).setPdelay m.port ((t4 - t1) - (t - t2) - c - m.corr) := by
  have hport : (L.bump .DTM_PORT_RXCNT m.port).ptpPort m.port = L.ptpPort m.port := rfl
  unfold Lane.takePdelayFollowUp
  dsimp only
  rw [if_neg (by simp [ht]), hport, hreq, hresp]
  exact if_neg (by simp)

theorem Lane.takeAnnounce_slave (hc : L.slaveCapable m.port = true) (h4 : L.ptpMode m.port ≠ 4) (ds : DataSet) (utc : UtcInfo)
    (now : Int) :
    L.takeAnnounce m ds utc now = (
      let K := L.bump .DTM_PORT_RXCNT m.port
      let heard := K.foreignWith m ds now
      let b := bestForeign ⟨m.src, ds, now⟩ heard
      let F : Lane := { K with datum := { K.datum with
        foreign := K.datum.foreign.put m.port heard,
        held := K.datum.held.map (fun h =>
          if K.datum.ref = some m.port ∧ h.src = m.src then { h with ds := ds, lastNs := now } else h) } }
      let x := L.cand m.port
      let G := if !x.heard || x.src != b.src then F.changeMaster m.port b now
        else if x.src == m.src then F.sameMaster m.port ds now
        else F
      (G.refAnnounce m ds utc).trySwitch now) := by
  have hm := L.bump_ptpMode m.port m.port
  unfold Lane.takeAnnounce
  dsimp only
  rw [if_neg (by simp [ht]), Lane.not_passedOn (hm ▸ h4), Lane.slaveCapable_of_mode hm h4, hc]
  simp only [Bool.not_true, Bool.false_eq_true, if_false, Bool.and_eq_true, beq_iff_eq]
  rfl

end taken

/-- A new master of a port that the datum does not steer by begins its count at one, not qualified. -/
theorem Lane.changeMaster_cand {L : Lane} {p : Nat} (hs : L.dstate ≠ dSwitching) (hr : L.datum.ref ≠ some p) (b : Foreign)
    (now : Int) : ((L.changeMaster p b now).cand p).count = 1 ∧ ((L.changeMaster p b now).cand p).src = b.src ∧
      ((L.changeMaster p b now).cand p).ds = b.ds ∧ ((L.changeMaster p b now).cand p).qual = false := by
  have hstate (M : Lane) (hM : M.reg .DTM_STAT = L.reg .DTM_STAT) : (M.setFlag .DTM_PORT_STAT 27 false p).dstate ≠ dSwitching := by
    have hreg : (M.setFlag .DTM_PORT_STAT 27 false p).reg .DTM_STAT = M.reg .DTM_STAT := M.setReg_reg_other (by decide) ..
    rwa [Lane.dstate_of_reg (hreg.trans hM)]
  have hx : ¬ (L.datum.ref == some p) = true := by simpa using hr
  unfold Lane.changeMaster
  dsimp only
  rw [Bool.eq_false_of_not_eq_true hx, Bool.false_and, Bool.false_and, Bool.false_and, if_neg Bool.false_ne_true]
  dsimp only
  rw [Lane.countCand_cand_steady]
  · exact ⟨rfl, rfl, rfl, rfl⟩
  · exact hstate _ (Lane.ite_keep (·.reg .DTM_STAT) rfl)

/-- An Announce of the port's own candidate counts from half an interval after the last (R286). -/
theorem Lane.sameMaster_counts {L : Lane} {p : Nat} (hs : L.dstate ≠ dSwitching) (ds : DataSet) {now : Int}
    (h : (L.cand p).lastNs + L.annInterval p / 2 ≤ now) : (L.sameMaster p ds now).cand p = { L.cand p with
      ds := ds, lastNs := now, count := if now < (L.cand p).lastNs + 2 * L.annInterval p then (L.cand p).count + 1 else 1 } := by
  unfold Lane.sameMaster
  dsimp only
  rw [if_neg (by omega), Lane.countCand_cand_steady hs]
  simp only [decide_eq_true_eq]

theorem Lane.sameMaster_early {L : Lane} {p : Nat} (ds : DataSet) {now : Int} (h : now < (L.cand p).lastNs + L.annInterval p / 2) :
    (L.sameMaster p ds now).cand p = { L.cand p with ds := ds } := by
  unfold Lane.sameMaster
  dsimp only
  rw [if_pos h, Lane.setCand_cand_self]

/-- Settles O41: each message that is taken has its law; the announce interval halves, doubles and begins again as assumption
log 90 has it. -/
theorem datumHearsMessages : Obligations.DatumHearsMessages := by
  intro s l m ds utc rx tx origin t two now L K A
  refine ⟨execPtpMessageIgnored_eq l m.port s, fun hn => ?_, fun ht hc h4 => ⟨?_, ?_, ?_⟩, fun ht => ⟨?_, ?_, ?_⟩,
    fun ht hc h4 => ⟨?_, ?_, ?_⟩, ?_, fun hs hp => ⟨?_, ?_⟩⟩
  -- not taken
  · have hpass (M : Lane) : (if !L.ptpTakes m then L.ptpIgnored m.port else M) = L.bump .DTM_PORT_ERR m.port := by
      rw [if_pos (by simp [hn])]
      rfl
    simp only [List.forall_mem_cons, List.not_mem_nil, false_implies, implies_true, and_true]
    refine ⟨?_, ?_, ?_, ?_, ?_, ?_⟩
    · exact (execAnnounce_eq ..).trans (by rw [Lane.takeAnnounce, hpass])
    · exact (execSync_eq ..).trans (by rw [Lane.takeSync, hpass])
    · exact (execFollowUp_eq ..).trans (by rw [Lane.takeFollowUp, hpass])
    · exact (execPdelayReq_eq ..).trans (by rw [Lane.takePdelayReq, hpass])
    · exact (execPdelayResp_eq ..).trans (by rw [Lane.takePdelayResp, hpass])
    · exact (execPdelayRespFollowUp_eq ..).trans (by rw [Lane.takePdelayFollowUp, hpass])
  -- Sync
  · rw [execSync_eq, Lane.takeSync_slave ht hc h4]
    rfl
  · rw [execSync_eq, Lane.takeSync_slave ht hc h4]
    rfl
  · intro t2 c hsync _
    rw [execFollowUp_eq, Lane.takeFollowUp_completes ht h4 hsync]
  -- the peer delay
  · rw [execPdelayReq_eq, Lane.takePdelayReq, if_neg (by simp [ht, L])]
  · intro t1 hreq
    constructor
    · rw [execPdelayResp_eq, Lane.takePdelayResp_own ht hreq]
      rfl
    · rw [execPdelayResp_eq, Lane.takePdelayResp_own ht hreq]
      rfl
  · intro t1 t4 t2 c hreq hresp
    rw [execPdelayRespFollowUp_eq, Lane.takePdelayFollowUp_own ht hreq hresp]
  -- Announce
  · intro hnew
    rw [execAnnounce_eq, Lane.takeAnnounce_slave ht hc h4]
    dsimp only
    rw [if_pos (by simpa using hnew)]
  · intro hh hb hm
    rw [execAnnounce_eq, Lane.takeAnnounce_slave ht hc h4]
    dsimp only
    rw [if_neg (by simpa [hh] using hb), if_pos (by simpa using hm)]
  · intro hh hb hm
    rw [execAnnounce_eq, Lane.takeAnnounce_slave ht hc h4]
    dsimp only
    rw [if_neg (by simpa [hh] using hb), if_neg (by simpa using hm)]
  -- what a master's Announce counts
  · intro N p b hs _ x iv
    refine ⟨fun hr => Lane.changeMaster_cand hs hr b now, fun h => ?_, fun h => ?_⟩
    · rw [Lane.sameMaster_counts hs ds h]
      exact ⟨rfl, rfl⟩
    · rw [Lane.sameMaster_early ds h]
  -- 1PPS
  · intro hq
    obtain ⟨hprev, hbad, hcnt, hth⟩ := Lane.goodPulse_shows (L.convert rx).2
      ((L.convert rx).1 - (L.fld .DTM_PPS_DLY 19 0 : Int) * 65536) _
    refine ⟨_, execPpsPulse_eq l rx s, ?_⟩
    rw [State.put_lane, Lane.takePps_eq hs hp, if_pos]
    · exact ⟨hprev, hbad, hcnt.trans (congrArg (· + 1) (L.convert_reg rx (by decide) 0 0)), hth⟩
    · cases h : L.datum.ppsPrev with
      | none => rfl
      | some q => exact decide_eq_true (hq q h)
  · rintro ⟨q, hprev, hfar⟩
    refine ⟨_, execPpsPulse_eq l rx s, ?_⟩
    rw [State.put_lane, Lane.takePps_eq hs hp, if_neg]
    · rw [Lane.badPulse, Lane.setCand_cand_self, L.convert_datum]
      exact ⟨rfl, rfl⟩
    · rw [hprev, pulseOk, decide_eq_true_eq]
      rintro ⟨hle, hpos⟩
      exact hfar.elim (Nat.not_lt.mpr hle) (Int.not_le.mpr hpos)

end Sys2Proof.Machine
end

section
/-! PROOFS. Datum time: what ports send, beacons, and the states of the datum. -/

namespace Sys2Proof.Machine

open Sys2Proof

/-! ### Sending (R279, R280) -/

section master
variable {L : Lane} {p : Nat}

theorem Lane.masterPort_stopped (hd : L.dstate = dHoldover) (hs : (L.ptpPort p).stop = true) : L.masterPort p = false := by
  simp [Lane.masterPort, hd, hs, dHoldover, dLocked]

/-- One port's turn of the holdover stop. -/
def Lane.annStopPort (L : Lane) (p : Nat) : Lane :=
  if L.fld .DTM_SLEW 3 0 ≤ (L.ptpPort p).hold then L.setPtpPort p { L.ptpPort p with stop := true } else L

theorem Lane.annStop_eq (hd : L.dstate = dHoldover) : L.annStop = foldTo 4 Lane.annStopPort L :=
  if_neg (by simp [hd])

theorem Lane.annStopPort_regs (L : Lane) (k : Nat) : (L.annStopPort k).regs = L.regs := Lane.ite_keep (·.regs) rfl

theorem Lane.annStopPort_ptpPort_ne (L : Lane) {k : Nat} (h : p ≠ k) : (L.annStopPort k).ptpPort p = L.ptpPort p :=
  Lane.ite_keep (·.ptpPort p) (L.setPtpPort_ptpPort_ne h _)

/-- A port that has sent its intervals has stopped. -/
theorem Lane.annStop_stops (hd : L.dstate = dHoldover) (hp : p < 4) (hh : L.fld .DTM_SLEW 3 0 ≤ (L.ptpPort p).hold) :
    (L.annStop.ptpPort p).stop = true := by
  rw [Lane.annStop_eq hd]
  obtain ⟨M, hM, hfold⟩ := foldTo_eq_step_at (g := fun N : Lane => (N.regs, N.ptpPort p)) (f := Lane.annStopPort) (i := p)
    (fun N k h => Prod.ext (N.annStopPort_regs k) (N.annStopPort_ptpPort_ne (Ne.symm h))) hp L
  obtain ⟨hregs, hport⟩ := Prod.mk.inj hM
  rw [(Prod.mk.inj hfold).2, Lane.annStopPort, if_pos, Lane.setPtpPort_ptpPort_self]
  rw [hport, Lane.fld, Lane.reg, hregs]
  exact hh

theorem Lane.annStop_regs : L.annStop.regs = L.regs := by
  unfold Lane.annStop
  split
  · rfl
  · exact Lane.foldTo_of (·.regs) Lane.annStopPort_regs 4 L

end master

/-! ### Beacons (R277, R310) -/

theorem foldTo_idle {σ : Type} {f : σ → Nat → σ} {s : σ} (n : Nat) (h : ∀ i, i < n → f s i = s) : foldTo n f s = s := by
  induction n with
  | zero => rfl
  | succ n ih => rw [foldTo_succ, ih fun i hi => h i (by omega), h n (by omega)]

/-- No function has a ring for beacons that runs. -/
def State.NoBeaconRing (s : State) : Prop := ∀ f, f < 64 → s.host.hasFn f = true → (s.host.fn f).ring 2 ≠ rRun

theorem State.NoBeaconRing.skip {s : State} (h : s.NoBeaconRing) {f : Nat} (hf : f < 64) (u : State) :
    (if !s.host.hasFn f || (s.host.fn f).ring 2 != rRun then s else u) = s := by
  refine if_pos ?_
  cases hfn : s.host.hasFn f with
  | false => rfl
  | true => simp [h f hf hfn]

/-- A lane's beacon at the start of a second, with no ring to take it, sets the clock of the host complex where the lane
gives the host time. -/
theorem State.datumBeacon_noRing {s : State} {l : LaneId} (h : s.NoBeaconRing) (hs : (s.lane l).inService = true)
    (hl : (s.lane l).level < 3) (hk : (s.lane l).tick % 96000 ≤ 9) :
    s.datumBeacon l = if s.timeLane = some l then
      s.hcx (fun H => { H with clock := edgeNs ((s.lane l).tick / 96000 * 96000), clockSrc := 0 }) else s := by
  unfold State.datumBeacon
  dsimp only
  rw [if_neg (by simp [hs, hl, hk])]
  generalize hu : (if s.timeLane = some l then
    s.hcx (fun H => { H with clock := edgeNs ((s.lane l).tick / 96000 * 96000), clockSrc := 0 }) else s) = u
  have hring : u.NoBeaconRing := by
    rw [← hu]
    split
    · exact h
    · exact h
  refine ite_eq_left_iff.mpr fun _ => foldTo_idle 64 fun f hf => hring.skip hf _

theorem State.datumBeacon_later {s : State} {l : LaneId} (hk : 9 < (s.lane l).tick % 96000) : s.datumBeacon l = s :=
  if_pos (by simp [hk])

theorem State.hostBeacon_noRing {s : State} (h : s.NoBeaconRing) (clock : Int) : s.hostBeacon clock = s := by
  unfold State.hostBeacon
  exact ite_eq_left_iff.mpr fun _ => foldTo_idle 64 fun f hf => h.skip hf _

/-- Settles O42: a master port sends with its own sequence number, and what leaves brings its second message (assumption
log 92 for a Follow_Up that is sent first). -/
theorem datumSendsMessages : Obligations.DatumSendsMessages := by
  intro s l port tx seq q o c clock t2 two L x B
  refine ⟨fun hm => ?_, fun hm => ?_, fun hon hmode => ?_, rfl, rfl, rfl, fun hd => ?_, fun hd hs => ⟨?_, ?_⟩, fun hr =>
    ⟨fun hs hl hk => ?_, fun hup => ?_⟩, fun hk => ?_, fun hup hn hc => ?_⟩
  -- the ports
  · rw [execSyncTransmit_eq, Lane.sendSync, if_neg (by simp [hm, L])]
  · rw [execAnnounceTransmit_eq, Lane.sendAnnounce, if_neg (by simp [hm, L])]
    rfl
  · rw [execPdelayReqTransmit_eq, Lane.sendPdelayReq, if_neg (by simp [hon, hmode, L])]
  -- the holdover stop
  · refine ⟨_, execHoldoverAnnounceStop_eq l s, fun p hp hh => ?_⟩
    rw [State.put_lane]
    exact Lane.masterPort_stopped ((Lane.dstate_of_reg (by rw [Lane.reg, Lane.annStop_regs, Lane.reg])).trans hd)
      (Lane.annStop_stops hd hp hh)
  · rw [execSyncTransmit_eq, Lane.sendSync, if_pos (by simp [Lane.masterPort_stopped hd hs, L])]
  · rw [execAnnounceTransmit_eq, Lane.sendAnnounce, if_pos (by simp [Lane.masterPort_stopped hd hs, L])]
  -- beacons
  · rw [execDatumBeacon_eq, State.datumBeacon_noRing (s := s.quiet) hr (by rwa [State.quiet_lane_now])
      (by rwa [State.quiet_lane_now]) (by rwa [State.quiet_lane_now]), State.quiet_lane_now]
  · rw [execHostClockBeacon_eq, if_pos hup, State.hostBeacon_noRing (s := s.quiet) hr]
  · rw [execDatumBeacon_eq, State.datumBeacon_later (by rwa [State.quiet_lane_now])]
  · rw [execHostClockBeacon_eq, if_pos hup, State.hostBeacon, if_neg (by simp [hn]; exact hc)]
    congr 2
    funext u f
    by_cases h : u.host.hasFn f = true ∧ (u.host.fn f).ring 2 = rRun
    · rw [if_pos h, if_neg (by simp [h])]
    · rw [if_neg h, if_pos]
      simpa [imp_iff_not_or] using h

/-! ### The state of the datum (R284, R285) -/

theorem Lane.setFlag_dstate (L : Lane) {b : Nat} (hb : b < 29) (v : Bool) : (L.setFlag .DTM_STAT b v).dstate = L.dstate := by
  rw [Lane.dstate, Lane.fld, Lane.setFlag, Lane.setReg_reg_self, bits_putBit_outside _ (.inl hb)]
  rfl

theorem Lane.setReg_dstate (L : Lane) {r : Reg} (h : .DTM_STAT ≠ r) (v : Word) (i j : Nat) :
    (L.setReg r v i j).dstate = L.dstate := Lane.dstate_of_reg (L.setReg_reg_other h ..)

theorem Lane.showDatum_dstate (L : Lane) (a b : Bool) : (L.showDatum a b).dstate = L.dstate := by
  rw [Lane.showDatum, Lane.setFlag, Lane.setReg_dstate _ (by decide), Lane.setFlag_dstate _ (by decide)]

theorem Lane.enterDatum_dstate (L : Lane) {st : Nat} (h : st < 8) (now : Int) : (L.enterDatum st now).dstate = st := by
  have hset (M : Lane) : ((M.setFld .DTM_STAT 31 29 st).showDatum false false).dstate = st :=
    (Lane.showDatum_dstate ..).trans ((Lane.setFld_fld_self _ _ (by decide) (by decide) ..).trans (Nat.mod_eq_of_lt h))
  unfold Lane.enterDatum
  dsimp only
  split
  · assumption
  · rw [Lane.dstate_of_reg (Lane.raise_reg ..)]
    refine .trans (Lane.ite_keep Lane.dstate ?_) ?_
    · rfl
    refine .trans (Lane.ite_keep Lane.dstate ?_) ?_
    · rfl
    refine .trans (Lane.ite_keep Lane.dstate ?_) ?_
    · exact Lane.setReg_dstate _ (by decide) ..
    exact hset _

/-- A switch that is committed: the datum is switching to the candidate from then on. -/
theorem Lane.commitSwitch_switches (L : Lane) (c : Nat) (now : Int) : (L.commitSwitch c now).dstate = dSwitching ∧
    (L.commitSwitch c now).datum.ref = some c ∧ (L.commitSwitch c now).datum.swNs = now := by
  unfold Lane.commitSwitch
  dsimp only
  generalize hM : Lane.bump _ .DTM_SWITCH_CNT = M
  have href : M.datum.ref = some c ∧ M.datum.swNs = now := by
    rw [← hM, Lane.bump_datum, Lane.showRef_datum]
    exact ⟨rfl, rfl⟩
  obtain ⟨-, hr, hs, -, -⟩ := Datum.core_keeps (M.enterDatum_core dSwitching now)
  exact ⟨M.enterDatum_dstate (by decide) now, hr.trans href.1, hs.trans href.2⟩

/-! ### Qualification (R283, R285) -/

/-- What a choice between candidates turns on, apart from the candidates. -/
def Lane.steering (L : Lane) : Nat × Option Nat × Option Cand × Word := (L.dstate, L.datum.ref, L.datum.held, L.reg .DTM_CFG)

/-- Barring changes the bar of one candidate, and nothing that a choice turns on (R288). -/
theorem Lane.setBar_keeps (L : Lane) (c : Nat) (x : Cand) (bar : Bool) :
    (L.setBar c x bar).steering = L.steering ∧
    ∀ k, (L.setBar c x bar).cand k = (L.setCand c { x with barred := bar }).cand k := by
  unfold Lane.setBar
  dsimp only
  generalize hM : (ite (c = candPps) _ _ : Lane) = M
  have hkeep : (M.dstate, M.datum.ref, M.datum.held, M.reg .DTM_CFG) = L.steering ∧ M.datum.cands = L.datum.cands.put c { x with barred := bar } := by
    rw [← hM]
    split
    · exact ⟨rfl, rfl⟩
    · exact ⟨rfl, rfl⟩
  obtain ⟨hsteer, hcands⟩ := hkeep
  refine ⟨?_, fun k => ?_⟩
  · rw [← hsteer, Lane.steering, Lane.setFlag_dstate _ (by decide), Lane.setFlag_datum, Lane.setFlag,
      Lane.setReg_reg_other _ (by decide)]
  · simp only [Lane.cand, Lane.setFlag_datum, hcands, Lane.setCand]

/-- A candidate that is qualified, and no longer barred. -/
def Lane.qualified (L : Lane) (c : Nat) : Lane :=
  let x := L.cand c
  let L := if x.barred then L.setBar c { x with qual := true } false else L.setCand c { x with qual := true }
  if c < 4 then L.setFlag .DTM_PORT_STAT 27 true c else L

section qualified
variable (L : Lane) (c : Nat)

theorem Lane.qualified_keeps : (L.qualified c).steering = L.steering ∧
    ∀ k, (L.qualified c).cand k = (L.setCand c { L.cand c with qual := true, barred := false }).cand k := by
  unfold Lane.qualified
  dsimp only
  generalize hM : (ite ((L.cand c).barred = true) _ _ : Lane) = M
  have hkeep : M.steering = L.steering ∧
      ∀ k, M.cand k = (L.setCand c { L.cand c with qual := true, barred := false }).cand k := by
    rw [← hM]
    split
    · exact L.setBar_keeps ..
    · next h => rw [← Bool.eq_false_of_not_eq_true h]; exact ⟨rfl, fun _ => rfl⟩
  obtain ⟨hsteer, hcand⟩ := hkeep
  split
  · refine ⟨hsteer ▸ ?_, fun k => (Lane.cand_of_datum (Lane.setFlag_datum ..) k).trans (hcand k)⟩
    rw [Lane.steering, Lane.setFlag, Lane.setReg_dstate _ (by decide), Lane.setReg_datum, Lane.setReg_reg_other _ (by decide)]
    rfl
  · exact ⟨hsteer, hcand⟩

theorem Lane.qualified_cand_self : (L.qualified c).cand c = { L.cand c with qual := true, barred := false } :=
  ((L.qualified_keeps c).2 c).trans (L.setCand_cand_self ..)

theorem Lane.qualified_cand_ne {k : Nat} (h : k ≠ c) : (L.qualified c).cand k = L.cand k :=
  ((L.qualified_keeps c).2 k).trans (L.setCand_cand_ne h _)

end qualified

section complete
variable {L : Lane} {c : Nat} (hq : (L.cand c).qual = false) (h0 : 0 < (L.cand c).count) (hn : L.candNeed c ≤ (L.cand c).count)
include hq h0 hn

theorem Lane.qualComplete_eq (now : Int) : L.qualComplete c now = (let M := L.qualified c
    if M.dstate = dLocked then match M.datum.ref with
      | some r => if M.outranks c (M.cand c) r (M.refCand r) then M.commitSwitch c now else M
      | none => M
    else M.trySwitch now) := by
  unfold Lane.qualComplete
  rw [if_neg (by simp [hq, Nat.not_lt.mpr hn, Nat.pos_iff_ne_zero.mp h0])]
  rfl

theorem Lane.qualComplete_known (now : Int) : (L.qualComplete c now).known = (L.qualified c).known := by
  rw [Lane.qualComplete_eq hq h0 hn]
  dsimp only
  split
  · split
    · exact Lane.ite_keep (·.known) (Lane.commitSwitch_known ..)
    · rfl
  · exact Lane.trySwitch_known ..

/-- A candidate that outranks the reference of a locked datum is switched to. -/
theorem Lane.qualComplete_switches {r : Nat} (hd : L.dstate = dLocked) (hr : L.datum.ref = some r) (hne : r ≠ c)
    (ho : L.outranks c (L.cand c) r (L.refCand r) = true) (now : Int) :
    L.qualComplete c now = (L.qualified c).commitSwitch c now := by
  obtain ⟨hsteer, -⟩ := L.qualified_keeps c
  obtain ⟨hM, href, hheld, hcfg⟩ : (L.qualified c).dstate = L.dstate ∧ (L.qualified c).datum.ref = L.datum.ref ∧
    (L.qualified c).datum.held = L.datum.held ∧ (L.qualified c).reg .DTM_CFG = L.reg .DTM_CFG := by
    simpa [Lane.steering] using hsteer
  have hrank : (L.qualified c).outranks c ((L.qualified c).cand c) r ((L.qualified c).refCand r) = true := by
    rw [Lane.refCand, hheld, L.qualified_cand_ne c hne, L.qualified_cand_self c]
    rw [Lane.outranks, Lane.flag, hcfg]
    exact ho
  rw [Lane.qualComplete_eq hq h0 hn]
  dsimp only
  rw [if_pos (hM.trans hd), href, hr]
  exact if_pos hrank

end complete

/-! ### Steps (R287) -/

theorem Lane.freezeTarget_reg (L : Lane) {r : Reg} (hr : r ∉ steerRegs) (now : Int) : (L.freezeTarget now).reg r = L.reg r := by
  rw [Lane.freezeTarget, Lane.writeTarget, Lane.setNum64, Lane.setReg_steer hr _ (by decide), Lane.setReg_steer hr _ (by decide)]
  rfl

/-- A datum with three measurements beyond JUMP refuses the step. -/
theorem Lane.stepDetected_refuses {L : Lane} {a b d : Int} (hb : L.datum.beyond = [a, b, d])
    (hd : L.dstate = dLocked ∨ L.dstate = dSwitching ∨ L.dstate = dSlewing) (now : Int) :
    let M := L.stepDetected now
    M.dstate = dStepPend ∧ M.datum.ref = L.datum.ref ∧
      M.num64 .DTM_STEP_LO .DTM_STEP_HI = wrap 64 (median3 a b d) ∧ M.reg .DTM_STEP_CNT = L.reg .DTM_STEP_CNT + 1 ∧
      M.Raised 1 0x02 now (leBytes 8 (wrap 64 (median3 a b d))) := by
  have hstate : (L.dstate = dLocked || L.dstate = dSwitching || L.dstate = dSlewing) = true := by simpa [or_assoc] using hd
  unfold Lane.stepDetected
  rw [hb]
  dsimp only
  rw [if_pos hstate]
  generalize hF : ({ L with datum := { L.datum with slew := none } } : Lane).freezeTarget now = F
  generalize hN : F.setNum64 .DTM_STEP_LO .DTM_STEP_HI (wrap 64 (median3 a b d)) = N
  have hlo : ((N.bump .DTM_STEP_CNT).enterDatum dStepPend now).reg .DTM_STEP_LO = N.reg .DTM_STEP_LO :=
    (Lane.enterDatum_reg (by decide) ..).trans (Lane.setReg_reg_other _ (by decide) ..)
  have hhi : ((N.bump .DTM_STEP_CNT).enterDatum dStepPend now).reg .DTM_STEP_HI = N.reg .DTM_STEP_HI :=
    (Lane.enterDatum_reg (by decide) ..).trans (Lane.setReg_reg_other _ (by decide) ..)
  have hcnt : N.reg .DTM_STEP_CNT = L.reg .DTM_STEP_CNT := by
    rw [← hN, Lane.setNum64_reg _ (by decide) (by decide), ← hF, Lane.freezeTarget_reg _ (by decide)]
    rfl
  refine ⟨(N.bump .DTM_STEP_CNT).enterDatum_dstate (by decide) now, rfl, ?_, ?_, Lane.raise_newest ..⟩
  · have hnum : ((N.bump .DTM_STEP_CNT).enterDatum dStepPend now).num64 .DTM_STEP_LO .DTM_STEP_HI =
        N.num64 .DTM_STEP_LO .DTM_STEP_HI := by rw [Lane.num64, hlo, hhi, Lane.num64]
    refine Eq.trans hnum ?_
    rw [← hN, Lane.setNum64_num64_self _ (by decide) (wrap_lt ..)]
  · refine Eq.trans (Lane.enterDatum_reg (by decide) (N.bump .DTM_STEP_CNT) dStepPend now) ?_
    rw [Lane.bump_reg_self, hcnt]
    rfl

/-! ### Losses (R285) -/

theorem Lane.loseCand_dstate (L : Lane) (c : Nat) (now : Int) : (L.loseCand c now).dstate = L.dstate := by
  refine (Lane.ite_keep Lane.dstate ?_).trans rfl
  rw [Lane.setFld, Lane.setReg_dstate _ (by decide), Lane.setFlag, Lane.setReg_dstate _ (by decide)]

theorem Lane.loseHeld_dstate (L : Lane) (now : Int) : (L.loseHeld now).dstate = L.dstate := by
  unfold Lane.loseHeld
  split <;> rfl

/-- The lane with every candidate lost that has stopped. -/
def Lane.losesStopped (L : Lane) (now : Int) : Lane :=
  ((List.range 5).filter (fun k => L.candLost k now)).foldl (fun M k => M.loseCand k now) L

theorem Lane.losesStopped_dstate (L : Lane) (now : Int) : (L.losesStopped now).dstate = L.dstate :=
  foldl_keep Lane.dstate _ (fun M k => M.loseCand_dstate k now) _ L

/-- A candidate that is lost was heard. -/
theorem Lane.gone_eq_losesStopped (L : Lane) (now : Int) :
    ((List.range 5).filter (fun k => (L.cand k).heard && L.candLost k now)).foldl (fun M k => M.loseCand k now) L =
      L.losesStopped now := by
  have hheard (k : Nat) : ((L.cand k).heard && L.candLost k now) = L.candLost k now := by
    rw [Lane.candLost]
    cases (L.cand k).heard <;> rfl
  simp only [hheard, Lane.losesStopped]

section timeout
variable {L : Lane} {now : Int}

theorem Lane.annTimeout_idle (hc : ∀ k, k < 5 → L.candLost k now = false) (hr : L.refLost now = false) : L.annTimeout now = L := by
  have hnone : (List.range 5).filter (fun k => L.candLost k now) = [] :=
    List.filter_eq_nil_iff.mpr fun k hk => by simp [hc k (List.mem_range.mp hk)]
  unfold Lane.annTimeout
  dsimp only
  rw [Lane.gone_eq_losesStopped, Lane.losesStopped, hnone, hr]
  rfl

/-- A locked datum that loses its reference goes to the best other candidate, or to HOLDOVER. -/
theorem Lane.annTimeout_locked (hd : L.dstate = dLocked) (hr : L.refLost now = true) :
    L.annTimeout now = (match ((L.losesStopped now).loseHeld now).bestCand (fun _ => true) with
      | some k => ((L.losesStopped now).loseHeld now).commitSwitch k now
      | none => ((L.losesStopped now).loseHeld now).holdover now) := by
  have hstate : ((L.losesStopped now).loseHeld now).dstate = dLocked := by
    rw [Lane.loseHeld_dstate, Lane.losesStopped_dstate, hd]
  unfold Lane.annTimeout
  dsimp only
  rw [Lane.gone_eq_losesStopped, hr]
  exact if_pos hstate

end timeout

/-! ### The initial set (R276) -/

theorem State.initialSet_datum {s : State} {l : LaneId} (hp : (s.lane l).phase = 7) (src : InitSources) :
    s.initialSet l src = (s.put l ((s.lane l).initialSet src (s.host.tod.map (fun _ => src.host)))).startDone := by
  unfold State.initialSet
  rw [if_neg (by simp [hp]), State.mapLane_eq_put]

theorem Lane.initialSet_unset {L : Lane} (hd : L.dstate = dUnset) (src : InitSources) (tod : Option Int) :
    L.initialSet src tod = (let K : Lane := { L with datum := { L.datum with tried := true } }
      match src.twin, src.ptp, src.pps, tod, K.datum.saved with
      | some t, _, _, _, _ => (K.setOfs src.raw t 1).enterDatum dHoldover (nsOf t)
      | none, some p, _, _, _ => (K.setOfs src.raw p.t 2).firstMaster p
      | none, none, some pulse, some c, _ =>
        let t := pulseSecond c src.raw pulse + (K.fld .DTM_PPS_DLY 19 0 : Int) * 65536 +
          (K.rateCur * rawDiff src.raw pulse).fdiv (2 ^ 32)
        (K.setOfs src.raw t 3).enterDatum dHoldover (nsOf t)
      | none, none, _, some t, _ => (K.setOfs src.raw t 4).enterDatum dHoldover (nsOf t)
      | none, none, _, none, some x => (K.setOfs src.raw x.val 5).enterDatum dHoldover (nsOf x.val)
      | none, none, _, none, none => K) := by
  exact if_neg (by simp [hd])

/-- Settles O43: each command has the law of its case. The switch that an initial set from PTP begins at once, the second of
a pulse and the mark of a set that was tried are assumption logs 91 and 31. -/
theorem datumChangesState : Obligations.DatumChangesState := by
  intro s l c r now src L
  refine ⟨fun hc hr => ?_, fun hd hr => ?_, fun hq h0 hn => ?_, fun hd hr => ⟨fun h16 => ?_, fun h16 hb hl ht => ?_⟩,
    fun a b d hb hd => ?_, fun p hs hdone => ?_, fun hd => ?_, fun hp hd => ?_⟩
  -- losses
  · rw [execAnnounceTimeout_eq, Lane.annTimeout_idle hc hr]
  · rw [execAnnounceTimeout_eq, Lane.annTimeout_locked hd hr]
    rfl
  -- qualification
  · have hknown := Lane.known_cand (Lane.qualComplete_known hq h0 hn now) c
    rw [L.qualified_cand_self c] at hknown
    obtain ⟨hqual, hbar, -⟩ := hknown
    refine ⟨_, execQualificationComplete_eq l c now s, ?_⟩
    rw [State.put_lane]
    refine ⟨hqual, hbar, fun hd hr hne ho => ?_⟩
    rw [Lane.qualComplete_switches hq h0 hn hd hr hne ho]
    exact Lane.commitSwitch_switches ..
  -- the end of a switch
  · rw [execSwitchEnd_eq, Lane.switchEnd, if_neg (by simp [hd, L]), hr]
    dsimp only
    rw [if_pos h16]
  · have h60 : L.datum.swNs + 60 * secNs ≤ now := ht
    rw [execSwitchEnd_eq, Lane.switchEnd, if_neg (by simp [hd, L]), hr]
    dsimp only
    rw [if_neg (Nat.not_le.mpr h16), if_neg (by simp [hb, L]), if_neg (by simp [hl, L]), if_pos h60]
    simp only [Bool.and_eq_true, decide_eq_true_eq]
    rfl
  -- steps and slews
  · refine ⟨_, execStepDetected_eq l now s, ?_⟩
    rw [State.put_lane]
    exact Lane.stepDetected_refuses hb hd now
  · rw [execSlewEnd_eq, Lane.slewEnd, hs]
    dsimp only
    rw [if_neg (by simp [hdone])]
  -- a lane without a datum
  · rw [execDatumUnsetEvent_eq, Lane.unsetEvent, if_pos hd]
  · have hset : exec (.initialSet l src) s =
        .next (s.quiet.put l (L.initialSet src (s.host.tod.map (fun _ => src.host)))).startDone := by
      rw [execInitialSet_eq, State.initialSet_datum (by rw [State.quiet_lane_now]; exact hp), State.quiet_lane_now]
      rfl
    rw [hset, Lane.initialSet_unset hd]
    refine ⟨fun t h1 => ?_, fun p h1 h2 => ?_, fun k h1 h2 h3 h4 => ?_, fun h1 h2 h3 h4 => ?_, fun x h1 h2 h4 h5 => ?_⟩
    · rw [h1]
    · rw [h1, h2]
    · obtain ⟨tod, htod⟩ := Option.ne_none_iff_exists'.mp h4
      rw [h1, h2, h3, htod]
      rfl
    · obtain ⟨tod, htod⟩ := Option.ne_none_iff_exists'.mp h4
      rw [h1, h2, h3, htod]
      rfl
    · have hsaved : ({ L with datum := { L.datum with tried := true } } : Lane).datum.saved = some x := h5
      rw [h1, h2, h4]
      dsimp only
      rw [hsaved]
      cases src.pps <;> rfl

end Sys2Proof.Machine
end

section
/-! PROOFS. A start: the stages, the host complex, the self-tests and the lanes. -/

namespace Sys2Proof.Machine

open Sys2Proof

/-! ### Fields of the host complex and the end of a start -/

/-- A field within another is that part of it. -/
theorem bits_within (w : Word) {hi lo hi' lo' : Nat} (h : lo ≤ lo') (h' : hi' ≤ hi) :
    bits w hi' lo' = (bits w hi lo >>> (lo' - lo)) % 2 ^ (hi' + 1 - lo') := by
  refine Nat.eq_of_testBit_eq fun i => ?_
  rw [bits_testBit, Nat.testBit_mod_two_pow, Nat.testBit_shiftRight, bits_testBit]
  by_cases hi : i < hi' + 1 - lo'
  · rw [decide_eq_true hi, decide_eq_true (show lo' - lo + i < _ by omega), show lo + (lo' - lo + i) = lo' + i by omega]
    rfl
  · rw [decide_eq_false hi, Bool.false_and, Bool.false_and]

/-- A field of zeros holds zeros. -/
theorem bits_putBits_zero_within (w : Word) {hi lo hi' lo' : Nat} (hl : lo ≤ hi) (hh : hi < 32) (h : lo ≤ lo') (h' : hi' ≤ hi) :
    bits (putBits w hi lo 0) hi' lo' = 0 := by
  rw [bits_within _ h h', bits_putBits_self _ hl hh, Nat.zero_mod, Nat.zero_shiftRight, Nat.zero_mod]

theorem Hcx.setReg_reg_other (H : Hcx) {r q : Reg} (h : q ≠ r) (v : Word) (i j k l : Nat) :
    (H.setReg r v i j).reg q k l = H.reg q k l := H.setReg_reg_ne (fun hc => h hc.1) v

theorem Hcx.setFld_reg_other (H : Hcx) {r q : Reg} (h : q ≠ r) (hi lo v i k : Nat) :
    (H.setFld r hi lo v i).reg q k = H.reg q k := H.setReg_reg_other h ..

theorem Hcx.setFld_fld_self (H : Hcx) (r : Reg) {hi lo : Nat} (h : lo ≤ hi) (hh : hi < 32) (v i : Nat) :
    (H.setFld r hi lo v i).fld r hi lo i = v % 2 ^ (hi + 1 - lo) := by
  rw [Hcx.fld, Hcx.setFld, Hcx.setReg_reg_self, bits_putBits_self _ h hh]

theorem Hcx.setFld_flag_above (H : Hcx) (r : Reg) {hi lo b : Nat} (h : lo ≤ hi) (hh : hi < 32) (hb : hi < b) (v i : Nat) :
    (H.setFld r hi lo v i).flag r b i = H.flag r b i := by
  rw [Hcx.flag, Hcx.setFld, Hcx.setReg_reg_self, bit_eq_bits, bits_putBits_above _ h hh hb, ← bit_eq_bits, Hcx.flag]

theorem Hcx.setFlag_flag_self (H : Hcx) (r : Reg) {b : Nat} (hb : b < 32) (v : Bool) (i : Nat) : (H.setFlag r b v i).flag r b i = v := by
  rw [Hcx.flag, Hcx.setFlag, Hcx.setReg_reg_self, bit_putBit_self _ hb]

theorem State.setStage_stage (s : State) {n : Nat} (h : n < 16) : (s.setStage n).stage_ = n :=
  (Hcx.setFld_fld_self _ _ (by decide) (by decide) ..).trans (Nat.mod_eq_of_lt h)

theorem laneNum_lt (l : LaneId) : l.num < 4 := by cases l <;> decide

/-- The end of a start shows itself in the machine's state and in the stage, and nowhere else. -/
theorem State.startDone_eq_or (s : State) :
    s.startDone = s ∨ s.startDone = (s.pwr (fun P => { P with mstate := .service })).setStage 8 := ite_eq_or_eq ..|>.symm

section startDone
variable (s : State)

@[simp] theorem State.startDone_lane (l : LaneId) : s.startDone.lane l = s.lane l := by
  rcases s.startDone_eq_or with h | h <;> rw [h]
  rw [State.setStage, State.hcx_lane, State.pwr_lane]

@[simp] theorem State.startDone_hcxUp : s.startDone.power.hcxUp = s.power.hcxUp := by
  rcases s.startDone_eq_or with h | h <;> rw [h]
  rw [State.setStage, State.hcx_power]
  rfl

@[simp] theorem State.startDone_flash : s.startDone.host.flash = s.host.flash := by
  rcases s.startDone_eq_or with h | h <;> rw [h]
  exact Hcx.setFld_flash ..

theorem State.startDone_reg {r : Reg} (h : r ≠ .HCX_PWR_STAT) (i : Nat) : s.startDone.host.reg r i = s.host.reg r i := by
  rcases s.startDone_eq_or with h' | h' <;> rw [h']
  exact Hcx.setFld_reg_other _ h ..

theorem State.startDone_flag {b : Nat} (hb : 23 < b) : s.startDone.host.flag .HCX_PWR_STAT b = s.host.flag .HCX_PWR_STAT b := by
  rcases s.startDone_eq_or with h | h <;> rw [h]
  exact Hcx.setFld_flag_above _ _ (by decide) (by decide) hb ..

end startDone

/-! ### Power-good and the stages (R382 to R387) -/

theorem State.powerGood_starts {s : State} {vin : Nat} (hm : s.power.mstate = .off) (hv : 16000 ≤ vin) (low : Bool) :
    (s.powerGood vin low).power = Power.fresh ∧ (s.powerGood vin low).hDomains = 0 ∧ (s.powerGood vin low).stage_ = 0 := by
  unfold State.powerGood
  rw [if_neg (by simp [hm, hv])]
  refine ⟨rfl, ?_, ?_⟩
  · refine Eq.trans (congrArg (bits · 11 4) (Hcx.setReg_reg_self ..)) ?_
    exact bits_putBits_zero_within _ (by decide) (by decide) (by decide) (by decide)
  · refine Eq.trans (congrArg (bits · 23 20) ((Hcx.setFld_reg_other _ (by decide) ..).trans (Hcx.setReg_reg_self ..))) ?_
    exact bits_putBits_zero_within _ (by decide) (by decide) (by decide) (by decide)

theorem State.showSgen_reg (s : State) {r : Reg} (h : r ≠ .HCX_FW_STAT) (i : Nat) : s.showSgen.host.reg r i = s.host.reg r i :=
  Hcx.setReg_reg_other _ h ..

section hostReady
variable {s : State} {ok : Bool} (hm : s.power.mstate = .starting ∨ s.power.mstate = .parked) (hst : 3 ≤ s.stage_)
  (hup : s.power.hcxUp = false) (hf : s.host.flag .HCX_PWR_STAT 24 = false)
include hm hst hup hf

theorem State.hostReady_decides : (!(s.power.mstate == .starting || s.power.mstate == .parked) || s.stage_ < 3 || s.power.hcxUp ||
    s.host.flag .HCX_PWR_STAT 24) = false := by
  rcases hm with hm | hm <;> simp [hm, hst, hup, hf]

/-- The host complex comes up when it passed, runs verified firmware and every domain is on. -/
theorem State.hostReady_up (hok : ok = true) (hrun : s.host.flash.run.isSome = true) (hd : s.hDomains = 0xFF)
    (ha : s.anyService = true) (ms : Nat) (now : Int) :
    (s.hostReady ok ms now).power.hcxUp = true ∧ (s.hostReady ok ms now).host.reg .HCX_START_T = w32 (min 65535 ms) := by
  unfold State.hostReady
  rw [if_neg (Bool.eq_false_iff.mp (State.hostReady_decides hm hst hup hf)), if_neg (by simp [hok, Option.isSome_iff_ne_none.mp hrun, hd, ha])]
  exact ⟨rfl, (State.showSgen_reg _ (by decide) 0).trans (Hcx.setReg_reg_self ..)⟩

/-- Else the lanes start without it. -/
theorem State.hostReady_without (h : ok = false ∨ s.host.flash.run = none ∨ s.hDomains ≠ 0xFF ∨ s.anyService = false)
    (ms : Nat) (now : Int) : (s.hostReady ok ms now).power.hcxUp = false ∧ (s.hostReady ok ms now).host.flag .HCX_PWR_STAT 24 = true := by
  unfold State.hostReady
  rw [if_neg (Bool.eq_false_iff.mp (State.hostReady_decides hm hst hup hf)), if_pos]
  · exact ⟨hup, Hcx.setFlag_flag_self _ _ (by decide) ..⟩
  · rcases h with h | h | h | h <;> simp [h]

end hostReady

/-! ### The stage of a lane (R385, R388 to R391) -/

theorem Lane.setPhase_phase (L : Lane) {p : Nat} (h : p < 16) : (L.setPhase p).phase = p :=
  (Lane.setFld_fld_self L _ (by decide) (by decide) ..).trans (Nat.mod_eq_of_lt h)

theorem Lane.setPhase_reg (L : Lane) (p : Nat) {r : Reg} (h : r ≠ .PWR_STAT) (i : Nat) : (L.setPhase p).reg r i = L.reg r i :=
  L.setReg_reg_other h ..

theorem State.laneStart_begins {s : State} {l : LaneId} {rest : List LaneId} (hm : s.power.mstate = .starting)
    (ha : s.anyService = true) (hq : s.power.queue = l :: rest) (hh : s.power.hcxUp = true ∨ s.host.flag .HCX_PWR_STAT 24 = true)
    (hc : s.host.flag .HCX_PWR_STAT 26 = true ∨ s.host.flag .HCX_PWR_STAT 25 = true) (hn : ∀ k, (s.lane k).inStage = false) :
    s.laneStart l = ((s.mapLane l (fun L => ((L.setReg .PWR_PD 0xFFFFF#32).setReg .PWR_STAT 0).setPhase 2)).pwr
      (fun P => { P with queue := P.queue.drop 1 })).setStage (4 + l.num) := by
  have hany : LaneId.all.any (fun k => (s.lane k).inStage) = false := by simp [List.any_eq_false, hn]
  have hhost : (s.power.hcxUp || s.host.flag .HCX_PWR_STAT 24) = true := by simpa using hh
  have hcap : (s.host.flag .HCX_PWR_STAT 26 || s.host.flag .HCX_PWR_STAT 25) = true := by simpa using hc
  unfold State.laneStart
  dsimp only
  rw [hhost, hcap, hany, if_neg (by simp [hm, ha, hq])]
  exact if_pos hm

theorem State.laneStart_waits {s : State} {l : LaneId}
    (h : s.power.queue.head? ≠ some l ∨ s.anyService = false ∨ ∃ k, (s.lane k).inStage = true) : s.laneStart l = s := by
  refine if_pos ?_
  rcases h with h | h | ⟨k, h⟩
  · simp [h]
  · simp [h]
  · have hany : LaneId.all.any (fun k => (s.lane k).inStage) = true :=
      List.any_eq_true.mpr ⟨k, by cases k <;> decide, h⟩
    simp [hany]

/-! ### The self-tests (R388 to R391) -/

theorem Lane.reg_of_regs {L M : Lane} (h : M.regs = L.regs) (r : Reg) : M.reg r = L.reg r := by
  rw [Lane.reg, h, Lane.reg]

theorem Lane.phase_of_reg {L M : Lane} (h : M.reg .PWR_STAT = L.reg .PWR_STAT) : M.phase = L.phase := by
  rw [Lane.phase, Lane.fld, h, Lane.phase, Lane.fld]

/-- The results of a memory self-test, as the registers show them. -/
def Lane.memoryShown (L : Lane) (fail repair rows cols ms : Nat) : Lane :=
  let L := (L.setReg .PWR_MBIST_STAT (w32 (repair % 2048 * 65536 + fail % 2048))).setReg .PWR_MBIST_REPAIR
    (w32 (cols % 65536 * 65536 + rows % 65536))
  ((L.setFld .PWR_BIST_MS 15 0 ms).setFlag .PWR_STAT 25 (repair % 2048 != 0)).setPhase 3

theorem Lane.memoryTest_regs {L : Lane} (h : L.phase = 2) (fail repair rows cols ms : Nat) (now : Int) :
    (L.memoryTest fail repair rows cols ms now).regs = (L.memoryShown fail repair rows cols ms).regs := by
  unfold Lane.memoryTest
  rw [if_neg (by simp [h])]
  dsimp only
  split
  · rfl
  · refine (Lane.foldTo_of Lane.regs ?_ _ _).trans rfl
    exact fun M _ => M.raise_regs ..

theorem Lane.memoryTest_idle {L : Lane} (h : L.phase ≠ 2) (fail repair rows cols ms : Nat) (now : Int) :
    L.memoryTest fail repair rows cols ms now = L := if_pos (by simp [h])

section memoryShown
variable (L : Lane) (fail repair rows cols ms : Nat)

theorem Lane.memoryShown_stat : (L.memoryShown fail repair rows cols ms).reg .PWR_MBIST_STAT =
    w32 (repair % 2048 * 65536 + fail % 2048) := by
  rw [Lane.memoryShown, Lane.setPhase_reg _ _ (by decide), Lane.setFlag, Lane.setReg_reg_other _ (by decide), Lane.setFld,
    Lane.setReg_reg_other _ (by decide), Lane.setReg_reg_other _ (by decide), Lane.setReg_reg_self]

theorem Lane.memoryShown_repaired : (L.memoryShown fail repair rows cols ms).flag .PWR_STAT 25 = (repair % 2048 != 0) := by
  rw [Lane.memoryShown, Lane.setPhase, Lane.setFld_flag_below _ _ (by decide) (by decide) (by decide),
    Lane.setFlag_flag_self _ _ (by decide)]

end memoryShown

/-- A lane that is held is in phase 9. -/
theorem Lane.hold_phase (L : Lane) (now : Int) : (L.hold now).phase = 9 :=
  (Lane.phase_of_reg (Lane.raise_reg ..)).trans (Lane.setPhase_phase _ (by decide))

theorem Lane.restoreBook_reg (L : Lane) {r : Reg} (h : r ∉ [Reg.ACQ_FB_NEXT, .ACQ_FB_FILL]) : L.restoreBook.reg r = L.reg r := by
  obtain ⟨h1, h2⟩ : r ≠ .ACQ_FB_NEXT ∧ r ≠ .ACQ_FB_FILL := by simpa using h
  rw [Lane.restoreBook, Lane.showBook, Lane.setReg_reg_other _ h2, Lane.setReg_reg_other _ h1]
  rfl

theorem Lane.hold_reg (L : Lane) (now : Int) {r : Reg} (h : r ∉ [Reg.PWR_STAT, .ACQ_FB_NEXT, .ACQ_FB_FILL]) :
    (L.hold now).reg r = L.reg r := by
  obtain ⟨h1, h2⟩ : r ≠ .PWR_STAT ∧ r ∉ [Reg.ACQ_FB_NEXT, .ACQ_FB_FILL] := by simpa using h
  unfold Lane.hold
  dsimp only
  rw [Lane.raise_reg, Lane.setPhase_reg _ _ h1]
  exact Lane.ite_reg (L.restoreBook_reg h2)

theorem Lane.setPipes_reg (L : Lane) (p0 p1 p2 p3 p4 : Bool) {r : Reg} (h : r ∉ [Reg.FAB_PIPE_MAP, .FAB_STAT]) :
    (L.setPipes p0 p1 p2 p3 p4).1.reg r = L.reg r := by
  obtain ⟨h1, h2⟩ : r ≠ .FAB_PIPE_MAP ∧ r ≠ .FAB_STAT := by simpa using h
  unfold Lane.setPipes
  dsimp only
  rw [Lane.setFlag, Lane.setReg_reg_other _ h2, Lane.setFlag, Lane.setReg_reg_other _ h2, Lane.setFlag,
    Lane.setReg_reg_other _ h2, Lane.setReg_reg_other _ h1]

theorem memResult_le (fail : Nat) : memResult fail ≤ 3 := by
  unfold memResult
  split
  · decide
  · split <;> decide

theorem logicResult_le (fail : Nat) : logicResult fail ≤ 3 := by
  unfold logicResult
  split
  · decide
  · split <;> decide

/-- The partitions whose signature differs from its benchmark. -/
def failedPartitions (sigs : List Nat) : Nat := bitsWhere (fun i => decide (sigs.getD i 0 ≠ (Config.benchmark i).toNat)) 11

/-- A logic self-test that ends: the failed partitions are recorded, and the lane is held where the worst of what the
self-tests found allows no service, else its firmware boots. -/
theorem Lane.logicTest_ends {L : Lane} (h : L.phase = 3) (pipes others : List Nat) (ms : Nat) (now : Int) :
    ∃ (M : Lane) (r : Nat), L.logicTest pipes others ms now = (if r = 3 then M.hold now else M.setPhase 4) ∧
      M.reg .PWR_LBIST_FAIL = w32 (failedPartitions (pipes ++ others) % 2048) ∧ r ≤ 3 ∧
      memResult (L.fld .PWR_MBIST_STAT 10 0) ≤ r ∧ logicResult (failedPartitions (pipes ++ others)) ≤ r := by
  unfold Lane.logicTest
  rw [if_neg (by simp [h])]
  dsimp only
  generalize hS : foldTo 11 (fun (L : Lane) i => L.setNum64 .PWR_LBIST_SIG_LO .PWR_LBIST_SIG_HI ((pipes ++ others).getD i 0) i) L = S
  generalize hT : Lane.bump _ .PWR_BIST_CNT = T
  have hmem : T.judgePipes.1.fld .PWR_MBIST_STAT 10 0 = L.fld .PWR_MBIST_STAT 10 0 := by
    have hS' : S.reg .PWR_MBIST_STAT = L.reg .PWR_MBIST_STAT := by
      rw [← hS]
      exact Lane.foldTo_reg (fun M k => M.setNum64_reg (by decide) (by decide) _ _ 0 0) 11 L
    rw [Lane.fld, Lane.judgePipes, Lane.setPipes_reg _ _ _ _ _ _ (by decide), ← hT, Lane.bump, Lane.setReg_reg_other _ (by decide),
      Lane.setFld, Lane.setReg_reg_other _ (by decide), Lane.setReg_reg_other _ (by decide), hS', Lane.fld]
  have hfail : T.judgePipes.1.reg .PWR_LBIST_FAIL = w32 (failedPartitions (pipes ++ others) % 2048) := by
    rw [Lane.judgePipes, Lane.setPipes_reg _ _ _ _ _ _ (by decide), ← hT, Lane.bump, Lane.setReg_reg_other _ (by decide),
      Lane.setFld, Lane.setReg_reg_other _ (by decide), Lane.setReg_reg_self]
    rfl
  have hold : T.judgePipes.1.fld .PWR_STAT 27 26 < 4 := bits_lt ..
  refine ⟨_, _, rfl, ?_, ?_, ?_, ?_⟩
  · rw [Lane.raise_reg, Lane.setFld, Lane.setReg_reg_other _ (by decide)]
    exact hfail
  · have hpipe : (if T.judgePipes.2 = true then 0 else 2) ≤ 3 := by split <;> decide
    have h1 := memResult_le (T.judgePipes.1.fld .PWR_MBIST_STAT 10 0)
    have h2 := logicResult_le (failedPartitions (pipes ++ others))
    exact max_le (max_le (by omega) hpipe) (max_le h1 h2)
  · rw [← hmem]
    exact (le_max_left _ _).trans (le_max_right _ _)
  · exact (le_max_right _ _).trans (le_max_right _ _)

/-- What the lane shows at the end of its logic self-test. -/
theorem Lane.logicTest_shows {L : Lane} (h : L.phase = 3) (pipes others : List Nat) (ms : Nat) (now : Int) :
    let M := L.logicTest pipes others ms now
    let bad := failedPartitions (pipes ++ others)
    (M.phase = 4 ∨ M.phase = 9) ∧
    (logicResult bad = 3 ∨ memResult (L.fld .PWR_MBIST_STAT 10 0) = 3 → M.phase = 9) ∧
    M.reg .PWR_LBIST_FAIL = w32 (bad % 2048) := by
  obtain ⟨M, r, heq, hreg, hr, hmem, hlogic⟩ := Lane.logicTest_ends h pipes others ms now
  rw [heq]
  split
  · exact ⟨.inr (M.hold_phase now), fun _ => M.hold_phase now, (M.hold_reg now (by decide)).trans hreg⟩
  · next hne =>
    refine ⟨.inl (M.setPhase_phase (by decide)), fun h3 => ?_, (M.setPhase_reg 4 (by decide) 0).trans hreg⟩
    omega

/-! ### The generation check (R407) -/

theorem Lane.restore_phase (L : Lane) (slot : Option (Bool × ImgSlot)) (now : Int) : (L.restore slot now).phase = 7 :=
  Lane.setPhase_phase _ (by decide)

/-- A lane that fails the check is marked for Level 2. -/
def Lane.heldTo2 (L : Lane) (now : Int) : Lane := (L.setFlag .PWR_STAT 24 true).raise 12 0x02 now (leBytes 1 5 ++ leBytes 1 1)

theorem Lane.heldTo2_phase (L : Lane) (now : Int) : (L.heldTo2 now).phase = L.phase := by
  rw [Lane.heldTo2, Lane.phase_of_reg (Lane.raise_reg ..), Lane.phase, Lane.fld, Lane.setFlag, Lane.setReg_reg_self,
    bits_putBit_outside _ (.inl (by decide)), Lane.phase, Lane.fld]

theorem Lane.heldTo2_flag (L : Lane) (now : Int) : (L.heldTo2 now).flag .PWR_STAT 24 = true := by
  rw [Lane.heldTo2, Lane.raise_flag, Lane.setFlag_flag_self _ _ (by decide)]

/-- The lane after the generation check: its image read and restored, and marked where the check fails. -/
theorem State.generationCheck_lane {s : State} {l : LaneId} (h : (s.lane l).phase = 5) (now : Int) :
    ∃ M : Lane, M.phase = 7 ∧ ((s.generationCheck l now).lane l = M ∧ (s.lane l).flash.imgSlot ≠ none ∨
      (s.generationCheck l now).lane l = M.heldTo2 now) := by
  unfold State.generationCheck
  dsimp only
  rw [if_neg (by simp [h]), State.mapLane_lane]
  generalize hM : Lane.restore _ now _ = M
  have h7 : M.phase = 7 := by
    rw [← hM]
    exact Lane.restore_phase ..
  split
  · next hpass =>
    have hne : (s.lane l).flash.imgSlot ≠ none := by
      intro hnone
      obtain ⟨hread, -⟩ := Bool.and_eq_true_iff.mp hpass
      rw [hnone] at hread
      exact Bool.false_ne_true hread
    split
    · have hregs : ({ M with hostGen := some s.host.flash.running.genLo } : Lane).regs = M.regs := rfl
      exact ⟨_, (Lane.phase_of_reg (Lane.reg_of_regs hregs _)).trans h7, .inl ⟨rfl, hne⟩⟩
    · exact ⟨M, h7, .inl ⟨rfl, hne⟩⟩
  · exact ⟨M, h7, .inr rfl⟩

/-- A lane whose stage ends serves next; one that has no image holds to Level 2. -/
theorem State.generationCheck_ends {s : State} {l : LaneId} (h : (s.lane l).phase = 5) (now : Int) :
    ((s.generationCheck l now).lane l).phase = 7 ∧
    ((s.lane l).flash.imgSlot = none → ((s.generationCheck l now).lane l).flag .PWR_STAT 24 = true) := by
  obtain ⟨M, h7, ⟨hM, hne⟩ | hM⟩ := State.generationCheck_lane h now
  · rw [hM]
    exact ⟨h7, fun hnone => absurd hnone hne⟩
  · rw [hM]
    exact ⟨(M.heldTo2_phase now).trans h7, fun _ => M.heldTo2_flag now⟩

/-- Settles O55: each stage has its law, and the end of a start changes no lane and no domain. A host complex that becomes
ready in the parked state, and HOLD for a lane with no image, are assumption logs 31 and 37. -/
theorem startRunsItsStages : Obligations.StartRunsItsStages := by
  intro s l vin t ms fail repair rows cols low ok pipes others rest now u L H bad
  have hlane (k : LaneId) : u.lane k = s.now k := State.quiet_lane_now s k
  refine ⟨fun hm hv => ?_, fun h => ?_, fun hm => ⟨fun h0 => ?_, fun h1 => ?_, fun h2 => ?_, fun h26 h25 => ?_⟩, fun hm => ⟨?_, ?_⟩,
    fun hm => ⟨?_, fun hv hc => ?_, fun hv => ?_⟩, fun hm hst hup hf => ⟨fun hok hrun hd ha => ?_, fun h => ?_⟩,
    fun hm ha hq hh hc hn => ?_, fun h => ?_, fun hp => ?_, fun hp => ?_, fun hp => ?_, fun hp => ?_, fun hp => ?_,
    fun hp hd hk => ?_, fun h => ?_⟩
  -- power-good and the stages
  · exact ⟨_, execPowerGood_eq .., State.powerGood_starts (s := u) hm hv low⟩
  · rw [execPowerGood_eq, State.powerGood, if_pos]
    rcases h with h | h
    · simp [h]
    · simp [h]
  · rw [execStageStart_eq, State.stageStart, if_neg (by simp [hm]), show s.quiet.stage_ = 0 from h0]
    rfl
  · rw [execStageStart_eq, State.stageStart, if_neg (by simp [hm]), show s.quiet.stage_ = 1 from h1]
    rfl
  · rw [execStageStart_eq, State.stageStart, if_neg (by simp [hm]), show s.quiet.stage_ = 2 from h2]
    rfl
  · rw [execHoldLowTimeout_eq, State.holdTimeout, if_neg]
    simp only [State.quiet_power, hm, show s.quiet.host.flag .HCX_PWR_STAT 26 = false from h26,
      show s.quiet.host.flag .HCX_PWR_STAT 25 = false from h25]
    decide
  · rw [execStageStart_eq, State.stageStart, if_pos (by simp [hm])]
  · rw [execHoldLowTimeout_eq, State.holdTimeout, if_pos (by simp [hm])]
  -- the hold-up charge
  · intro v
    rw [execHoldUpChargeMeasure_eq, State.chargeMeasure, if_neg (show ¬ s.quiet.power.mstate = .off from hm)]
    simp only [Bool.or_eq_true, decide_eq_true_eq]
    rfl
  · rw [execHoldOk_eq, State.holdOk, if_neg]
    have hfld : ¬ s.quiet.host.fld .HCX_PWR_CAP 15 0 < 800 := Nat.not_lt.mpr hc
    simp [hm, hfld, hv]
  · rw [execHoldOk_eq, State.holdOk, if_pos (by simp [hv])]
  -- the host complex
  · obtain ⟨h1, h2⟩ := State.hostReady_up (s := u) hm hst hup hf hok hrun hd ha ms now
    refine ⟨_, execHostComplexReady_eq .., ?_, ?_⟩
    · rw [State.startDone_hcxUp, h1]
    · rw [State.startDone_reg _ (by decide), h2]
  · obtain ⟨h1, h2⟩ := State.hostReady_without (s := u) hm hst hup hf h ms now
    refine ⟨_, execHostComplexReady_eq .., ?_, ?_⟩
    · rw [State.startDone_hcxUp, h1]
    · rw [State.startDone_flag _ (by decide), h2]
  -- the stage of a lane
  · refine ⟨_, execLaneStart_eq .., ?_⟩
    rw [State.laneStart_begins (s := s.quiet) hm ha hq hh hc fun k => by rw [hlane]; exact hn k]
    have hl := laneNum_lt l
    refine ⟨?_, ?_, State.setStage_stage _ (by omega), ?_, fun k hk => ?_⟩
    · rw [State.setStage, State.hcx_lane, State.pwr_lane, State.mapLane_lane, Lane.setPhase_phase _ (by decide)]
    · rw [State.setStage, State.hcx_power]
      exact congrArg (List.drop 1) hq
    · rw [State.setStage, State.hcx_lane, State.pwr_lane, State.mapLane_lane, Lane.setPhase_reg _ _ (by decide),
        Lane.setReg_reg_other _ (by decide), Lane.setReg_reg_self]
    · rw [State.setStage, State.hcx_lane, State.pwr_lane, State.mapLane_lane_ne _ hk]
  · rw [execLaneStart_eq, State.laneStart_waits (s := s.quiet)]
    obtain h | h | ⟨k, h⟩ := h
    · exact .inl h
    · exact .inr (.inl h)
    · exact .inr (.inr ⟨k, by rw [hlane]; exact h⟩)
  -- the self-tests
  · have hreg (r : Reg) := Lane.reg_of_regs (Lane.memoryTest_regs hp fail repair rows cols ms now) r
    refine ⟨_, execMemorySelfTestEnd_eq .., ?_⟩
    rw [State.put_lane]
    exact ⟨(Lane.phase_of_reg (hreg _)).trans (Lane.setPhase_phase _ (by decide)),
      (hreg _).trans (Lane.memoryShown_stat ..), (Lane.flag_of_reg (hreg _) 25).trans (Lane.memoryShown_repaired ..)⟩
  · rw [execMemorySelfTestEnd_eq, Lane.memoryTest_idle hp]
  · refine ⟨_, execLogicSelfTestEnd_eq .., ?_⟩
    rw [State.startDone_lane, State.mapLane_lane, State.quiet_lane_now]
    exact Lane.logicTest_shows hp pipes others ms now
  -- the generation check
  · refine ⟨_, execGenerationCheck_eq .., ?_⟩
    have hcheck := State.generationCheck_ends (s := u) (l := l) (by rw [hlane]; exact hp) now
    rwa [hlane] at hcheck
  · rw [execGenerationCheck_eq, State.generationCheck, if_pos]
    rw [hlane]
    simpa using hp
  -- the entry to service
  · rw [execLaneEnterService_eq, State.enterService, if_neg]
    rw [hlane]
    simp [hp, hd, hk, L]
  · rw [execLaneEnterService_eq, State.enterService, if_pos]
    rw [hlane]
    simpa [or_assoc] using h

end Sys2Proof.Machine
end

section
/-! PROOFS. Firmware and keys: boot selection and confirmation, erases, the slot check, re-masking and provisioning. -/

namespace Sys2Proof.Machine

open Sys2Proof

@[simp] theorem laneOfNum_num (l : LaneId) : LaneId.ofNum l.num = some l := by cases l <;> rfl

/-! ### Flash and its registers (R411) -/

theorem Lane.showFw_reg (L : Lane) {r : Reg} (h : r ∉ [Reg.LCT_FW_STAT, .LCT_FW_BUILD, .LCT_FW_BANK]) : L.showFw.reg r = L.reg r := by
  obtain ⟨h1, h2, h3⟩ : r ≠ .LCT_FW_STAT ∧ r ≠ .LCT_FW_BUILD ∧ r ≠ .LCT_FW_BANK := by simpa using h
  unfold Lane.showFw
  dsimp only
  rw [Lane.setReg_reg_other _ h3, Lane.setReg_reg_other _ h3, Lane.setReg_reg_other _ h2, Lane.setReg_reg_other _ h1]

@[simp] theorem Lane.setFlash_flash (L : Lane) (F : Flash) : (L.setFlash F).flash = F := rfl

theorem Lane.setFlash_reg (L : Lane) (F : Flash) {r : Reg} (h : r ∉ [Reg.LCT_FW_STAT, .LCT_FW_BUILD, .LCT_FW_BANK]) :
    (L.setFlash F).reg r = L.reg r := by
  rw [Lane.setFlash, Lane.showFw_reg _ h]
  rfl

@[simp] theorem Hcx.setFlash_flash (H : Hcx) (F : Flash) : (H.setFlash F).flash = F := rfl

@[simp] theorem Lane.showMeas_flash (L : Lane) : L.showMeas.flash = L.flash :=
  Lane.foldTo_of Lane.flash (fun M _ => M.setReg_flash ..) 12 L

@[simp] theorem Lane.setKeySlot_flash (L : Lane) (slot : Nat) (k : KeySlot) : (L.setKeySlot slot k).flash = L.flash := rfl

@[simp] theorem Lane.restoreKeys_flash (L : Lane) : L.restoreKeys.flash = L.flash := by
  unfold Lane.restoreKeys
  dsimp only
  split
  · rfl
  · refine (foldl_keep Lane.flash _ ?_ _ _).trans rfl
    exact fun _ _ => rfl

/-! ### Boot selection (R412) -/

section boot
variable {L : Lane} (now : Int)

/-- A lane with no eligible bank is held. -/
theorem Lane.boot_held (h : (L.flash.boot 2).1.run = none) : (L.boot now).1.phase = 9 := by
  unfold Lane.boot
  dsimp only
  rw [h]
  exact Lane.hold_phase ..

theorem Lane.boot_runs {b : Nat} (h : (L.flash.boot 2).1.run = some b) :
    (L.boot now).1.phase = 5 ∧ (L.boot now).1.flash = (L.flash.boot 2).1 := by
  unfold Lane.boot
  dsimp only
  rw [h]
  refine ⟨Lane.setPhase_phase _ (by decide), ?_⟩
  rw [if_neg (by simp), Lane.setPhase, Lane.setFld_flash, Lane.showMeas_flash, Lane.restoreKeys_flash, Lane.setFlag_flash,
    Lane.setFlash_flash]

end boot

theorem State.fellBack_lane (s : State) (part : Nat) (back : Bool) (now : Int) (l : LaneId) :
    (s.fellBack part back now).lane l = s.lane l := by
  unfold State.fellBack
  split
  · exact State.raiseHost_lane ..
  · rfl

theorem State.fellBack_flash (s : State) (part : Nat) (back : Bool) (now : Int) :
    (s.fellBack part back now).host.flash = s.host.flash := by
  unfold State.fellBack
  split
  · rfl
  · rfl

theorem State.bootSelection_lane {s : State} {l : LaneId} (h : (s.lane l).phase = 4) (now : Int) :
    (s.bootSelection l.num now).lane l = ((s.lane l).boot now).1 := by
  unfold State.bootSelection
  rw [laneOfNum_num]
  dsimp only
  rw [if_neg (by simp [h]), State.fellBack_lane, State.mapLane_lane]

theorem State.bootSelection_otherPhase {s : State} {l : LaneId} (h : (s.lane l).phase ≠ 4) (now : Int) :
    s.bootSelection l.num now = s := by
  unfold State.bootSelection
  rw [laneOfNum_num]
  exact if_pos (by simp [h])

theorem State.bootSelection_host {s : State} (hup : s.power.hcxUp = false) (hon : s.hostOn = true) (hst : 2 ≤ s.stage_)
    (hrun : s.host.flash.run = none) (now : Int) : (s.bootSelection 4 now).host.flash = (s.host.flash.boot 1).1 := by
  have hgo : (s.power.hcxUp || !s.hostOn || s.stage_ < 2 || s.host.flash.run.isSome) = false := by
    simp [hup, hon, hrun, Nat.lt_of_lt_of_le one_lt_two hst]
  refine Eq.trans (congrArg (fun u : State => u.host.flash) (if_neg (Bool.eq_false_iff.mp hgo))) ?_
  exact State.fellBack_flash ..

theorem State.bootSelection_safetyLane {s : State} (hon : s.safetyOn = true) (hst : s.safety.st = sStart)
    (hrun : s.safety.flash.run = none) (now : Int) :
    (s.bootSelection 5 now).safety = (if (s.safety.flash.boot 3).1.run.isNone
      then ({ s.safety with flash := (s.safety.flash.boot 3).1 } : Safety).fail 6
      else { s.safety with flash := (s.safety.flash.boot 3).1 }) := by
  have hgo : (!s.safetyOn || s.safety.st != sStart || s.safety.flash.run.isSome) = false := by simp [hon, hst, hrun]
  refine Eq.trans (congrArg State.safety (if_neg (Bool.eq_false_iff.mp hgo))) ?_
  dsimp only
  split
  · rfl
  · rfl

theorem Safety.fail_flash (c : Nat) (x : Safety) : (x.fail c).flash = x.flash := by
  have hbrakes (y : Safety) : y.applyBrakes.flash = y.flash := by
    unfold Safety.applyBrakes
    split <;> rfl
  have habort (y : Safety) : y.htAbort.flash = y.flash := by
    unfold Safety.htAbort
    split <;> rfl
  unfold Safety.fail Safety.toSafe
  split
  · rfl
  · split
    · rfl
    · exact (habort _).trans (hbrakes _)

/-! ### Confirmation and erases (R413, R415, R423) -/

/-- A confirmed lane keeps the packages of the image that it runs. -/
theorem Lane.eraseOldKeys_recs (L : Lane) : ∀ r ∈ L.eraseOldKeys.keys.recs, r.meas = L.eraseOldKeys.flash.running.digest := by
  intro r hr
  have hkept : r ∈ L.keys.recs.filter (fun r => r.meas == L.flash.running.digest) := hr
  exact beq_iff_eq.mp (List.mem_filter.mp hkept).2

theorem State.bootConfirm_lane {s : State} {l : LaneId} (hs : (s.lane l).inService = true) (hl : (s.lane l).level ≤ 1) :
    (s.bootConfirm l.num).lane l = ((s.lane l).setFlash (s.lane l).flash.confirm).eraseOldKeys := by
  unfold State.bootConfirm
  rw [laneOfNum_num]
  dsimp only
  rw [if_pos (by simp [hs, hl]), State.mapLane_lane]

theorem State.bootConfirm_outOfService {s : State} {l : LaneId} (hs : (s.lane l).inService = false) : s.bootConfirm l.num = s := by
  unfold State.bootConfirm
  rw [laneOfNum_num]
  exact if_neg (by simp [hs])

theorem State.eraseStep_lane {s : State} {l : LaneId} {f : Flash → Option Flash} {F : Flash} (h : f (s.lane l).flash = some F)
    (count : Bool) : (s.eraseStep l.num f count).lane l = (let L := (s.lane l).setFlash F
      if count then L.bump .LCT_FW_SUSP else L) := by
  unfold State.eraseStep
  rw [laneOfNum_num]
  dsimp only
  rw [State.mapLane_lane, h]

/-! ### Keys (R425, R426) -/

/-- Re-masking leaves the key. -/
theorem KeyCell.remask_key (c : KeyCell) (mask : BitVec 256) : (c.remask mask).key = c.key := by
  unfold KeyCell.remask KeyCell.key
  split <;> simp [BitVec.xor_assoc]

theorem Lane.setKeySlot_keySlot_self (L : Lane) (slot : Nat) (k : KeySlot) : (L.setKeySlot slot k).keySlot slot = k := by
  unfold Lane.setKeySlot Lane.keySlot
  dsimp only
  split
  · next h =>
    obtain ⟨cur, next⟩ := k
    obtain ⟨rfl, rfl⟩ : cur = none ∧ next = none := by simpa using h
    rw [NMap.getD, NMap.get?_del_self]
    rfl
  · exact NMap.getD_put_self ..

theorem Lane.setKeySlot_keySlot_ne (L : Lane) {slot n : Nat} (h : n ≠ slot) (k : KeySlot) :
    (L.setKeySlot slot k).keySlot n = L.keySlot n := by
  unfold Lane.setKeySlot Lane.keySlot
  dsimp only
  split
  · rw [NMap.getD, NMap.get?_del_ne _ h]
    rfl
  · exact NMap.getD_put_ne _ h ..

/-- The keys of a slot, without their masks. -/
def KeySlot.keys (k : KeySlot) : Option (BitVec 256) × Option (BitVec 256) := (k.cur.map (·.key), k.next.map (·.key))

theorem Lane.remaskCell_keys (L : Lane) (slot : Nat) (next : Bool) (n : Nat) :
    ((L.remaskCell slot next).keySlot n).keys = (L.keySlot n).keys := by
  unfold Lane.remaskCell
  split
  · rfl
  · next c hc =>
    by_cases hn : n = slot
    · subst hn
      rw [Lane.setKeySlot_keySlot_self]
      cases next with
      | false =>
        have hcur : (L.keySlot n).cur = some c := hc
        simp [KeySlot.put, KeySlot.keys, KeyCell.remask_key, hcur]
      | true =>
        have hnext : (L.keySlot n).next = some c := hc
        simp [KeySlot.put, KeySlot.keys, KeyCell.remask_key, hnext]
    · rw [Lane.setKeySlot_keySlot_ne _ hn]
      rfl

theorem Lane.remaskCell_regs (L : Lane) (slot : Nat) (next : Bool) : (L.remaskCell slot next).regs = L.regs := by
  unfold Lane.remaskCell
  split <;> rfl

/-- Re-masking counts, and leaves every key as it was. -/
theorem Lane.remask_keeps (L : Lane) (n : Nat) :
    L.remask.reg .KEY_REMASK = L.reg .KEY_REMASK + 1 ∧ (L.remask.keySlot n).keys = (L.keySlot n).keys := by
  unfold Lane.remask
  generalize hM : List.foldl _ L _ = M
  have hregs : M.regs = L.regs := by
    rw [← hM]
    refine foldl_keep Lane.regs _ (fun K i => ?_) _ L
    rw [Lane.remaskCell_regs, Lane.remaskCell_regs]
  have hkeys : (M.keySlot n).keys = (L.keySlot n).keys := by
    rw [← hM]
    refine foldl_keep (fun K : Lane => (K.keySlot n).keys) _ (fun K i => ?_) _ L
    rw [Lane.remaskCell_keys, Lane.remaskCell_keys]
  refine ⟨?_, ?_⟩
  · rw [Lane.bump_reg_self, Lane.reg_of_regs hregs]
    rfl
  · rw [← hkeys, Lane.keySlot, Lane.bump_keys, Lane.keySlot]

/-- A blank module is provisioned: no test key is left in a lane, and the module is PROVISIONED. -/
theorem State.provision_blank {s : State} (h : s.host.keys.lifecycle = 0) (now : Int) :
    (s.provision now).host.keys.lifecycle = 1 ∧ ∀ k, ((s.provision now).lane k).keys.test = false := by
  have hstore (K : KeyStore) (hK : K.lifecycle = 0) : ({ K with test := false, prov := true } : KeyStore).lifecycle = 1 := by
    unfold KeyStore.lifecycle at hK ⊢
    grind
  unfold State.provision
  rw [if_neg (by simp [h]), State.lcTransition]
  refine ⟨hstore _ h, fun k => ?_⟩
  rw [State.raiseHost_lane, State.mapKeys, State.lane, Quad.get_mapv]

/-! ### The slot check (R416) -/

theorem Lane.slotCheck_idle {L : Lane} {ok : Bool} (h : L.inService = false ∨
    (if L.flag .LCT_TIMG_STAT 31 then L.flash.slot1 else L.flash.slot0).applied = false) (now : Int) : L.slotCheck ok now = L := by
  have hno : (L.inService && (if L.flag .LCT_TIMG_STAT 31 then L.flash.slot1 else L.flash.slot0).applied) = false := by
    rcases h with h | h <;> rw [h]
    · rfl
    · exact Bool.and_false _
  unfold Lane.slotCheck
  dsimp only
  rw [hno, if_pos]
  · rfl
  · simpa using Or.inl (Bool.and_eq_false_iff.mp hno)

section slotCheck
variable {L : Lane} (hs : L.inService = true)
  (hx : (if L.flag .LCT_TIMG_STAT 31 then L.flash.slot1 else L.flash.slot0).applied = true) (now : Int)
include hs hx

theorem Lane.slotCheck_passes : L.slotCheck true now = L.setFlag .LCT_TIMG_STAT 29 false := by
  unfold Lane.slotCheck
  dsimp only
  rw [hs, hx, Bool.or_true, Bool.and_true, if_pos rfl, if_pos rfl, Bool.not_true]

theorem Lane.slotCheck_fails : L.slotCheck false now = (let x := if L.flag .LCT_TIMG_STAT 31 then L.flash.slot1 else L.flash.slot0
    ({ L.setFlag .LCT_TIMG_STAT 29 true with flash := if L.flag .LCT_TIMG_STAT 31 then { L.flash with slot1 := { x with ok := false } }
      else { L.flash with slot0 := { x with ok := false } } } : Lane).raise 0 0x08 now (leBytes 1 1)) := by
  unfold Lane.slotCheck
  have hreg : (L.setFlag .LCT_TIMG_STAT 29 true).reg .PWR_STAT = L.reg .PWR_STAT := L.setReg_reg_other (by decide) ..
  have hserve : (L.setFlag .LCT_TIMG_STAT 29 true).inService = true :=
    (congrArg (· == 8) (Lane.phase_of_reg hreg)).trans hs
  dsimp only
  rw [hs, hx, Bool.and_true, if_pos rfl, Bool.not_false, hserve]
  rfl

end slotCheck

/-- Settles O57: each part boots and confirms by its own law; a key's value is the sum of its two masked halves, which
re-masking keeps. -/
theorem firmwareAndKeys : Obligations.FirmwareAndKeys := by
  intro s l now ok j n u L F
  have hlane (k : LaneId) : s.quiet.lane k = s.now k := State.quiet_lane_now s k
  refine ⟨fun hp => ⟨fun hn => ?_, fun b hb => ?_⟩, fun hp => ?_, fun hup hon hst hrun => ?_, fun hon hst hrun => ?_, fun hs hl => ?_,
    fun hs => ?_, fun hup => ?_, fun hst => ?_, fun hj he hsus => ?_, fun hj hsus => ?_, execSlotWriteComplete_eq l s, ?_, ?_,
    fun hb => ?_, fun hb => ?_⟩
  -- boot selection
  · refine ⟨_, execBootSelection_eq .., ?_⟩
    rw [State.startDone_lane, State.bootSelection_lane (by rw [hlane]; exact hp), hlane]
    exact Lane.boot_held now hn
  · refine ⟨_, execBootSelection_eq .., ?_⟩
    rw [State.startDone_lane, State.bootSelection_lane (by rw [hlane]; exact hp), hlane]
    exact Lane.boot_runs now hb
  · exact (execBootSelection_eq ..).trans (congrArg (fun v : State => Host.Outcome.next v.startDone)
      (State.bootSelection_otherPhase (by rw [hlane]; exact hp) now))
  · refine ⟨_, execBootSelection_eq .., ?_⟩
    rw [State.startDone_flash]
    exact State.bootSelection_host (s := s.quiet) hup hon hst hrun now
  · refine ⟨_, execBootSelection_eq .., ?_⟩
    rw [State.startDone_safety, State.bootSelection_safetyLane (s := s.quiet) hon hst hrun]
    have hstart : s.safety.st ≠ sSafe := by rw [hst]; decide
    split
    · obtain ⟨h1, h2, -⟩ := Safety.fail_safe (x := { s.safety with flash := (s.safety.flash.boot 3).1 }) hstart 6
      exact ⟨Safety.fail_flash .., fun _ => ⟨h1, h2⟩⟩
    · next hsome => exact ⟨rfl, fun hnone => absurd (Option.isNone_iff_eq_none.mpr hnone) hsome⟩
  -- confirmation
  · refine ⟨_, execBootConfirm_eq .., ?_⟩
    rw [State.bootConfirm_lane (by rw [hlane]; exact hs) (by rw [hlane]; exact hl), hlane]
    exact ⟨rfl, Lane.eraseOldKeys_recs _⟩
  · rw [execBootConfirm_eq, State.bootConfirm_outOfService (by rw [hlane]; exact hs)]
  · exact (execBootConfirm_eq ..).trans (congrArg _ (if_pos hup))
  · exact (execBootConfirm_eq ..).trans (congrArg _ (if_pos (by simp [hst])))
  -- erases
  · have hsuspend : F.suspend = some { F with job := some { j with susp := true } } := by
      rw [Flash.suspend, hj]
      exact if_pos (by simp [he, hsus])
    refine ⟨_, execEraseSuspend_eq .., ?_⟩
    rw [State.eraseStep_lane (by rw [hlane]; exact hsuspend), hlane]
    refine ⟨rfl, ?_⟩
    dsimp only
    rw [if_pos rfl, Lane.bump_reg_self, Lane.setFlash_reg _ _ (by decide)]
    rfl
  · have hresume : F.resume = some { F with job := some { j with susp := false } } := by
      rw [Flash.resume, hj]
      exact if_pos hsus
    refine ⟨_, execEraseResume_eq .., ?_⟩
    rw [State.eraseStep_lane (by rw [hlane]; exact hresume), hlane]
    exact ⟨rfl, Lane.setFlash_reg _ _ (by decide)⟩
  -- the slot check
  · intro one x G
    refine ⟨fun h => ?_, fun hs hx => ⟨?_, ?_⟩⟩
    · rw [execDailySlotCheck_eq, Lane.slotCheck_idle h]
    · rw [execDailySlotCheck_eq, Lane.slotCheck_passes hs hx]
    · rw [execDailySlotCheck_eq, Lane.slotCheck_fails hs hx]
  -- keys
  · obtain ⟨hcnt, hkeys⟩ := L.remask_keeps n
    obtain ⟨hcur, hnext⟩ := Prod.mk.inj hkeys
    refine ⟨_, execKeyRemask_eq .., ?_⟩
    rw [State.put_lane]
    exact ⟨hcnt, hcur.symm, hnext.symm⟩
  · exact ⟨_, execFactoryProvisioning_eq .., State.provision_blank (s := s.quiet) hb now⟩
  · exact (execFactoryProvisioning_eq ..).trans (congrArg _ (if_pos (bne_iff_ne.mpr hb)))

end Sys2Proof.Machine
end

section
/-! PROOFS. Commands to a lane that act at once. -/

namespace Sys2Proof.Machine

open Sys2Proof

/-! ### Past the checks of R302 -/

/-- A command that steps 1 to 4 let through to its lane acts there. -/
theorem exec_takesLane {s : State} {h : CmdHead} {c : HostCmd} {l : LaneId} {i : Instr} (hup : s.hostUp = true)
    (hex : exec i s = .next (if s.hostUp then State.direct h c s.quiet else s.quiet)) (ht : usesApply c = false)
    (hl : s.quiet.LetsThrough h c l (s.now l).tick) :
    exec i s = .next (s.quiet.takeLane l h ⟨h.fn, h.tag, cmdOp c, 0, none, false⟩ c) := by
  rw [hex, if_pos hup, State.direct_lane ht (by rw [State.quiet_lane_now]; exact hl)]

theorem State.finishOn_lane (s : State) (l : LaneId) (id : CmdId) (status : Nat) (result : List Byte) :
    (s.finishOn l id status result).lane l = (s.lane l).finish id status result := State.mapLane_lane ..

theorem Lane.finish_fin (L : Lane) {id : CmdId} (h : id.quiet = false) (status : Nat) (result : List Byte) :
    (L.finish id status result).fin = L.fin ++ [⟨id, status, result⟩] := by
  rw [Lane.finish, if_neg (by simp [h])]

theorem Lane.finish_flash (L : Lane) (id : CmdId) (status : Nat) (result : List Byte) :
    (L.finish id status result).flash = L.flash := by
  unfold Lane.finish
  split <;> rfl

theorem Lane.finish_keys (L : Lane) (id : CmdId) (status : Nat) (result : List Byte) :
    (L.finish id status result).keys = L.keys := by
  unfold Lane.finish
  split <;> rfl

@[simp] theorem Lane.setFlash_fin (L : Lane) (F : Flash) : (L.setFlash F).fin = L.fin := by
  rw [Lane.setFlash, Lane.showFw, Lane.setReg_fin, Lane.setReg_fin, Lane.setReg_fin, Lane.setReg_fin]

/-! ### Triggers, saved parcels (R323, R326) -/

theorem Lane.hostTrigger_waits {L : Lane} {defs : Nat} (hd : defs < 65536)
    (h : ∀ d, d < 16 → defs.testBit d = true → L.flag .ACQ_RD_TRG2 16 d = true) (id : CmdId) :
    L.hostTrigger id defs = ({ L with acq := { L.acq with host := L.acq.host ++ [(L.tick + 1, defs)] } } : Lane).addPend
      ⟨{ id with apply := L.tick + 1 }, .arcTrigger defs, false, false, false, false⟩ := by
  have hall : (List.range 16).all (fun d => !defs.testBit d || L.flag .ACQ_RD_TRG2 16 d) = true := by
    refine List.all_eq_true.mpr fun d hmem => ?_
    cases hbit : defs.testBit d with
    | false => rfl
    | true => exact h d (List.mem_range.mp hmem) hbit
  unfold Lane.hostTrigger
  dsimp only
  rw [hall, if_neg (by simpa using hd)]

theorem Lane.hostTrigger_refused {L : Lane} {defs : Nat}
    (h : 65536 ≤ defs ∨ ∃ d, d < 16 ∧ defs.testBit d = true ∧ L.flag .ACQ_RD_TRG2 16 d = false) (id : CmdId) :
    L.hostTrigger id defs = L.finish id 0x000D := by
  refine if_pos ?_
  rcases h with h | ⟨d, hd, hbit, hflag⟩
  · simp [h]
  · have hall : (List.range 16).all (fun d => !defs.testBit d || L.flag .ACQ_RD_TRG2 16 d) = false :=
      List.all_eq_false.mpr ⟨d, List.mem_range.mpr hd, by simp [hbit, hflag]⟩
    simp [hall]

/-! ### Keys (R423) -/

/-- A package that is signed and wrapped as it must be puts its key in its position. -/
theorem Lane.keyPut_puts {L : Lane} {k : KeyPkg} (hk : k.slot < 256) (hsig : k.sigOk = true) (hwrap : k.wrapOk = true)
    (hnext : k.nextImg = false) (howner : L.keys.owner.isSome = true) (hlife : L.keys.lifecycle = 3) :
    ∃ c, (L.keyPut k).1 = 0 ∧ ((L.keyPut k).2.keySlot k.slot).pos k.next = some c ∧ c.id = k.keyId ∧ c.alg = k.alg ∧
      c.key = k.key ∧ (L.keyPut k).2.fin = L.fin := by
  have howned : L.keys.owner.isNone = false := by simpa using howner
  unfold Lane.keyPut
  rw [if_neg (Nat.not_le.mpr hk), if_neg (by simp [howned, hsig]), if_neg (by simp [hlife, hwrap, hnext])]
  dsimp only
  rw [hnext, if_neg Bool.false_ne_true, Lane.setKeySlot_keySlot_self]
  refine ⟨keyCell k.keyId k.alg k.key (Config.keyMask (Nat.pair L.mac L.free)), rfl, ?_, rfl, rfl, ?_, rfl⟩
  · cases k.next <;> rfl
  · simp [keyCell, KeyCell.key]

theorem Lane.keyPut_unsigned {L : Lane} {k : KeyPkg} (hk : k.slot < 256) (hsig : k.sigOk = false) :
    L.keyPut k = (0x0207, L.bump .KEY_UNWRAP_ERR) := by
  unfold Lane.keyPut
  rw [if_neg (Nat.not_le.mpr hk), if_pos (by simp [hsig])]

/-! ### Staging (R414, R417) -/

section staging
variable {F : Flash} {kind : Nat} {id : CmdId} {hdr : FwHeader} {genOk : Bool}

/-- Another command's STAGE is in progress. -/
theorem Flash.stage_busy (hjob : F.job.isSome = true) (hother : ∀ j, F.job = some j → ¬(j.id.fn = id.fn ∧ j.id.tag = id.tag))
    (halt : Option Nat) : F.stage kind id hdr halt genOk = ⟨F, some 0x0205⟩ := by
  obtain ⟨j, hj⟩ := Option.isSome_iff_exists.mp hjob
  unfold Flash.stage
  rw [hj]
  dsimp only
  rw [if_neg (hother j hj)]
  rfl

theorem Flash.stage_window (hjob : F.job = none) (hgen : genOk = false) (halt : Option Nat) :
    F.stage kind id hdr halt genOk = ⟨F, some 0x0202⟩ := by
  unfold Flash.stage
  rw [hjob, hgen]
  rfl

theorem Flash.stage_svn (hjob : F.job = none) (hgen : genOk = true) (hsvn : hdr.svn < F.fuseSvn) (halt : Option Nat) :
    F.stage kind id hdr halt genOk = ⟨F, some 0x0203⟩ := by
  unfold Flash.stage
  rw [hjob, hgen]
  dsimp only
  rw [if_pos (by simp [hsvn])]
  rfl

/-- Every step runs, and the image is staged where its bank then verifies. -/
theorem Flash.stage_runs (hjob : F.job = none) (hgen : genOk = true) (hsvn : F.fuseSvn ≤ hdr.svn) :
    let G := Flash.stageRun { F with staged := none } ⟨id, F.otherBank, 0, hdr, false, false⟩ 6
    let ok := fwVerified kind (G.bank F.otherBank)
    F.stage kind id hdr none genOk =
      ⟨{ G with job := none, staged := if ok then some F.otherBank else none }, some (if ok then 0 else 0x0010)⟩ := by
  unfold Flash.stage
  rw [hjob, hgen]
  dsimp only
  rw [if_neg (by simpa using hsvn)]
  rfl

end staging

/-- What a STAGE leaves in its lane: the flash as the stage comes to it, and the status it completes with. -/
theorem State.stage_lane {s : State} {l : LaneId} {id : CmdId} {hdr : FwHeader} {halt : Option Nat} {F : Flash} {st : Nat}
    (hq : id.quiet = false) (hr : (s.lane l).flash.stage 2 id hdr halt (s.stageWindows true hdr) = ⟨F, some st⟩) (now : Int) :
    ((s.stage (some l) id hdr halt now).lane l).flash = F ∧
    ((s.stage (some l) id hdr halt now).lane l).fin = (s.lane l).fin ++ [⟨id, st, []⟩] := by
  unfold State.stage
  dsimp only [Option.isSome]
  rw [hr]
  dsimp only
  have hlane (u : State) (x : List Byte) : (if some st = some 0 then u.raiseHost 8 0x02 now x else u).lane l = u.lane l := by
    split
    · exact State.raiseHost_lane ..
    · rfl
  rw [hlane, State.mapLane_lane, Lane.finish_flash, Lane.finish_fin _ hq, Lane.setFlash_flash, Lane.setFlash_fin]
  exact ⟨rfl, rfl⟩

/-- Settles O46: past the checks each command goes to the law of its opcode. The generation and rollback are judged at
acceptance, and a STAGE of the same function and TAG goes on (assumption log 121). -/
theorem laneCommandsAct : Obligations.LaneCommandsAct := by
  intro s h l n p defs first count k hdr halt u L F id hup
  have hlane : u.lane l = L := State.quiet_lane_now s l
  refine ⟨fun hl => ?_, fun hl hp => ?_, fun hl => ?_, fun hl hk => ?_, fun hl => ?_, fun hl => ?_, fun hl => ?_, fun hl => ?_,
    fun hl => ?_, fun hl => ?_, fun hl => ?_, fun hl => ?_⟩
  -- READ_SLOT
  · rw [exec_takesLane hup (execReadSlot_eq ..) rfl hl]
    refine ⟨fun hn => ?_, fun hn => congrArg _ (if_pos hn)⟩
    refine congrArg _ ((if_neg (Nat.not_le.mpr hn)).trans ?_)
    rw [hlane]
    rfl
  -- MIGRATE SAVE
  · rw [exec_takesLane hup (execMigrateSave_eq ..) rfl hl]
    have htake : u.takeLane l h (id 6) (.migrate p 4 0 0 noSaved h.len) = u.migSave l (id 6) p h.len h.addr :=
      if_neg (Nat.not_le.mpr hp)
    refine ⟨fun hf => ?_, fun hf => ?_⟩
    · refine congrArg _ (htake.trans (if_pos ?_))
      rw [hlane]
      exact bne_iff_ne.mpr hf
    · refine congrArg _ (htake.trans ?_)
      unfold State.migSave
      dsimp only
      rw [hlane, if_neg (by simp [hf])]
  -- ARCHIVE TRIGGER
  · have htake : exec (.archiveTrigger h defs) s = .next (u.put l (L.hostTrigger (id 0x10) defs)) := by
      rw [exec_takesLane hup (execArchiveTrigger_eq ..) rfl hl, ← hlane]
      rfl
    rw [htake]
    refine ⟨fun hd hall => ?_, fun hd => ?_⟩
    · rw [Lane.hostTrigger_waits hd hall, State.mapLane_eq_put, hlane]
    · rw [Lane.hostTrigger_refused hd, State.finishOn, State.mapLane_eq_put, hlane]
  -- KEY PUT
  · have htake : exec (.keyPut h k) s = .next (u.put l ((L.keyPut k).2.finish (id 0x12) (L.keyPut k).1)) := by
      rw [exec_takesLane hup (execKeyPut_eq ..) rfl hl, ← hlane]
      rfl
    refine ⟨fun hsig hwrap hnext howner hlife => ?_, fun hsig => ?_⟩
    · obtain ⟨c, hst, hpos, hid, halg, hkey, hfin⟩ := Lane.keyPut_puts hk hsig hwrap hnext howner hlife
      refine ⟨_, c, htake, ?_, hid, halg, hkey, ?_⟩
      · rw [State.put_lane, Lane.keySlot, Lane.finish_keys]
        exact hpos
      · rw [State.put_lane, Lane.finish_fin _ rfl, hst, hfin]
    · rw [htake, Lane.keyPut_unsigned hk hsig, State.mapLane_eq_put, hlane]
  -- KEY PREPARE
  · have htake : exec (.keyPrepare h) s = .next (u.keyPrepare l (id 0x12) h.addr) := exec_takesLane hup (execKeyPrepare_eq ..) rfl hl
    refine ⟨fun hm => ?_, fun m hm => ?_⟩
    · rw [htake, State.keyPrepare, hlane, hm]
    · rw [htake, State.keyPrepare, hlane, hm]
  -- the field book
  · intro own
    rw [exec_takesLane hup (execFieldbookRead_eq ..) rfl hl, ← hlane]
    rfl
  · exact exec_takesLane hup (execFieldbookFlush_eq ..) rfl hl
  · exact exec_takesLane hup (execClearGen_eq ..) rfl hl
  · rw [exec_takesLane hup (execClearSafe_eq ..) rfl hl]
    refine ⟨fun hno => congrArg _ (if_pos ?_), fun h0 hs => congrArg _ (if_neg ?_)⟩
    · rw [hlane]
      simpa using hno
    · rw [hlane]
      simp [h0, hs, L]
  -- firmware
  · have htake : exec (.stage h hdr halt) s = .next (u.stage (some l) (id 0x13) hdr halt h.now) :=
      exec_takesLane hup (execStage_eq ..) rfl hl
    have hends {G : Flash} {st : Nat} (hr : F.stage 2 (id 0x13) hdr halt (u.stageWindows true hdr) = ⟨G, some st⟩) :
        ∃ t, exec (.stage h hdr halt) s = .next t ∧ (t.lane l).flash = G ∧ (t.lane l).fin = L.fin ++ [⟨id 0x13, st, []⟩] := by
      obtain ⟨hflash, hfin⟩ := State.stage_lane (s := u) (l := l) rfl (by rw [hlane]; exact hr) h.now
      rw [hlane] at hfin
      exact ⟨_, htake, hflash, hfin⟩
    refine ⟨fun hjob hother => hends (Flash.stage_busy hjob hother halt), fun hjob hw => hends (Flash.stage_window hjob hw halt),
      fun hjob hw hsvn => hends (Flash.stage_svn hjob hw hsvn halt), fun hjob hw hsvn hhalt => ?_⟩
    subst hhalt
    exact hends (Flash.stage_runs hjob hw hsvn)
  · have htake : exec (.activate h) s = .next (u.firmware (some l) (id 0x13) .activate h.now) :=
      exec_takesLane hup (execActivate_eq ..) rfl hl
    refine ⟨fun hst => ?_, fun b hst => ?_⟩
    · have hnone : F.activate = none := by rw [Flash.activate, hst, Option.map_none]
      rw [htake, State.firmware, hlane]
      dsimp only
      rw [hnone]
    · have hsome : F.activate = some (F.setBank b { F.bank b with commit := markSet }) := by rw [Flash.activate, hst, Option.map_some]
      rw [htake, State.firmware, hlane]
      dsimp only
      rw [hsome]
  · have htake : exec (.raiseSvn h) s = .next (u.firmware (some l) (id 0x13) .raiseSvn h.now) :=
      exec_takesLane hup (execRaiseSvn_eq ..) rfl hl
    have hkind : (some l).isSome = true := rfl
    refine ⟨fun G hG => ?_, fun hG => ?_⟩
    · rw [htake]
      unfold State.firmware
      dsimp only
      rw [hlane, if_pos hkind, hG]
    · rw [htake]
      unfold State.firmware
      dsimp only
      rw [hlane, if_pos hkind, hG]

end Sys2Proof.Machine
end

section
/-! PROOFS. Commands of the host complex that act at once: keys, functions, field book and archive. -/

namespace Sys2Proof.Machine

open Sys2Proof

/-- A command that the checks let through to the host complex acts there. -/
theorem exec_takesHost {s : State} {h : CmdHead} {c : HostCmd} {i : Instr} (hup : s.hostUp = true)
    (hex : exec i s = .next (if s.hostUp then State.direct h c s.quiet else s.quiet)) (ht : usesApply c = false)
    (hl : s.quiet.TakesHost h c) : exec i s = .next (s.quiet.takeHost h ⟨h.fn, h.tag, cmdOp c, 0, none, false⟩ c) := by
  rw [hex, if_pos hup, State.direct_host ht hl]

/-! ### The lifecycle (R426) -/

/-- What each lifecycle state says of the store. -/
theorem KeyStore.lifecycle_cases (K : KeyStore) :
    (K.lifecycle = 1 → K.root = true ∧ K.nonce = none ∧ K.owner = none) ∧
    (K.lifecycle = 2 → K.root = true ∧ K.nonce = none ∧ K.owner.isSome = true) := by
  obtain ⟨slots, recs, test, prov, owner, nonce, root⟩ := K
  cases root <;> cases nonce <;> cases owner <;> cases test <;> simp [KeyStore.lifecycle]

theorem KeyStore.lifecycle_owned {K : KeyStore} (hr : K.root = true) (hn : K.nonce = none) (root : Nat) (prov : Bool) :
    ({ K with owner := some root, prov := prov } : KeyStore).lifecycle = 2 := by
  simp [KeyStore.lifecycle, hr, hn]

theorem KeyStore.lifecycle_service {K : KeyStore} (hr : K.root = true) (n : BitVec 256) :
    ({ K with nonce := some n } : KeyStore).lifecycle = 3 := by
  simp [KeyStore.lifecycle, hr]

theorem KeyStore.lifecycle_retired (K : KeyStore) (test : Bool) : ({ K with root := false, test := test } : KeyStore).lifecycle = 4 := rfl

section transition
variable (s : State) (f : KeyStore → KeyStore) (now : Int)

/-- Every store changes alike, and nothing that has completed. -/
theorem State.lcTransition_keys : (s.lcTransition f now).host.keys = f s.host.keys ∧
    (∀ l, ((s.lcTransition f now).lane l).keys = f (s.lane l).keys) ∧ (s.lcTransition f now).host.done = s.host.done := by
  refine ⟨rfl, fun l => ?_, rfl⟩
  rw [State.lcTransition, State.raiseHost_lane, State.mapKeys, State.lane, Quad.get_mapv]
  rfl

end transition

/-- The commands that move the lifecycle. -/
def movesLifecycle : HostCmd → Bool
  | .own .. | .keyRelease | .enterService | .leaveService | .retire => true
  | _ => false

/-- A lifecycle command: its transition where the state allows it, else LCSTATE. -/
theorem State.takeHost_lifecycle {c : HostCmd} (hc : movesLifecycle c = true) (u : State) (h : CmdHead) (id : CmdId) :
    u.takeHost h id c = ((u.lifecycle c h.now).map (fun v => v.refuse id 0)).getD (u.refuse id 0x0206) := by
  have hmatch (o : Option State) : (match o with | some s => s.refuse id 0 | none => u.refuse id 0x0206) =
      (o.map (fun v => v.refuse id 0)).getD (u.refuse id 0x0206) := by cases o <;> rfl
  cases c with
  | own root signed => exact hmatch _
  | keyRelease => exact hmatch _
  | enterService => exact hmatch _
  | leaveService => exact hmatch _
  | retire => exact hmatch _
  | _ => cases hc

section moves
variable {s : State} {h : CmdHead} {c : HostCmd} {i : Instr} (hup : s.hostUp = true)
  (hex : exec i s = .next (if s.hostUp then State.direct h c s.quiet else s.quiet)) (ht : usesApply c = false)
  (hl : s.quiet.TakesHost h c) (hc : movesLifecycle c = true)
include hup hex ht hl hc

theorem exec_lifecycle_some {v : State} (hv : s.quiet.lifecycle c h.now = some v) :
    exec i s = .next (v.refuse ⟨h.fn, h.tag, cmdOp c, 0, none, false⟩ 0) := by
  rw [exec_takesHost hup hex ht hl, State.takeHost_lifecycle hc, hv]
  rfl

theorem exec_lifecycle_none (hv : s.quiet.lifecycle c h.now = none) :
    exec i s = .next (s.quiet.hcx (fun H => H.finish ⟨h.fn, h.tag, cmdOp c, 0, none, false⟩ 0x0206)) := by
  rw [exec_takesHost hup hex ht hl, State.takeHost_lifecycle hc, hv]
  rfl

end moves

/-- What a lifecycle command leaves when its transition is made. -/
theorem State.lcTransition_refuse (s : State) (f : KeyStore → KeyStore) (now : Int) (id : CmdId) :
    ((s.lcTransition f now).refuse id 0).host.keys = f s.host.keys ∧
    (∀ l, (((s.lcTransition f now).refuse id 0).lane l).keys = f (s.lane l).keys) ∧
    ((s.lcTransition f now).refuse id 0).host.done = s.host.done ++ [⟨id, 0, []⟩] := by
  obtain ⟨hkeys, hlanes, hdone⟩ := s.lcTransition_keys f now
  refine ⟨hkeys, fun l => ?_, congrArg (fun l : List Done => l ++ [(⟨id, 0, []⟩ : Done)]) hdone⟩
  rw [State.refuse, State.hcx_lane, hlanes]

/-! ### The archive (R337 to R343) -/

section submit
variable (H : Hcx)

/-- Submitting keeps what neither the queues nor the submission queue show. -/
theorem Hcx.submitNvme_keep {α : Type} (g : Hcx → α) (hput : ∀ (H : Hcx) (r : AttachRec) (c : NvmeCmd) (again : Bool),
      g (H.putNvme r c again) = g H)
    (hretry : ∀ (H : Hcx) (t : List NvmeCmd), g (H.setArc { H.arc with retry := t }) = g H)
    (htodo : ∀ (H : Hcx) (t : List NvmeCmd), g (H.setArc { H.arc with todo := t }) = g H) (n : Nat) : g (H.submitNvme n) = g H := by
  induction n generalizing H with
  | zero => rfl
  | succ n ih =>
    unfold Hcx.submitNvme
    split
    · rfl
    · split
      · rfl
      · split
        · rw [ih, hput, hretry]
        · rw [ih, hput, htodo]
        · rfl

/-- What submitting leaves of the archive: its namespace, its recovery and its state. -/
def Hcx.attached (H : Hcx) : Option AttachRec × Option CmdId × RegFile := (H.arc.attach, H.arc.recover, H.regs)

theorem Hcx.submitNvme_attached (n : Nat) : (H.submitNvme n).attached = H.attached :=
  H.submitNvme_keep Hcx.attached (fun _ _ _ _ => rfl) (fun _ _ => rfl) (fun _ _ => rfl) n

/-- With the link down nothing is submitted. -/
theorem Hcx.submitNvme_linkDown (h : H.linkUp = false) (n : Nat) : H.submitNvme n = H := by
  cases n with
  | zero => rfl
  | succ n =>
    unfold Hcx.submitNvme
    split
    · rfl
    · exact if_pos (by simp [h])

end submit

theorem Hcx.foldl_finish_regs (ids : List CmdId) (status : Nat) (result : List Byte) (H : Hcx) :
    (ids.foldl (fun (H : Hcx) i => H.finish i status result) H).regs = H.regs := by
  refine foldl_keep Hcx.regs _ ?_ ids H
  exact fun _ _ => rfl

theorem Hcx.reg_of_regs {H K : Hcx} (h : K.regs = H.regs) (r : Reg) : K.reg r = H.reg r := by
  rw [Hcx.reg, h, Hcx.reg]

theorem Hcx.arcState_of_reg {H K : Hcx} (h : K.reg .HCX_ARC_STAT = H.reg .HCX_ARC_STAT) : K.arcState = H.arcState := by
  rw [Hcx.arcState, Hcx.fld, h, Hcx.arcState, Hcx.fld]

theorem State.raiseHost_regs (s : State) (src code : Nat) (now : Int) (data : List Byte) :
    (s.raiseHost src code now data).host.regs = s.host.regs := rfl

theorem State.raiseHost_arc (s : State) (src code : Nat) (now : Int) (data : List Byte) :
    (s.raiseHost src code now data).host.arc = s.host.arc := rfl

/-- The archive that lets go has no namespace, and stays in the state that it shows. -/
theorem State.arcRelease_arc (s : State) (status : Nat) (now : Int) :
    (s.arcRelease status now).host.arc.attach = none ∧ (s.arcRelease status now).host.arcState = s.host.arcState := by
  have hdrop (t : State) (r : ArcRec) : (t.arcDrop r now).host.arc = t.host.arc ∧ (t.arcDrop r now).host.arcState = t.host.arcState := by
    refine ⟨rfl, Hcx.arcState_of_reg ?_⟩
    rw [State.arcDrop, Hcx.reg_of_regs (State.raiseHost_regs ..)]
    exact Hcx.setReg_reg_other _ (by decide) ..
  unfold State.arcRelease
  dsimp only
  generalize hT : s.hcx _ = T
  have harc : T.host.arc.attach = none ∧ T.host.arcState = s.host.arcState := by
    rw [← hT]
    exact ⟨rfl, Hcx.arcState_of_reg (Hcx.reg_of_regs (Hcx.foldl_finish_regs _ status [] _) _)⟩
  obtain ⟨hattach, hstate⟩ := harc
  refine ⟨?_, ?_⟩
  · rw [← hattach]
    exact congrArg Archive.attach (foldl_keep (fun t : State => t.host.arc) _ (fun t r => (hdrop t r).1) _ T)
  · rw [← hstate]
    exact foldl_keep (fun t : State => t.host.arcState) _ (fun t r => (hdrop t r).2) _ T

theorem State.setArcState_arcState (s : State) {st : Nat} (h : st < 4) (now : Int) : (s.setArcState st none now).host.arcState = st := by
  rw [State.setArcState, Hcx.arcState_of_reg (Hcx.reg_of_regs (State.raiseHost_regs ..) _)]
  exact (Hcx.setFld_fld_self _ _ (by decide) (by decide) ..).trans (Nat.mod_eq_of_lt h)

theorem Hcx.showArc_arcState (H : Hcx) : H.showArc.arcState = H.arcState := by
  rw [Hcx.arcState, Hcx.fld, Hcx.showArc, Hcx.setReg_reg_other _ (by decide), Hcx.setReg_reg_other _ (by decide), Hcx.arcState, Hcx.fld]

theorem Hcx.showArc_arc (H : Hcx) : H.showArc.arc = H.arc := rfl

theorem State.setArcState_arc (s : State) (st : Nat) (now : Int) : (s.setArcState st none now).host.arc = s.host.arc := by
  rw [State.setArcState, State.raiseHost_arc]
  exact Hcx.setFld_arc ..

/-- After DETACH no namespace is attached. -/
theorem State.arcDetach_detaches (s : State) (id : CmdId) (now : Int) :
    (s.arcDetach id now).host.arc.attach = none ∧ (s.arcDetach id now).host.arcState = aDetached := by
  obtain ⟨hattach, -⟩ := s.arcRelease_arc 0x0101 now
  unfold State.arcDetach
  dsimp only
  generalize hT : (ite ((s.arcRelease 0x0101 now).host.arcState = aDetached) _ _ : State) = T
  have harc : T.host.arc.attach = none ∧ T.host.arcState = aDetached := by
    rw [← hT]
    split
    · next h => exact ⟨hattach, h⟩
    · exact ⟨(congrArg Archive.attach (State.setArcState_arc ..)).trans hattach, State.setArcState_arcState _ (by decide) now⟩
  obtain ⟨hattach, hstate⟩ := harc
  have hshown (K : Hcx) (harc : K.arc.attach = T.host.arc.attach) (hregs : K.regs = T.host.regs) :
      K.showArc.arc.attach = none ∧ K.showArc.arcState = aDetached := by
    rw [Hcx.showArc_arc, Hcx.showArc_arcState, Hcx.arcState_of_reg (Hcx.reg_of_regs hregs _)]
    exact ⟨harc.trans hattach, hstate⟩
  exact hshown (T.host.finish id 0) rfl rfl

section attach
variable {s : State} {r : AttachRec} (hd : s.host.arcState = aDetached) (ha : s.host.arc.attach = none) (hok : attachOk r = true)
include hd ha hok

/-- ATTACH begins recovery: header and catalogue are to be read. -/
theorem State.arcAttach_begins (id : CmdId) (now : Int) :
    let v := s.arcAttach id r now
    v.host.arc.attach = some r ∧ v.host.arc.recover = some id ∧ v.host.arcState = aRecovering ∧
    (s.host.linkUp = false → v.host.arc.todo = ⟨2, 0, 4096, false, [], .recover⟩ :: nvmeCut 2 false .recover (r.mdts * 4096)
      (catalogueExt (extentsOf r.size) * 256 + 1) (2 ^ 20) (catalogueExt (extentsOf r.size) * 2 ^ 20) []) := by
  unfold State.arcAttach
  rw [if_neg (by simp [hd, ha]), if_neg (by simp [hok])]
  dsimp only
  generalize hB : State.setArcState _ aRecovering none now = B
  have hstate : B.host.arcState = aRecovering := by
    rw [← hB]
    exact State.setArcState_arcState _ (by decide) now
  have hlink : B.host.linkUp = s.host.linkUp := by
    have hreg : B.host.reg .HCX_PCIE_STAT = s.host.reg .HCX_PCIE_STAT := by
      rw [← hB, State.setArcState, Hcx.reg_of_regs (State.raiseHost_regs ..)]
      exact (Hcx.setFld_reg_other _ (by decide) ..).trans (Hcx.setReg_reg_other _ (by decide) ..)
    rw [Hcx.linkUp, Hcx.fld, hreg, Hcx.linkUp, Hcx.fld]
  have hkeeps := B.host.submitNvme_attached (B.host.arc.todo.length + B.host.arc.retry.length)
  obtain ⟨hattach, hrecover, hregs⟩ : B.host.submitAll.arc.attach = B.host.arc.attach ∧
      B.host.submitAll.arc.recover = B.host.arc.recover ∧ B.host.submitAll.regs = B.host.regs := by
    simpa [Hcx.attached, Hcx.submitAll] using hkeeps
  refine ⟨hattach.trans ?_, hrecover.trans ?_, ?_, fun hdown => ?_⟩
  · rw [← hB]
    rfl
  · rw [← hB]
    rfl
  · rw [← hstate]
    exact Hcx.arcState_of_reg (Hcx.reg_of_regs hregs _)
  · show B.host.submitAll.arc.todo = _
    rw [Hcx.submitAll, B.host.submitNvme_linkDown (hlink.trans hdown), ← hB]
    rfl

end attach

/-- An extent moves where its state, its owner and the records in writing allow it. -/
theorem State.arcMove_moves {s : State} {id : CmdId} {op ext : Nat} {x : ArcEntry} (ha : s.host.arcState = aAttached)
    (he : ext < s.host.extents) (ho : s.host.ownsExtent id.fn ext = true) (hx : s.host.arc.cat.get? ext = some x)
    (hst : x.state ∈ (extentMove op).1) (hw : s.host.arc.writing = []) (now : Int) :
    s.arcMove id op ext now = (s.hcx (fun H =>
      (H.setArc (H.arc.setEntry ext ((extentMove op).2.map (fun st => { x with state := st })))).finish id 0)).arcRun now := by
  unfold State.arcMove
  dsimp only
  rw [if_neg (by simp [ha]), if_neg (Nat.not_le.mpr he), if_neg (by simp [ho]), hx]
  dsimp only
  rw [if_neg]
  simp [hst, hw]

section alloc
variable {s : State} {id : CmdId} (ha : s.host.arcState = aAttached) {G : Hcx}
include ha

theorem State.arcAlloc_finds {k : Nat} (h : s.host.allocExtent id.fn 4 0 = (G, some k)) (now : Int) :
    s.arcAlloc id now = (s.hcx (fun _ => G.finish id 0 (leBytes 8 k))).arcRun now := by
  rw [State.arcAlloc, if_neg (by simp [ha]), h]

theorem State.arcAlloc_full (h : s.host.allocExtent id.fn 4 0 = (G, none)) (now : Int) :
    s.arcAlloc id now = s.hcx (fun _ => G.finish id 0x0102) := by
  rw [State.arcAlloc, if_neg (by simp [ha]), h]

/-- LIST writes the entries asked for, and shows those of others as empty. -/
theorem State.arcList_lists {first : Nat} (h : first < s.host.extents) (room addr : Nat) :
    s.arcList id first room addr = s.hcx (fun H => (H.emit (.write id.fn addr ((List.range (min room (s.host.extents - first))).flatMap
      (fun i => entryBytes (if id.fn = 0 ∨ H.ownsExtent id.fn (first + i) = true then H.entryOf (first + i) else none))))).finish
        id 0 (leBytes 4 (min room (s.host.extents - first)))) := by
  unfold State.arcList
  dsimp only
  rw [if_neg (by simp [ha]), if_neg (Nat.not_le.mpr h)]
  simp only [Bool.or_eq_true, decide_eq_true_eq, State.hcx]

end alloc

/-- Settles O47: past the checks each command goes to the law of its opcode; the states an extent may move from are assumption
log 108. -/
theorem hostCommandsAct : Obligations.HostCommandsAct := by
  intro s h t root f off len ext first signed r bytes u H now st id ends hup
  refine ⟨fun hl => ?_, fun hl => ?_, fun hl => ⟨fun h1 hp hs => ?_, fun hn => ?_⟩, fun hl => ⟨fun h2 hp => ?_, fun hn => ?_⟩,
    fun hl => ⟨fun h2 => ?_, fun hn => ?_⟩, fun hl => ⟨fun h3 hp => ?_, fun hn => ?_⟩, fun hl => ⟨fun hp => ?_, fun hn => ?_⟩,
    fun hl => ⟨fun hn => ?_, fun hf hfn => ?_⟩, fun hl => ?_, fun hl => ?_, fun hl => ⟨fun hn => ?_, fun hd ha hok => ?_, fun hd ha hok => ?_⟩,
    fun hl => ?_, fun hl => ⟨fun hn => ?_, fun hd ha hok => ?_, fun hd ha hok => ?_⟩, fun hl => ⟨fun hn => ?_, fun hok => ?_⟩,
    fun hl => ⟨fun hn => ?_, fun hok => ?_⟩, fun hl => ⟨fun hn => ?_, fun ha G => ⟨fun k hk => ?_, fun hk => ?_⟩⟩, ?_,
    fun hl => ⟨fun hn => ?_, fun ha hn => ?_, fun ha hn => ?_⟩⟩
  -- NOP and SET_TOD
  · exact exec_takesHost hup (execNop_eq ..) rfl hl
  · exact exec_takesHost hup (execSetTod_eq ..) rfl hl
  -- the lifecycle
  · obtain ⟨hr, hn, -⟩ := H.keys.lifecycle_cases.1 h1
    obtain ⟨hkeys, hlanes, hdone⟩ := u.lcTransition_refuse (fun K => { K with owner := some root, prov := false }) now (id 0x12)
    refine ⟨_, exec_lifecycle_some hup (execOwn_eq ..) rfl hl rfl (if_pos ⟨h1, hp, hs⟩), ?_, ?_, fun l => ?_, hdone⟩
    · exact (congrArg KeyStore.lifecycle hkeys).trans (KeyStore.lifecycle_owned hr hn root false)
    · exact congrArg KeyStore.owner hkeys
    · exact congrArg KeyStore.owner (hlanes l)
  · refine exec_lifecycle_none hup (execOwn_eq ..) rfl hl rfl (if_neg fun ⟨h1, hp, hs⟩ => ?_)
    simp_all [st, H, u]
  · obtain ⟨hkeys, hlanes, -⟩ := u.lcTransition_refuse (fun K => { K with owner := none }) now (id 0x12)
    exact ⟨_, exec_lifecycle_some hup (execKeyRelease_eq ..) rfl hl rfl (if_pos ⟨h2, hp⟩), congrArg KeyStore.owner hkeys,
      fun l => congrArg KeyStore.owner (hlanes l)⟩
  · refine exec_lifecycle_none hup (execKeyRelease_eq ..) rfl hl rfl (if_neg fun ⟨h2, hp⟩ => ?_)
    simp_all [st, H, u]
  · obtain ⟨hr, -, -⟩ := H.keys.lifecycle_cases.2 h2
    obtain ⟨hkeys, hlanes, -⟩ := (u.mapLane .a (fun L => { L with free := (u.lane .a).free + 1 })).lcTransition_refuse
      (fun K => { K with nonce := some (Config.serviceNonce (u.lane .a).free) }) now (id 0x12)
    refine ⟨_, exec_lifecycle_some hup (execEnterService_eq ..) rfl hl rfl (if_pos h2), ?_, fun l => ?_⟩
    · exact (congrArg KeyStore.lifecycle hkeys).trans (KeyStore.lifecycle_service hr _)
    · exact (congrArg KeyStore.nonce (hlanes l)).trans (congrArg KeyStore.nonce hkeys).symm
  · exact exec_lifecycle_none hup (execEnterService_eq ..) rfl hl rfl (if_neg hn)
  · obtain ⟨hkeys, hlanes, -⟩ := u.lcTransition_refuse (fun K => { K with nonce := none, slots := ⟨[]⟩, recs := [] }) now (id 0x12)
    exact ⟨_, exec_lifecycle_some hup (execLeaveService_eq ..) rfl hl rfl (if_pos ⟨h3, hp⟩), congrArg KeyStore.nonce hkeys,
      fun l => ⟨congrArg KeyStore.recs (hlanes l), congrArg KeyStore.slots (hlanes l)⟩⟩
  · refine exec_lifecycle_none hup (execLeaveService_eq ..) rfl hl rfl (if_neg fun ⟨h3, hp⟩ => ?_)
    simp_all [st, H, u]
  · obtain ⟨hkeys, hlanes, -⟩ := u.lcTransition_refuse (fun _ => { KeyStore.fresh with root := false, test := false }) now (id 0x12)
    exact ⟨_, exec_lifecycle_some hup (execRetire_eq ..) rfl hl rfl (if_pos hp), congrArg KeyStore.lifecycle hkeys,
      fun l => congrArg KeyStore.lifecycle (hlanes l)⟩
  · exact exec_lifecycle_none hup (execRetire_eq ..) rfl hl rfl (if_neg (Bool.eq_false_iff.mp hn))
  -- FN_RESET
  · exact (exec_takesHost hup (execFnReset_eq ..) rfl hl).trans (congrArg _ (if_pos (by simpa using hn)))
  · refine (exec_takesHost hup (execFnReset_eq ..) rfl hl).trans (congrArg _ (if_neg ?_))
    simpa [hf] using hfn
  -- the field book
  · exact exec_takesHost hup (execFieldbookFlush_eq ..) rfl hl
  · exact exec_takesHost hup (execClearSafe_eq ..) rfl hl
  -- ATTACH, DETACH and FORMAT
  · exact (exec_takesHost hup (execArchiveAttach_eq ..) rfl hl).trans (congrArg _ (if_pos (by simpa using hn)))
  · exact (exec_takesHost hup (execArchiveAttach_eq ..) rfl hl).trans
      (congrArg _ ((if_neg (by simpa using ⟨hd, ha⟩)).trans (if_pos (by simp [hok]))))
  · exact ⟨_, exec_takesHost hup (execArchiveAttach_eq ..) rfl hl, State.arcAttach_begins hd ha hok (id 0x10) now⟩
  · exact ⟨_, exec_takesHost hup (execArchiveDetach_eq ..) rfl hl, u.arcDetach_detaches (id 0x10) now⟩
  · exact (exec_takesHost hup (execArchiveFormat_eq ..) rfl hl).trans (congrArg _ (if_pos (by simpa using hn)))
  · exact (exec_takesHost hup (execArchiveFormat_eq ..) rfl hl).trans
      (congrArg _ ((if_neg (by simpa using ⟨hd, ha⟩)).trans (if_pos (by simp [hok]))))
  · exact (exec_takesHost hup (execArchiveFormat_eq ..) rfl hl).trans
      (congrArg _ ((if_neg (by simpa using ⟨hd, ha⟩)).trans (if_neg (by simp [hok]))))
  -- READ and WRITE
  · exact (exec_takesHost hup (execArchiveRead_eq ..) rfl hl).trans (congrArg _ (if_pos (by simpa using hn)))
  · exact (exec_takesHost hup (execArchiveRead_eq ..) rfl hl).trans (congrArg _ (if_neg (by simpa using hok)))
  · exact (exec_takesHost hup (execArchiveWrite_eq ..) rfl hl).trans (congrArg _ (if_pos (by simpa using hn)))
  · exact exec_takesHost hup (execArchiveWrite_eq ..) rfl hl
  -- ALLOC
  · exact (exec_takesHost hup (execArchiveAlloc_eq ..) rfl hl).trans (congrArg _ (if_pos (by simpa using hn)))
  · exact (exec_takesHost hup (execArchiveAlloc_eq ..) rfl hl).trans (congrArg _ (State.arcAlloc_finds (id := id 0x10) ha hk now))
  · exact (exec_takesHost hup (execArchiveAlloc_eq ..) rfl hl).trans (congrArg _ (State.arcAlloc_full (id := id 0x10) ha hk now))
  -- CLOSE, PIN, UNPIN and FREE
  · have hmoves {c : HostCmd} {i : Instr} {op : Nat} {y : Option Nat} {st : Nat}
        (hex : exec i s = .next (if s.hostUp then State.direct h c s.quiet else s.quiet)) (ht : usesApply c = false)
        (hop : cmdOp c = 0x10) (htake : u.takeHost h (id 0x10) c = u.arcMove (id 0x10) op ext now)
        (hst : st ∈ (extentMove op).1) (hy : (extentMove op).2 = y) (hl : u.TakesHost h c) :
        (H.arcState ≠ aAttached → exec i s = .next (ends 0x10 0x0101)) ∧
        (H.arcState = aAttached → ext < H.extents → H.ownsExtent h.fn ext = true → ∀ x, H.arc.cat.get? ext = some x → x.state = st →
          H.arc.writing = [] → exec i s = .next ((u.hcx (fun H =>
            (H.setArc (H.arc.setEntry ext (y.map (fun st => { x with state := st })))).finish (id 0x10) 0)).arcRun now)) := by
      have hdo : exec i s = .next (u.arcMove (id 0x10) op ext now) := by
        rw [exec_takesHost hup hex ht hl, hop]
        exact congrArg _ htake
      refine ⟨fun hn => hdo.trans (congrArg _ (if_pos (by simpa using hn))), fun ha he ho x hx hs hw => ?_⟩
      rw [hdo, State.arcMove_moves ha he ho hx (hs ▸ hst) hw, hy]
    intro c hc
    simp only [List.mem_cons, List.not_mem_nil, or_false] at hc
    rcases hc with rfl | rfl | rfl | rfl | rfl
    · exact hmoves (execArchiveClose_eq ..) rfl rfl rfl (by simp [extentMove]) rfl
    · exact hmoves (execArchivePin_eq ..) rfl rfl rfl (by simp [extentMove]) rfl
    · exact hmoves (execArchiveUnpin_eq ..) rfl rfl rfl (by simp [extentMove]) rfl
    · exact hmoves (execArchiveFree_eq ..) rfl rfl rfl (by simp [extentMove]) rfl
    · exact hmoves (execArchiveFree_eq ..) rfl rfl rfl (by simp [extentMove]) rfl
  -- LIST
  · exact (exec_takesHost hup (execArchiveList_eq ..) rfl hl).trans (congrArg _ (if_pos (by simpa using hn)))
  · exact (exec_takesHost hup (execArchiveList_eq ..) rfl hl).trans
      (congrArg _ ((if_neg (by simpa using ha)).trans (if_pos hn)))
  · exact (exec_takesHost hup (execArchiveList_eq ..) rfl hl).trans (congrArg _ (State.arcList_lists (id := id 0x10) ha hn len h.addr))

end Sys2Proof.Machine
end

section
/-! PROOFS. Rings that carry commands: the completion of a SET_QUOTA. -/

namespace Sys2Proof.Machine

open Sys2Proof

/-- Nothing of a lane. -/
def quotaOfLane : LaneQuota := ⟨0, 0, 0, [], 0, 0, 0⟩

/-- A record that gives a function one vector and room for a ring of 64 entries. -/
def quotaRecord : Quota := ⟨⟨quotaOfLane, quotaOfLane, quotaOfLane, quotaOfLane⟩, 0, 64, 1⟩

/-- A SET_QUOTA of virtual function 63 that has completed on lane A. -/
def quotaSet : Done := ⟨⟨0, 7, 4, 256, some 0, false⟩, 0, []⟩

/-- A module whose host complex runs, function 0 active with a completion ring of 64 entries, where lane A has that completion
to write and the record waits until it is written. -/
def quotaWaits : State :=
  ({ State.reset with
    lanes := State.reset.lanes.set .a { Lane.fresh 0 with fin := [quotaSet] }
    host := ((Hcx.fresh.setReg .HCX_PD_STAT 0xFFFFFFFF).setFn 0
      (((Fn.fresh.setFld .FN_STAT 31 30 1).setFld .FN_RING_CFG 27 24 6 1).setRing 1 rRun))
    power := { State.reset.power with hcxUp := true } } : State).hcx (fun H =>
      { H with quotaNext := [⟨63, .a, 7, quotaRecord, 256, LaneId.all, false⟩] })

/-- The row takes the module items of the record as the completion is written (R318). -/
theorem quotaWaits_taken : (State.completionRow (some .a) 0 quotaWaits.quiet).host.quotas.get? 63 = some quotaRecord := by
  decide

/-- Refutes O48: COMMAND_COMPLETION gives the entry written as the whole of the next state, but as the completion of a SET_QUOTA
is written the module items of its record take effect too (R303, R318). In `quotaWaits` the record of function 63 is taken, and
the clause leaves none. -/
theorem not_ringsCarryCommands : ¬ Obligations.RingsCarryCommands := by
  intro h
  obtain ⟨-, -, -, hwritten, -⟩ := h quotaWaits 0 0 4 0 0 ⟨[], .none⟩ quotaSet [] .a 0 (by decide)
  obtain ⟨-, hlane, -⟩ := hwritten (by decide) (by decide)
  have hnext := hlane (by decide) (by decide) (by decide)
  rw [execCommandCompletion_eq, if_pos (by decide)] at hnext
  have hquotas := congrArg (fun t : State => t.host.quotas.get? 63) (Host.Outcome.next.inj hnext)
  exact absurd (quotaWaits_taken.symm.trans hquotas) (by decide)

end Sys2Proof.Machine
end

section
/-! PROOFS. Rings that carry frames, events and messages. -/

namespace Sys2Proof.Machine

open Sys2Proof

/-- A command of host service that meets it up does what its meaning says. -/
theorem exec_onHost {s t : State} {f : State → State} {i : Instr} (hup : s.hostUp = true)
    (hex : exec i s = .next (if s.hostUp then f s.quiet else s.quiet)) (hf : f s.quiet = t) : exec i s = .next t := by
  rw [hex, if_pos hup, hf]

/-! ### Transmit descriptors (R307) -/

/-- The module once the next descriptor of a transmit ring is fetched. -/
def State.txFetched (s : State) (f r : Nat) : State :=
  s.mapFn f (fun F => (F.setFld .FN_RING_IDX 15 0 (F.cons r + 1) r).takeCredit.setFlight r (F.flight r + 1))

theorem State.mapFn_congr {s : State} {f : Nat} {g k : Fn → Fn} (h : g (s.host.fn f) = k (s.host.fn f)) : s.mapFn f g = s.mapFn f k := by
  exact congrArg (fun F : Fn => s.hcx (fun H => H.setFn f F)) h

theorem State.txFetched_outer (s : State) (f r : Nat) : s.mapFn f (fun F =>
    (F.setFld .FN_RING_IDX 15 0 ((s.host.fn f).cons r + 1) r).takeCredit.setFlight r (F.flight r + 1)) = s.txFetched f r :=
  State.mapFn_congr rfl

/-- The module once a fetched descriptor waits for its write-back, refused or on its way through a lane. -/
def State.txNoted (s : State) (f r : Nat) (bad : Bool) (l : LaneId) : State :=
  (s.txFetched f r).mapFn f (fun F => { F with tx := F.tx.put r (F.tx.getD r [] ++ [((s.host.fn f).cons r, bad, l)]) })

section descriptor
variable {s : State} {f r : Nat} {d : TxDesc} (h7 : 7 ≤ r) (h11 : r < 11) (hm : s.host.mayFetch f r = true)
include h7 h11 hm

theorem State.txDescriptor_bad (hd : d.good = false) (now : Int) :
    s.txDescriptor f r d now = (s.txFetched f r).fence f 2 r ((s.host.fn f).cons r) now := by
  unfold State.txDescriptor
  dsimp only
  rw [if_neg (by simp [hm]; omega), State.txFetched_outer]
  exact if_pos (by simp [hd])

/-- A good descriptor: an express frame is refused, one to a fenced lane is done, else the frame enters the switch. -/
theorem State.txDescriptor_good (hd : d.good = true) {l : LaneId} (hl : (s.host.fn f).ringLane r = l) {bad : Bool}
    (hbad : txExpress ((s.txFetched f r).lane l).burstEtype d.frame = bad) (now : Int) :
    s.txDescriptor f r d now =
      let i := (s.host.fn f).cons r
      let t := s.txNoted f r bad l
      if bad then t
      else if t.fenced l then t.mapLane l (fun L => { L with net := { L.net with txDone := L.net.txDone ++ [⟨f, r, i, 2, 0, []⟩] } })
      else t.mapLane l (Lane.hostFrame { d.frame with len := d.len + 4 } d.ports f r i) := by
  unfold State.txDescriptor
  dsimp only
  rw [if_neg (by simp [hm]; omega), State.txFetched_outer, if_neg (by simp [hd]), hl, hbad]
  rfl

end descriptor

/-! ### Written-back descriptors (R307) -/

section writeBack
variable {s : State} {L : Lane} {l : LaneId} {f r i : Nat} {bad : Bool} {rest : List (Nat × Bool × LaneId)}
  (hlane : s.lane l = L) (hq : (s.host.fn f).tx.getD r [] = (i, bad, l) :: rest)
  (hr : (s.host.fn f).ring r = rRun ∨ (s.host.fn f).ring r = rDrain)
include hq hr

theorem State.txWriteBack_refused (hb : bad = true) (now : Int) : s.txWriteBack f r now =
    (s.hcx (fun H => H.emit (.write f ((s.host.fn f).entryAddr r i 64 + 0x20) (txBytes 1 0 [] (fun _ => 0))))).mapFn f (fun F =>
      let F := ((F.giveCredit.setFlight r (F.flight r - 1)).bump .FN_RING_CNT r).owe r now
      { F with tx := F.tx.put r rest }) := by
  unfold State.txWriteBack
  dsimp only
  rw [hq]
  dsimp only
  rw [if_neg (by simpa [or_iff_not_imp_left] using hr)]
  exact if_pos hb

include hlane

theorem State.txWriteBack_waits (hb : bad = false)
    (hn : L.net.txDone.find? (fun x => x.fn == f && x.ring == r && x.idx == i) = none) (now : Int) : s.txWriteBack f r now = s := by
  unfold State.txWriteBack
  dsimp only
  rw [hq]
  dsimp only
  rw [if_neg (by simpa [or_iff_not_imp_left] using hr), if_neg (by simp [hb]), hlane, hn]

theorem State.txWriteBack_done (hb : bad = false) {x : TxDone}
    (hx : L.net.txDone.find? (fun x => x.fn == f && x.ring == r && x.idx == i) = some x) (now : Int) : s.txWriteBack f r now =
    ((s.mapLane l (fun L => { L with net := { L.net with
        txDone := L.net.txDone.filter (fun x => !(x.fn == f && x.ring == r && x.idx == i)) } })).hcx (fun H =>
      H.emit (.write f ((s.host.fn f).entryAddr r i 64 + 0x20) (txBytes x.status x.sent x.ts L.stamp)))).mapFn f (fun F =>
        let F := ((F.giveCredit.setFlight r (F.flight r - 1)).bump .FN_RING_CNT r).owe r now
        { F with tx := F.tx.put r rest }) := by
  unfold State.txWriteBack
  dsimp only
  rw [hq]
  dsimp only
  rw [if_neg (by simpa [or_iff_not_imp_left] using hr), if_neg (by simp [hb]), hlane, hx]

end writeBack

/-! ### Receive delivery (R308) -/

section receive
variable {s : State} {L : Lane} {l : LaneId} (hlane : s.lane l = L) (hopen : s.fenced l = false)
include hlane hopen

theorem State.receive_none (h : L.takeIn = none) (b : RxDesc) (now : Int) : s.receive l b now = s := by
  rw [State.receive, if_neg (by simp [hopen]), hlane, h]

variable {M : Lane} {bf : Buf} {it : QItem} {cls : Nat} (h : L.takeIn = some (M, bf, it, cls))
include h

theorem State.receive_noMatch (hn : s.host.rxRing l M.mac bf.frame = none) (b : RxDesc) (now : Int) :
    s.receive l b now = (s.mapLane l (fun _ => M)).hcx (fun H => H.bump .HCX_RX_NOMATCH) := by
  rw [State.receive, if_neg (by simp [hopen]), hlane, h]
  dsimp only
  rw [hn]

variable {f r : Nat} (hm : s.host.rxRing l M.mac bf.frame = some (f, r))
include hm

theorem State.receive_noBuffer (hf : (s.host.fn f).fill r = 0) (b : RxDesc) (now : Int) :
    s.receive l b now = (s.mapLane l (fun _ => M)).mapFn f (fun F => F.bump .FN_RING_CNT r) := by
  rw [State.receive, if_neg (by simp [hopen]), hlane, h]
  dsimp only
  rw [hm]
  exact if_pos hf

variable (hf : (s.host.fn f).fill r ≠ 0)
include hf

theorem State.receive_noCredit (hh : s.host.mayHold f = false) (b : RxDesc) (now : Int) : s.receive l b now = s := by
  rw [State.receive, if_neg (by simp [hopen]), hlane, h]
  dsimp only
  rw [hm]
  dsimp only
  rw [if_neg hf]
  exact if_pos (by simp [hh])

variable (hh : s.host.mayHold f = true)
include hh

/-- A frame with a buffer and a credit: a buffer too short fences, else frame and result are written. -/
theorem State.receive_buffer (b : RxDesc) (now : Int) : s.receive l b now =
    let taken := (s.mapLane l (fun _ => M)).mapFn f (fun F => F.setFld .FN_RING_IDX 15 0 (F.cons r + 1) r)
    let k := (s.host.fn f).cons r
    let len := it.len - 4 - (if it.red.isSome then 6 else 0)
    if b.len < 1522 then taken.fence f 2 r k now
    else (taken.hcx (fun H => (H.emit (.frame f b.addr { bf.frame with len := len, red := none })).emit
      (.write f ((s.host.fn f).entryAddr r k 64 + 0x20)
        (rxBytes len bf.ingress cls ((bf.frame.tag.map (·.vid)).getD 0) (M.stamp bf.rx))))).mapFn f (fun F => F.owe r now) := by
  have htaken : (s.mapLane l (fun _ => M)).mapFn f (fun F => F.setFld .FN_RING_IDX 15 0 ((s.host.fn f).cons r + 1) r) =
      (s.mapLane l (fun _ => M)).mapFn f (fun F => F.setFld .FN_RING_IDX 15 0 (F.cons r + 1) r) := State.mapFn_congr rfl
  rw [State.receive, if_neg (by simp [hopen]), hlane, h]
  dsimp only
  rw [hm]
  dsimp only
  rw [if_neg hf, if_neg (by simp [hh]), htaken]

end receive

/-! ### Events (R312) -/

section events
variable {s : State} {f : Nat}

theorem State.waitingBeacons_none (hl : ∀ z, (s.lane z).datum.beacons.get? f = none) (hb : (s.host.fn f).beacon = none) (now : Int) :
    s.waitingBeacons f now = s := by
  simp [State.waitingBeacons, LaneId.all, hl, hb]

/-- With events dropped and room again, the overflow entry is placed with their count. -/
theorem State.overflowEntry_places (hl : ∀ z, (s.lane z).datum.beacons.get? f = none) (hb : (s.host.fn f).beacon = none)
    (hn : (s.host.fn f).lost ≠ 0) (hr : (s.host.fn f).ring 2 = rRun) (hroom : (s.host.fn f).takes 2 = true) (now : Int) :
    s.overflowEntry f now = (s.writeEntry f 2 (eventBytes 0 ((s.host.fn f).phase 2) 0 2 0 0 now s.timeNum
      (leBytes 8 (s.host.fn f).lost)) now).mapFn f (fun F => { F with lost := 0 }) := by
  unfold State.overflowEntry
  dsimp only
  rw [State.waitingBeacons_none hl hb, if_neg (by simp [hn, hr, hroom])]

theorem State.overflowEntry_idle (hl : ∀ z, (s.lane z).datum.beacons.get? f = none) (hb : (s.host.fn f).beacon = none)
    (hn : (s.host.fn f).lost = 0) (now : Int) : s.overflowEntry f now = s := by
  unfold State.overflowEntry
  dsimp only
  rw [State.waitingBeacons_none hl hb]
  exact if_pos (by simp [hn])

end events

/-! ### Messages (R313) -/

section messages
variable {s : State} {f r v : Nat}

theorem State.msixMessage_due (h0 : 0 < r) (h11 : r < 11) (hr : (s.host.fn f).ring r = rRun ∨ (s.host.fn f).ring r = rDrain)
    {now : Int} (hd : (s.host.fn f).msgDue r now = true) : s.msixMessage f r now =
      (s.mapFn f (fun F => { F with owed := F.owed.del r })).signal f ((s.host.fn f).fld .FN_RING_CFG 21 16 r) :=
  if_neg (by simp [hd]; omega)

theorem State.msixMessage_notDue {now : Int} (hd : (s.host.fn f).msgDue r now = false) : s.msixMessage f r now = s :=
  if_pos (by simp [hd])

/-- A masked vector is unmasked: a message that waits goes out. -/
theorem State.msixMask_unmasks (hv : v < (if f = 0 then 64 else 8)) (hf : s.host.hasFn f = true)
    (hm : (s.host.fn f).unmask.testBit v = false) : s.msixMask f v false =
      let t := s.mapFn f (fun F => { F with unmask := F.unmask + 2 ^ v })
      if !(s.host.fn f).flag .FN_PBA (v % 32) (v / 32) then t
      else (t.mapFn f (fun F => F.setFlag .FN_PBA (v % 32) false (v / 32))).signal f v := by
  have hunmask : s.mapFn f (fun F => { F with unmask := (s.host.fn f).unmask + 2 ^ v }) =
      s.mapFn f (fun F => { F with unmask := F.unmask + 2 ^ v }) := State.mapFn_congr rfl
  unfold State.msixMask
  dsimp only
  rw [if_neg (by simp [hf]; omega)]
  simp only [hm, hunmask, Bool.false_or, Bool.false_eq_true, if_false]

end messages

/-- Settles O49: with host service up each row goes to its law; what waits and what is counted are its branches. -/
theorem ringsCarryFramesAndEvents : Obligations.RingsCarryFramesAndEvents := by
  intro s f r v d b o rep rest hrest ln i bad txs l now u F k fetched noted hit back hup
  have hlane : u.lane l = s.now l := State.quiet_lane_now s l
  have hbeacons (h : ∀ z, (s.now z).datum.beacons.get? f = none) (z : LaneId) : (u.lane z).datum.beacons.get? f = none := by
    rw [State.quiet_lane_now, h]
  refine ⟨fun h7 h11 hm => ⟨fun hd => ?_, fun hd z hz => ⟨fun he => ?_, fun he => ⟨fun hc => ?_, fun hc => ?_⟩⟩⟩,
    fun hq hr => ⟨fun hb => ?_, fun hb hn => ?_, fun hb x hx => ?_⟩,
    fun hopen => ⟨fun hn => ?_, fun M bf it cls hx => ⟨fun hn => ?_, fun hm => ⟨fun hf => ?_, fun hf hh => ?_, fun hf hh =>
      ⟨fun hlen => ?_, fun hlen => ?_⟩⟩⟩⟩, fun hp hopen => ?_, fun hp => ?_,
    fun hl hb => ⟨fun hn => ?_, fun hn hr hroom => ?_⟩, fun h0 h11 hr => ⟨fun hd => ?_, fun hd => ?_⟩,
    fun hv hf hm => ⟨fun hpba => ?_, fun hpba => ?_⟩⟩
  -- TRANSMIT_DESCRIPTOR
  · exact exec_onHost hup (execTransmitDescriptor_eq ..) (State.txDescriptor_bad h7 h11 hm hd now)
  · exact exec_onHost hup (execTransmitDescriptor_eq ..) ((State.txDescriptor_good h7 h11 hm hd hz he now).trans (if_pos rfl))
  · exact exec_onHost hup (execTransmitDescriptor_eq ..) ((State.txDescriptor_good h7 h11 hm hd hz he now).trans
      ((if_neg Bool.false_ne_true).trans (if_pos hc)))
  · exact exec_onHost hup (execTransmitDescriptor_eq ..) ((State.txDescriptor_good h7 h11 hm hd hz he now).trans
      ((if_neg Bool.false_ne_true).trans (if_neg (Bool.eq_false_iff.mp hc))))
  -- TRANSMIT_WRITE_BACK
  · exact exec_onHost hup (execTransmitWriteBack_eq ..) (State.txWriteBack_refused (s := u) hq hr hb now)
  · exact exec_onHost hup (execTransmitWriteBack_eq ..) (State.txWriteBack_waits hlane hq hr hb hn now)
  · exact exec_onHost hup (execTransmitWriteBack_eq ..) (State.txWriteBack_done hlane hq hr hb hx now)
  -- RECEIVE_DELIVERY
  · exact exec_onHost hup (execReceiveDelivery_eq ..) (State.receive_none hlane hopen hn b now)
  · exact exec_onHost hup (execReceiveDelivery_eq ..) (State.receive_noMatch hlane hopen hx hn b now)
  · exact exec_onHost hup (execReceiveDelivery_eq ..) (State.receive_noBuffer hlane hopen hx hm hf b now)
  · exact exec_onHost hup (execReceiveDelivery_eq ..) (State.receive_noCredit hlane hopen hx hm hf hh b now)
  · exact exec_onHost hup (execReceiveDelivery_eq ..) ((State.receive_buffer hlane hopen hx hm hf hh b now).trans (if_pos hlen))
  · exact exec_onHost hup (execReceiveDelivery_eq ..)
      ((State.receive_buffer hlane hopen hx hm hf hh b now).trans (if_neg (Nat.not_lt.mpr hlen)))
  -- EVENT_PLACEMENT
  · refine exec_onHost hup (execEventPlacement_eq ..) ?_
    rw [State.eventPlacement, if_neg (Bool.eq_false_iff.mp (show u.fenced l = false from hopen)), hlane, hp]
  · refine exec_onHost hup (execEventPlacement_eq ..) ?_
    rw [State.eventPlacement, show s.quiet.host.placed = _ from hp]
  -- OVERFLOW_ENTRY
  · exact exec_onHost hup (execOverflowEntry_eq ..) (State.overflowEntry_idle (s := u) (hbeacons hl) hb hn now)
  · exact exec_onHost hup (execOverflowEntry_eq ..)
      (State.overflowEntry_places (s := u) (hbeacons hl) hb hn hr hroom now)
  -- MSIX_MESSAGE and MSIX_UNMASK
  · exact exec_onHost hup (execMsixMessage_eq ..) (State.msixMessage_due (s := u) h0 h11 hr hd)
  · exact exec_onHost hup (execMsixMessage_eq ..) (State.msixMessage_notDue (s := u) hd)
  · exact exec_onHost hup (execMsixUnmask_eq ..) ((State.msixMask_unmasks (s := u) hv hf hm).trans (if_pos (congrArg not hpba)))
  · exact exec_onHost hup (execMsixUnmask_eq ..) ((State.msixMask_unmasks (s := u) hv hf hm).trans (if_neg (Bool.eq_false_iff.mp (congrArg not hpba))))

end Sys2Proof.Machine
end

section
/-! PROOFS. The archive: captures, NVMe commands, the catalogue and recovery; the field books. -/

namespace Sys2Proof.Machine

open Sys2Proof

/-! ### Captures and records (R329 to R336) -/

section capture
variable {s : State} {l : LaneId} {d : Nat}

/-- The module once an ended capture of a lane has its record ID and has left the engine. -/
def State.capEnded (s : State) (l : LaneId) (d : Nat) : State :=
  let rid := (s.host.reg .HCX_ARC_RECID_HI).toNat * 2 ^ 32 + (s.host.reg .HCX_ARC_RECID_LO).toNat
  let next := (rid + 1) % 2 ^ 48
  (s.mapLane l (fun M => M.capFinish l.num rid d)).hcx (fun H =>
    (H.setReg .HCX_ARC_RECID_LO (w32 next)).setReg .HCX_ARC_RECID_HI (w32 (next / 2 ^ 32)))

theorem State.capEnded_fenced (s : State) (l : LaneId) (d : Nat) : (s.capEnded l d).fenced l = s.fenced l := by
  have hreg : (s.capEnded l d).host.reg .HCX_LANE_LINK = s.host.reg .HCX_LANE_LINK :=
    (Hcx.setReg_reg_other _ (by decide) ..).trans (Hcx.setReg_reg_other _ (by decide) ..)
  rw [State.fenced, State.fenced, Hcx.flag, Hcx.flag, hreg]

variable (h : (s.lane l).acq.caps.any (fun x => x.d == d && x.whole) = true)
include h

theorem State.captureEnd_fenced (hf : s.fenced l = true) : s.captureEnd l d = s.capEnded l d := by
  have hwhole : ¬ (!(s.lane l).acq.caps.any (fun x => x.d == d && x.whole)) = true := by
    rw [h]
    decide
  unfold State.captureEnd
  dsimp only
  rw [if_neg hwhole]
  exact if_pos ((s.capEnded_fenced l d).trans hf)

/-- With the link open what the output buffer holds for the host complex is handed over. -/
theorem State.captureEnd_open (hf : s.fenced l = false) : s.captureEnd l d =
    (((s.capEnded l d).lane l).acq.out.filter (·.host)).foldl (fun (t : State) r =>
        t.stageRecord ⟨r.id, l.num, bit (w32 (leAt r.bytes 4 4)) 7, r.bytes, [], 0⟩ ((s.lane l).refEdge : Nat))
      ((s.capEnded l d).mapLane l (fun L => { L with acq := { L.acq with
        out := L.acq.out.filterMap (fun r => if r.net.isSome then some { r with host := false } else if r.host then none else some r) } })) := by
  have hwhole : ¬ (!(s.lane l).acq.caps.any (fun x => x.d == d && x.whole)) = true := by
    rw [h]
    decide
  unfold State.captureEnd
  dsimp only
  rw [if_neg hwhole]
  exact if_neg (Bool.eq_false_iff.mp ((s.capEnded_fenced l d).trans hf))

end capture

theorem State.mapLane_congr {s : State} {l : LaneId} {g k : Lane → Lane} (h : g (s.lane l) = k (s.lane l)) :
    s.mapLane l g = s.mapLane l k := by
  rw [State.mapLane_eq_put, h, State.mapLane_eq_put]

/-- A record that waits for the host complex only leaves the output buffer empty. -/
theorem State.handsOver_alone {t : State} {l : LaneId} {r : OutRec} (hout : (t.lane l).acq.out = [r]) (hr : r.host = true) (hn : r.net = none) :
    ({ t.lane l with acq := { (t.lane l).acq with out := (t.lane l).acq.out.filterMap (fun r =>
      if r.net.isSome then some { r with host := false } else if r.host then none else some r) } } : Lane) =
    { t.lane l with acq := { (t.lane l).acq with out := [] } } := by
  rw [hout]
  simp [hr, hn]

theorem Lane.recordFrame_idle {L : Lane} (h : L.net.inOff.testBit 3 = true ∨ L.acq.out.find? (fun r => r.net.isSome) = none)
    (l : LaneId) : L.recordFrame l = L := by
  unfold Lane.recordFrame
  rcases h with h | h
  · exact if_pos h
  · rw [h]
    exact ite_self L

/-- The next segment of the record to be sent leaves, and its position moves on. -/
theorem Lane.recordFrame_sends {L : Lane} {r : OutRec} {off : Nat} (hi : L.net.inOff.testBit 3 = false)
    (hr : L.acq.out.find? (fun r => r.net.isSome) = some r) (ho : r.net = some off) (l : LaneId) :
    let seg := (r.bytes.drop off).take 1400
    let next := off + seg.length
    let body := L.segmentBytes l.num r.id off seg
    let M : Lane := { L with acq := { L.acq with out := L.acq.out.filterMap (fun z =>
      if z.id = r.id then
        (let y := { z with net := if r.bytes.length ≤ next then none else some next }
         if y.host = true ∨ y.net.isSome = true then some y else none)
      else some z) } }
    L.recordFrame l = M.sendOwn
      { dst := L.fld .ACQ_NET_DMAC_HI 15 0 * 2 ^ 32 + (L.reg .ACQ_NET_DMAC_LO).toNat, src := L.mac, tag := some ⟨L.fld .ACQ_NET_CFG 11 0, 3⟩,
        etype := if L.flag .INT_CFG 0 then 0x88B6 else 0x88B5, len := 18 + body.length + 4, ecn := none, red := none,
        body := .record body } 3 (L.fld .ACQ_NET_CFG 28 25) := by
  intro seg next body M
  unfold Lane.recordFrame
  rw [if_neg (by simp [hi]), hr]
  dsimp only
  rw [show r.net.getD 0 = off by rw [ho]; rfl]
  simp only [beq_iff_eq, decide_eq_true_eq, Bool.or_eq_true]
  rfl

/-! ### NVMe commands and the catalogue (R337 to R342) -/

section nvme
variable {s : State} {cid : Nat}

theorem State.nvmeCompletion_none (h : s.host.arc.out.get? cid = none) (status : Nat) (data : List Byte) (now : Int) :
    s.nvmeCompletion cid status data now = s := by
  rw [State.nvmeCompletion, h]

theorem State.nvmeOverdue_none (h : s.host.arc.out.get? cid = none) (now : Int) : s.nvmeOverdue cid now = s :=
  if_pos (by rw [h]; rfl)

variable {c : NvmeCmd} {again : Bool} (h : s.host.arc.out.get? cid = some (c, again))
include h

theorem State.nvmeOverdue_some (now : Int) : s.nvmeOverdue cid now = s.arcFail 0 now :=
  if_neg (by rw [h]; exact Bool.false_ne_true)

/-- A completion of a command in the queue: it has its effect, is a FAULT at its second failure, else is tried again. -/
theorem State.nvmeCompletion_some (status : Nat) (data : List Byte) (now : Int) : s.nvmeCompletion cid status data now =
    let t := s.hcx (fun H => (H.setArc { H.arc with out := H.arc.out.del cid }).tookCqe)
    if status = 0 then (t.nvmeOk c data now).arcRun now
    else if again then t.arcFail status now
    else (t.hcx (fun H => H.setArc { H.arc with retry := H.arc.retry ++ [c] })).arcRun now := by
  rw [State.nvmeCompletion, h]

end nvme

/-- A page that may be committed is written with the pages tied to it. -/
theorem State.catalogueCommit_writes {s : State} {n : Nat} (ha : s.host.arcState = aAttached) (hl : s.host.linkUp = true)
    (hd : s.host.arc.dirty.contains n = true) (now : Int) : s.catalogueCommit n now = (s.hcx (fun H =>
      let G := (s.host.arc.commitOf n).foldl Hcx.commitPage H
      G.setArc { G.arc with tied := G.arc.tied.filter (fun g => !g.contains n) })).arcRun now := by
  rw [State.catalogueCommit, ha, hl, hd]
  exact if_neg (by decide)

/-! ### What the archive's own work keeps of a recovery -/

/-- What tells how a recovery ended: the command that waits for it, the archive's state and the commands completed. -/
def Hcx.recovery (H : Hcx) : Option CmdId × Word × List Done := (H.arc.recover, H.reg .HCX_ARC_STAT, H.done)

theorem Hcx.recovery_arcState {H K : Hcx} (h : K.recovery = H.recovery) : K.arcState = H.arcState :=
  Hcx.arcState_of_reg (congrArg (fun x => x.2.1) h)

theorem Hcx.recovery_recover {H K : Hcx} (h : K.recovery = H.recovery) : K.arc.recover = H.arc.recover := congrArg (fun x => x.1) h

theorem Hcx.recovery_done {H K : Hcx} (h : K.recovery = H.recovery) : K.done = H.done := congrArg (fun x => x.2.2) h

theorem Archive.reclaim_recover (a : Archive) (x : ArcEntry) : (a.reclaim x).recover = a.recover := by
  have htie (a : Archive) (pages : List Nat) : (a.tie pages).recover = a.recover := by
    unfold Archive.tie
    dsimp only
    split <;> rfl
  unfold Archive.reclaim
  dsimp only
  rw [htie]
  refine foldl_keep Archive.recover _ ?_ _ a
  exact fun _ _ => rfl

theorem Hcx.setArc_recovery (H : Hcx) {a : Archive} (h : a.recover = H.arc.recover) : (H.setArc a).recovery = H.recovery :=
  congrArg (fun r => (r, H.reg .HCX_ARC_STAT, H.done)) h

theorem Hcx.allocExtent_recovery (H : Hcx) (fn src recId : Nat) : (H.allocExtent fn src recId).1.recovery = H.recovery := by
  unfold Hcx.allocExtent
  dsimp only
  have hroom : (match H.freeExtent fn with
      | some _ => H
      | none => match H.arc.oldest fn with
        | some x => H.setArc (H.arc.reclaim x)
        | none => H : Hcx).recovery = H.recovery := by
    split
    · rfl
    · split
      · exact H.setArc_recovery (Archive.reclaim_recover ..)
      · rfl
  split
  · exact hroom
  · exact (Hcx.setArc_recovery _ rfl).trans hroom

theorem Hcx.setWriting_recovery (H : Hcx) (r : ArcRec) : (H.setWriting r).recovery = H.recovery := H.setArc_recovery rfl

theorem Hcx.queueNvme_recovery (H : Hcx) (l : List NvmeCmd) : (H.queueNvme l).recovery = H.recovery := H.setArc_recovery rfl

theorem Hcx.submitNvme_recovery (H : Hcx) (n : Nat) : (H.submitNvme n).recovery = H.recovery :=
  H.submitNvme_keep Hcx.recovery (fun _ _ _ _ => rfl) (fun _ _ => rfl) (fun _ _ => rfl) n

theorem Hcx.showArc_recovery (H : Hcx) : H.showArc.recovery = H.recovery := by
  have hreg : H.showArc.reg .HCX_ARC_STAT = H.reg .HCX_ARC_STAT :=
    (Hcx.setReg_reg_other _ (by decide) ..).trans (Hcx.setReg_reg_other _ (by decide) ..)
  exact congrArg (fun w => (H.arc.recover, w, H.done)) hreg

theorem State.arcDrop_recovery (s : State) (r : ArcRec) (now : Int) : (s.arcDrop r now).host.recovery = s.host.recovery := by
  have hreg : (s.arcDrop r now).host.reg .HCX_ARC_STAT = s.host.reg .HCX_ARC_STAT :=
    Hcx.setReg_reg_other _ (by decide) ..
  exact congrArg (fun w => (s.host.arc.recover, w, s.host.done)) hreg

theorem State.growRecord_recovery (s : State) (r : ArcRec) (now : Int) : (s.growRecord r now).host.recovery = s.host.recovery := by
  have halloc := s.host.allocExtent_recovery 0 r.src r.id
  unfold State.growRecord
  dsimp only
  split
  · exact Hcx.queueNvme_recovery ..
  · split
    · next H hH =>
      rw [hH] at halloc
      rw [State.arcDrop_recovery, State.hcx_host, Hcx.queueNvme_recovery, Hcx.setWriting_recovery, halloc]
    · next H e hH =>
      rw [hH] at halloc
      rw [State.hcx_host, Hcx.queueNvme_recovery, Hcx.setWriting_recovery, halloc]

theorem State.arcRun_recovery (s : State) (now : Int) : (s.arcRun now).host.recovery = s.host.recovery := by
  have hwrite (s : State) (r : ArcRec) : (s.writeRecord r now).host.recovery = s.host.recovery := by
    rw [State.writeRecord, State.growRecord_recovery]
    exact s.host.setArc_recovery rfl
  unfold State.arcRun
  dsimp only
  rw [State.hcx_host, Hcx.showArc_recovery, Hcx.submitAll, Hcx.submitNvme_recovery]
  split
  · rfl
  · refine (foldl_keep (fun t : State => t.host.recovery) _ hwrite _ _).trans ?_
    exact s.host.setArc_recovery rfl

theorem State.setArcState_done (s : State) (st : Nat) (now : Int) : (s.setArcState st none now).host.done = s.host.done := by
  have hraise (s : State) (data : List Byte) : (s.raiseHost 5 0x01 now data).host.done = s.host.done := rfl
  rw [State.setArcState, hraise]
  exact Hcx.setFld_done ..

theorem State.setArcState_recovery (s : State) {st : Nat} (h : st < 4) (now : Int) :
    (s.setArcState st none now).host.arcState = st ∧ (s.setArcState st none now).host.arc.recover = s.host.arc.recover ∧
    (s.setArcState st none now).host.done = s.host.done :=
  ⟨s.setArcState_arcState h now, congrArg Archive.recover (s.setArcState_arc st now), s.setArcState_done st now⟩

/-! ### Recovery (R342) -/

section recovery
variable {s : State} {id : CmdId} (h : s.host.arc.recover = some id) (ok : Bool) (e : Nat) (x : ArcRead) (now : Int)
include h

/-- A wrong header, a wrong E or a page without a standing copy: the archive is in FAULT. -/
theorem State.recoveryComplete_fault
    (hbad : ok = false ∨ e ≠ s.host.extents ∨ ∃ n, n < ceilDiv s.host.extents 255 ∧ standing x n = none) :
    let t := s.recoveryComplete ok e x now
    t.host.arcState = aFault ∧ t.host.arc.recover = none ∧ t.host.done = s.host.done ++ [⟨id, 0x0103, []⟩] := by
  unfold State.recoveryComplete
  rw [h]
  dsimp only
  rw [if_pos]
  · exact State.setArcState_recovery _ (by decide) now
  · have hextents : (s.hcx (fun H => H.setArc { H.arc with recover := none })).host.extents = s.host.extents := rfl
    rw [hextents]
    simpa [or_assoc] using hbad

/-- Else it is attached, and the command that asked for it completes. -/
theorem State.recoveryComplete_attached (hok : ok = true) (he : e = s.host.extents)
    (hall : ∀ n, n < ceilDiv s.host.extents 255 → standing x n ≠ none) :
    let t := s.recoveryComplete ok e x now
    t.host.arcState = aAttached ∧ t.host.arc.recover = none ∧ t.host.done = s.host.done ++ [⟨id, 0, leBytes 8 e⟩] := by
  unfold State.recoveryComplete
  rw [h]
  dsimp only
  have hfin (H : Hcx) (a : Archive) (bytes : List Byte) : ((H.setArc a).finish id 0 bytes).done = H.done ++ [⟨id, 0, bytes⟩] := rfl
  generalize hS : State.hcx s _ = S
  obtain ⟨hextents, hbefore, hwas⟩ : S.host.extents = s.host.extents ∧ S.host.done = s.host.done ∧ S.host.arc.recover = none := by
    rw [← hS]
    exact ⟨rfl, rfl, rfl⟩
  rw [if_neg (by rw [hextents]; simpa [hok, he] using hall)]
  generalize hT : State.hcx S _ = T
  have hrecover : T.host.arc.recover = none := by
    rw [← hT, ← hwas]
    refine (foldl_keep Archive.recover _ ?_ _ _).trans rfl
    intro a c
    split <;> rfl
  have hdone : T.host.done = s.host.done ++ [⟨id, 0, leBytes 8 e⟩] := by
    rw [← hT, State.hcx_host, hfin, hextents, hbefore, he]
  obtain ⟨hstate, harc, hset⟩ := T.setArcState_recovery (st := aAttached) (by decide) now
  have hrun := (T.setArcState aAttached none now).arcRun_recovery now
  exact ⟨(Hcx.recovery_arcState hrun).trans hstate, (Hcx.recovery_recover hrun).trans (harc.trans hrecover),
    (Hcx.recovery_done hrun).trans (hset.trans hdone)⟩

end recovery

/-! ### Field books (R344 to R347, R395) -/

/-- The oldest occurrence of a lane is booked. -/
theorem Lane.bookNext_books {L : Lane} {o : Occ} {rest : List Occ} (h : L.occ = o :: rest) (base : Nat) :
    (L.bookNext base).occ = rest ∧ (L.bookNext base).book = (L.book.enter 2048 14336 (base + o.src) o).book := by
  unfold Lane.bookNext
  rw [h]
  dsimp only
  split
  · split
    · exact ⟨rfl, rfl⟩
    · exact ⟨rfl, rfl⟩
  · exact ⟨rfl, rfl⟩

/-- The oldest occurrence of the host complex is booked, a safety entry at once in NOR. -/
theorem Hcx.bookNext_books {H : Hcx} {o : Occ} {l : Nat} {rest : List (Occ × Nat)} (h : H.occ = (o, l) :: rest) :
    H.bookNext.occ = rest ∧ H.bookNext.book = (H.book.enter 1024 3072 o.src o).book ∧
    (o.safe = true → H.bookNext.nor.safe = H.bookNext.book.safe) ∧ (o.safe = false → H.bookNext.nor = H.nor) := by
  unfold Hcx.bookNext
  rw [h]
  dsimp only
  refine ⟨rfl, rfl, fun hs => ?_, fun hs => ?_⟩
  · rw [if_pos hs]
  · exact if_neg (Bool.eq_false_iff.mp hs)

theorem Lane.flushEnd_cons {L : Lane} {b : Book} {id : Option CmdId} {rest : List (Book × Option CmdId)} (h : L.flush = (b, id) :: rest) :
    L.flushEnd = id.elim { L with saved := some b, flush := rest } (fun i =>
      ({ L with saved := some b, flush := rest } : Lane).finish i 0) := by
  rw [Lane.flushEnd, h]
  cases id <;> rfl

/-- Settles O52: each row goes to the law of its part; a record that is written while the archive attaches leaves the recovery's
end as it was (`State.arcRun_recovery`). -/
theorem recordsAndBooksAreKept : Obligations.RecordsAndBooksAreKept := by
  intro s l d cid status n e ln data ok again c id b o orest hrest frest x now u L A
  have hlane : u.lane l = L := State.quiet_lane_now s l
  refine ⟨⟨fun hw hf => ?_, fun hw hf hout => ?_, fun hw hf r hout hr hn => ?_⟩, fun hfill => ?_, fun hfill => ?_, fun hno => ?_,
    fun r off hi hr ho => ?_,
    fun hup => ⟨fun hn => ⟨?_, ?_⟩, fun hc => ⟨?_, fun hs => ?_, fun hs ha => ?_, fun hs ha => ?_⟩, fun hno => ?_, fun ha hl hd => ?_,
      fun hn => ?_, fun hi hbad => ?_, fun hi hok he hall => ?_, ?_⟩,
    fun hp => ?_, fun hp ho => ?_, fun hd => ?_, fun hd ho => ?_, fun hf => ?_, fun hf => ?_, fun hf => ?_⟩
  -- CAPTURE_END, BUFFER_FULL and RECORD_TRANSFER_FRAME
  · rw [execCaptureEnd_eq]
    exact congrArg Host.Outcome.next (State.captureEnd_fenced (s := u) (hlane ▸ hw) hf)
  · rw [execCaptureEnd_eq]
    refine congrArg Host.Outcome.next ((State.captureEnd_open (s := u) (hlane ▸ hw) hf).trans ?_)
    rw [show ((u.capEnded l d).lane l).acq.out.filter (·.host) = [] from hout]
    rfl
  · rw [execCaptureEnd_eq]
    refine congrArg Host.Outcome.next ((State.captureEnd_open (s := u) (hlane ▸ hw) hf).trans ?_)
    rw [State.mapLane_congr (k := fun M => { M with acq := { M.acq with out := [] } }) (State.handsOver_alone hout hr hn),
      show ((u.capEnded l d).lane l).acq.out = [r] from hout, List.filter_cons_of_pos hr, List.filter_nil, hlane]
    rfl
  · rw [execBufferFull_eq]
    exact congrArg (fun M => Host.Outcome.next (s.put l M)) (if_pos hfill)
  · rw [execBufferFull_eq]
    exact congrArg (fun M => Host.Outcome.next (s.put l M)) (if_neg (Nat.not_lt.mpr hfill))
  · rw [execRecordTransferFrame_eq]
    exact congrArg (fun M => Host.Outcome.next (s.put l M)) (Lane.recordFrame_idle hno l)
  · rw [execRecordTransferFrame_eq]
    exact congrArg (fun M => Host.Outcome.next (s.put l M)) (Lane.recordFrame_sends hi hr ho l)
  -- NVMe completions
  · exact exec_onHost hup (execNvmeCompletion_eq ..) (State.nvmeCompletion_none (s := u) hn status data now)
  · exact exec_onHost hup (execNvmeOverdue_eq ..) (State.nvmeOverdue_none (s := u) hn now)
  · exact exec_onHost hup (execNvmeOverdue_eq ..) (State.nvmeOverdue_some (s := u) hc now)
  · exact exec_onHost hup (execNvmeCompletion_eq ..) ((State.nvmeCompletion_some (s := u) hc status data now).trans (if_pos hs))
  · exact exec_onHost hup (execNvmeCompletion_eq ..)
      ((State.nvmeCompletion_some (s := u) hc status data now).trans ((if_neg hs).trans (if_pos ha)))
  · exact exec_onHost hup (execNvmeCompletion_eq ..)
      ((State.nvmeCompletion_some (s := u) hc status data now).trans ((if_neg hs).trans (if_neg (Bool.eq_false_iff.mp ha))))
  -- the catalogue and recovery
  · exact exec_onHost hup (execCatalogueCommit_eq ..) (if_pos (by simpa [or_assoc] using hno))
  · exact exec_onHost hup (execCatalogueCommit_eq ..) (State.catalogueCommit_writes ha hl hd now)
  · refine exec_onHost hup (execRecoveryComplete_eq ..) ?_
    rw [State.recoveryComplete, show s.quiet.host.arc.recover = none from hn]
  · exact ⟨_, exec_onHost hup (execRecoveryComplete_eq ..) rfl, State.recoveryComplete_fault (s := u) hi ok e x now hbad⟩
  · exact ⟨_, exec_onHost hup (execRecoveryComplete_eq ..) rfl, State.recoveryComplete_attached (s := u) hi ok e x now hok he hall⟩
  · exact ⟨u.hcx Hcx.norSave, exec_onHost (f := fun s => s.hcx Hcx.norSave) hup (execGeneralClassNorSave_eq s) rfl, rfl, rfl, rfl⟩
  -- the field books
  · rw [execFieldBookOccurrence_eq]
    exact congrArg Host.Outcome.next (if_neg (by rw [State.quiet_lane_now]; exact Nat.not_le.mpr hp))
  · obtain ⟨hocc, hbook⟩ := Lane.bookNext_books ho l.srcBase
    refine ⟨_, (execFieldBookOccurrence_eq ..).trans (congrArg Host.Outcome.next (if_pos (by rw [State.quiet_lane_now]; exact hp))), ?_, ?_⟩
    · rw [State.bookOccurrence, State.mapLane_lane, State.quiet_lane_now, hocc]
    · rw [State.bookOccurrence, State.mapLane_lane, State.quiet_lane_now, hbook]
  · exact (execFieldBookOccurrence_eq ..).trans (congrArg Host.Outcome.next (if_neg (Bool.eq_false_iff.mp hd)))
  · exact ⟨_, (execFieldBookOccurrence_eq ..).trans (congrArg Host.Outcome.next (if_pos hd)), Hcx.bookNext_books (H := u.host) ho⟩
  · rw [execFieldBookFlushEnd_eq, Lane.flushEnd, hf]
  · rw [execFieldBookFlushEnd_eq, Lane.flushEnd_cons hf]
    rfl
  · rw [execFieldBookFlushEnd_eq, Lane.flushEnd_cons hf]
    rfl

end Sys2Proof.Machine
end
